-- ==== Sys2Proof/Word.lean ====
section
/-! DEFINITION. The word types and the plain numbers of R5, R6, R8 and R50 that every other file uses. -/

namespace Sys2Proof

/-- A register, table or data word (R11). -/
abbrev Word := BitVec 32

/-- A byte of a record, frame or memory. -/
abbrev Byte := BitVec 8

/-- An instant or a duration in treads; an instant is T = seconds × 141,120,000 + treads (R50). -/
abbrev Treads := Nat

/-- A table of things numbered by Nat, listed by rising number, with no entry equal to what an unlisted number
holds: the canonical form kept by `sput` and stated by `swf` in Machine/Sparse.lean. -/
abbrev Sparse (α : Type) := List (Nat × α)

/-- Treads in one second (R8). -/
def treadsPerSecond : Nat := 141120000

end Sys2Proof
end

