-- ==== Sys2Proof/Types.lean ====
section
/-! DEFINITION. The plain data shared by the commands, the register map and the state: access codes, register
words, worlds, blocks and the operand records of the commands. -/

namespace Sys2Proof

/-- Access codes of a field (R15, Table 4 of Scope and conventions). -/
inductive Access where
  | ro | rw | wo | w1c | w1s | rwl | rwe | rws
  deriving DecidableEq, Repr

/-- One field of a register or table word: bits hi to lo, its access code, its value after Cold reset (0 where the
entry is CH) and the encodings its Meaning lists, min to max (min above max: the listed range wraps through zero). -/
structure FieldDef where
  hi  : Nat
  lo  : Nat
  acc : Access
  rst : Nat
  min : Nat
  max : Nat
  deriving DecidableEq, Repr

/-- Which door may write a register word (R42, R66, R104 and the device-owner rules of the chapters). -/
inductive Guard where
  | anyDoor
  | devOwner
  | timeOwner
  | perDoor (dim : Nat)
  | object (kind : Nat) (dim : Nat)
  | matchEntry | service | crosspoint | tile | outContext | taskDescriptor | routeOwner
  deriving DecidableEq, Repr

/-- A register word, or an array of them: its R113-coded address, its instance dimensions (count, stride), its
guard and its fields. -/
structure WordDef where
  base   : Nat
  dims   : List (Nat × Nat)
  guard  : Guard
  fields : List FieldDef
  deriving DecidableEq, Repr

/-- A named field at an address: bits hi to lo of the word at addr. -/
structure Fld where
  addr : Nat
  hi   : Nat
  lo   : Nat
  deriving DecidableEq, Repr

/-- The blocks of Table 1 of Address map and register index, in its order. -/
inductive Block where
  | plt | clk | evt | wld | cht | dor | tim | tcm | eth | shp | cip | lnd | gal | dec | hal | enc | stw | drm | dma
  | ucr | nwl
  deriving DecidableEq, Repr

/-- The two windows of a door (R102). -/
inductive Window where
  | bar0 | bar2
  deriving DecidableEq, Repr

/-- The access sizes a door accepts (R12, R499). -/
inductive AccessSize where
  | word | dword
  deriving DecidableEq, Repr

/-- A request entry as the door fetched it (R111, Table 2 of Doors, requests and the coherent view). -/
structure RequestEntry where
  opcode  : BitVec 16
  flags   : BitVec 8
  byte3   : BitVec 8
  tag     : Word
  atEpoch : BitVec 64
  args    : List Byte
  deriving DecidableEq, Repr

/-- RTP header fields of a received packet. -/
structure RtpHead where
  version : Nat
  pt      : Nat
  seq     : Nat
  ts      : Nat
  ssrc    : Nat
  marker  : Bool
  deriving DecidableEq, Repr

/-- One packet of a received RTCP compound packet, as R147 parses it: RFC 8888 feedback gives for each reported sequence
its R bit and its ATO; a sender report gives its SSRC and the middle 32 bits of its NTP time. -/
inductive RtcpItem where
  | ccfb (reports : List (Nat × Bool × Nat))
  | pli | fir
  | sr (ssrc ntpMid : Nat)
  | bye
  | other
  deriving DecidableEq, Repr

/-- An ingress frame as the MAC delivers it (R132): the port, the frame's bytes without FCS, whether its FCS is good, and the
RS-FEC codewords corrected since the last frame. -/
structure RxFrame where
  port      : Fin 4
  raw       : List Byte
  fcsOk     : Bool
  corrected : Nat
  deriving DecidableEq, Repr

/-- The prefix of a packet (Table 8 of Media ports and leg queues). -/
structure PktPrefix where
  slot   : Treads
  len    : Nat
  rtpTs  : Nat
  marker : Bool
  noSlot : Bool
  deriving DecidableEq, Repr

/-- Why a queue word carries a poison tag (SHP_Q_ERR_LAST.CAUSE). -/
inductive PoisonCause where
  | none | parity | dram | written
  deriving DecidableEq, Repr

/-- What a SRAM word of the scheduler's state meets when a pick reads it (R326): a corrected bit, or an uncorrectable word of the
state of a queue or of a service. -/
inductive ShpError where
  | corrected | queue (q : Fin 32768) | service (v : Fin 256)
  deriving DecidableEq, Repr

/-- What a SRAM word of the forwarding unit's state meets when a task reads it (R326): a corrected bit, or an uncorrectable word
of the state of a leg. -/
inductive FwdError where
  | corrected | leg (v : Fin 2048)
  deriving DecidableEq, Repr

/-- One word that a producer presents to a queue (R154): the producer's number, the prefix where it is a packet's first word, its payload
bytes (32 at most in a first word, 64 in any other), whether it is the last, and the poison it carries or meets in the
queue's own storage (R157). -/
structure QWord where
  src    : Nat
  first  : Option PktPrefix
  bytes  : List Byte
  last   : Bool
  poison : PoisonCause
  deriving DecidableEq, Repr

/-- The rings of a door that can be disabled (R131). -/
inductive RingKind where
  | request | completion | journal
  deriving DecidableEq, Repr

/-- Which flights an arrival set belongs to (R144). -/
inductive SetOwner where
  | audio | stream (s : Nat) | input (i : Nat)
  deriving DecidableEq, Repr

/-- What causes a Door reset (R96). -/
inductive DoorResetCause where
  | functionLevel | linkReset | register (writer : Fin 4)
  deriving DecidableEq, Repr

/-- One slot of the charter store as the loader read it (R81, R82): whether the store answered, the bytes of its first
reading, the header's bytes as the configured mode re-read them, and, by directory entry, what the second and the third
reading of a section return. -/
structure SlotRead where
  answers  : Bool
  image    : List Byte
  reread   : List Byte
  again    : List (Nat × List Byte × List Byte)
  deriving DecidableEq, Repr

/-- The population found at the PLL step (R83): what the SPD5 hubs report of every subchannel alike (speed, density and
ranks as DRM_CFG codes them; none where they differ among themselves) and what the sixteen packages answer to ID alike (capacity in
GiB and profile; none where they differ or one does not answer). -/
structure Population where
  dram  : Option (Nat × Nat × Nat)
  media : Option (Nat × Nat)
  deriving DecidableEq, Repr

/-- What the fuse array holds (R88, step 2; R161): whether its parity holds, the key-encryption key where one is provisioned,
the serial, the part's variant and the key hash. -/
structure FuseRead where
  parityOk : Bool
  kek      : Option (BitVec 256)
  serial   : BitVec 64
  variant  : BitVec 4
  keyHash  : List Word
  deriving DecidableEq, Repr

/-- How a bitstream samples chroma. -/
inductive Sampling where
  | mono | s420 | s422 | s444
  deriving DecidableEq, Repr

/-- The coding tools that Table 1 of Video decode names beyond profiles: film grain synthesis, large-scale tile, field or adaptive
frame and field coding, FMO or ASO, and the range, screen-content, scalable and multiview extensions. -/
inductive CodedTool where
  | filmGrain | largeScaleTile | field | sliceOrder | extension
  deriving DecidableEq, Repr

/-- What the headers of an access unit say of its frame: an AV1 KEY_FRAME with its show_frame, an HEVC IRAP picture, an AVC IDR picture,
or any other. -/
inductive FrameKind where
  | av1Key (shown : Bool) | irap | idr | other
  deriving DecidableEq, Repr

/-- What a codec's headers say of an access unit (R234, R242, R243): profile, tier and level (in tenths), sampling and depth, its tools,
the kind of frame, the coded size, the display window, and the references that the bitstream needs. -/
structure UnitHeader where
  profile  : Nat
  highTier : Bool
  level    : Nat
  sampling : Sampling
  depth    : Nat
  tools    : List CodedTool
  frame    : FrameKind
  width    : Nat
  height   : Nat
  winX     : Nat
  winY     : Nat
  winW     : Nat
  winH     : Nat
  refNeed  : Nat
  deriving DecidableEq, Repr

/-- A decoded picture: the RTP timestamp of its access unit, its spatial layer, and its number within that unit. -/
structure PicId where
  ts    : Nat
  layer : Nat
  index : Nat
  deriving DecidableEq, Repr

/-- A rectangle of luma samples. -/
structure Rect where
  x : Nat
  y : Nat
  w : Nat
  h : Nat
  deriving DecidableEq, Repr

/-- One picture of an access unit: its spatial layer, the pictures that it references, and the blocks whose part is absent or cannot be
decoded. -/
structure UnitPicture where
  layer   : Nat
  refs    : List PicId
  missing : List Rect
  deriving DecidableEq, Repr

/-- What a codec's standard makes of the headers of one access unit (R239 to R248): what they say, whether its syntax fails, its pictures,
the pictures that stay for reference or output after it, and those that it outputs, in display order. -/
structure AuResult where
  header    : UnitHeader
  syntaxBad : Bool
  pics      : List UnitPicture
  keep      : List PicId
  output    : List PicId
  deriving DecidableEq, Repr

/-- A motion vector in eighths of a luma sample. -/
structure MotionVec where
  x : Int
  y : Int
  deriving DecidableEq, Repr

/-- What one READ of a package line met on the retry ladder (R382): for each of the five steps, the corrected bits of a
read that decodes with a matching CRC. -/
abbrev Ladder := List (Option Nat)

/-- What read data of a DRAM line met (R365 to R367): a corrected single-bit error, the 64-bit words that are uncorrectable, and the
address tags of the read and of its retry. -/
structure ReadOutcome where
  corrected : Bool
  lost      : List (Fin 8)
  tag       : Nat
  retryTag  : Nat
  deriving DecidableEq, Repr

/-- One lane's live trim in a period (R362): its bits that differed early and late, and whether its strobe stands at an
end of its range after the move. -/
structure LaneTrim where
  early : Nat
  late  : Nat
  atEnd : Bool
  deriving DecidableEq, Repr

/-- How a host read for a DMA burst ended (R377): its bytes, with poison where the completion carried it, or an error. -/
inductive HostRead where
  | notHost
  | data (bytes : List Byte)
  | error
  deriving DecidableEq, Repr

/-- What the SRAM words that the Stairwell reads to stage a release met (R347): nothing, a corrected bit, an uncorrectable word of the
matching entry, or one of the task's descriptor. -/
inductive StairError where
  | none | corrected | entry | descriptor
  deriving DecidableEq, Repr

/-- Engines of each class (Table 2 of Stairwell: tasks and dispatch). -/
def engineCount (c : Nat) : Nat := [512, 4, 8, 4, 8, 1, 4, 32, 8, 8, 1, 8].getD c 0

end Sys2Proof
end

