-- ==== Sys2Proof/Machine/StateBase.lean ====
section
/-! DEFINITION. The records of which the state of the time unit, the doors, the events, the charter, the modem, the
media ports and the leg queues is made. -/

namespace Sys2Proof.Machine

/-! ### Time (Treads, flights and network time) -/

/-- Servo states (Table 1, TIM_STAT.STATE). -/
inductive ServoState where
  | unset | acquire | locked | tracking | holdover | halted
  deriving DecidableEq, Repr

/-- The servo (R41): RATE and the integrator, the lock counters, the step window, the tread of the last accepted
sample, the step generation and the records of the last step. -/
structure Servo where
  state     : ServoState
  stepped   : Bool
  rate      : Int
  acc       : Int
  good      : Nat
  bad       : Nat
  window    : List Int
  last      : Treads
  stepGen   : Nat
  discards  : Nat
  stepAt    : Treads
  stepSize  : Int
  rateLim   : Bool
  refLost   : Bool
  ofsLo     : Word
  ofsMid    : Word
  deriving DecidableEq, Repr

/-- An entry of a capture FIFO (R59): the stamp and the edge, falling or rising. -/
structure CapEntry where
  stamp   : Treads
  falling : Bool
  deriving DecidableEq, Repr

/-- An entry of the transmit stamp queue (R64). -/
structure TxStamp where
  stamp : Treads
  port  : Nat
  ident : Nat
  deriving DecidableEq, Repr

/-- A trigger output configuration as committed (R60, R61). -/
structure TrigCfg where
  mode   : Nat
  rate   : Nat
  width  : Nat
  period : Nat
  phase  : Nat
  oneAt  : Treads
  pol    : Bool
  deriving DecidableEq, Repr

/-- One trigger output: the configuration in force, the one that waits with its instant, the pulse in progress, whether the width is
not below the period (R62), and whether the one-shot's stamp was missed and never fires (R61). -/
structure Trig where
  cfg      : TrigCfg
  next     : Option (Treads × TrigCfg)
  pulseEnd : Option Treads
  bad      : Bool
  missed   : Bool
  deriving DecidableEq, Repr

/-- Whether audio flights run (R47, R53, R56). -/
inductive FlightState where
  | stopped | running
  deriving DecidableEq, Repr

/-- The time unit beyond the count: the servo, where flights stand, the boundary from which none starts after a time
restart, the first flight since the last step and whether it is still to come, the last flight, the captures, stamps and
triggers, and for each unit (by its block's row) the count that its replica took at its last load (R57). -/
structure TimeUnit where
  servo       : Servo
  flights     : FlightState
  haltAt      : Option Treads
  flightFirst : Treads
  firstDue    : Bool
  lastFlight  : Treads
  captures    : Sparse (List CapEntry)
  txq         : List TxStamp
  trigs       : Sparse Trig
  replicas    : Sparse Treads
  deriving DecidableEq, Repr

/-! ### Doors (Doors, requests and the coherent view) -/

/-- Phases of a door (R90). -/
inductive DoorPhase where
  | shut | time | opened
  deriving DecidableEq, Repr

/-- What a request asks for; an entry comes with the data that the door fetched beside it. -/
inductive ReqBody where
  | entry (opcode : Nat) (args data : List Byte)
  | barWrite (pairs : List (Nat × Word))
  | partitionReturn
  deriving DecidableEq, Repr

/-- A request that has arrived (R118): its sequence, its ring (none for a BAR write or a partition return), its tag,
whether it arrived at the other twin, whether it is LATE (R116), the completion ring and its generation in which it
holds a slot (R109, R131), and the failure, with its RESULT, that its entry alone decides (R500). -/
structure Req where
  seq       : Nat
  ring      : Option Nat
  tag       : Word
  otherTwin : Bool
  late      : Bool
  slot      : Option (Nat × Nat)
  body      : ReqBody
  status    : Nat
  result    : Nat
  deriving DecidableEq, Repr

/-- A request, or an atomic group of them (R115), with its arrival stamp and the epoch it names (R116). -/
structure ReqUnit where
  door    : Nat
  stamp   : Treads
  atEpoch : Nat
  members : List Req
  deriving DecidableEq, Repr

/-- A completion that waits to be written (R122); the request carries its status and its result. -/
structure Completion where
  req    : Req
  epoch  : Nat
  deriving DecidableEq, Repr

/-- A journal record (Table 6 of Doors, requests and the coherent view). -/
structure JournalRec where
  stamp  : Treads
  kind   : Nat
  flags  : Nat
  door   : Nat
  code   : Nat
  value  : Nat
  detail : Nat
  deriving DecidableEq, Repr

/-- Dropped journal records that wait for a gap record (R128). -/
structure JournalGap where
  stamp : Treads
  count : Nat
  deriving DecidableEq, Repr

/-- The identifiers in a door's configuration space (R101, Table 1). -/
structure PcieIds where
  vendor    : Nat
  device    : Nat
  revision  : Nat
  classCode : Nat
  subVendor : Nat
  subsystem : Nat
  deriving DecidableEq, Repr

/-- One door. -/
structure Door where
  ids         : PcieIds
  phase       : DoorPhase
  seq         : Nat
  view        : Nat
  retain      : Sparse Word
  snaps       : Sparse (Option Word)
  nowNs       : Nat
  groups      : Sparse (List Req)
  immediate   : List (Req × Treads)
  cqReserved  : Sparse Nat
  cqPhase     : Sparse Bool
  cqGen       : Sparse Nat
  completions : List Completion
  held        : List JournalRec
  jrnPhase    : Bool
  gap         : Option JournalGap
  ownerResult : Word
  lastRead    : Option (Nat × List Word)
  deriving DecidableEq, Repr

/-- The epoch machinery (R17, R116, R120, R121), with the live state words that differ from their published snapshots,
oldest change first, and the commits for which each has differed (R125), and for the last commits the words that each
changed with what they held before. -/
structure EpochUnit where
  newest     : Nat
  newestAt   : Treads
  charterDue : Bool
  cutDone    : Bool
  arrived    : List ReqUnit
  batch      : List ReqUnit
  carried    : List ReqUnit
  deferred   : List (Nat × ReqUnit)
  words      : List (Nat × Word)
  skewCount  : Sparse Nat
  prior      : List (Treads × List (Nat × Word))
  deriving DecidableEq, Repr

/-! ### Events and errors (Worlds, events and errors) -/

/-- An entry of the device error log, or the record of BLK_ERR_FIRST (R470 to R472). -/
structure ErrRec where
  block    : Block
  code     : Nat
  sev      : Nat
  takeover : Bool
  inst     : Nat
  detail   : Nat
  stamp    : Treads
  deriving DecidableEq, Repr

/-- One log entry: the error, whether it has filled its block's first record, and its sequence. -/
structure LogEntry where
  err   : ErrRec
  first : Bool
  seq   : Nat
  deriving DecidableEq, Repr

/-- The first-error record of a block (R470, R472). -/
structure ErrFirst where
  err      : ErrRec
  cls      : Nat
  promoted : Bool
  deriving DecidableEq, Repr

/-- The event fabric and the error capture beyond their registers. -/
structure EventUnit where
  firsts        : Sparse (Option ErrFirst)
  log           : List LogEntry
  nextSeq       : Nat
  accessInFlight : Nat
  accessEvent   : Bool
  heldEvents    : List (Nat × Treads)
  deriving DecidableEq, Repr

/-! ### The charter (Charter, start-up and partitions) -/

/-- An assignment record (Table 15). -/
structure AssignRec where
  kind   : Nat
  door   : Nat
  shared : Bool
  first  : Nat
  last   : Nat
  deriving DecidableEq, Repr

/-- A quota block (Table 14). -/
structure Quota where
  decode    : Nat
  encode    : Nat
  tiles     : Nat
  codecLegs : Nat
  matchEnt  : Nat
  tokens    : Nat
  vectors   : Nat
  deriving DecidableEq, Repr

/-- A placement record (Table 21). -/
structure Placement where
  kind     : Nat
  services : Nat
  core     : Nat
  object   : Nat
  jbCeil   : Nat
  deriving DecidableEq, Repr

/-- A DRAM region (Table 17). -/
structure RegionRec where
  region : Nat
  host   : Bool
  base   : Nat
  size   : Nat
  deriving DecidableEq, Repr

/-- A private DRAM area (Table 17). -/
structure AreaRec where
  kind : Nat
  base : Nat
  size : Nat
  deriving DecidableEq, Repr

/-- An Undercroft partition (Table 18). -/
structure MediaPart where
  base   : Nat
  size   : Nat
  hostWr : Bool
  deriving DecidableEq, Repr

/-- What the loaded charter fixes until restart (R98, Table 9), beyond the registers and tables it loads. -/
structure Charter where
  twinRole   : Nat
  timeOwner  : Nat
  devOwner   : Nat
  doors      : Nat
  pairWait   : Nat
  ptpWait    : Nat
  subsys     : List Nat
  k          : Nat
  arrMargin  : Nat
  quotas     : List Quota
  records    : List AssignRec
  speed      : Nat
  density    : Nat
  ranks      : Nat
  gran       : Nat
  regions    : List RegionRec
  areas      : List AreaRec
  profile    : Nat
  formatFlag : Bool
  pkgGib     : Nat
  parts      : List MediaPart
  shapeTiered : Bool
  services   : List (Nat × Nat)
  image      : List Word
  places     : List Placement
  digest     : List Word
  mediaDigest : List Word
  pairDigest : List Word
  deriving DecidableEq, Repr

/-- Start-up, the stopped state and recovery (R84, R88): whether RESET_N is held, the last step completed and the µs since
the release of RESET_N at which the next one began, whether this start is a Warm reset and whether its charter has changed
(R95). `staged` holds the charter that a slot passed with and the words that its configuration step will load (R83);
`charterWords` the words of the loaded charter. Then the fuse array once it has been read, the key hash fuse, the population, the recovery command that runs (0: none),
the boundary from which a Warm reset runs, whether event 0x046 has been raised, when step 10 completed, and the pulse of
XSPI_RESET_N. -/
structure CharterUnit where
  inReset    : Bool
  step       : Nat
  stepStart  : Nat
  stopped    : Bool
  sealed     : Bool
  warm       : Bool
  fresh      : Bool
  loaded     : Charter
  staged     : Option (Charter × Sparse Word)
  charterWords : Sparse Word
  fuses      : Option FuseRead
  keyHash    : List Word
  population : Population
  recRunning : Nat
  warmAt     : Option Treads
  ptpTold    : Bool
  openedAt   : Treads
  xspiReset  : Bool
  deriving DecidableEq, Repr

/-! ### The modem (Timecode and signalling modem) -/

/-- A result entry of an LTC decoder (TCM_DEC_DATA). -/
structure LtcEntry where
  word0   : Word
  user    : Word
  stamp   : Treads
  speed   : Nat
  quality : Nat
  deriving DecidableEq, Repr

/-- One bit cell that an LTC decoder located in its leg (R68): its start, its length and the instant of its mid-cell
transition where it has one, and whether concealed samples overlap it. -/
structure LtcCell where
  start     : Nat
  len       : Nat
  mid       : Option Nat
  concealed : Bool
  deriving DecidableEq, Repr

/-- Where a decoder stands in its leg's signal: the last sample with its start and level, unless it was concealed, the start of the cell
in progress, its mid-cell transition, and whether a concealed sample overlaps it. -/
structure LtcTrack where
  prev   : Option (Treads × Int × Bool)
  start  : Option Treads
  mid    : Option Treads
  hidden : Bool
  deriving DecidableEq, Repr

/-- One LTC decoder: its result FIFO, the lengths of its last good cells, its last cells (bit, good, start), the good-cell
counts of its last frame slots, the cells since its last sync with whether all are good and its direction, and the
instant from which the wait for a sync counts, and where it stands in its leg's signal. -/
structure LtcDecoder where
  fifo     : List LtcEntry
  cells    : List Nat
  bits     : List (Bool × Bool × Treads)
  slots    : List Nat
  sync     : Option (Nat × Bool × Bool)
  dead     : Treads
  track    : LtcTrack
  deriving DecidableEq, Repr

/-- A tone FIFO entry (TCM_TONE_DATA). -/
structure ToneEntry where
  detector : Nat
  isOn     : Bool
  stamp    : Treads
  deriving DecidableEq, Repr

/-- One 1 ms block of a tone detector (R76): its start, its samples, oldest first, and whether any of them is concealed. -/
structure ToneBlock where
  start     : Nat
  samples   : List Int
  concealed : Bool
  deriving DecidableEq, Repr

/-- One tone detector: what it last reported, the run of blocks that contradicts it and that run's first block, and the block in
progress. -/
structure ToneDetector where
  reported : Bool
  run      : Nat
  runStart : Treads
  block    : ToneBlock
  deriving DecidableEq, Repr

/-- A generator configuration (R73, R74). -/
structure GenCfg where
  en   : Bool
  rate : Nat
  df   : Bool
  leg  : Nat
  ampl : Nat
  ofs  : Int
  deriving DecidableEq, Repr

/-- A generator: the configuration in force, and the committed one with its commit instant, which takes effect at the
first frame that starts at or after it (R74). -/
structure LtcGenerator where
  cfg  : GenCfg
  next : Option (Treads × GenCfg)
  deriving DecidableEq, Repr

structure ModemUnit where
  decoders   : Sparse LtcDecoder
  detectors  : Sparse ToneDetector
  toneFifos  : Sparse (List ToneEntry)
  generators : Sparse LtcGenerator
  deriving DecidableEq, Repr

/-! ### The cipher engine (Cipher engine) -/

/-- A key with its receive state: ROC, the highest authenticated sequence, the highest authenticated index with the
marked indexes below it, and the lowest index that counts as unseen, for SRTP and for SRTCP. -/
structure RxKey where
  profile  : Nat
  ssrc     : Nat
  key      : List Byte
  salt     : List Byte
  roc      : Nat
  sl       : Option Nat
  top      : Option Nat
  seen     : List Nat
  low      : Nat
  rtcpTop  : Option Nat
  rtcpSeen : List Nat
  rtcpLow  : Nat
  deriving DecidableEq, Repr

/-- What a receive context holds (R163): its key, and the keys held as NEXT with their FROM_INDEX and commit instants, newest
first. -/
structure RxHold where
  cur   : Option RxKey
  nexts : List (RxKey × Nat × Treads)
  deriving DecidableEq, Repr

/-- A receive context (R159, R163): its holder, its content, and the contents that serve the flights before the instants
at which commits replaced them, oldest first. -/
structure RxCtx where
  door : Option Nat
  hold : RxHold
  past : List (Treads × RxHold)
  deriving DecidableEq, Repr

/-- A transmit key. -/
structure TxKey where
  profile : Nat
  ssrc    : Nat
  key     : List Byte
  salt    : List Byte
  deriving DecidableEq, Repr

/-- A transmit context (R159, R165, R167, R172): its key, ROC, packets protected, next SRTCP index, whether 0x0E6 has been told, and
whether its indexes are spent until a KEY_LOAD with SET_ROC. -/
structure TxCtx where
  key       : Option TxKey
  roc       : Nat
  packets   : Nat
  srtcp     : Nat
  nearTold  : Bool
  spent     : Bool
  deriving DecidableEq, Repr

/-- The cipher engine beyond its registers: its contexts, the mismatches of each lane that the last second holds, and the lane
whose datapaths will disagree in the next unwrap of this commit (R176). -/
structure CipherUnit where
  rx         : Sparse RxCtx
  tx         : Sparse TxCtx
  mismatches : Sparse (List Treads)
  upset      : Option Nat
  deriving DecidableEq, Repr

/-! ### Media ports, arrival sets and queues (Media ports and leg queues) -/

/-- The merge state of one object (R142). -/
structure Merge where
  fresh : Bool
  top   : Nat
  seen  : List Nat
  old   : Nat
  deriving DecidableEq, Repr

/-- Whether a record may be used (R168 to R171): a record that is not protected is plain. -/
inductive Trust where
  | plain | waiting | pending (index : Nat) | trusted | untrusted
  deriving DecidableEq, Repr

/-- An arrival record (Table 5) with its payload and what its headers gave: the port that took it (4 for one copied from
the twin), its SSRC, its payload type, its cipher context, its channels, its RTP header, and the protected payload as it
arrived, which `payload` replaces by plaintext from the cipher engine's pass on (R170). -/
structure ArrRec where
  stamp   : Treads
  kind    : Nat
  path    : Nat
  seq     : Nat
  object  : Nat
  rtpTs   : Nat
  pcrc    : Word
  payload : List Byte
  marker  : Bool
  port    : Nat
  ssrc    : Nat
  pt      : Nat
  cix     : Nat
  chans   : Nat
  otype   : Nat
  header  : List Byte
  guarded : List Byte
  trust   : Trust
  poison  : Bool
  deriving DecidableEq, Repr

/-- The arrival set of one flight (R144, R145). -/
structure ArrSet where
  owner   : SetOwner
  flight  : Nat
  recs    : List ArrRec
  closed  : Bool
  final   : Bool
  passed  : Bool
  stored  : Bool
  deriving DecidableEq, Repr

/-- A posted host buffer (R149). -/
structure Posted where
  req  : Req
  addr : Nat
  deriving DecidableEq, Repr

/-- What a received source's packets gave the ports (R146): its SSRC, the first and the highest extended sequence, the packets
received, the expected and received counts at the last report, the jitter in 1/16 RTP units and the last transit. -/
structure RxStats where
  ssrc     : Nat
  base     : Nat
  top      : Nat
  received : Nat
  lastExp  : Nat
  lastRecv : Nat
  jitter   : Nat
  transit  : Option Int
  deriving DecidableEq, Repr

/-- Feedback of RFC 8888 that waits for the end of its flight (R147, R304). -/
structure CapReport where
  vleg    : Nat
  reports : List (Nat × Bool × Nat)
  deriving DecidableEq, Repr

/-- RFC 8888 feedback that is due for a stream (R146): the start of the flight whose set it covers, the source's SSRC, and
the sequences and stamps of the set. -/
structure FeedbackDue where
  stream : Nat
  start  : Treads
  ssrc   : Nat
  recs   : List (Nat × Treads)
  deriving DecidableEq, Repr

/-- A multicast membership (R150): port, VLAN, group and source. -/
structure Membership where
  port   : Nat
  vlan   : Nat
  group  : List Byte
  source : List Byte
  deriving DecidableEq, Repr

/-- The ports beyond their registers; `rtcpDue` holds the key-frame requests that are due (stream, FIR, the instant at
which each took effect). -/
structure PortUnit where
  merges      : Sparse Merge
  pathSeen    : Sparse (Option Treads)
  sets        : List ArrSet
  memberships : List Membership
  posted      : Sparse (List Posted)
  stampsDue   : List TxStamp
  stoppedSeen : Bool
  senderSr    : Sparse (Option (Nat × Treads))
  reports     : List CapReport
  keyReqs     : List (Nat × Nat)
  firSeq      : Sparse Nat
  rtcpDue     : List (Nat × Bool × Treads)
  feedback    : List FeedbackDue
  rxStats     : Sparse (Option RxStats)
  deriving DecidableEq, Repr

/-- A packet in a queue: its prefix, the sequence and SRTP index that it took, the key in force when it was accepted,
its payload and its words so far, whether it is complete and poisoned, whether it has contributed to its digest group, when its last word was accepted,
and the task and flight of the release to which its notice gave it. -/
structure QPkt where
  head     : PktPrefix
  seq      : Nat
  index    : Nat
  key      : Option TxKey
  payload  : List Byte
  words    : Nat
  complete : Bool
  poison   : Bool
  counted  : Bool
  at_      : Treads
  holder   : Option (Nat × Nat)
  deriving DecidableEq, Repr

/-- Which packet's words a queue accepts and drops (R156, R167): the rest of a flushed one; a whole one that began while the
queue was disabled or whose held first word a flush released; one that would take an exhausted index. -/
inductive Drop where
  | rest | whole | exhausted
  deriving DecidableEq, Repr

/-- A producer's wait at a queue (R154): since when, and whether STALL_LIMIT and a page exhaustion have been told. -/
structure QWait where
  src   : Nat
  since : Treads
  told  : Bool
  paged : Bool
  deriving DecidableEq, Repr

/-- One leg queue beyond its descriptor: its packets, the words that producers present and that wait for room with their
waits, the producer whose packet is open, the producers whose packets it drops, the packets and octets enqueued, and the
slot and RTP timestamp of the last. -/
structure LegQueue where
  pkts     : List QPkt
  backlog  : List QWord
  waits    : List QWait
  producer : Option Nat
  dropping : List (Nat × Drop)
  enqueued : Nat
  octets   : Nat
  lastSlot : Treads
  lastTs   : Nat
  deriving DecidableEq, Repr

/-- A frame in a port's control or host queue: its bytes without FCS, when it entered, the request that it completes,
the identifier under which its stamp is kept, and the queue whose transmit context protects it. -/
structure RawFrame where
  bytes : List Byte
  at_   : Treads
  req   : Option (Nat × Req)
  stamp : Option Nat
  guard : Option Nat
  deriving DecidableEq, Repr

/-- A limiter (R318, R319): its LIMIT, rates and bursts in force, the counts C and P at the instant they were filled to,
and NEXT in 2⁻¹⁶ treads. -/
structure Limiter where
  limit : Nat
  cir   : Nat
  pir   : Nat
  cbs   : Nat
  pbs   : Nat
  c     : Int
  p     : Int
  at_   : Treads
  next  : Nat
  deriving DecidableEq, Repr

/-- What the scheduler keeps of a queue or service (R314, R315). -/
structure Sched where
  lim     : Limiter
  deficit : Nat
  turn    : Bool
  deriving DecidableEq, Repr

/-- A gate list (R322): its entries are durations with the mask of open classes. -/
structure GateList where
  en      : Bool
  cycle   : Nat
  base    : Treads
  entries : List (Nat × Nat)
  deriving DecidableEq, Repr

/-- The gates of a port: the list in force with its start, and the list that waits with its start (R323). -/
structure Gates where
  cur   : GateList
  start : Treads
  next  : Option (Treads × GateList)
  deriving DecidableEq, Repr

/-- What the forwarding unit keeps of a video leg (R304 to R310): the last packets enqueued (sequence, slot, frame
length), the program flights that had packets since a report was applied, the run of held flights, and the capacities
that took force with their instants, newest first. -/
structure VlegState where
  history  : List (Nat × Treads × Nat)
  quiet    : Nat
  heldRun  : Nat
  caps     : List (Treads × Nat)
  deriving DecidableEq, Repr

/-- The shaper and the forwarding unit beyond their registers; a list holds the queues and services of one port and
class, and of one service; the last sample instant is every queue's; `targets` holds the encode targets of each layer
with the instants at which they took force, newest first. -/
structure ShaperUnit where
  lists     : Sparse (List Nat)
  svcLists  : Sparse (List Nat)
  sched     : Sparse Sched
  portNext  : Sparse Nat
  portBusy  : Sparse Treads
  control   : Sparse (List RawFrame)
  host      : Sparse (List RawFrame)
  gates     : Sparse Gates
  lateEvent : Bool
  sampleAt  : Treads
  vlegs     : Sparse VlegState
  targets   : Sparse (List (Treads × Nat))
  targetRun : Sparse Nat
  deriving DecidableEq, Repr

/-- A frame that a port has put on the wire, with its egress stamp. -/
structure Frame where
  port   : Nat
  stamp  : Treads
  bytes  : List Byte
  deriving DecidableEq, Repr

/-- A command on the charter store's xSPI bus (R81, R84): whether in 8D-8D-8D mode, the clock as XSPI_FREQ codes it, the
dummy cycles, the opcode with its extension, the byte address, the bytes sent and the count of bytes read. -/
structure XspiCmd where
  wide   : Bool
  freq   : Nat
  dummy  : Nat
  opcode : List Byte
  addr   : Option Nat
  data   : List Byte
  read   : Nat
  deriving DecidableEq, Repr

/-- A command frame on an Undercroft channel (R379): its package, its six CA beats, and the 288 bytes that the controller sends with a
PROG. -/
structure UcrFrame where
  pkg   : Nat
  beats : List Byte
  data  : List Byte
  deriving DecidableEq, Repr

/-- What has left the device: writes to host memory, MSI-X messages, frames, the commands sent to the charter store, and the
frames on the Undercroft's channels, oldest first; and which of the host writes, by their place in that list, went as poisoned TLPs (R377). -/
structure Outbox where
  hostWrites : List (Nat × Nat × List Byte)
  msix       : List (Nat × Nat)
  frames     : List Frame
  xspi       : List XspiCmd
  poisonTlps : List Nat
  ucrFrames  : List UcrFrame
  deriving DecidableEq, Repr

/-! ### The Stairwell (Stairwell: tasks and dispatch) -/

/-- State of an operand (R333). -/
inductive Operand where
  | waiting | present (poison pending : Bool) | absent
  deriving DecidableEq, Repr

/-- Where an open release stands (Table 9). -/
inductive Stage where
  | opened | waiting | ready | staged (engine : Nat) | running (engine : Nat)
  deriving DecidableEq, Repr

/-- An open release (R332): its matching entry, task, flight, release instant, deadline and time-out, its operands with
the bytes that PUTOs delivered, its stage, the exit code that its work gave, the links that its PUTOs have delivered,
whether it has missed its deadline, when it started, and the engine to which its task was bound at its release instant. -/
structure Release where
  entry    : Nat
  task     : Nat
  flight   : Nat
  instant  : Treads
  deadline : Treads
  timeout  : Option Treads
  ops      : List Operand
  data     : List (Nat × List Byte)
  stage    : Stage
  exit     : Option Nat
  sent     : List Nat
  missed   : Bool
  started  : Treads
  bound    : Option Nat
  timed    : List Nat
  deriving DecidableEq, Repr

/-- The Stairwell beyond its tables: the open releases, the release instant that each task last reached, the release
instants that overran, the releases that each on-demand task has opened, the engines fenced, the descriptors lost, the
classes with a miss in this audio flight and their runs of such flights, whether the flight's miss event has been
raised, the smallest slack of each class in this flight, the trace's sync and gap, and the trace records of the present tread by
kind with their stamp. -/
structure StairUnit where
  releases  : List Release
  reached   : Sparse (Option Treads)
  overran   : List (Nat × Treads)
  opened    : Sparse Nat
  fenced    : List (Nat × Nat)
  lostTasks : List Nat
  missClass : List Nat
  missRun   : Sparse Nat
  missEvent : Bool
  slack     : Sparse (Option Int)
  traceOn   : Bool
  traceSec  : Option Nat
  traceGap  : Option (Treads × Nat)
  traceHeld : List (Nat × List Byte)
  traceAt   : Treads
  deriving DecidableEq, Repr

/-! ### Landing cores (Landing cores) -/

/-- An entry of a core's PUT buffer (Table 10). -/
inductive Put where
  | gallery (leg sample : Nat) (word : Word) (concealed poison : Bool)
  | queue (q : Nat) (bytes : List Byte) (last poison : Bool)
  | operand (link : Nat) (bytes : List Byte) (poison : Bool)
  | timecode (bytes : List Byte) (poison : Bool)
  deriving DecidableEq, Repr

/-- A PUT with the task, flight and release instant of the task that issued it. -/
structure PutEntry where
  put     : Put
  task    : Nat
  flight  : Nat
  instant : Treads
  deriving DecidableEq, Repr

/-- What a core waits for: nothing, room in its PUT buffer for a held PUT, a queue that holds its PUTQ word, or an empty buffer
(WAITP, EXIT). -/
inductive CoreWait where
  | none | room (p : PutEntry) | held | drain | leave (code : Nat)
  deriving DecidableEq, Repr

/-- One Landing core (Tables 2 to 5): its registers, its status bits, its data memory by words with their poison bits,
the scratch words written in this task, the correlator history, the PUT buffer, the queues with an open packet, whether
the front PUTQ word stands at its queue, what the core waits for and since when, the repeat that waits for its
instruction, the register that the last instruction loaded, its cycles in the task and in the
audio flight, the active foyer, the matching entry of the release whose image stands complete in the other one, the task that it
runs with the flags that it entered with, the flight and release instant of the last one, and the program words whose parity
is bad. -/
structure Core where
  g       : Sparse Word
  acc     : Sparse Int
  a       : Sparse Nat
  ab      : Sparse Nat
  al      : Sparse Nat
  am      : Sparse Nat
  cp      : Nat
  z       : Bool
  n       : Bool
  c       : Bool
  v       : Bool
  sm      : Nat
  rnd     : Bool
  sat     : Bool
  poison  : Bool
  lc      : Nat
  pc      : Nat
  stack   : List Nat
  mem     : Sparse Word
  poisoned : Sparse Bool
  scratch : List Nat
  hist    : Nat
  puts    : List PutEntry
  openQs  : List Nat
  putOut  : Bool
  wait    : CoreWait
  since   : Treads
  rep     : Option Nat
  loaded  : Option Nat
  cycles  : Nat
  busy    : Nat
  foyer   : Nat
  filled  : Option Nat
  task    : Option Nat
  prev    : Bool × Bool
  flight  : Nat
  instant : Treads
  bad     : List Nat
  deriving DecidableEq, Repr

/-- The concealment of a leg (R207): the samples that its concealed signal has run, the samples of the crossfade that remain, the
10 ms before the concealment and the last 10 ms of output, each newest first. -/
structure Conceal where
  run    : Nat
  fade   : Nat
  hist   : List Int
  recent : List Int
  deriving DecidableEq, Repr

/-- What the firmware keeps resident of an audio leg (R205 to R211): whether its buffer has begun, the flight from which a commit
reinitialises its receiving part, the samples in its jitter buffer by media sample number, its depth, the output samples since the
last change of depth, the last latenesses, the last samples that its rate converter took, its concealment, the runs of held flights
of buffer and drift conversion, the flight from which a commit restarts its encoder, and the instant from which that takes samples. -/
structure LegState where
  live      : Bool
  reinit    : Option Nat
  jitter    : Sparse (Option Int)
  depth     : Nat
  sinceChg  : Option Nat
  lambdas   : List Int
  taken     : List Int
  conceal   : Conceal
  heldRun   : Nat
  srcRun    : Nat
  encReinit : Option Nat
  encFrom   : Option Treads
  deriving DecidableEq, Repr

/-- The Landing cores and the resident state of their objects: whether an object's next task enters with PREV_FAULT or
PREV_POISON. -/
structure LandUnit where
  cores    : Sparse Core
  legs     : Sparse LegState
  flags    : Sparse (Bool × Bool)
  deriving DecidableEq, Repr

/-! ### The Gallery (Gallery: buses, recipes and side-tone) -/

/-- An input slot (R213). -/
inductive InSlot where
  | absent | present (x : Int) | concealed (x : Int) | poisoned
  deriving DecidableEq, Repr

/-- A word of the Gallery's SRAM (R232). -/
inductive GalWord where
  | xpoint (e : Nat) | recipe (leg : Nat) | busGain (b : Nat) | busStore (b : Nat) | delayLine (leg : Nat)
  deriving DecidableEq, Repr

/-- A gain as a commit left it (R227): the leg and the bus that it serves, whether it goes on beyond its ramp, from, to,
the media sample from which it holds and the samples of its ramp. -/
structure Ramp where
  leg   : Nat
  bus   : Nat
  on    : Bool
  g0    : Int
  g1    : Int
  start : Nat
  len   : Nat
  deriving DecidableEq, Repr

/-- The limiter of one leg (R219): the last 16 recipe sums and the last 31 gains q, newest first, and G. -/
structure LimState where
  rs : List Int
  qs : List Nat
  gain : Nat
  deriving DecidableEq, Repr

/-- The meter memory of one leg: mean squares of input and output, holds with their ages (R230). -/
structure MeterState where
  inMs    : Nat
  outMs   : Nat
  inHold  : Nat
  inAge   : Nat
  outHold : Nat
  outAge  : Nat
  deriving DecidableEq, Repr

/-- The words of a meter entry that wait for the flight's publication (Table 4 of Gallery). -/
structure MeterRec where
  leg    : Nat
  flight : Nat
  words  : List Nat
  deriving DecidableEq, Repr

/-- What a recipe task leaves for a leg's meter entry of a flight (R230): its input samples and the flags of its input. -/
structure MeterPart where
  leg    : Nat
  flight : Nat
  inputs : List Int
  flags  : Nat
  deriving DecidableEq, Repr

/-- One output sample before its side-tone (R219): the recipe sum that it carries, G, and whether it is poisoned. -/
structure OutSample where
  r    : Int
  gain : Nat
  bad  : Bool
  deriving DecidableEq, Repr

/-- An output packet that is not yet written (R221, R224): its leg, its first output time, its packet time, its channels,
and the format, timestamp offset and queues that the flight of its first output fixed, and whether it carries
side-tone. -/
structure OutPkt where
  leg     : Nat
  t0      : Treads
  ptime   : Treads
  chans   : Nat
  fmt     : Nat
  tsOfs   : Nat
  queues  : List Nat
  side    : Bool
  deriving DecidableEq, Repr

/-- The Gallery beyond its tables: input slots and generator marks by flight and leg, gains by crosspoint, automatic gains
by leg and exclusion, bus values by flight and bus, limiters and meters by leg, what waits for its meter entry, the flights whose
recipes are done and whose meters are not, the legs ever metered, outputs by flight and leg, packets not yet written, the records that side-tone may use, the tasks done per
flight, the words that fail, the events due at the flight's end, the flight last published and the entries that
publications gave, newest flight first. -/
structure GalUnit where
  inputs    : Sparse (List InSlot)
  genSlots  : Sparse (List Bool)
  gains     : Sparse (List Ramp)
  autos     : Sparse (List Ramp)
  buses     : Sparse (List Int × Bool)
  limiters  : Sparse LimState
  meters    : Sparse MeterState
  fresh     : List MeterPart
  meterDue  : List Nat
  metered   : List Nat
  outputs   : Sparse (List OutSample)
  packets   : List OutPkt
  stRecs    : List ArrRec
  busDone   : List (Nat × Nat)
  recDone   : List (Nat × Nat)
  badWords  : List GalWord
  due       : List Nat
  metersAt  : Option Nat
  shown     : List MeterRec
  deriving DecidableEq, Repr

/-! ### Clocks and power (Clocks, power states and reset) -/

/-- Power states and the transitions between them (PWR_STAT.STATE, R447). -/
inductive PowerState where
  | run | enteringHold | hold | leavingHold | enteringKeep | keep | waking
  deriving DecidableEq, Repr

/-- Clocks and power beyond their registers: the power state and the state requested meanwhile, the boundary at which Hold
starts no flight and the instant from which flights resume after it, the passing windows of a failed source, the gate
closes that wait for bus idle, the switch in progress and the next one of each domain, the cycles of CLKOBS since its last
restart, when the wake began, and whether the first flight tells of it. -/
structure ClockUnit where
  power     : PowerState
  request   : Option PowerState
  holdAt    : Option Treads
  resumeAt  : Option Treads
  passing   : Sparse Nat
  held      : List (Nat × Treads)
  switchTo  : Sparse (Option Nat)
  switchNext : Sparse (Option Nat)
  obsPhase  : Nat
  wakeAt    : Treads
  wokenDue  : Bool
  deriving DecidableEq, Repr

/-- The balls outside the ports, doors and links (Electrical, thermal and package; R491). -/
structure PinUnit where
  resetN     : Bool
  pwrMainEn  : Bool
  pwrGood    : Bool
  thermTripN : Bool
  tripped    : Bool
  wakeN      : Bool
  aonValid   : Bool
  deriving DecidableEq, Repr

/-- The instruction register and the boundary cells of the JTAG port (R491). -/
inductive JtagInstr where
  | bypass | idcode | samplePreload | extest | clamp | highz
  deriving DecidableEq, Repr

structure JtagUnit where
  inReset   : Bool
  instr     : JtagInstr
  dr        : Word
  boundary  : Sparse Bool
  driving   : Bool
  hiZ       : Bool
  deriving DecidableEq, Repr

end Sys2Proof.Machine
end

