-- ==== Sys2Proof/Machine/StateStore.lean ====
section
/-! DEFINITION. The records of which the state of the DRAM controller, the DMA engine and the Undercroft is made. -/

namespace Sys2Proof.Machine

/-! ### DRAM controller (DRAM controller and DMA) -/

/-- A request of a port to one 64-byte line (R352 to R357): its number in issue order, port and class of access, the
line's device address, the bytes of a write with their place in the line, the requester's poison tag, its arrival in
controller cycles, and whether its reaching urgency 3 has been counted. -/
structure DramReq where
  id      : Nat
  port    : Nat
  write   : Bool
  line    : Nat
  ofs     : Nat
  bytes   : List Byte
  poison  : Bool
  arrival : Nat
  urgent  : Bool
  deriving DecidableEq, Repr

/-- A request that has been served and waits for its port's earlier ones, or whose answer its requester has not taken:
the data and the poison tag or error response that it returned (R357, R366). -/
structure DramAck where
  req  : DramReq
  data : List Byte
  bad  : Bool
  deriving DecidableEq, Repr

/-- One lane's live trim: its strobe position in steps from the trained setting, and whether it is at an end of its
range (R362). -/
structure Lane where
  pos  : Int
  edge : Bool
  deriving DecidableEq, Repr

/-- One subchannel beyond its registers (R354 to R369): its queue in arrival order, whether its writes drain, the row
that each bank holds open with the cycle of its last use, the reads whose column command has issued (those of partial writes among
them), the refreshes postponed and pulled in per rank with the bank that comes next and when the next falls due, whether
a retraining is due, its corrected errors in this trim period, its lanes, the interval oscillator count and the write timing of each
device, when the trim period began, where the patrol scrub stands and when its next line is due, whether it is DEGRADED, and whether
this pass of the scrub is the quick one after a reference's return (R440). -/
structure SubState where
  queue     : List DramReq
  draining  : Bool
  rows      : Sparse (Option (Nat × Nat))
  reading   : List DramReq
  postponed : Sparse Nat
  pulled    : Sparse Nat
  nextBank  : Sparse Nat
  refDue    : Sparse Nat
  retrain   : Bool
  corrected : Nat
  lanes     : Sparse Lane
  writeTrim : Sparse (Option (Nat × Int))
  trimAt    : Treads
  scrubLine : Nat
  scrubDue  : Treads
  degraded  : Bool
  quick     : Bool
  deriving DecidableEq, Repr

/-- The controller: the memory by bytes, the poisoned lines, the next request number, the requests held at their ports in the order in
which they were issued (R355, R360), the subchannels, the answers that wait, the fences that wait with the number they follow, the fences that each port has completed, and the release instant that this command's
writes carry (R429). -/
structure DramUnit where
  mem       : Sparse Byte
  poisoned  : Sparse Bool
  nextId    : Nat
  waiting   : List DramReq
  subs      : Sparse SubState
  acks      : List DramAck
  fences    : List (Nat × Nat)
  fenced    : Sparse Nat
  accepting : Bool
  urgentTold : Bool
  issuer    : Option Treads
  deriving DecidableEq, Repr

/-! ### DMA (DRAM controller and DMA) -/

/-- A DMA descriptor by its fields (Table 6), and whether a field that must be zero is not. -/
structure DmaDesc where
  srcKind   : Nat
  dstKind   : Nat
  csum      : Nat
  cont      : Bool
  store     : Bool
  irqHalf   : Bool
  irqFull   : Bool
  tag       : Nat
  srcAddr   : Nat
  dstAddr   : Nat
  srcLine   : Nat
  srcLines  : Nat
  srcStride : Int
  dstLine   : Nat
  dstLines  : Nat
  dstStride : Int
  badZero   : Bool
  deriving DecidableEq, Repr

/-- The burst in progress: its first stream byte and length, the DRAM reads or writes that it waits for, its data once
read, and whether some of it carries poison. -/
structure DmaBurst where
  from_  : Nat
  len    : Nat
  ids    : List Nat
  data   : Option (List Byte)
  poison : Bool
  deriving DecidableEq, Repr

/-- One DMA channel beyond its registers: the descriptors fetched, the one in progress, the burst, the checksum
registers before any final XOR, the bytes of the previous descriptor modulo 4, the poison seen, the completion slots
reserved, the PHASE of the next completion, a withdrawal asked for, and whether it stays without fetching until EN is
written 1. -/
structure DmaChan where
  fetched  : List DmaDesc
  cur      : Option DmaDesc
  burst    : Option DmaBurst
  sumA     : Nat
  sumB     : Nat
  tailBytes : List Byte
  prevLen  : Nat
  poison   : Bool
  reserved : Nat
  phase    : Bool
  withdraw : Bool
  idle     : Bool
  deriving DecidableEq, Repr

/-! ### The Undercroft (Undercroft: the archive) -/

/-- A physical line: its 256 data bytes and its metadata (Table 5). -/
structure UcrLine where
  data   : List Byte
  tag    : Nat
  isMap  : Bool
  poison : Bool
  ptime  : Nat
  deriving DecidableEq, Repr

/-- A program that the controller has issued to a package and that waits for its frame or its verification: the
physical line, and whether it has been retried (R380, R387). -/
structure UcrProg where
  line    : Nat
  retried : Bool
  deriving DecidableEq, Repr

/-- A package: its lines, region table, start-gap state and gap lines, HOT entries, SPARE entries (none: DEAD), hot
table, spare pool, programs since each region's last gap move, the programs and reads in progress, its calibration, its
mode registers, the Keep pending list, the last checkpoint of its wear counts, its superblock, whether it is faulted, and when the scrub's
next line is due and its calibration period and its checkpoint's second began. -/
structure UcrPkg where
  lines    : Sparse (Option UcrLine)
  region   : Sparse Nat
  start    : Sparse Nat
  gap      : Sparse Nat
  gapLine  : Sparse Nat
  hot      : Sparse (Option Nat)
  spare    : Sparse (Option (Option Nat))
  hotTable : Sparse (Nat × Nat)
  nextFree : Nat
  freed    : List Nat
  sinceGap : Sparse Nat
  queue    : List UcrProg
  busy     : Sparse (Option UcrProg)
  ref      : Int
  eMinus   : Nat
  eZero    : Nat
  ePlus    : Nat
  calReads : Nat
  heldRun  : Nat
  modes    : Sparse Byte
  pending  : List Nat
  wear     : Sparse Nat
  saved    : Sparse Nat
  retired  : List (Nat × Nat)
  formatId : Option Nat
  formatAt : Treads
  digest   : List Word
  scrubAt  : Nat
  wearTold : Bool
  faulted  : Bool
  scrubDue : Treads
  calAt    : Treads
  savedAt  : Treads
  deriving DecidableEq, Repr

/-- A record in the staging area (R397, R399): the start of its set, its kind and object, and its archive record's
bytes. -/
structure StagedRec where
  setT   : Treads
  kind   : Nat
  object : Nat
  bytes  : List Byte
  deriving DecidableEq, Repr

/-- A program that staging holds for a faulted package (R406): package, package-logical line, data and poison. -/
structure HeldProg where
  pkg    : Nat
  line   : Nat
  data   : List Byte
  poison : Bool
  deriving DecidableEq, Repr

/-- A replay leg (R403 to R405): its door, source and destination objects, its bounds and START. -/
structure Replay where
  door    : Nat
  kind    : Nat
  source  : Nat
  dest    : Nat
  tStart  : Treads
  tEnd    : Treads
  start   : Treads
  deriving DecidableEq, Repr

/-- The Undercroft beyond its registers: its packages, the newest chunk, the records staged, the programs held, the
replays, what the last command to a package returned, and the frames of each channel that its alert has had replayed. -/
structure UcrUnit where
  pkgs     : Sparse UcrPkg
  head     : Nat
  staging  : List StagedRec
  held     : List HeldProg
  replays  : Sparse (Option Replay)
  answer   : Option (Nat × List Byte)
  alerted  : Sparse Nat
  deriving DecidableEq, Repr

end Sys2Proof.Machine
end

