-- ==== Sys2Proof/Machine/StateVideo.lean ====
section
/-! DEFINITION. The records of which the state of video decode, the Hall and video encode is made. -/

namespace Sys2Proof.Machine

/-! ### Publications (R241, R254, R296) -/

/-- A picture record (Table 5 of Video decode). -/
structure PicRec where
  picture : Nat
  flight  : Treads
  rtpTs   : Nat
  slot    : Nat
  flags   : Nat
  depth   : Nat
  winX    : Nat
  winY    : Nat
  w       : Nat
  h       : Nat
  pitch   : Nat
  luma    : Nat
  chroma  : Nat
  deriving DecidableEq, Repr

/-- A publication with the deadline of the release that made it (R255). -/
structure Publication where
  record   : PicRec
  deadline : Treads
  deriving DecidableEq, Repr

/-! ### Video decode -/

/-- A waiting access unit (R239): its unwrapped RTP timestamp, its records in order of RTP sequence, and the flight whose
set carried its newest record. -/
structure AccessUnit where
  ts     : Int
  recs   : List ArrRec
  newest : Nat
  deriving DecidableEq, Repr

/-- A decoded picture that a stream holds in a slot of its pool: for reference, for output, or as the latest of its layer. -/
structure HeldPic where
  id    : PicId
  slot  : Nat
  flags : Nat
  winX  : Nat
  winY  : Nat
  winW  : Nat
  winH  : Nat
  deriving DecidableEq, Repr

/-- What decode keeps of a stream (R239 to R250): the instants from which it was started as enabled and the one that its tasks have taken,
the waiting access units, the unwrapped timestamp of the last one decoded and the sequence after its marker, the pictures held and the
latest decoded of each spatial layer, the flight that opened the episode with whether a later flight has decoded a key frame, whether
the stream is unsupported, the key-frame requests (FIR, the instant at which each takes effect), the address and bytes of the slot
published and of those replaced, with the first flight start from which each may be written, its newest publications, and the
publications since enable. -/
structure DecStream where
  restarts  : List Treads
  begun     : Treads
  waiting   : List AccessUnit
  lastTs    : Option Int
  nextSeq   : Option Nat
  held      : List HeldPic
  latest    : Sparse (Option HeldPic)
  episode   : Option (Nat × Bool)
  unsupported : Bool
  requests  : List (Bool × Treads)
  shown     : Option (Nat × Nat)
  busy      : List (Nat × Nat × Treads)
  pubs      : List Publication
  count     : Nat
  deriving DecidableEq, Repr

/-- Decode beyond its tables: its streams, and the busy treads of each engine in this second. -/
structure DecUnit where
  streams : Sparse DecStream
  busy    : Sparse Nat
  deriving DecidableEq, Repr

/-! ### The Hall -/

/-- A frame that an input assembles (R268): its RTP timestamp, its slot, the pgroups received as row, first pgroup and
count, the flight of its newest packet, and whether a stored packet carried poison. -/
structure InFrame where
  ts     : Nat
  slot   : Nat
  segs   : List (Nat × Nat × Nat)
  newest : Nat
  poison : Bool
  deriving DecidableEq, Repr

/-- What the Hall keeps of a source that it makes, a composition or an input: the instants from which it was started as enabled and the
one that its tasks have taken, the frames in progress, the timestamp published last, the address and bytes of the slot published and of
those replaced, with the first flight start from which each may be written, its newest publications, and the publications since
enable. -/
structure HallSource where
  restarts : List Treads
  begun    : Treads
  frames   : List InFrame
  lastTs   : Option Nat
  shown    : Option (Nat × Nat)
  busy     : List (Nat × Nat × Treads)
  pubs     : List Publication
  count    : Nat
  deriving DecidableEq, Repr

/-- The Hall beyond its tables: compositions, inputs, the extended sequence that it keeps per queue (R271), and for each
tile what it drew last: kind, source and the flight that published it. -/
structure HallUnit where
  comps    : Sparse HallSource
  inputs   : Sparse HallSource
  extSeq   : Sparse (Option Nat)
  lastDrawn : Sparse (Option (Nat × Nat × Nat))
  deriving DecidableEq, Repr

/-! ### Video encode -/

/-- A packet of an output slot (R294, Table 3 of Video encode and layers). -/
structure OutPacket where
  sid      : Nat
  tid      : Nat
  key      : Bool
  layerEnd : Bool
  frameEnd : Bool
  rtpTs    : Nat
  payload  : List Byte
  deriving DecidableEq, Repr

/-- A reconstruction that a layer keeps: its TID, its slot, the start of its flight, and for each block of the motion search the vectors
to the temporal references, none where the block is intra. -/
structure EncRecon where
  tid   : Nat
  slot  : Nat
  start : Treads
  vecs  : List (List MotionVec)
  deriving DecidableEq, Repr

/-- What encode keeps of a layer: its reconstructions, newest first, how many of them stand since its last key frame, and the rate
state F and CARRY (R278, R283, R289). -/
structure EncLayer where
  recons   : List EncRecon
  sinceKey : Nat
  fullness : Nat
  carry    : Nat
  deriving DecidableEq, Repr

/-- A flight in progress of a program: its start and deadline, the frame count, the slot, its packets so far, the octets
of each layer that has ended, the flags, the TID, the layers coded as key frames, the RTP timestamp, the statistics
slot, what its source gave (0 a picture, 1 none, 2 poison), and whether it restarts the program. -/
structure EncFlight where
  start    : Treads
  deadline : Treads
  frame    : Nat
  slot     : Nat
  pkts     : List OutPacket
  octets   : List (Nat × Nat)
  flags    : Nat
  tid      : Nat
  keys     : List Nat
  rtpTs    : Nat
  stats    : Option Nat
  source   : Nat
  restart  : Bool
  deriving DecidableEq, Repr

/-- A published frame of a program, as forwarding finds it: its flight's start, its output slot, the flags of its record,
its TID, and whether it restarts the program (R296, R310). -/
structure EncPub where
  start   : Treads
  slot    : Nat
  flags   : Nat
  tid     : Nat
  restart : Bool
  deriving DecidableEq, Repr

/-- What encode keeps of a program: its layers, the frames coded, the frames since its last key frame, the waiting
key-frame requests (layer, the instant from which they act), the instants of commits from which it restarts and that no flight has taken, whether a
time-out makes the next frame a key frame, the flights in progress, the address and bytes of the output slot published and of those
replaced, with the first flight start from which each may be written, the next statistics slot, its newest publications, and the
flights abandoned. -/
structure EncProgram where
  layers    : Sparse EncLayer
  frame     : Nat
  sinceKey  : Option Nat
  keyReqs   : List (Nat × Treads)
  restarts  : List Treads
  forceKey  : Bool
  current   : List EncFlight
  shown     : Option (Nat × Nat)
  busy      : List (Nat × Nat × Treads)
  statsNext : Nat
  pubs      : List EncPub
  dead      : List Treads
  deriving DecidableEq, Repr

/-- Encode beyond its tables: its programs, and the busy treads of each engine in this second. -/
structure EncUnit where
  programs : Sparse EncProgram
  busy     : Sparse Nat
  deriving DecidableEq, Repr

end Sys2Proof.Machine
end

