-- ==== Sys2Proof/Machine/StateTwin.lean ====
section
/-! DEFINITION. The records of which the state of the pair and of the Newel link is made (Twin pairing and the Newel link). -/

namespace Sys2Proof.Machine

/-- The identity of a record in a SUMMARY or SEAL (Table 2 of Twin pairing and the Newel link, R414). -/
structure RecIdent where
  kind   : Nat
  object : Nat
  seq    : Nat
  rtpTs  : Nat
  pcrc   : Word
  deriving DecidableEq, Repr

/-- An operand that a release delivers to one at or after J: task, operand, release instant of the source, NEXT, value and bytes. -/
structure LinkGiven where
  task  : Nat
  op    : Nat
  src   : Treads
  next  : Bool
  value : Operand
  bytes : List Byte
  deriving DecidableEq, Repr

/-- What an IMAGE message carries (R428, R429): a 64 KiB block of DRAM with those of its lines that are poisoned, configuration and
table words, the on-chip state of one unit, the releases and operands from before J, the requests that wait for a later epoch, or
the end of the image. -/
inductive ImagePart where
  | block (n : Nat) (bytes : List Byte) (poisoned : List Nat)
  | words (epoch : Nat) (ws : Sparse Word)
  | landing (x : LandUnit)
  | gallery (x : GalUnit)
  | decode (x : DecUnit)
  | hall (x : HallUnit)
  | encode (x : EncUnit)
  | cipher (x : CipherUnit)
  | queues (x : Sparse LegQueue)
  | shaper (x : ShaperUnit)
  | modem (x : ModemUnit)
  | ports (x : PortUnit)
  | releases (x : StairUnit) (given : List LinkGiven)
  | waiting (carried : List ReqUnit) (deferred : List (Nat × ReqUnit))
  | complete
  deriving DecidableEq, Repr

/-- The messages of the Newel link, by the fields of their bodies (Table 2). A PROBE carries t1 alone, or t1 with t2 and
t3. A JOIN's phase is 1 where it names J and 2 where it names E; 0 asks for an image and 3 ends one. -/
inductive NewelMsg where
  | hello (role : Nat) (digest : List Word) (letter digit : Nat) (step8 : Treads)
  | start (n0 : Nat)
  | probe (seq : Nat) (t1 : Treads) (t2t3 : Option (Treads × Treads))
  | summary (cutoff : Treads) (ids : List RecIdent)
  | copy (cutoff : Treads) (rec : ArrRec)
  | seal (cutoff : Treads) (copies : Nat) (missing : List RecIdent)
  | request (unit : ReqUnit)
  | reqSeal (cut : Treads) (count : Nat)
  | completion (door : Nat) (c : Completion)
  | digest (group epoch packets value : Nat)
  | fault (group : Nat) (counted takeover : Bool)
  | alert (event : Nat) (stamp : Treads)
  | withdraw (cause : Nat) (stamp : Treads)
  | image (part : ImagePart)
  | join (phase : Nat) (value : Nat)
  deriving DecidableEq, Repr

/-- Pair states (Table 3, NWL_STAT.STATE). -/
inductive PairState where
  | solo | pairing | lockstep | alone | withdrawn | copying | shadowing
  deriving DecidableEq, Repr

/-- The digest of a closed group: group, epoch at its start, packets, value (R420). -/
structure GroupSum where
  group   : Nat
  epoch   : Nat
  packets : Nat
  value   : Nat
  deriving DecidableEq, Repr

/-- The on-chip state that the image at J carries (R429): words, units, the releases that deliveries have opened at or after J, and the
requests that wait for a later epoch. -/
structure ImageUnits where
  regs    : Sparse Word
  stw     : StairUnit
  carried : List ReqUnit
  deferred : List (Nat × ReqUnit)
  lnd    : LandUnit
  gal    : GalUnit
  dec    : DecUnit
  hal    : HallUnit
  enc    : EncUnit
  cip    : CipherUnit
  queues : Sparse LegQueue
  shp    : ShaperUnit
  modem  : ModemUnit
  ports  : PortUnit
  deriving DecidableEq, Repr

/-- What the source or the joiner of a resynchronisation keeps (R427 to R431): the pass, the join flight J, the group E, the
blocks dirty, those saved from before J with their poisoned lines, the units at J as the releases before J leave them, the operands
that these have delivered since to releases at or after J, whether staging has overflowed, the consecutive groups that matched, the joiner's consecutive flights without a
miss, and the final pass sent or the image complete. -/
structure Resync where
  active   : Bool
  source   : Bool
  pass     : Nat
  joinFlight : Option Nat
  emitGroup : Option Nat
  dirty    : List Nat
  saved    : Sparse (List Byte × List Nat)
  kept     : Option ImageUnits
  given    : List LinkGiven
  overflow : Bool
  matched  : Nat
  clean    : Nat
  done     : Bool
  bytes    : Nat
  deriving DecidableEq, Repr

/-- The pair and its link beyond their registers. Link: the messages put into flits, those that wait while 256 flits are
unacknowledged, the SEQs sent, received and unacknowledged, a NAK due, the replays requested in this audio flight. Pairing:
HELLO sent and accepted, the partner's HELLO that came before step 9 (role, digest, stepping), probes, the run of offsets beyond SKEW_MAX, N0. Agreement: the start of the first flight whose sets
are completed by a union, the cut-offs whose SUMMARY has left, the partner's identities, the SEALs of both sides, and whether
this flight's removal event has been raised. Requests: those forwarded since the last cut, the partner's that wait for its
REQ_SEAL with their number, the partner's REQ_SEALs, and the own requests that a partner commits. Digest: open groups, the
epochs of their starts, closed groups that wait for the partner's, and the partner's. Decision: own and partner's FAULT, a
takeover recommended by either, and the errors logged. Then what is emitted, and the instants of the withdrawal, of a link
failure and of the last edge of NWL_ALIVE_IN. -/
structure TwinUnit where
  linkUp    : Bool
  state     : PairState
  sent      : List NewelMsg
  waiting   : List NewelMsg
  txSeq     : Nat
  rxSeq     : Nat
  unacked   : List Nat
  nakDue    : Bool
  replays   : Nat
  helloSent : Bool
  helloOk   : Bool
  helloKept : Option (Nat × List Word × Nat × Nat)
  probeSeq  : Nat
  probesOk  : Nat
  skewRun   : Nat
  startFlight : Option Nat
  unionFrom : Option Treads
  summed    : List Treads
  partnerIds : List (Treads × List RecIdent)
  sealed    : List (Treads × List RecIdent)
  partnerSeals : List (Treads × List RecIdent)
  removedTold : Bool
  forwarded : Nat
  inbox     : List ReqUnit
  received  : Nat
  partnerCuts : List (Treads × Nat)
  away      : List (Nat × Req)
  groups    : Sparse (Nat × Nat)
  groupEpochs : Sparse Nat
  closed    : List GroupSum
  partnerDigests : List GroupSum
  ownFault  : Option (Nat × Bool)
  partnerFault : Option (Nat × Bool)
  partnerTakeover : Bool
  recommend : Bool
  logged    : List (Treads × Nat)
  emitting  : Bool
  emitFrom  : Treads
  withdrawnAt : Option Treads
  failedAt  : Option Treads
  aliveSeen : Option Treads
  aliveOut  : Bool
  resync    : Resync
  deriving DecidableEq, Repr

/-- What a partner owes by a limit: the SEAL of a cut-off, the REQ_SEAL of a cut, the DIGEST and the FAULT of a group. -/
inductive Owed where
  | seal (cutoff : Treads) | reqSeal (cut : Treads) | digest (group : Nat) | fault (group : Nat)
  deriving DecidableEq, Repr

end Sys2Proof.Machine
end

