-- ==== Sys2Proof/Syntax.lean ====
section
/-! DEFINITION. The commands: one constructor per row of the operations table, in its order. A command carries the instant `t`
at which it happens, in treads (R50); those of the JTAG port have no place on the count. A command of a bus carries the door, and
what comes from outside the device or from a standard that the manual names is an operand. -/

namespace Sys2Proof

open Sys2Proof.Machine

/-- A command. -/
inductive Instr where
  -- registers, time and the modem
  | registerWrite (t : Nat) (door : Fin 4) (win : Window) (offset : BitVec 30) (size : AccessSize) (value : BitVec 64)
  | malformedAccess (t : Nat) (door : Fin 4) (read : Option (Window × BitVec 30))
  | snapshotRead (t : Nat) (door : Fin 4) (offset : BitVec 26) (size : AccessSize)
  | rweWrite (t : Nat) (door : Fin 4) (win : Window) (offset : BitVec 30) (size : AccessSize) (value : BitVec 64)
  | viewRead (t : Nat) (door : Fin 4)
  | commitCut (t : Nat)
  | audioFlightStart (t : Nat) (unwrapFault : Option (Fin 8))
  | arrivalSetClose (t : Nat) (owner : SetOwner) (flight : Nat)
  | secondBoundary (t : Nat) (disagree : List Block)
  | offsetSample (t : Nat) (door : Fin 4) (ofsHi : Word) (us : Nat)
  | holdover (t : Nat)
  | timeRestart (t : Nat) (door : Fin 4)
  | flightsHalt (t : Nat)
  | flightsResume (t : Nat)
  | captureEdge (t : Nat) (ch : Fin 9) (stamp : Nat) (falling : Bool)
  | capturePop (t : Nat) (door : Fin 4) (ch : Fin 9)
  | txStampAppend (t : Nat)
  | txStampPop (t : Nat) (door : Fin 4)
  | triggerConfigApply (t : Nat) (n : Fin 8)
  | triggerEdge (t : Nat) (n : Fin 8)
  | triggerPulseEnd (t : Nat) (n : Fin 8)
  | ltcDecoderTask (t : Nat) (n : Fin 64)
  | ltcGeneratorTask (t : Nat) (n : Fin 64)
  | toneDetectorTask (t : Nat) (n : Fin 1024)
  | decoderPop (t : Nat) (door : Fin 4) (n : Fin 64)
  | tonePop (t : Nat) (door : Fin 4)
  -- start-up, resets and recovery
  | coldReset (t : Nat) (hot : Bool)
  | islandReady (t : Nat) (us : Nat)
  | fuseRead (t : Nat) (us : Nat) (fuse : FuseRead)
  | pllLock (t : Nat) (us : Nat) (found : Population)
  | charterLoad (t : Nat) (us : Nat) (slotA slotB : SlotRead)
  | configurationSeal (t : Nat) (us : Nat)
  | dramTraining (t : Nat) (us : Nat) (failed : List (Fin 16))
  | undercroftMount (t : Nat) (us : Nat) (trained : List Bool)
  | ptpWaitExpiry (t : Nat) (us : Nat)
  | pairWaitExpiry (t : Nat) (us : Nat)
  | doorsOpen (t : Nat) (us : Nat)
  | firstFlight (t : Nat) (us : Nat)
  | warmReset (t : Nat) (door : Fin 4)
  | doorReset (t : Nat) (door : Fin 4) (cause : DoorResetCause)
  | ownerQuery (t : Nat) (door : Fin 4) (value : Word)
  | recoveryRead (t : Nat) (door : Fin 4)
  | recoveryProgram (t : Nat) (door : Fin 4)
  | recoveryErase (t : Nat) (door : Fin 4)
  | keyHashProgram (t : Nat) (door : Fin 4)
  | recoveryDone (t : Nat) (failed : Bool) (data : List Byte)
  -- rings and requests
  | ringDoorbell (t : Nat) (door : Fin 4) (ring : Fin 8) (value : Word)
  | requestArrival (t : Nat) (door : Fin 4) (ring : Fin 8) (entry : RequestEntry) (data : List Byte)
  | ringDisable (t : Nat) (door : Fin 4) (kind : RingKind) (ring : Fin 8)
  | completionWrite (t : Nat) (door : Fin 4)
  | journalWrite (t : Nat) (door : Fin 4)
  | readView (t : Nat) (door : Fin 4)
  | txFrame (t : Nat) (door : Fin 4)
  | rxPost (t : Nat) (door : Fin 4)
  | exportCmd (t : Nat) (door : Fin 4) (ladders : List Ladder)
  -- ports, queues, the shaper and the cipher engine
  | frameReceive (t : Nat) (frame : RxFrame)
  | pathTimeout (t : Nat) (kind : Fin 8) (otype : Fin 4) (object : BitVec 16) (path : Fin 2)
  | portLinkChange (t : Nat) (port : Fin 4) (up hiSer : Bool)
  | queueWordAccept (t : Nat) (q : Fin 32768) (w : QWord)
  | stallLimitExpiry (t : Nat) (q : Fin 32768)
  | schedulerPick (t : Nat) (port : Fin 4) (delay : Nat) (fault : Option (Fin 8)) (word : PoisonCause) (errors : List ShpError)
  | emissionWindowExpiry (t : Nat) (q : Fin 32768)
  | gateEntryChange (t : Nat) (port : Fin 4)
  | gateListStart (t : Nat) (port : Fin 4)
  | cipherReceivePass (t : Nat) (owner : SetOwner) (flight : Nat)
  | tagCheck (t : Nat) (owner : SetOwner) (flight n : Nat) (fault : Option (Fin 8))
  | entropyFail (t : Nat)
  | entropyPass (t : Nat)
  -- Landing cores and media tasks
  | coreTaskEntry (t : Nat) (n : Fin 512) (bad : List (BitVec 13))
  -- Landing instructions: core n executes the instruction that it fetched
  | add (t : Nat) (n : Fin 512) (d a b : Fin 16)
  | sub (t : Nat) (n : Fin 512) (d a b : Fin 16)
  | adds (t : Nat) (n : Fin 512) (d a b : Fin 16)
  | subs (t : Nat) (n : Fin 512) (d a b : Fin 16)
  | and (t : Nat) (n : Fin 512) (d a b : Fin 16)
  | or (t : Nat) (n : Fin 512) (d a b : Fin 16)
  | xor (t : Nat) (n : Fin 512) (d a b : Fin 16)
  | shl (t : Nat) (n : Fin 512) (d a b : Fin 16)
  | shr (t : Nat) (n : Fin 512) (d a b : Fin 16)
  | sra (t : Nat) (n : Fin 512) (d a b : Fin 16)
  | min (t : Nat) (n : Fin 512) (d a b : Fin 16)
  | max (t : Nat) (n : Fin 512) (d a b : Fin 16)
  | cmp (t : Nat) (n : Fin 512) (a b : Fin 16)
  | norm (t : Nat) (n : Fin 512) (d a : Fin 16)
  | abs (t : Nat) (n : Fin 512) (d a : Fin 16)
  | addi (t : Nat) (n : Fin 512) (d a : Fin 16) (imm : BitVec 16)
  | andi (t : Nat) (n : Fin 512) (d a : Fin 16) (imm : BitVec 16)
  | ori (t : Nat) (n : Fin 512) (d a : Fin 16) (imm : BitVec 16)
  | xori (t : Nat) (n : Fin 512) (d a : Fin 16) (imm : BitVec 16)
  | shli (t : Nat) (n : Fin 512) (d a : Fin 16) (imm : BitVec 16)
  | shri (t : Nat) (n : Fin 512) (d a : Fin 16) (imm : BitVec 16)
  | srai (t : Nat) (n : Fin 512) (d a : Fin 16) (imm : BitVec 16)
  | lui (t : Nat) (n : Fin 512) (d : Fin 16) (imm : BitVec 16)
  | cmpi (t : Nat) (n : Fin 512) (a : Fin 16) (imm : BitVec 16)
  | ldh (t : Nat) (n : Fin 512) (g : Fin 16) (a : Fin 4) (mode : Fin 8) (disp : BitVec 16) (ecc : List (Fin 3))
  | ldhu (t : Nat) (n : Fin 512) (g : Fin 16) (a : Fin 4) (mode : Fin 8) (disp : BitVec 16) (ecc : List (Fin 3))
  | ldw (t : Nat) (n : Fin 512) (g : Fin 16) (a : Fin 4) (mode : Fin 8) (disp : BitVec 16) (ecc : List (Fin 3))
  | sth (t : Nat) (n : Fin 512) (g : Fin 16) (a : Fin 4) (mode : Fin 8) (disp : BitVec 16)
  | stw (t : Nat) (n : Fin 512) (g : Fin 16) (a : Fin 4) (mode : Fin 8) (disp : BitVec 16)
  | ldhh (t : Nat) (n : Fin 512) (g : Fin 16) (a : Fin 4) (mode : Fin 8) (disp : BitVec 16) (ecc : List (Fin 3))
  | mpy (t : Nat) (n : Fin 512) (acc : Fin 4) (a : Fin 16) (ah : Bool) (b : Fin 16) (bh : Bool)
  | mac (t : Nat) (n : Fin 512) (acc : Fin 4) (a : Fin 16) (ah : Bool) (b : Fin 16) (bh : Bool)
  | msu (t : Nat) (n : Fin 512) (acc : Fin 4) (a : Fin 16) (ah : Bool) (b : Fin 16) (bh : Bool)
  | macm (t : Nat) (n : Fin 512) (acc x y : Fin 4) (modeX modeY : Fin 8) (eccX eccY : List (Fin 3))
  | msum (t : Nat) (n : Fin 512) (acc x y : Fin 4) (modeX modeY : Fin 8) (eccX eccY : List (Fin 3))
  | clra (t : Nat) (n : Fin 512) (acc : Fin 4)
  | lda (t : Nat) (n : Fin 512) (acc : Fin 4) (g : Fin 16)
  | mva (t : Nat) (n : Fin 512) (acc : Fin 4) (g : Fin 16)
  | mvah (t : Nat) (n : Fin 512) (acc : Fin 4) (g : Fin 16)
  | sta (t : Nat) (n : Fin 512) (acc a : Fin 4) (mode : Fin 8)
  | stah (t : Nat) (n : Fin 512) (acc a : Fin 4) (mode : Fin 8)
  | adda (t : Nat) (n : Fin 512) (acc acc2 : Fin 4)
  | sha (t : Nat) (n : Fin 512) (acc : Fin 4) (shift : BitVec 8)
  | nega (t : Nat) (n : Fin 512) (acc : Fin 4)
  | cpa (t : Nat) (n : Fin 512) (acc acc2 : Fin 4)
  | tap (t : Nat) (n : Fin 512) (acc a : Fin 4) (circ sub : Bool) (ecc : List (Fin 3))
  | nopInstruction (t : Nat) (n : Fin 512)
  | br (t : Nat) (n : Fin 512) (cond : Fin 16) (target : BitVec 13)
  | call (t : Nat) (n : Fin 512) (target : BitVec 13)
  | ret (t : Nat) (n : Fin 512)
  | rpt (t : Nat) (n : Fin 512) (imm : BitVec 16)
  | rptg (t : Nat) (n : Fin 512) (g : Fin 16)
  | exit (t : Nat) (n : Fin 512) (code : BitVec 8)
  | waitp (t : Nat) (n : Fin 512)
  | setAFromG (t : Nat) (n : Fin 512) (a : Fin 4) (g : Fin 16)
  | setAImmediate (t : Nat) (n : Fin 512) (a : Fin 4) (imm : BitVec 17)
  | setAbImmediate (t : Nat) (n : Fin 512) (a : Fin 4) (imm : BitVec 17)
  | setAlImmediate (t : Nat) (n : Fin 512) (a : Fin 4) (imm : BitVec 17)
  | setAmImmediate (t : Nat) (n : Fin 512) (a : Fin 4) (imm : BitVec 17)
  | setGFromA (t : Nat) (n : Fin 512) (a : Fin 4) (g : Fin 16)
  | putg (t : Nat) (n : Fin 512) (g tr : Fin 16)
  | putgc (t : Nat) (n : Fin 512) (g tr : Fin 16)
  | putq (t : Nat) (n : Fin 512) (tr : Fin 16) (a : Fin 4) (ecc : List (Fin 3))
  | puto (t : Nat) (n : Fin 512) (tr : Fin 16) (a : Fin 4) (imm : BitVec 14) (ecc : List (Fin 3))
  | putt (t : Nat) (n : Fin 512) (a : Fin 4) (ecc : List (Fin 3))
  | corr (t : Nat) (n : Fin 512) (g tr : Fin 16) (imm : BitVec 14)
  | mfs (t : Nat) (n : Fin 512) (g : Fin 16) (spr : BitVec 8)
  | mts (t : Nat) (n : Fin 512) (g : Fin 16) (spr : BitVec 8)
  -- Landing cores and media tasks
  | putDelivery (t : Nat) (n : Fin 512)
  | limitExceeded (t : Nat) (n : Fin 512) (cycles : Nat)
  | peek (t : Nat) (door : Fin 4) (value : Word)
  | legInTask (t : Nat) (leg : Fin 10240) (given : List (List Int))
  | legOutTask (t : Nat) (leg : Fin 10240) (frames : List (Option (List Byte)))
  | busTask (t : Nat) (n : Fin 32) (faults : List (GalWord × Bool))
  | recipeTask (t : Nat) (n : Fin 40) (faults : List (GalWord × Bool))
  | sidetonePacketWrite (t : Nat) (leg : Fin 10240)
  | decodeTask (t : Nat) (n : Fin 256) (starts : List Nat) (results : List AuResult) (sram : Nat)
  | keyFrameRequest (t : Nat) (n : Fin 256)
  | decodeTimeout (t : Nat) (n : Fin 256) (starts : List Nat)
  | compositionTask (t : Nat) (c : Fin 64) (sram : Nat) (bad : List (Nat × Option Nat))
  | inputTask (t : Nat) (inp : Fin 16) (sram : Nat) (badRows : List Nat)
  | outputTask (t : Nat) (n : Fin 8) (sram : Nat) (badRows : List Nat)
  | hallTimeout (t : Nat) (n : Fin 88)
  | encodeTask (t : Nat) (p : Fin 64) (l : Fin 3) (sram : Nat)
  | encodeTimeout (t : Nat) (p : Fin 64) (l : Fin 3)
  | forwardingTask (t : Nat) (p : Fin 64) (errors : List FwdError)
  | rtcpGenerationTask (t : Nat) (port : Fin 4)
  -- the Stairwell
  | releaseInstant (t : Nat) (task : Fin 131072)
  | operandDelivery (t : Nat) (task : Fin 131072) (op : Fin 16) (src : Nat) (next present poison : Bool)
  | operandTimeout (t : Nat) (task : Fin 131072) (flight : Nat)
  | releaseStage (t : Nat) (cls : Fin 12) (sram : StairError)
  | releaseStart (t : Nat) (cls : Fin 12) (engine : Fin 512)
  | releaseComplete (t : Nat) (task : Fin 131072) (code : BitVec 8)
  | deadlineMiss (t : Nat) (task : Fin 131072) (flight : Nat)
  -- DRAM and DMA
  | dramCommand (t : Nat) (c : Fin 16) (blocked : List Nat)
  | dramReadData (t : Nat) (c : Fin 16) (outcome : ReadOutcome)
  | fence (t : Nat) (port : Fin 24)
  | dramRefresh (t : Nat) (c : Fin 16) (rank : Fin 2)
  | mr4Read (t : Nat) (c : Fin 16) (hot : Bool)
  | trimPeriod (t : Nat) (c : Fin 16) (lanes : List LaneTrim) (osc : List Nat)
  | retrain (t : Nat) (c : Fin 16) (ok : Bool)
  | patrolScrub (t : Nat) (c : Fin 16) (ecs : Nat)
  | selfRefreshEntry (t : Nat)
  | selfRefreshExit (t : Nat) (failed : List (Fin 16))
  | dmaDoorbell (t : Nat) (door : Fin 4) (c : Fin 32) (value : Word)
  | dmaFetch (t : Nat) (c : Fin 32) (bytes : List Byte)
  | dmaTransfer (t : Nat) (c : Fin 32)
  | dmaBurstComplete (t : Nat) (c : Fin 32) (host : HostRead) (ladders : List Ladder)
  | dmaWithdraw (t : Nat) (door : Fin 4) (c : Fin 32) (clearEn : Bool)
  -- the Undercroft
  | ucrRead (t : Nat) (k : Fin 16) (line : Nat) (ladder : Ladder)
  | ucrProg (t : Nat) (k : Fin 16)
  | ucrStatus (t : Nat) (k : Fin 16) (bank : Fin 16) (busy fail : Bool)
  | ucrMrw (t : Nat) (k : Fin 16) (reg value : Byte)
  | ucrMrr (t : Nat) (k : Fin 16) (reg : Byte)
  | ucrId (t : Nat) (k : Fin 16) (rest : List Byte)
  | ucrParityAlert (t : Nat) (k : Fin 16) (repeats : Bool)
  | gapMove (t : Nat) (k : Fin 16) (region : Nat)
  | hotMove (t : Nat) (k : Fin 16) (line : Nat)
  | checkpoint (t : Nat) (k : Fin 16)
  | refreshScrub (t : Nat) (k : Fin 16) (ladder : Ladder)
  | calibrationPeriod (t : Nat) (k : Fin 16)
  | packageTimeout (t : Nat) (k : Fin 16)
  | recordRelease (t : Nat) (n : Fin 8)
  | replayTask (t : Nat) (k : Fin 16) (ladders : List Ladder)
  -- the Newel link and the pair
  | newelLinkUp (t : Nat) (lanes : List (Bool × Fin 8 × BitVec 8))
  | newelLinkDown (t : Nat)
  | flitReceive (t : Nat) (symbols : List Nat) (bad : Bool) (seq ack : BitVec 9) (nak idle : Bool) (badMsgs : Nat)
  | hello (t : Nat) (role : Fin 3) (digest : List Word) (letter digit : Nat)
  | startMessage (t : Nat) (n0 : Nat) (us : Nat)
  | probe (t : Nat) (seq : Word) (t1 : Nat) (answer : Option (Nat × Nat)) (us : Nat)
  | summary (t : Nat) (cutoff : Nat) (ids : List RecIdent)
  | copyMessage (t : Nat) (cutoff : Nat) (rec : ArrRec)
  | sealTimer (t : Nat) (cutoff : Nat)
  | sealMessage (t : Nat) (cutoff : Nat) (missing : List RecIdent)
  | requestMessage (t : Nat) (unit : ReqUnit)
  | reqSeal (t : Nat) (cut count : Nat)
  | completionMessage (t : Nat) (door : Fin 4) (seq status result epoch : Nat) (late : Bool)
  | digest (t : Nat) (sum : GroupSum)
  | faultMessage (t : Nat) (group : Nat) (counted takeover : Bool)
  | alertMessage (t : Nat) (event : Fin 1536) (stamp : Nat)
  | withdrawMessage (t : Nat) (cause : Fin 16)
  | image (t : Nat) (part : ImagePart)
  | joinMessage (t : Nat) (phase : Fin 4) (value : Nat)
  | partnerDeadline (t : Nat) (owed : Owed)
  | aliveEdge (t : Nat)
  | aliveTimeout (t : Nat)
  | pairingDeadline (t : Nat)
  | hostWithdraw (t : Nat) (door : Fin 4)
  | resync (t : Nat) (door : Fin 4) (us : Nat)
  | autoResync (t : Nat) (us : Nat)
  | abort (t : Nat) (door : Fin 4)
  | resyncPassEnd (t : Nat)
  | finalPass (t : Nat)
  | resyncTimeout (t : Nat)
  -- clocks and power
  | monitorWindow (t : Nat) (sysosc serdes ring : Nat) (failed : List (Fin 16))
  | pllLockLoss (t : Nat) (p : Fin 8)
  | clockSwitch (t : Nat) (door : Fin 4) (n : Fin 3) (src : Fin 2)
  | forcedSwitch (t : Nat) (n : Fin 5)
  | gateOpen (t : Nat) (door : Fin 4) (n : Fin 84)
  | gateClose (t : Nat) (door : Fin 4) (n : Fin 84) (busy : Bool)
  | gateBusIdle (t : Nat) (n : Fin 84)
  | gateBusyTimeout (t : Nat) (n : Fin 84)
  | clockObserve (t : Nat) (door : Fin 4) (value : Word)
  | holdEntry (t : Nat) (door : Fin 4)
  | holdExit (t : Nat) (door : Fin 4) (failed : List (Fin 16))
  | keepEntry (t : Nat) (door : Fin 4)
  | wake (t : Nat) (cause : Fin 3)
  | pwrGoodRise (t : Nat)
  | wakeFail (t : Nat)
  | brownOut (t : Nat)
  | thermalTrip (t : Nat) (celsius : Int)
  -- events, JTAG, pins
  | eventTest (t : Nat) (door : Fin 4) (value : Word)
  | eventClear (t : Nat) (door : Fin 4) (block : Block) (value : Word)
  | errorClear (t : Nat) (door : Fin 4) (block : Block) (value : Word)
  | alertClear (t : Nat) (door : Fin 4) (value : Word)
  | doorLinkChange (t : Nat) (door : Fin 4) (up : Bool) (speed : Fin 8) (width : Fin 16)
  | jtagBypass
  | jtagIdcode
  | jtagSamplePreload (cells : List Bool)
  | jtagExtest (cells : List Bool)
  | jtagClamp
  | jtagHighz
  | testLogicReset
  | resetRelease (t : Nat)
  | keepRailsPowerUp (t : Nat)
  | pllMonoscRelock (t : Nat)
  | ddr5CaParityAlert (t : Nat) (c : Fin 16) (window : List Nat) (repeats : Bool)
  | rowIdleTimeout (t : Nat) (c : Fin 16) (bank : Fin 64)
  | fecUncorrectable (t : Nat) (port : Fin 4) (hiSer : Bool)
  deriving DecidableEq, Repr

end Sys2Proof
end

