-- ==== Sys2Proof/Decode.lean ====
section
/-! DEFINITION. Words that spell commands. The operations table gives no row any bits, so no word of it spells a command; the
words of the Landing cores' program memory are the manual's own (Table 7 of Landing cores). -/

namespace Sys2Proof

/-- The command that a word spells by the table's bits: none, since the table gives no row any. Assumption 3 (DESIGN CHOICE). -/
def decodeTableWord (_nbits _w : Nat) : Option Instr := none

/-! ### Landing instructions (Table 7 of Landing cores) -/

/-- Bits hi to lo of a word. -/
def wordBits (w : Word) (hi lo : Nat) : Nat := w.toNat / 2 ^ lo % 2 ^ (hi + 1 - lo)

/-- A register of sixteen, or of four, that bits name. -/
def reg16 (w : Word) (lo : Nat) : Fin 16 := Fin.ofNat 16 (wordBits w (lo + 3) lo)
def reg4 (w : Word) (lo : Nat) : Fin 4 := Fin.ofNat 4 (wordBits w (lo + 1) lo)

/-- An address mode. -/
def mode3 (w : Word) (lo : Nat) : Fin 8 := Fin.ofNat 8 (wordBits w (lo + 2) lo)

/-- One bit. -/
def bit1 (w : Word) (i : Nat) : Bool := wordBits w i i == 1

/-- The low 16 bits. -/
def imm16 (w : Word) : BitVec 16 := BitVec.ofNat 16 (wordBits w 15 0)

/-- Class 0x0: the ALU. -/
def decodeAlu (t : Nat) (n : Fin 512) (w : Word) : Option Instr :=
  let d := reg16 w 18
  let a := reg16 w 14
  let b := reg16 w 10
  if wordBits w 9 0 ≠ 0 then none
  else match wordBits w 27 22 with
    | 0x00 => some (.add t n d a b)
    | 0x01 => some (.sub t n d a b)
    | 0x02 => some (.adds t n d a b)
    | 0x03 => some (.subs t n d a b)
    | 0x04 => some (.and t n d a b)
    | 0x05 => some (.or t n d a b)
    | 0x06 => some (.xor t n d a b)
    | 0x07 => some (.shl t n d a b)
    | 0x08 => some (.shr t n d a b)
    | 0x09 => some (.sra t n d a b)
    | 0x0A => some (.min t n d a b)
    | 0x0B => some (.max t n d a b)
    | 0x0C => some (.cmp t n a b)
    | 0x0D => some (.norm t n d a)
    | 0x0E => some (.abs t n d a)
    | _ => none

/-- Class 0x1: the ALU with an immediate. -/
def decodeAluImm (t : Nat) (n : Fin 512) (w : Word) : Option Instr :=
  let d := reg16 w 20
  let a := reg16 w 16
  match wordBits w 27 24 with
  | 0 => some (.addi t n d a (imm16 w))
  | 1 => some (.andi t n d a (imm16 w))
  | 2 => some (.ori t n d a (imm16 w))
  | 3 => some (.xori t n d a (imm16 w))
  | 4 => some (.shli t n d a (imm16 w))
  | 5 => some (.shri t n d a (imm16 w))
  | 6 => some (.srai t n d a (imm16 w))
  | 7 => if wordBits w 19 16 = 0 then some (.lui t n d (imm16 w)) else none
  | 8 => some (.cmpi t n a (imm16 w))
  | _ => none

/-- Class 0x2: loads and stores; the word does not say what the memory's check bits will show. -/
def decodeMemory (t : Nat) (n : Fin 512) (w : Word) : Option Instr :=
  let g := reg16 w 21
  let a := reg4 w 19
  let m := mode3 w 16
  match wordBits w 27 25 with
  | 0 => some (.ldh t n g a m (imm16 w) [])
  | 1 => some (.ldhu t n g a m (imm16 w) [])
  | 2 => some (.ldw t n g a m (imm16 w) [])
  | 3 => some (.sth t n g a m (imm16 w))
  | 4 => some (.stw t n g a m (imm16 w))
  | 5 => some (.ldhh t n g a m (imm16 w) [])
  | _ => none

/-- Class 0x3: multiply. -/
def decodeMultiply (t : Nat) (n : Fin 512) (w : Word) : Option Instr :=
  let acc := reg4 w 22
  let a := reg16 w 18
  let b := reg16 w 13
  if wordBits w 11 0 ≠ 0 then none
  else match wordBits w 27 24 with
    | 0 => some (.mpy t n acc a (bit1 w 17) b (bit1 w 12))
    | 1 => some (.mac t n acc a (bit1 w 17) b (bit1 w 12))
    | 2 => some (.msu t n acc a (bit1 w 17) b (bit1 w 12))
    | 3 => some (.macm t n acc (reg4 w 20) (reg4 w 18) (mode3 w 15) (mode3 w 12) [] [])
    | 4 => some (.msum t n acc (reg4 w 20) (reg4 w 18) (mode3 w 15) (mode3 w 12) [] [])
    | _ => none

/-- Class 0x4: accumulators. -/
def decodeAccumulator (t : Nat) (n : Fin 512) (w : Word) : Option Instr :=
  let acc := reg4 w 22
  let acc2 := reg4 w 20
  let g := reg16 w 16
  let a := reg4 w 14
  let m := mode3 w 11
  if wordBits w 10 8 ≠ 0 then none
  else match wordBits w 27 24 with
    | 0 => some (.clra t n acc)
    | 1 => some (.lda t n acc g)
    | 2 => some (.mva t n acc g)
    | 3 => some (.mvah t n acc g)
    | 4 => some (.sta t n acc a m)
    | 5 => some (.stah t n acc a m)
    | 6 => some (.adda t n acc acc2)
    | 7 => some (.sha t n acc (BitVec.ofNat 8 (wordBits w 7 0)))
    | 8 => some (.nega t n acc)
    | 9 => some (.cpa t n acc acc2)
    | _ => none

/-- Class 0x5: the tap. -/
def decodeTap (t : Nat) (n : Fin 512) (w : Word) : Option Instr :=
  if wordBits w 21 0 ≠ 0 then none
  else some (.tap t n (reg4 w 26) (reg4 w 24) (bit1 w 23) (bit1 w 22) [])

/-- Class 0x6: control. -/
def decodeControl (t : Nat) (n : Fin 512) (w : Word) : Option Instr :=
  let target := BitVec.ofNat 13 (wordBits w 12 0)
  match wordBits w 27 24 with
  | 0 => some (.nopInstruction t n)
  | 1 => some (.br t n (reg16 w 20) target)
  | 2 => some (.call t n target)
  | 3 => some (.ret t n)
  | 4 => some (.rpt t n (imm16 w))
  | 5 => some (.rptg t n (reg16 w 16))
  | 6 => some (.exit t n (BitVec.ofNat 8 (wordBits w 7 0)))
  | 7 => some (.waitp t n)
  | _ => none

/-- Class 0x7: address registers. -/
def decodeAddress (t : Nat) (n : Fin 512) (w : Word) : Option Instr :=
  let a := reg4 w 23
  let g := reg16 w 19
  let imm := BitVec.ofNat 17 (wordBits w 16 0)
  if wordBits w 18 17 ≠ 0 then none
  else match wordBits w 27 25 with
    | 0 => some (.setAFromG t n a g)
    | 1 => some (.setAImmediate t n a imm)
    | 2 => some (.setAbImmediate t n a imm)
    | 3 => some (.setAlImmediate t n a imm)
    | 4 => some (.setAmImmediate t n a imm)
    | 5 => some (.setGFromA t n a g)
    | _ => none

/-- Class 0x8: PUTs and the correlator. -/
def decodeAssist (t : Nat) (n : Fin 512) (w : Word) : Option Instr :=
  let g := reg16 w 20
  let tr := reg16 w 16
  let a := reg4 w 14
  let imm := BitVec.ofNat 14 (wordBits w 13 0)
  match wordBits w 27 24 with
  | 0 => some (.putg t n g tr)
  | 1 => some (.putgc t n g tr)
  | 2 => some (.putq t n tr a [])
  | 3 => some (.puto t n tr a imm [])
  | 4 => some (.putt t n a [])
  | 5 => some (.corr t n g tr imm)
  | _ => none

/-- Class 0x9: special registers. -/
def decodeSystem (t : Nat) (n : Fin 512) (w : Word) : Option Instr :=
  let spr := BitVec.ofNat 8 (wordBits w 7 0)
  if wordBits w 19 8 ≠ 0 then none
  else match wordBits w 27 24 with
    | 0 => some (.mfs t n (reg16 w 20) spr)
    | 1 => some (.mts t n (reg16 w 20) spr)
    | _ => none

/-- The instruction that a word of program memory spells for core n at instant t; none for an encoding that is a program fault of
cause 1. -/
def decodeLanding (t : Nat) (n : Fin 512) (w : Word) : Option Instr :=
  match wordBits w 31 28 with
  | 0 => decodeAlu t n w
  | 1 => decodeAluImm t n w
  | 2 => decodeMemory t n w
  | 3 => decodeMultiply t n w
  | 4 => decodeAccumulator t n w
  | 5 => decodeTap t n w
  | 6 => decodeControl t n w
  | 7 => decodeAddress t n w
  | 8 => decodeAssist t n w
  | 9 => decodeSystem t n w
  | _ => none

/-- Whether a word of program memory is an instruction. Assumption 80 (DEDUCED). -/
def landingWordLegal (w : Word) : Bool := (decodeLanding 0 0 w).isSome

/-- A word from its class, its function at bit `at_`, and the rest of its fields, each with the place of its lowest bit. -/
def landingWord (cls func at_ : Nat) (fields : List (Nat × Nat)) : Word :=
  BitVec.ofNat 32 (fields.foldl (fun v f => v + f.1 * 2 ^ f.2) (cls * 2 ^ 28 + func * 2 ^ at_))

/-- The word of an ALU function of three registers. -/
def aluWord (func d a b : Nat) : Word := landingWord 0x0 func 22 [(d, 18), (a, 14), (b, 10)]

/-- The word of an ALU function with an immediate. -/
def aluImmWord (func d a imm : Nat) : Word := landingWord 0x1 func 24 [(d, 20), (a, 16), (imm, 0)]

/-- The word of a load or store. -/
def memoryWord (op g a mode disp : Nat) : Word := landingWord 0x2 op 25 [(g, 21), (a, 19), (mode, 16), (disp, 0)]

/-- The word of a multiplication of two register halves. -/
def multiplyWord (func acc a ah b bh : Nat) : Word :=
  landingWord 0x3 func 24 [(acc, 22), (a, 18), (ah, 17), (b, 13), (bh, 12)]

/-- The word of a multiplication of two memory halfwords. -/
def multiplyMemWord (func acc x y modeX modeY : Nat) : Word :=
  landingWord 0x3 func 24 [(acc, 22), (x, 20), (y, 18), (modeX, 15), (modeY, 12)]

/-- The word of an accumulator function. -/
def accumulatorWord (func acc : Nat) (rest : List (Nat × Nat)) : Word := landingWord 0x4 func 24 ((acc, 22) :: rest)

/-- The word of a control, address, assist or system function. -/
def controlWord (func : Nat) (rest : List (Nat × Nat)) : Word := landingWord 0x6 func 24 rest
def addressWord (func a : Nat) (rest : List (Nat × Nat)) : Word := landingWord 0x7 func 25 ((a, 23) :: rest)
def assistWord (func : Nat) (rest : List (Nat × Nat)) : Word := landingWord 0x8 func 24 rest
def systemWord (func g spr : Nat) : Word := landingWord 0x9 func 24 [(g, 20), (spr, 0)]

/-- The word of program memory that a Landing instruction has; none for a command that is not one. -/
def encodeLanding : Instr → Option Word
  | .add _ _ d a b => some (aluWord 0x00 d a b)
  | .sub _ _ d a b => some (aluWord 0x01 d a b)
  | .adds _ _ d a b => some (aluWord 0x02 d a b)
  | .subs _ _ d a b => some (aluWord 0x03 d a b)
  | .and _ _ d a b => some (aluWord 0x04 d a b)
  | .or _ _ d a b => some (aluWord 0x05 d a b)
  | .xor _ _ d a b => some (aluWord 0x06 d a b)
  | .shl _ _ d a b => some (aluWord 0x07 d a b)
  | .shr _ _ d a b => some (aluWord 0x08 d a b)
  | .sra _ _ d a b => some (aluWord 0x09 d a b)
  | .min _ _ d a b => some (aluWord 0x0A d a b)
  | .max _ _ d a b => some (aluWord 0x0B d a b)
  | .cmp _ _ a b => some (aluWord 0x0C 0 a b)
  | .norm _ _ d a => some (aluWord 0x0D d a 0)
  | .abs _ _ d a => some (aluWord 0x0E d a 0)
  | .addi _ _ d a imm => some (aluImmWord 0 d a imm.toNat)
  | .andi _ _ d a imm => some (aluImmWord 1 d a imm.toNat)
  | .ori _ _ d a imm => some (aluImmWord 2 d a imm.toNat)
  | .xori _ _ d a imm => some (aluImmWord 3 d a imm.toNat)
  | .shli _ _ d a imm => some (aluImmWord 4 d a imm.toNat)
  | .shri _ _ d a imm => some (aluImmWord 5 d a imm.toNat)
  | .srai _ _ d a imm => some (aluImmWord 6 d a imm.toNat)
  | .lui _ _ d imm => some (aluImmWord 7 d 0 imm.toNat)
  | .cmpi _ _ a imm => some (aluImmWord 8 0 a imm.toNat)
  | .ldh _ _ g a mode disp _ => some (memoryWord 0 g a mode disp.toNat)
  | .ldhu _ _ g a mode disp _ => some (memoryWord 1 g a mode disp.toNat)
  | .ldw _ _ g a mode disp _ => some (memoryWord 2 g a mode disp.toNat)
  | .sth _ _ g a mode disp => some (memoryWord 3 g a mode disp.toNat)
  | .stw _ _ g a mode disp => some (memoryWord 4 g a mode disp.toNat)
  | .ldhh _ _ g a mode disp _ => some (memoryWord 5 g a mode disp.toNat)
  | .mpy _ _ acc a ah b bh => some (multiplyWord 0 acc a ah.toNat b bh.toNat)
  | .mac _ _ acc a ah b bh => some (multiplyWord 1 acc a ah.toNat b bh.toNat)
  | .msu _ _ acc a ah b bh => some (multiplyWord 2 acc a ah.toNat b bh.toNat)
  | .macm _ _ acc x y modeX modeY _ _ => some (multiplyMemWord 3 acc x y modeX modeY)
  | .msum _ _ acc x y modeX modeY _ _ => some (multiplyMemWord 4 acc x y modeX modeY)
  | .clra _ _ acc => some (accumulatorWord 0 acc [])
  | .lda _ _ acc g => some (accumulatorWord 1 acc [(g, 16)])
  | .mva _ _ acc g => some (accumulatorWord 2 acc [(g, 16)])
  | .mvah _ _ acc g => some (accumulatorWord 3 acc [(g, 16)])
  | .sta _ _ acc a mode => some (accumulatorWord 4 acc [(a, 14), (mode, 11)])
  | .stah _ _ acc a mode => some (accumulatorWord 5 acc [(a, 14), (mode, 11)])
  | .adda _ _ acc acc2 => some (accumulatorWord 6 acc [(acc2, 20)])
  | .sha _ _ acc shift => some (accumulatorWord 7 acc [(shift.toNat, 0)])
  | .nega _ _ acc => some (accumulatorWord 8 acc [])
  | .cpa _ _ acc acc2 => some (accumulatorWord 9 acc [(acc2, 20)])
  | .tap _ _ acc a circ sub _ => some (landingWord 0x5 0 0 [(acc, 26), (a, 24), (circ.toNat, 23), (sub.toNat, 22)])
  | .nopInstruction _ _ => some (controlWord 0 [])
  | .br _ _ cond target => some (controlWord 1 [(cond, 20), (target.toNat, 0)])
  | .call _ _ target => some (controlWord 2 [(target.toNat, 0)])
  | .ret _ _ => some (controlWord 3 [])
  | .rpt _ _ imm => some (controlWord 4 [(imm.toNat, 0)])
  | .rptg _ _ g => some (controlWord 5 [(g, 16)])
  | .exit _ _ code => some (controlWord 6 [(code.toNat, 0)])
  | .waitp _ _ => some (controlWord 7 [])
  | .setAFromG _ _ a g => some (addressWord 0 a [(g, 19)])
  | .setAImmediate _ _ a imm => some (addressWord 1 a [(imm.toNat, 0)])
  | .setAbImmediate _ _ a imm => some (addressWord 2 a [(imm.toNat, 0)])
  | .setAlImmediate _ _ a imm => some (addressWord 3 a [(imm.toNat, 0)])
  | .setAmImmediate _ _ a imm => some (addressWord 4 a [(imm.toNat, 0)])
  | .setGFromA _ _ a g => some (addressWord 5 a [(g, 19)])
  | .putg _ _ g tr => some (assistWord 0 [(g, 20), (tr, 16)])
  | .putgc _ _ g tr => some (assistWord 1 [(g, 20), (tr, 16)])
  | .putq _ _ tr a _ => some (assistWord 2 [(tr, 16), (a, 14)])
  | .puto _ _ tr a imm _ => some (assistWord 3 [(tr, 16), (a, 14), (imm.toNat, 0)])
  | .putt _ _ a _ => some (assistWord 4 [(a, 14)])
  | .corr _ _ g tr imm => some (assistWord 5 [(g, 20), (tr, 16), (imm.toNat, 0)])
  | .mfs _ _ g spr => some (systemWord 0 g spr.toNat)
  | .mts _ _ g spr => some (systemWord 1 g spr.toNat)
  | _ => none

end Sys2Proof
end

