-- ==== Sys2Proof/Config.lean ====
section
/-! DEFINITION. The values that the manual leaves open: constants without a body, so that no proof can see one. -/

namespace Sys2Proof.Config

/-- The n-th open value drawn by a run, where the manual states no value for a result, a content or a choice. Nothing
can evaluate it; State counts how many have been drawn. Assumption 5 (DESIGN CHOICE). -/
opaque freeNat : Nat → Nat

/-- The number under which an RTCP packet passes its source's merge: it has no RTP sequence (R142). Assumption 165 (DESIGN CHOICE). -/
opaque rtcpSeq : List (BitVec 8) → Nat

/-- The queue whose header the RTCP of a received stream or input uses (R146 names the object's queue; a stream and an
input have none). Assumption 64 (DESIGN CHOICE). -/
opaque rtcpQueue : Nat → Nat

/-- Byte i of an IGMPv3 or MLDv2 report (R132): its port's MAC address, the membership's VLAN, group and source, and
whether it reports a join, a leave or the current state. -/
opaque reportByte : Nat → Nat → List (BitVec 8) → List (BitVec 8) → Nat → Nat → BitVec 8

/-- Whether generator n's frames start on the level −A (R73 gives the levels and the transitions, not which level comes
first). -/
opaque ltcLow : Nat → Bool

/-- The dominant frequency, in Hz, of the samples of a 1 ms block (R76 does not say how it is found). Assumption 152 (DESIGN CHOICE). -/
opaque dominantHz : List Int → Nat

/-- Sample i of an open result of a task in a flight: one that no other task's work touches (R32). -/
opaque openSample : Nat → Nat → Nat → Int

/-- Word i of an open content that a task of a flight meets (R32). -/
opaque openWord : Nat → Nat → Nat → BitVec 32

/-- Number i of an open choice of a task in a flight (R32). -/
opaque openNat : Nat → Nat → Nat → Nat

/-- Sample i of the conversion to 48 kHz of samples at a rate, in units of 8 kHz, after those before them, newest first: R208 bounds
its filters and gives no coefficient. Assumption 88 (DESIGN CHOICE). -/
opaque convert : Nat → List Int → List Int → Nat → Int

/-- The drift of a leg's sender in ppm, from the trend of its last latenesses (R208). Assumption 88 (DESIGN CHOICE). -/
opaque driftPpm : List Int → Int

/-- The value to which PLC_MODE 1 fades a repeated sample, k samples into a concealment that PLC_FADE bounds (R207). Assumption 169
(DESIGN CHOICE). -/
opaque plcFade : Nat → Nat → Int → Int

/-- Sample k of the extension that PLC_MODE 2 gives a leg's format after the last 10 ms, newest first (R207). Assumption 169
(DESIGN CHOICE). -/
opaque plcExtend : Nat → List Int → Nat → Int

/-- Octet i of the G.722 coding of a leg's samples at 16 kHz by a mode (R209). Assumption 88 (DESIGN CHOICE). -/
opaque g722Octet : Nat → List Int → Nat → BitVec 8

/-- A sample of picture `index` of a spatial layer of an access unit, by a codec's standard: the payloads in order, what the references
hold, then layer, number and plane (luma, Cb, Cr), and the position (R234). -/
opaque codecSample : Nat → List (List (BitVec 8)) → List (List (BitVec 8)) → Nat × Nat × Nat → Nat → Nat → Nat

/-- Byte i of the side store of that picture, in the engines' own layout (R242). -/
opaque codecSide : Nat → List (List (BitVec 8)) → List (List (BitVec 8)) → Nat → Nat → Nat → BitVec 8

/-- How far a prediction stands from a block of luma samples: the stage (0 after decimation, 1 whole, 2 between samples), the block,
the reference samples, and the eighths between samples (R286 names no measure). Assumption 171 (DESIGN CHOICE). -/
opaque matchCost : Nat → List Nat → List Nat → Int → Int → Nat

/-- Byte i of the line at an address as request n reads it where its words or its address tag are lost: the manual gives the poison tag and
not the data (R366, R367). -/
opaque lostByte : Nat → Nat → Nat → BitVec 8

/-- Byte i of a package's line, read at an instant, where no step of the ladder decodes, the package does not answer or the line is DEAD: the
manual gives the poison and not the data (R382, R384, R406). -/
opaque lostLineByte : Nat → Nat → Nat → BitVec 8

/-- Check byte i of the BCH code over a line's bytes 0 to 263: Table 5 of Undercroft names the code's field and strength and not its
generator. -/
opaque bchByte : List (BitVec 8) → Nat → BitVec 8

/-- The prediction that a coder takes for a block: codec, QP, samples, and what each prediction costs (R287). -/
opaque blockMode : Nat → Nat → List Nat → List Nat → Nat

/-- Whether a coder codes a block as skip: codec, samples, and what it has chosen for the block. -/
opaque blockSkip : Nat → List Nat → List Nat → Bool

/-- The bits of a block: codec, its samples, and what has been chosen for the blocks up to it. -/
opaque blockBits : Nat → List Nat → List (List Nat) → Nat

/-- The QP that a coder's complexity model gives a block row: budget, bits so far, and the row's samples (R290). -/
opaque rowQp : Nat → Nat → List Nat → Nat

/-- Byte i of a coded picture: codec, what was chosen for its blocks, and their samples (R287). -/
opaque codedByte : Nat → List (List Nat) → List (List Nat) → Nat → BitVec 8

/-- Bytes of a layer's AVC parameter set (7 SPS, 8 PPS) for a size and a number of temporal layers. -/
opaque parameterSet : Nat → Nat → Nat → Nat → List (BitVec 8)

/-- What an AVC reference picture's nal_ref_idc is beyond 1, by its TID. -/
opaque refIdc : Nat → Nat

/-- Level of an operating point, by the spatial and temporal layers in it, and the bits of a sequence header after its operating points,
by the sizes and the depth. -/
opaque seqLevel : Nat → Nat → Nat
opaque seqTail : Nat → Nat → Bool → List Bool

end Sys2Proof.Config
end

