-- ==== Sys2Proof/Machine/RegMedia.lean ====
section
/-! DEFINITION. The registers of the ETH, SHP, CIP, LND, GAL, DEC, HAL and ENC blocks, word by word (R11, R19). -/

namespace Sys2Proof.Machine.Reg

/-! ### Registers of block ETH -/

def ETH_PORT_CFG_EN (p : Nat) : Fld := ⟨0x800040 + 32 * p, 0, 0⟩
def ETH_PORT_CFG_PVID (p : Nat) : Fld := ⟨0x800040 + 32 * p, 15, 4⟩
def ETH_PORT_CFG_MAX_FRAME (p : Nat) : Fld := ⟨0x800040 + 32 * p, 29, 16⟩
def ETH_PORT_STAT_LINK (p : Nat) : Fld := ⟨0x800044 + 32 * p, 0, 0⟩
def ETH_PORT_STAT_ALIGN (p : Nat) : Fld := ⟨0x800044 + 32 * p, 1, 1⟩
def ETH_PORT_STAT_FEC_LOCK (p : Nat) : Fld := ⟨0x800044 + 32 * p, 2, 2⟩
def ETH_PORT_STAT_HI_SER (p : Nat) : Fld := ⟨0x800044 + 32 * p, 3, 3⟩
def ETH_MAC_MAC_LO (p : Nat) : Fld := ⟨0x800048 + 32 * p, 31, 0⟩
def ETH_MAC_MAC_HI (p : Nat) : Fld := ⟨0x80004C + 32 * p, 15, 0⟩
def ETH_STAMP_ADJ_RX (p : Nat) : Fld := ⟨0x800050 + 32 * p, 15, 0⟩
def ETH_STAMP_ADJ_TX (p : Nat) : Fld := ⟨0x800050 + 32 * p, 31, 16⟩
def ETH_MERGE_CFG_WINDOW : Fld := ⟨0x800100, 12, 0⟩
def ETH_MERGE_CFG_PATH_TIMEOUT : Fld := ⟨0x800100, 31, 16⟩
def ETH_ARR_STAT_LAST : Fld := ⟨0x800104, 18, 0⟩
def ETH_ARR_STAT_FULL : Fld := ⟨0x800104, 19, 19⟩
def ETH_RTCP_CFG_INTERVAL : Fld := ⟨0x800108, 23, 0⟩
def ETH_CNAME_TEXT (n : Nat) : Fld := ⟨0x800110 + 4 * n, 31, 0⟩
def ETH_PATH_LAST_KIND : Fld := ⟨0x800120, 2, 0⟩
def ETH_PATH_LAST_OBJECT : Fld := ⟨0x800120, 18, 3⟩
def ETH_PATH_LAST_PATH : Fld := ⟨0x800120, 19, 19⟩
def ETH_PATH_LAST_UP : Fld := ⟨0x800120, 20, 20⟩
def ETH_HOST_STAT_POSTED (d : Nat) : Fld := ⟨0x800140 + 4 * d, 8, 0⟩
def ETH_HOST_STAT_HOST_DROPS (d : Nat) : Fld := ⟨0x800140 + 4 * d, 31, 16⟩
def ETH_CNT_COUNT (p c : Nat) : Fld := ⟨0x801000 + 256 * p + 4 * c, 31, 0⟩

/-- Register words of ETH, part 0: address, instances, write guard and fields. -/
def regETH_part0 : List WordDef := [
  ⟨0x800040, [(4, 32)], .anyDoor, [⟨0, 0, .rwe, 0, 0, 1⟩, ⟨15, 4, .rwe, 0, 0, 4095⟩, ⟨29, 16, .rwe, 2000, 64, 9216⟩]⟩,
  ⟨0x800044, [(4, 32)], .anyDoor, [⟨0, 0, .ro, 0, 0, 1⟩, ⟨1, 1, .ro, 0, 0, 1⟩, ⟨2, 2, .ro, 0, 0, 1⟩, ⟨3, 3, .ro, 0, 0, 1⟩]⟩,
  ⟨0x800048, [(4, 32)], .anyDoor, [⟨31, 0, .rwe, 0, 0, 4294967295⟩]⟩,
  ⟨0x80004C, [(4, 32)], .anyDoor, [⟨15, 0, .rwe, 0, 0, 65535⟩]⟩,
  ⟨0x800050, [(4, 32)], .timeOwner, [⟨15, 0, .rw, 0, 0, 65535⟩, ⟨31, 16, .rw, 0, 0, 65535⟩]⟩,
  ⟨0x800100, [], .anyDoor, [⟨12, 0, .rwe, 1024, 16, 4096⟩, ⟨31, 16, .rwe, 16, 1, 65535⟩]⟩,
  ⟨0x800104, [], .anyDoor, [⟨18, 0, .ro, 0, 0, 524287⟩, ⟨19, 19, .w1c, 0, 0, 1⟩]⟩,
  ⟨0x800108, [], .anyDoor, [⟨23, 0, .rwe, 10000, 8, 16777215⟩]⟩,
  ⟨0x800110, [(4, 4)], .anyDoor, [⟨31, 0, .rwe, 0, 0, 4294967295⟩]⟩,
  ⟨0x800120, [], .anyDoor, [⟨2, 0, .ro, 0, 0, 7⟩, ⟨18, 3, .ro, 0, 0, 65535⟩, ⟨19, 19, .ro, 0, 0, 1⟩, ⟨20, 20, .ro, 0, 0, 1⟩]⟩,
  ⟨0x800140, [(4, 4)], (.perDoor 0), [⟨8, 0, .ro, 0, 0, 511⟩, ⟨31, 16, .ro, 0, 0, 65535⟩]⟩,
  ⟨0x801000, [(4, 256), (16, 4)], .anyDoor, [⟨31, 0, .ro, 0, 0, 4294967295⟩]⟩]

/-- Every register word of block ETH beyond the common registers. -/
def regETH : List WordDef := regETH_part0

/-! ### Registers of block SHP -/

def SHP_Q_CFG_STALL_LIMIT : Fld := ⟨0xC00040, 23, 0⟩
def SHP_POOL_STAT_FREE (d : Nat) : Fld := ⟨0xC00044 + 4 * d, 20, 0⟩
def SHP_POOL_STAT_EXHAUST (d : Nat) : Fld := ⟨0xC00044 + 4 * d, 31, 31⟩
def SHP_Q_ERR_LAST_QUEUE : Fld := ⟨0xC00054, 14, 0⟩
def SHP_Q_ERR_LAST_CAUSE : Fld := ⟨0xC00054, 16, 15⟩
def SHP_MODE_TIERED : Fld := ⟨0xC00058, 0, 0⟩
def SHP_MODE_SERVICES : Fld := ⟨0xC00058, 8, 1⟩
def SHP_SAMPLE_CFG_FLIGHTS : Fld := ⟨0xC0005C, 15, 0⟩
def SHP_FWD_CFG_HEADROOM : Fld := ⟨0xC00060, 4, 0⟩
def SHP_FWD_CFG_LOSS_LO : Fld := ⟨0xC00060, 12, 5⟩
def SHP_FWD_CFG_LOSS_HI : Fld := ⟨0xC00060, 20, 13⟩
def SHP_FWD_GRAD_GRAD_THR : Fld := ⟨0xC00064, 23, 0⟩
def SHP_CNT_COUNT (c : Nat) : Fld := ⟨0xC00080 + 4 * c, 31, 0⟩
def SHP_PORT_CFG_CTRL_CLASS (p : Nat) : Fld := ⟨0xC00100 + 32 * p, 2, 0⟩
def SHP_PORT_CFG_HOST_CLASS (p : Nat) : Fld := ⟨0xC00100 + 32 * p, 5, 3⟩
def SHP_PORT_RATE_RATE (p : Nat) : Fld := ⟨0xC00104 + 32 * p, 26, 0⟩
def SHP_GATE_CFG_EN (p : Nat) : Fld := ⟨0xC00108 + 32 * p, 0, 0⟩
def SHP_GATE_CFG_LEN (p : Nat) : Fld := ⟨0xC00108 + 32 * p, 9, 1⟩
def SHP_GATE_CYCLE_CYCLE (p : Nat) : Fld := ⟨0xC0010C + 32 * p, 31, 0⟩
def SHP_GATE_BASE_TREADS (p : Nat) : Fld := ⟨0xC00110 + 32 * p, 31, 0⟩
def SHP_GATE_BASE_SEC_LO (p : Nat) : Fld := ⟨0xC00114 + 32 * p, 31, 0⟩
def SHP_GATE_BASE_SEC_HI (p : Nat) : Fld := ⟨0xC00118 + 32 * p, 15, 0⟩
def SHP_GATE_STAT_RUNNING (p : Nat) : Fld := ⟨0xC0011C + 32 * p, 0, 0⟩
def SHP_GATE_STAT_WAITING (p : Nat) : Fld := ⟨0xC0011C + 32 * p, 1, 1⟩
def SHP_GATE_STAT_ENTRY (p : Nat) : Fld := ⟨0xC0011C + 32 * p, 9, 2⟩
def SHP_GATE_STAT_OPEN (p : Nat) : Fld := ⟨0xC0011C + 32 * p, 17, 10⟩
def SHP_GATE_START_TREADS (p : Nat) : Fld := ⟨0xC00180 + 16 * p, 31, 0⟩
def SHP_GATE_START_SEC_LO (p : Nat) : Fld := ⟨0xC00184 + 16 * p, 31, 0⟩
def SHP_GATE_START_SEC_HI (p : Nat) : Fld := ⟨0xC00188 + 16 * p, 15, 0⟩

/-- Register words of SHP, part 0: address, instances, write guard and fields. -/
def regSHP_part0 : List WordDef := [
  ⟨0xC00040, [], .anyDoor, [⟨23, 0, .rw, 8820, 1, 16777215⟩]⟩,
  ⟨0xC00044, [(4, 4)], (.perDoor 0), [⟨20, 0, .ro, 0, 0, 2097151⟩, ⟨31, 31, .w1c, 0, 0, 1⟩]⟩,
  ⟨0xC00054, [], .anyDoor, [⟨14, 0, .ro, 0, 0, 32767⟩, ⟨16, 15, .ro, 0, 0, 3⟩]⟩,
  ⟨0xC00058, [], .anyDoor, [⟨0, 0, .ro, 0, 0, 1⟩, ⟨8, 1, .ro, 0, 0, 255⟩]⟩,
  ⟨0xC0005C, [], .anyDoor, [⟨15, 0, .rwe, 2000, 1, 65535⟩]⟩,
  ⟨0xC00060, [], .anyDoor, [⟨4, 0, .rwe, 14, 1, 16⟩, ⟨12, 5, .rwe, 5, 0, 255⟩, ⟨20, 13, .rwe, 26, 0, 255⟩]⟩,
  ⟨0xC00064, [], .anyDoor, [⟨23, 0, .rwe, 141120, 0, 16777215⟩]⟩,
  ⟨0xC00080, [(8, 4)], .anyDoor, [⟨31, 0, .ro, 0, 0, 4294967295⟩]⟩,
  ⟨0xC00100, [(4, 32)], .devOwner, [⟨2, 0, .rwe, 7, 0, 7⟩, ⟨5, 3, .rwe, 7, 0, 7⟩]⟩,
  ⟨0xC00104, [(4, 32)], .devOwner, [⟨26, 0, .rwe, 0, 0, 100000000⟩]⟩,
  ⟨0xC00108, [(4, 32)], .devOwner, [⟨0, 0, .rwe, 0, 0, 1⟩, ⟨9, 1, .rwe, 1, 1, 256⟩]⟩,
  ⟨0xC0010C, [(4, 32)], .devOwner, [⟨31, 0, .rwe, 1411200, 705, 4294967295⟩]⟩,
  ⟨0xC00110, [(4, 32)], .devOwner, [⟨31, 0, .rwe, 0, 0, 141119999⟩]⟩,
  ⟨0xC00114, [(4, 32)], .devOwner, [⟨31, 0, .rwe, 0, 0, 4294967295⟩]⟩,
  ⟨0xC00118, [(4, 32)], .devOwner, [⟨15, 0, .rwe, 0, 0, 65535⟩]⟩,
  ⟨0xC0011C, [(4, 32)], .devOwner, [⟨0, 0, .ro, 0, 0, 1⟩, ⟨1, 1, .ro, 0, 0, 1⟩, ⟨9, 2, .ro, 0, 0, 255⟩, ⟨17, 10, .ro, 255, 0, 255⟩]⟩,
  ⟨0xC00180, [(4, 16)], .devOwner, [⟨31, 0, .ro, 0, 0, 4294967295⟩]⟩,
  ⟨0xC00184, [(4, 16)], .devOwner, [⟨31, 0, .ro, 0, 0, 4294967295⟩]⟩,
  ⟨0xC00188, [(4, 16)], .devOwner, [⟨15, 0, .ro, 0, 0, 65535⟩]⟩]

/-- Every register word of block SHP beyond the common registers. -/
def regSHP : List WordDef := regSHP_part0

/-! ### Registers of block CIP -/

def CIP_CFG_REPLAY_WIN : Fld := ⟨0x1000040, 2, 0⟩
def CIP_CFG_DUMMY_MAX : Fld := ⟨0x1000040, 6, 4⟩
def CIP_CFG_SHUFFLE : Fld := ⟨0x1000040, 7, 7⟩
def CIP_STAT_LANE_OK : Fld := ⟨0x1000044, 7, 0⟩
def CIP_STAT_KEK_OK : Fld := ⟨0x1000044, 8, 8⟩
def CIP_STAT_ENTROPY_OK : Fld := ⟨0x1000044, 9, 9⟩
def CIP_CNT_COUNT (c : Nat) : Fld := ⟨0x1000080 + 4 * c, 31, 0⟩
def CIP_LANE_MISMATCH (n : Nat) : Fld := ⟨0x10000C0 + 4 * n, 7, 0⟩
def CIP_LANE_FENCED (n : Nat) : Fld := ⟨0x10000C0 + 4 * n, 8, 8⟩
def CIP_FAULT_LAST_LANE : Fld := ⟨0x10000E0, 2, 0⟩
def CIP_FAULT_LAST_DIR : Fld := ⟨0x10000E0, 3, 3⟩
def CIP_FAULT_LAST_CONTEXT : Fld := ⟨0x10000E0, 18, 4⟩

/-- Register words of CIP, part 0: address, instances, write guard and fields. -/
def regCIP_part0 : List WordDef := [
  ⟨0x1000040, [], .anyDoor, [⟨2, 0, .rwe, 1, 0, 4⟩, ⟨6, 4, .rw, 2, 0, 7⟩, ⟨7, 7, .rw, 1, 0, 1⟩]⟩,
  ⟨0x1000044, [], .anyDoor, [⟨7, 0, .ro, 255, 0, 255⟩, ⟨8, 8, .ro, 0, 0, 1⟩, ⟨9, 9, .ro, 0, 0, 1⟩]⟩,
  ⟨0x1000080, [(8, 4)], .anyDoor, [⟨31, 0, .ro, 0, 0, 4294967295⟩]⟩,
  ⟨0x10000C0, [(8, 4)], .anyDoor, [⟨7, 0, .ro, 0, 0, 255⟩, ⟨8, 8, .ro, 0, 0, 1⟩]⟩,
  ⟨0x10000E0, [], .anyDoor, [⟨2, 0, .ro, 0, 0, 7⟩, ⟨3, 3, .ro, 0, 0, 1⟩, ⟨18, 4, .ro, 0, 0, 32767⟩]⟩]

/-- Every register word of block CIP beyond the common registers. -/
def regCIP : List WordDef := regCIP_part0

/-! ### Registers of block LND -/

def LND_FW_BUILD : Fld := ⟨0x1400040, 15, 0⟩
def LND_FW_RELEASE : Fld := ⟨0x1400040, 31, 16⟩
def LND_LIMIT_CYCLES : Fld := ⟨0x1400044, 31, 0⟩
def LND_FENCED_CORES (n : Nat) : Fld := ⟨0x1400080 + 4 * n, 31, 0⟩
def LND_PEEK_ADDR_WORD : Fld := ⟨0x1400100, 16, 2⟩
def LND_PEEK_ADDR_CORE : Fld := ⟨0x1400100, 25, 17⟩
def LND_PEEK_DATA_DATA : Fld := ⟨0x1400104, 31, 0⟩
def LND_PEEK_STAT_DONE : Fld := ⟨0x1400108, 0, 0⟩
def LND_PEEK_STAT_POISON : Fld := ⟨0x1400108, 1, 1⟩
def LND_CORE_STAT_STATE (n : Nat) : Fld := ⟨0x1401000 + 32 * n, 1, 0⟩
def LND_CORE_STAT_FOYER (n : Nat) : Fld := ⟨0x1401000 + 32 * n, 2, 2⟩
def LND_CORE_STAT_STAGED (n : Nat) : Fld := ⟨0x1401000 + 32 * n, 3, 3⟩
def LND_CORE_STAT_OBJECTS (n : Nat) : Fld := ⟨0x1401000 + 32 * n, 14, 8⟩
def LND_CORE_STAT_LAST_EXIT (n : Nat) : Fld := ⟨0x1401000 + 32 * n, 23, 16⟩
def LND_CORE_TASK_TASK (n : Nat) : Fld := ⟨0x1401004 + 32 * n, 16, 0⟩
def LND_CORE_TASK_RUNNING (n : Nat) : Fld := ⟨0x1401004 + 32 * n, 31, 31⟩
def LND_CORE_LOAD_CYCLES (n : Nat) : Fld := ⟨0x1401008 + 32 * n, 20, 0⟩
def LND_CORE_PEAK_CYCLES (n : Nat) : Fld := ⟨0x140100C + 32 * n, 20, 0⟩
def LND_CORE_ECC_CORRECTED (n : Nat) : Fld := ⟨0x1401010 + 32 * n, 15, 0⟩
def LND_CORE_ECC_UNCORRECTED (n : Nat) : Fld := ⟨0x1401010 + 32 * n, 31, 16⟩
def LND_CORE_FAULT_CAUSE (n : Nat) : Fld := ⟨0x1401014 + 32 * n, 3, 0⟩
def LND_CORE_FAULT_PC (n : Nat) : Fld := ⟨0x1401014 + 32 * n, 16, 4⟩

/-- Register words of LND, part 0: address, instances, write guard and fields. -/
def regLND_part0 : List WordDef := [
  ⟨0x1400040, [], .anyDoor, [⟨15, 0, .ro, 0, 0, 65535⟩, ⟨31, 16, .ro, 0, 0, 65535⟩]⟩,
  ⟨0x1400044, [], .anyDoor, [⟨31, 0, .rw, 16777216, 1048576, 4294967295⟩]⟩,
  ⟨0x1400080, [(16, 4)], .anyDoor, [⟨31, 0, .ro, 0, 0, 4294967295⟩]⟩,
  ⟨0x1400100, [], .anyDoor, [⟨16, 2, .rw, 0, 0, 32767⟩, ⟨25, 17, .rw, 0, 0, 511⟩]⟩,
  ⟨0x1400104, [], .anyDoor, [⟨31, 0, .ro, 0, 0, 4294967295⟩]⟩,
  ⟨0x1400108, [], .anyDoor, [⟨0, 0, .ro, 0, 0, 1⟩, ⟨1, 1, .ro, 0, 0, 1⟩]⟩,
  ⟨0x1401000, [(512, 32)], .anyDoor, [⟨1, 0, .ro, 0, 0, 3⟩, ⟨2, 2, .ro, 0, 0, 1⟩, ⟨3, 3, .ro, 0, 0, 1⟩, ⟨14, 8, .ro, 0, 0, 127⟩, ⟨23, 16, .ro, 0, 0, 255⟩]⟩,
  ⟨0x1401004, [(512, 32)], .anyDoor, [⟨16, 0, .ro, 0, 0, 131071⟩, ⟨31, 31, .ro, 0, 0, 1⟩]⟩,
  ⟨0x1401008, [(512, 32)], .anyDoor, [⟨20, 0, .ro, 0, 0, 2097151⟩]⟩,
  ⟨0x140100C, [(512, 32)], .anyDoor, [⟨20, 0, .rw, 0, 0, 2097151⟩]⟩,
  ⟨0x1401010, [(512, 32)], .anyDoor, [⟨15, 0, .ro, 0, 0, 65535⟩, ⟨31, 16, .ro, 0, 0, 65535⟩]⟩,
  ⟨0x1401014, [(512, 32)], .anyDoor, [⟨3, 0, .ro, 0, 0, 15⟩, ⟨16, 4, .ro, 0, 0, 8191⟩]⟩]

/-- Every register word of block LND beyond the common registers. -/
def regLND : List WordDef := regLND_part0

/-! ### Registers of block GAL -/

def GAL_METER_CFG_RMS_SHIFT : Fld := ⟨0x1800040, 3, 0⟩
def GAL_METER_CFG_HOLD_MS : Fld := ⟨0x1800040, 15, 4⟩
def GAL_METER_CFG_DECAY_SHIFT : Fld := ⟨0x1800040, 19, 16⟩
def GAL_LIM_CFG_REL : Fld := ⟨0x1800044, 19, 0⟩
def GAL_STAT_ACTIVE_XP : Fld := ⟨0x1800048, 18, 0⟩
def GAL_FLIGHT_DONE_N_LO : Fld := ⟨0x1800050, 31, 0⟩
def GAL_FLIGHT_DONE_N_HI : Fld := ⟨0x1800054, 31, 0⟩
def GAL_CNT_COUNT (c : Nat) : Fld := ⟨0x1800080 + 4 * c, 31, 0⟩
def GAL_ERR_LAST_TABLE : Fld := ⟨0x18000A0, 1, 0⟩
def GAL_ERR_LAST_INDEX : Fld := ⟨0x18000A0, 19, 2⟩
def GAL_BUS_GAIN_GAIN (n : Nat) : Fld := ⟨0x1801000 + 4 * n, 19, 0⟩

/-- Register words of GAL, part 0: address, instances, write guard and fields. -/
def regGAL_part0 : List WordDef := [
  ⟨0x1800040, [], .anyDoor, [⟨3, 0, .rwe, 12, 8, 15⟩, ⟨15, 4, .rwe, 1000, 0, 4095⟩, ⟨19, 16, .rwe, 9, 6, 12⟩]⟩,
  ⟨0x1800044, [], .anyDoor, [⟨19, 0, .rwe, 32, 1, 262144⟩]⟩,
  ⟨0x1800048, [], .anyDoor, [⟨18, 0, .ro, 0, 0, 524287⟩]⟩,
  ⟨0x1800050, [], .anyDoor, [⟨31, 0, .ro, 0, 0, 4294967295⟩]⟩,
  ⟨0x1800054, [], .anyDoor, [⟨31, 0, .ro, 0, 0, 4294967295⟩]⟩,
  ⟨0x1800080, [(8, 4)], .anyDoor, [⟨31, 0, .ro, 0, 0, 4294967295⟩]⟩,
  ⟨0x18000A0, [], .anyDoor, [⟨1, 0, .ro, 0, 0, 3⟩, ⟨19, 2, .ro, 0, 0, 262143⟩]⟩,
  ⟨0x1801000, [(1024, 4)], (.object 5 0), [⟨19, 0, .rwe, 0, 0, 1048575⟩]⟩]

/-- Every register word of block GAL beyond the common registers. -/
def regGAL : List WordDef := regGAL_part0

/-! ### Registers of block DEC -/

def DEC_CFG_TIMEOUT : Fld := ⟨0x2000040, 31, 0⟩
def DEC_DECL_TOTAL_RATE_LO : Fld := ⟨0x2000048, 31, 0⟩
def DEC_DECL_TOTAL_RATE_HI : Fld := ⟨0x200004C, 31, 0⟩
def DEC_ERR_LAST_STREAM : Fld := ⟨0x2000050, 7, 0⟩
def DEC_ERR_LAST_ENGINE : Fld := ⟨0x2000050, 10, 8⟩
def DEC_ERR_LAST_CAUSE : Fld := ⟨0x2000050, 13, 11⟩
def DEC_ENGINE_STAT_STREAMS (n : Nat) : Fld := ⟨0x2000080 + 16 * n, 6, 0⟩
def DEC_ENGINE_STAT_BUSY (n : Nat) : Fld := ⟨0x2000080 + 16 * n, 7, 7⟩
def DEC_ENGINE_STAT_CURRENT (n : Nat) : Fld := ⟨0x2000080 + 16 * n, 15, 8⟩
def DEC_ENGINE_DECL_RATE (n : Nat) : Fld := ⟨0x2000084 + 16 * n, 30, 0⟩
def DEC_ENGINE_LOAD_BUSY (n : Nat) : Fld := ⟨0x2000088 + 16 * n, 31, 0⟩
def DEC_ENGINE_MISS_COUNT (n : Nat) : Fld := ⟨0x200008C + 16 * n, 31, 0⟩
def DEC_CNT_COUNT (c : Nat) : Fld := ⟨0x2000100 + 4 * c, 31, 0⟩

/-- Register words of DEC, part 0: address, instances, write guard and fields. -/
def regDEC_part0 : List WordDef := [
  ⟨0x2000040, [], .anyDoor, [⟨31, 0, .rw, 14112000, 2354352, 4294967295⟩]⟩,
  ⟨0x2000048, [], .anyDoor, [⟨31, 0, .ro, 0, 0, 4294967295⟩]⟩,
  ⟨0x200004C, [], .anyDoor, [⟨31, 0, .ro, 0, 0, 4294967295⟩]⟩,
  ⟨0x2000050, [], .anyDoor, [⟨7, 0, .ro, 0, 0, 255⟩, ⟨10, 8, .ro, 0, 0, 7⟩, ⟨13, 11, .ro, 0, 0, 7⟩]⟩,
  ⟨0x2000080, [(8, 16)], .anyDoor, [⟨6, 0, .ro, 0, 0, 127⟩, ⟨7, 7, .ro, 0, 0, 1⟩, ⟨15, 8, .ro, 0, 0, 255⟩]⟩,
  ⟨0x2000084, [(8, 16)], .anyDoor, [⟨30, 0, .ro, 0, 0, 2147483647⟩]⟩,
  ⟨0x2000088, [(8, 16)], .anyDoor, [⟨31, 0, .ro, 0, 0, 4294967295⟩]⟩,
  ⟨0x200008C, [(8, 16)], .anyDoor, [⟨31, 0, .ro, 0, 0, 4294967295⟩]⟩,
  ⟨0x2000100, [(8, 4)], .anyDoor, [⟨31, 0, .ro, 0, 0, 4294967295⟩]⟩]

/-- Every register word of block DEC beyond the common registers. -/
def regDEC : List WordDef := regDEC_part0

/-! ### Registers of block HAL -/

def HAL_CFG_TIMEOUT : Fld := ⟨0x2400040, 31, 0⟩
def HAL_METER_CFG_ZONE1 : Fld := ⟨0x2400044, 5, 0⟩
def HAL_METER_CFG_ZONE2 : Fld := ⟨0x2400044, 11, 6⟩
def HAL_TC_CFG_OFS : Fld := ⟨0x2400048, 17, 0⟩
def HAL_TC_CFG_DF : Fld := ⟨0x2400048, 18, 18⟩
def HAL_DECL_COMP : Fld := ⟨0x2400050, 31, 0⟩
def HAL_DECL_INPUT : Fld := ⟨0x2400054, 31, 0⟩
def HAL_DECL_OUTPUT : Fld := ⟨0x2400058, 31, 0⟩
def HAL_ERR_LAST_TILE : Fld := ⟨0x2400060, 9, 0⟩
def HAL_ERR_LAST_COMP : Fld := ⟨0x2400060, 15, 10⟩
def HAL_ERR_LAST_CAUSE : Fld := ⟨0x2400060, 18, 16⟩
def HAL_CNT_COUNT (c : Nat) : Fld := ⟨0x2400080 + 4 * c, 31, 0⟩
def HAL_PALETTE_Y (n : Nat) : Fld := ⟨0x2400100 + 4 * n, 9, 0⟩
def HAL_PALETTE_CB (n : Nat) : Fld := ⟨0x2400100 + 4 * n, 19, 10⟩
def HAL_PALETTE_CR (n : Nat) : Fld := ⟨0x2400100 + 4 * n, 29, 20⟩
def HAL_METER_THR_THR (j : Nat) : Fld := ⟨0x2400200 + 4 * j, 22, 0⟩

/-- Register words of HAL, part 0: address, instances, write guard and fields. -/
def regHAL_part0 : List WordDef := [
  ⟨0x2400040, [], .anyDoor, [⟨31, 0, .rw, 14112000, 2354352, 4294967295⟩]⟩,
  ⟨0x2400044, [], .devOwner, [⟨5, 0, .rwe, 0, 0, 32⟩, ⟨11, 6, .rwe, 0, 0, 32⟩]⟩,
  ⟨0x2400048, [], .devOwner, [⟨17, 0, .rwe, 0, 175745, 86399⟩, ⟨18, 18, .rwe, 0, 0, 1⟩]⟩,
  ⟨0x2400050, [], .anyDoor, [⟨31, 0, .ro, 0, 0, 4294967295⟩]⟩,
  ⟨0x2400054, [], .anyDoor, [⟨31, 0, .ro, 0, 0, 4294967295⟩]⟩,
  ⟨0x2400058, [], .anyDoor, [⟨31, 0, .ro, 0, 0, 4294967295⟩]⟩,
  ⟨0x2400060, [], .anyDoor, [⟨9, 0, .ro, 0, 0, 1023⟩, ⟨15, 10, .ro, 0, 0, 63⟩, ⟨18, 16, .ro, 0, 0, 7⟩]⟩,
  ⟨0x2400080, [(8, 4)], .anyDoor, [⟨31, 0, .ro, 0, 0, 4294967295⟩]⟩,
  ⟨0x2400100, [(16, 4)], .devOwner, [⟨9, 0, .rwe, 0, 0, 1023⟩, ⟨19, 10, .rwe, 0, 0, 1023⟩, ⟨29, 20, .rwe, 0, 0, 1023⟩]⟩,
  ⟨0x2400200, [(32, 4)], .devOwner, [⟨22, 0, .rwe, 0, 0, 8388607⟩]⟩]

/-- Every register word of block HAL beyond the common registers. -/
def regHAL : List WordDef := regHAL_part0

/-! ### Registers of block ENC -/

def ENC_CFG_TIMEOUT : Fld := ⟨0x2800040, 31, 0⟩
def ENC_DECL_TOTAL_RATE_LO : Fld := ⟨0x2800048, 31, 0⟩
def ENC_DECL_TOTAL_RATE_HI : Fld := ⟨0x280004C, 31, 0⟩
def ENC_ERR_LAST_PROGRAM : Fld := ⟨0x2800050, 5, 0⟩
def ENC_ERR_LAST_LAYER : Fld := ⟨0x2800050, 7, 6⟩
def ENC_ERR_LAST_ENGINE : Fld := ⟨0x2800050, 10, 8⟩
def ENC_ERR_LAST_CAUSE : Fld := ⟨0x2800050, 13, 11⟩
def ENC_ENGINE_CFG_WIN_KIB (n : Nat) : Fld := ⟨0x2800080 + 32 * n, 10, 0⟩
def ENC_ENGINE_STAT_LAYERS (n : Nat) : Fld := ⟨0x2800084 + 32 * n, 5, 0⟩
def ENC_ENGINE_STAT_BUSY (n : Nat) : Fld := ⟨0x2800084 + 32 * n, 6, 6⟩
def ENC_ENGINE_STAT_PROGRAM (n : Nat) : Fld := ⟨0x2800084 + 32 * n, 13, 8⟩
def ENC_ENGINE_STAT_LAYER (n : Nat) : Fld := ⟨0x2800084 + 32 * n, 15, 14⟩
def ENC_ENGINE_DECL_RATE (n : Nat) : Fld := ⟨0x2800088 + 32 * n, 29, 0⟩
def ENC_ENGINE_LOAD_BUSY (n : Nat) : Fld := ⟨0x280008C + 32 * n, 31, 0⟩
def ENC_ENGINE_MISS_COUNT (n : Nat) : Fld := ⟨0x2800090 + 32 * n, 31, 0⟩
def ENC_CNT_COUNT (c : Nat) : Fld := ⟨0x2800200 + 4 * c, 31, 0⟩

/-- Register words of ENC, part 0: address, instances, write guard and fields. -/
def regENC_part0 : List WordDef := [
  ⟨0x2800040, [], .anyDoor, [⟨31, 0, .rw, 14112000, 2354352, 4294967295⟩]⟩,
  ⟨0x2800048, [], .anyDoor, [⟨31, 0, .ro, 0, 0, 4294967295⟩]⟩,
  ⟨0x280004C, [], .anyDoor, [⟨31, 0, .ro, 0, 0, 4294967295⟩]⟩,
  ⟨0x2800050, [], .anyDoor, [⟨5, 0, .ro, 0, 0, 63⟩, ⟨7, 6, .ro, 0, 0, 3⟩, ⟨10, 8, .ro, 0, 0, 7⟩, ⟨13, 11, .ro, 0, 0, 7⟩]⟩,
  ⟨0x2800080, [(8, 32)], .devOwner, [⟨10, 0, .rwe, 1536, 64, 1536⟩]⟩,
  ⟨0x2800084, [(8, 32)], .anyDoor, [⟨5, 0, .ro, 0, 0, 63⟩, ⟨6, 6, .ro, 0, 0, 1⟩, ⟨13, 8, .ro, 0, 0, 63⟩, ⟨15, 14, .ro, 0, 0, 3⟩]⟩,
  ⟨0x2800088, [(8, 32)], .anyDoor, [⟨29, 0, .ro, 0, 0, 1073741823⟩]⟩,
  ⟨0x280008C, [(8, 32)], .anyDoor, [⟨31, 0, .ro, 0, 0, 4294967295⟩]⟩,
  ⟨0x2800090, [(8, 32)], .anyDoor, [⟨31, 0, .ro, 0, 0, 4294967295⟩]⟩,
  ⟨0x2800200, [(8, 4)], .anyDoor, [⟨31, 0, .ro, 0, 0, 4294967295⟩]⟩]

/-- Every register word of block ENC beyond the common registers. -/
def regENC : List WordDef := regENC_part0

end Sys2Proof.Machine.Reg
end

