-- ==== Sys2Proof/Machine/RegStore.lean ====
section
/-! DEFINITION. The registers of the STW, DRM, DMA, UCR and NWL blocks, word by word (R11, R19). -/

namespace Sys2Proof.Machine.Reg

/-! ### Registers of block STW -/

def STW_STORE_OPEN : Fld := ⟨0x2C00040, 16, 0⟩
def STW_STORE_PEAK_PEAK : Fld := ⟨0x2C00044, 16, 0⟩
def STW_TRACE_CFG_EN : Fld := ⟨0x2C00048, 0, 0⟩
def STW_TRACE_CFG_LOG2SIZE : Fld := ⟨0x2C00048, 5, 1⟩
def STW_TRACE_CFG_KINDS : Fld := ⟨0x2C00048, 20, 6⟩
def STW_TRACE_CLASS_CLASSES : Fld := ⟨0x2C0004C, 11, 0⟩
def STW_TRACE_BASE_REGION : Fld := ⟨0x2C00050, 7, 0⟩
def STW_TRACE_BASE_OFS : Fld := ⟨0x2C00050, 31, 8⟩
def STW_TRACE_HEAD_HEAD : Fld := ⟨0x2C00054, 25, 0⟩
def STW_TRACE_TAIL_TAIL : Fld := ⟨0x2C00058, 25, 0⟩
def STW_TRACE_DROP_COUNT : Fld := ⟨0x2C0005C, 31, 0⟩
def STW_MISS_LAST_TASK : Fld := ⟨0x2C00060, 16, 0⟩
def STW_MISS_LAST_CLASS : Fld := ⟨0x2C00060, 20, 17⟩
def STW_MISS_LAST_TREADS : Fld := ⟨0x2C00064, 31, 0⟩
def STW_MISS_LAST_SEC_LO : Fld := ⟨0x2C00068, 31, 0⟩
def STW_MISS_LAST_SEC_HI : Fld := ⟨0x2C0006C, 15, 0⟩
def STW_ERR_LAST_TASK : Fld := ⟨0x2C00070, 16, 0⟩
def STW_ERR_LAST_CAUSE : Fld := ⟨0x2C00070, 19, 17⟩
def STW_CNT_COUNT (c : Nat) : Fld := ⟨0x2C00080 + 4 * c, 31, 0⟩
def STW_CLASS_STAT_READY (c : Nat) : Fld := ⟨0x2C00100 + 16 * c, 16, 0⟩
def STW_CLASS_STAT_ENGINES (c : Nat) : Fld := ⟨0x2C00100 + 16 * c, 26, 17⟩
def STW_CLASS_MISS_COUNT (c : Nat) : Fld := ⟨0x2C00104 + 16 * c, 31, 0⟩
def STW_CLASS_TIMEOUT_COUNT (c : Nat) : Fld := ⟨0x2C00108 + 16 * c, 31, 0⟩
def STW_CLASS_SLACK_SLACK (c : Nat) : Fld := ⟨0x2C0010C + 16 * c, 31, 0⟩

/-- Register words of STW, part 0: address, instances, write guard and fields. -/
def regSTW_part0 : List WordDef := [
  ⟨0x2C00040, [], .anyDoor, [⟨16, 0, .ro, 0, 0, 131071⟩]⟩,
  ⟨0x2C00044, [], .anyDoor, [⟨16, 0, .rw, 0, 0, 131071⟩]⟩,
  ⟨0x2C00048, [], .devOwner, [⟨0, 0, .rw, 0, 0, 1⟩, ⟨5, 1, .rw, 16, 12, 26⟩, ⟨20, 6, .rw, 32767, 0, 32767⟩]⟩,
  ⟨0x2C0004C, [], .devOwner, [⟨11, 0, .rw, 4095, 0, 4095⟩]⟩,
  ⟨0x2C00050, [], .devOwner, [⟨7, 0, .rw, 0, 0, 255⟩, ⟨31, 8, .rw, 0, 0, 16777215⟩]⟩,
  ⟨0x2C00054, [], .devOwner, [⟨25, 0, .rw, 0, 0, 67108863⟩]⟩,
  ⟨0x2C00058, [], .devOwner, [⟨25, 0, .ro, 0, 0, 67108863⟩]⟩,
  ⟨0x2C0005C, [], .devOwner, [⟨31, 0, .ro, 0, 0, 4294967295⟩]⟩,
  ⟨0x2C00060, [], .anyDoor, [⟨16, 0, .ro, 0, 0, 131071⟩, ⟨20, 17, .ro, 0, 0, 15⟩]⟩,
  ⟨0x2C00064, [], .anyDoor, [⟨31, 0, .ro, 0, 0, 4294967295⟩]⟩,
  ⟨0x2C00068, [], .anyDoor, [⟨31, 0, .ro, 0, 0, 4294967295⟩]⟩,
  ⟨0x2C0006C, [], .anyDoor, [⟨15, 0, .ro, 0, 0, 65535⟩]⟩,
  ⟨0x2C00070, [], .anyDoor, [⟨16, 0, .ro, 0, 0, 131071⟩, ⟨19, 17, .ro, 0, 0, 7⟩]⟩,
  ⟨0x2C00080, [(8, 4)], .anyDoor, [⟨31, 0, .ro, 0, 0, 4294967295⟩]⟩,
  ⟨0x2C00100, [(12, 16)], .anyDoor, [⟨16, 0, .ro, 0, 0, 131071⟩, ⟨26, 17, .ro, 0, 0, 1023⟩]⟩,
  ⟨0x2C00104, [(12, 16)], .anyDoor, [⟨31, 0, .ro, 0, 0, 4294967295⟩]⟩,
  ⟨0x2C00108, [(12, 16)], .anyDoor, [⟨31, 0, .ro, 0, 0, 4294967295⟩]⟩,
  ⟨0x2C0010C, [(12, 16)], .anyDoor, [⟨31, 0, .ro, 0, 0, 4294967295⟩]⟩]

/-- Every register word of block STW beyond the common registers. -/
def regSTW : List WordDef := regSTW_part0

/-! ### Registers of block DRM -/

def DRM_CFG_SPEED : Fld := ⟨0x3000040, 1, 0⟩
def DRM_CFG_DENSITY : Fld := ⟨0x3000040, 2, 2⟩
def DRM_CFG_RANKS : Fld := ⟨0x3000040, 3, 3⟩
def DRM_CFG_GRAN : Fld := ⟨0x3000040, 5, 4⟩
def DRM_CFG_SIZE : Fld := ⟨0x3000040, 25, 16⟩
def DRM_SCHED_CFG_AGE_LIMIT : Fld := ⟨0x3000044, 15, 0⟩
def DRM_SCHED_CFG_WRQ_HI : Fld := ⟨0x3000044, 23, 16⟩
def DRM_SCHED_CFG_WRQ_LO : Fld := ⟨0x3000044, 31, 24⟩
def DRM_PAGE_CFG_IDLE : Fld := ⟨0x3000048, 9, 0⟩
def DRM_REFRESH_CFG_POSTPONE : Fld := ⟨0x300004C, 2, 0⟩
def DRM_REFRESH_CFG_HOT : Fld := ⟨0x300004C, 3, 3⟩
def DRM_TRIM_CFG_EN : Fld := ⟨0x3000050, 0, 0⟩
def DRM_TRIM_CFG_WINDOW : Fld := ⟨0x3000050, 5, 1⟩
def DRM_TRIM_CFG_THR : Fld := ⟨0x3000050, 15, 8⟩
def DRM_TRIM_CFG_RETRAIN_THR : Fld := ⟨0x3000050, 31, 16⟩
def DRM_TRIM_PERIOD_PERIOD : Fld := ⟨0x3000054, 31, 0⟩
def DRM_SCRUB_CFG_HOURS : Fld := ⟨0x3000058, 7, 0⟩
def DRM_ERR_LAST_ADDR_LO : Fld := ⟨0x3000060, 31, 0⟩
def DRM_ERR_LAST_ADDR_HI : Fld := ⟨0x3000064, 6, 0⟩
def DRM_ERR_LAST_PORT : Fld := ⟨0x3000068, 4, 0⟩
def DRM_ERR_LAST_CODE : Fld := ⟨0x3000068, 7, 5⟩
def DRM_ERR_LAST_SUB : Fld := ⟨0x3000068, 11, 8⟩
def DRM_CNT_COUNT (c : Nat) : Fld := ⟨0x3000080 + 4 * c, 31, 0⟩
def DRM_PORT_CFG_TARGET (n : Nat) : Fld := ⟨0x3000100 + 16 * n, 15, 0⟩
def DRM_PORT_CFG_CLASS (n : Nat) : Fld := ⟨0x3000100 + 16 * n, 17, 16⟩
def DRM_PORT_LAT_PEAK (n : Nat) : Fld := ⟨0x3000104 + 16 * n, 15, 0⟩
def DRM_PORT_LAT_URGENT (n : Nat) : Fld := ⟨0x3000104 + 16 * n, 31, 16⟩
def DRM_SUB_STAT_STATE (s : Nat) : Fld := ⟨0x3000400 + 32 * s, 2, 0⟩
def DRM_SUB_STAT_HOT (s : Nat) : Fld := ⟨0x3000400 + 32 * s, 3, 3⟩
def DRM_SUB_STAT_TRIM_EDGE (s : Nat) : Fld := ⟨0x3000400 + 32 * s, 4, 4⟩
def DRM_SUB_ECC_CORRECTED (s : Nat) : Fld := ⟨0x3000404 + 32 * s, 15, 0⟩
def DRM_SUB_ECC_UNCORRECTED (s : Nat) : Fld := ⟨0x3000404 + 32 * s, 31, 16⟩
def DRM_SUB_SCRUB_PASSES (s : Nat) : Fld := ⟨0x3000408 + 32 * s, 15, 0⟩
def DRM_SUB_SCRUB_ECS_MAX (s : Nat) : Fld := ⟨0x3000408 + 32 * s, 23, 16⟩
def DRM_SUB_TRIM_MOVES (s : Nat) : Fld := ⟨0x300040C + 32 * s, 15, 0⟩
def DRM_SUB_TRIM_RETRAINS (s : Nat) : Fld := ⟨0x300040C + 32 * s, 23, 16⟩
def DRM_REGION_BASE (r : Nat) : Fld := ⟨0x3001000 + 8 * r, 17, 0⟩
def DRM_REGION_SIZE (r : Nat) : Fld := ⟨0x3001004 + 8 * r, 18, 0⟩
def DRM_REGION_HOST (r : Nat) : Fld := ⟨0x3001004 + 8 * r, 19, 19⟩

/-- Register words of DRM, part 0: address, instances, write guard and fields. -/
def regDRM_part0 : List WordDef := [
  ⟨0x3000040, [], .devOwner, [⟨1, 0, .ro, 0, 0, 3⟩, ⟨2, 2, .ro, 0, 0, 1⟩, ⟨3, 3, .ro, 0, 0, 1⟩, ⟨5, 4, .ro, 0, 0, 3⟩, ⟨25, 16, .ro, 0, 0, 1023⟩]⟩,
  ⟨0x3000044, [], .devOwner, [⟨15, 0, .rw, 4000, 256, 65535⟩, ⟨23, 16, .rw, 48, 2, 64⟩, ⟨31, 24, .rw, 16, 0, 255⟩]⟩,
  ⟨0x3000048, [], .devOwner, [⟨9, 0, .rw, 96, 0, 1023⟩]⟩,
  ⟨0x300004C, [], .devOwner, [⟨2, 0, .rw, 4, 0, 4⟩, ⟨3, 3, .ro, 0, 0, 1⟩]⟩,
  ⟨0x3000050, [], .devOwner, [⟨0, 0, .rw, 1, 0, 1⟩, ⟨5, 1, .rw, 4, 1, 16⟩, ⟨15, 8, .rw, 8, 1, 255⟩, ⟨31, 16, .rw, 64, 1, 65535⟩]⟩,
  ⟨0x3000054, [], .devOwner, [⟨31, 0, .rw, 282240, 141120, 4294967295⟩]⟩,
  ⟨0x3000058, [], .devOwner, [⟨7, 0, .rw, 24, 1, 255⟩]⟩,
  ⟨0x3000060, [], .devOwner, [⟨31, 0, .ro, 0, 0, 4294967295⟩]⟩,
  ⟨0x3000064, [], .devOwner, [⟨6, 0, .ro, 0, 0, 127⟩]⟩,
  ⟨0x3000068, [], .devOwner, [⟨4, 0, .ro, 0, 0, 31⟩, ⟨7, 5, .ro, 0, 0, 7⟩, ⟨11, 8, .ro, 0, 0, 15⟩]⟩,
  ⟨0x3000080, [(8, 4)], .devOwner, [⟨31, 0, .ro, 0, 0, 4294967295⟩]⟩,
  ⟨0x3000100, [(24, 16)], .devOwner, [⟨15, 0, .rw, 0, 64, 65535⟩, ⟨17, 16, .rw, 0, 0, 3⟩]⟩,
  ⟨0x3000104, [(24, 16)], .devOwner, [⟨15, 0, .rw, 0, 0, 65535⟩, ⟨31, 16, .ro, 0, 0, 65535⟩]⟩,
  ⟨0x3000400, [(16, 32)], .devOwner, [⟨2, 0, .ro, 0, 0, 7⟩, ⟨3, 3, .ro, 0, 0, 1⟩, ⟨4, 4, .ro, 0, 0, 1⟩]⟩,
  ⟨0x3000404, [(16, 32)], .devOwner, [⟨15, 0, .ro, 0, 0, 65535⟩, ⟨31, 16, .ro, 0, 0, 65535⟩]⟩,
  ⟨0x3000408, [(16, 32)], .devOwner, [⟨15, 0, .ro, 0, 0, 65535⟩, ⟨23, 16, .ro, 0, 0, 255⟩]⟩,
  ⟨0x300040C, [(16, 32)], .devOwner, [⟨15, 0, .ro, 0, 0, 65535⟩, ⟨23, 16, .ro, 0, 0, 255⟩]⟩,
  ⟨0x3001000, [(256, 8)], .devOwner, [⟨17, 0, .ro, 0, 0, 262143⟩]⟩,
  ⟨0x3001004, [(256, 8)], .devOwner, [⟨18, 0, .ro, 0, 0, 524287⟩, ⟨19, 19, .ro, 0, 0, 1⟩]⟩]

/-- Every register word of block DRM beyond the common registers. -/
def regDRM : List WordDef := regDRM_part0

/-! ### Registers of block DMA -/

def DMA_CNT_COUNT (c : Nat) : Fld := ⟨0x3400080 + 4 * c, 31, 0⟩
def DMA_CH_DESC_BASE_BASE_LO (c : Nat) : Fld := ⟨0x3401000 + 64 * c, 31, 12⟩
def DMA_CH_DESC_BASE_BASE_HI (c : Nat) : Fld := ⟨0x3401004 + 64 * c, 31, 0⟩
def DMA_CH_CFG_EN (c : Nat) : Fld := ⟨0x3401008 + 64 * c, 0, 0⟩
def DMA_CH_CFG_LOG2SIZE (c : Nat) : Fld := ⟨0x3401008 + 64 * c, 5, 1⟩
def DMA_CH_CFG_VECTOR (c : Nat) : Fld := ⟨0x3401008 + 64 * c, 16, 6⟩
def DMA_CH_PTR_TAIL (c : Nat) : Fld := ⟨0x340100C + 64 * c, 15, 0⟩
def DMA_CH_PTR_HEAD (c : Nat) : Fld := ⟨0x340100C + 64 * c, 31, 16⟩
def DMA_CH_CPL_BASE_BASE_LO (c : Nat) : Fld := ⟨0x3401010 + 64 * c, 31, 12⟩
def DMA_CH_CPL_BASE_BASE_HI (c : Nat) : Fld := ⟨0x3401014 + 64 * c, 31, 0⟩
def DMA_CH_CPL_PTR_HEAD (c : Nat) : Fld := ⟨0x3401018 + 64 * c, 15, 0⟩
def DMA_CH_CPL_PTR_TAIL (c : Nat) : Fld := ⟨0x3401018 + 64 * c, 31, 16⟩
def DMA_CH_CTRL_WITHDRAW (c : Nat) : Fld := ⟨0x340101C + 64 * c, 0, 0⟩
def DMA_CH_STAT_STATE (c : Nat) : Fld := ⟨0x3401020 + 64 * c, 1, 0⟩
def DMA_CH_STAT_HALF (c : Nat) : Fld := ⟨0x3401020 + 64 * c, 2, 2⟩
def DMA_CH_DONE_BYTES (c : Nat) : Fld := ⟨0x3401024 + 64 * c, 31, 0⟩
def DMA_CH_CSUM_CSUM_LO (c : Nat) : Fld := ⟨0x3401028 + 64 * c, 31, 0⟩
def DMA_CH_CSUM_CSUM_HI (c : Nat) : Fld := ⟨0x340102C + 64 * c, 31, 0⟩

/-- Register words of DMA, part 0: address, instances, write guard and fields. -/
def regDMA_part0 : List WordDef := [
  ⟨0x3400080, [(4, 4)], .anyDoor, [⟨31, 0, .ro, 0, 0, 4294967295⟩]⟩,
  ⟨0x3401000, [(32, 64)], (.object 9 0), [⟨31, 12, .rw, 0, 0, 1048575⟩]⟩,
  ⟨0x3401004, [(32, 64)], (.object 9 0), [⟨31, 0, .rw, 0, 0, 4294967295⟩]⟩,
  ⟨0x3401008, [(32, 64)], (.object 9 0), [⟨0, 0, .rw, 0, 0, 1⟩, ⟨5, 1, .rw, 4, 4, 16⟩, ⟨16, 6, .rw, 0, 0, 2047⟩]⟩,
  ⟨0x340100C, [(32, 64)], (.object 9 0), [⟨15, 0, .rw, 0, 0, 65535⟩, ⟨31, 16, .ro, 0, 0, 65535⟩]⟩,
  ⟨0x3401010, [(32, 64)], (.object 9 0), [⟨31, 12, .rw, 0, 0, 1048575⟩]⟩,
  ⟨0x3401014, [(32, 64)], (.object 9 0), [⟨31, 0, .rw, 0, 0, 4294967295⟩]⟩,
  ⟨0x3401018, [(32, 64)], (.object 9 0), [⟨15, 0, .rw, 0, 0, 65535⟩, ⟨31, 16, .ro, 0, 0, 65535⟩]⟩,
  ⟨0x340101C, [(32, 64)], (.object 9 0), [⟨0, 0, .wo, 0, 0, 1⟩]⟩,
  ⟨0x3401020, [(32, 64)], (.object 9 0), [⟨1, 0, .ro, 0, 0, 3⟩, ⟨2, 2, .w1c, 0, 0, 1⟩]⟩,
  ⟨0x3401024, [(32, 64)], (.object 9 0), [⟨31, 0, .ro, 0, 0, 4294967295⟩]⟩,
  ⟨0x3401028, [(32, 64)], (.object 9 0), [⟨31, 0, .ro, 0, 0, 4294967295⟩]⟩,
  ⟨0x340102C, [(32, 64)], (.object 9 0), [⟨31, 0, .ro, 0, 0, 4294967295⟩]⟩]

/-- Every register word of block DMA beyond the common registers. -/
def regDMA : List WordDef := regDMA_part0

/-! ### Registers of block UCR -/

def UCR_STAT_MOUNT : Fld := ⟨0x3800040, 1, 0⟩
def UCR_STAT_FORMATTED : Fld := ⟨0x3800040, 2, 2⟩
def UCR_STAT_PKG_FAIL : Fld := ⟨0x3800040, 31, 16⟩
def UCR_GEOM_PKG_GIB : Fld := ⟨0x3800044, 8, 0⟩
def UCR_GEOM_SPARE_REGIONS : Fld := ⟨0x3800044, 15, 9⟩
def UCR_GEOM_LOGICAL_GIB : Fld := ⟨0x3800044, 31, 16⟩
def UCR_HEAD_CHUNK_LO : Fld := ⟨0x3800048, 31, 0⟩
def UCR_HEAD_CHUNK_HI : Fld := ⟨0x380004C, 31, 0⟩
def UCR_OLDEST_CHUNK_LO : Fld := ⟨0x3800050, 31, 0⟩
def UCR_OLDEST_CHUNK_HI : Fld := ⟨0x3800054, 31, 0⟩
def UCR_OLDEST_T_LO : Fld := ⟨0x3800058, 31, 0⟩
def UCR_OLDEST_T_HI : Fld := ⟨0x380005C, 31, 0⟩
def UCR_SCRUB_CFG_REFRESH_AGE : Fld := ⟨0x3800060, 15, 0⟩
def UCR_SCRUB_CFG_REFRESH_BITS : Fld := ⟨0x3800060, 20, 16⟩
def UCR_CAL_CFG_CAL_EVERY : Fld := ⟨0x3800064, 7, 0⟩
def UCR_CAL_CFG_CAL_THR : Fld := ⟨0x3800064, 23, 8⟩
def UCR_CAL_PERIOD_PERIOD : Fld := ⟨0x3800068, 31, 0⟩
def UCR_WEAR_CFG_GAP_INTERVAL : Fld := ⟨0x380006C, 7, 0⟩
def UCR_WEAR_CFG_HOT_THR : Fld := ⟨0x380006C, 23, 8⟩
def UCR_WEAR_CFG_WEAR_ALARM : Fld := ⟨0x380006C, 30, 24⟩
def UCR_ERR_LAST_LINE : Fld := ⟨0x3800070, 31, 0⟩
def UCR_ERR_LAST_PKG : Fld := ⟨0x3800074, 3, 0⟩
def UCR_ERR_LAST_CODE : Fld := ⟨0x3800074, 6, 4⟩
def UCR_CNT_COUNT (c : Nat) : Fld := ⟨0x3800080 + 4 * c, 31, 0⟩
def UCR_PKG_STAT_STATE (k : Nat) : Fld := ⟨0x3801000 + 32 * k, 1, 0⟩
def UCR_PKG_STAT_HELD (k : Nat) : Fld := ⟨0x3801000 + 32 * k, 2, 2⟩
def UCR_PKG_STAT_REF (k : Nat) : Fld := ⟨0x3801000 + 32 * k, 14, 8⟩
def UCR_PKG_STAT_PENDING (k : Nat) : Fld := ⟨0x3801000 + 32 * k, 24, 16⟩
def UCR_PKG_BOUND_REF_MIN (k : Nat) : Fld := ⟨0x3801004 + 32 * k, 6, 0⟩
def UCR_PKG_BOUND_REF_MAX (k : Nat) : Fld := ⟨0x3801004 + 32 * k, 14, 8⟩
def UCR_PKG_SPARE_FREE (k : Nat) : Fld := ⟨0x3801008 + 32 * k, 25, 0⟩
def UCR_PKG_WEAR_MAX_AVG (k : Nat) : Fld := ⟨0x380100C + 32 * k, 31, 0⟩
def UCR_REPLAY_STAT_STATE (s : Nat) : Fld := ⟨0x3802000 + 16 * s, 1, 0⟩
def UCR_REPLAY_STAT_KIND (s : Nat) : Fld := ⟨0x3802000 + 16 * s, 2, 2⟩
def UCR_REPLAY_STAT_DEST (s : Nat) : Fld := ⟨0x3802000 + 16 * s, 31, 16⟩
def UCR_REPLAY_CNT_PLACED (s : Nat) : Fld := ⟨0x3802004 + 16 * s, 31, 0⟩

/-- Register words of UCR, part 0: address, instances, write guard and fields. -/
def regUCR_part0 : List WordDef := [
  ⟨0x3800040, [], .anyDoor, [⟨1, 0, .ro, 0, 0, 3⟩, ⟨2, 2, .ro, 0, 0, 1⟩, ⟨31, 16, .ro, 0, 0, 65535⟩]⟩,
  ⟨0x3800044, [], .anyDoor, [⟨8, 0, .ro, 0, 0, 511⟩, ⟨15, 9, .ro, 0, 0, 127⟩, ⟨31, 16, .ro, 0, 0, 65535⟩]⟩,
  ⟨0x3800048, [], .anyDoor, [⟨31, 0, .ro, 0, 0, 4294967295⟩]⟩,
  ⟨0x380004C, [], .anyDoor, [⟨31, 0, .ro, 0, 0, 4294967295⟩]⟩,
  ⟨0x3800050, [], .anyDoor, [⟨31, 0, .ro, 0, 0, 4294967295⟩]⟩,
  ⟨0x3800054, [], .anyDoor, [⟨31, 0, .ro, 0, 0, 4294967295⟩]⟩,
  ⟨0x3800058, [], .anyDoor, [⟨31, 0, .ro, 0, 0, 4294967295⟩]⟩,
  ⟨0x380005C, [], .anyDoor, [⟨31, 0, .ro, 0, 0, 4294967295⟩]⟩,
  ⟨0x3800060, [], .devOwner, [⟨15, 0, .rw, 0, 24, 65535⟩, ⟨20, 16, .rw, 0, 1, 16⟩]⟩,
  ⟨0x3800064, [], .devOwner, [⟨7, 0, .rw, 64, 0, 255⟩, ⟨23, 8, .rw, 16, 0, 65535⟩]⟩,
  ⟨0x3800068, [], .devOwner, [⟨31, 0, .rw, 141120000, 14112000, 4294967295⟩]⟩,
  ⟨0x380006C, [], .devOwner, [⟨7, 0, .ro, 0, 0, 255⟩, ⟨23, 8, .ro, 0, 0, 65535⟩, ⟨30, 24, .rw, 50, 1, 100⟩]⟩,
  ⟨0x3800070, [], .anyDoor, [⟨31, 0, .ro, 0, 0, 4294967295⟩]⟩,
  ⟨0x3800074, [], .anyDoor, [⟨3, 0, .ro, 0, 0, 15⟩, ⟨6, 4, .ro, 0, 0, 7⟩]⟩,
  ⟨0x3800080, [(12, 4)], .anyDoor, [⟨31, 0, .ro, 0, 0, 4294967295⟩]⟩,
  ⟨0x3801000, [(16, 32)], .anyDoor, [⟨1, 0, .ro, 0, 0, 3⟩, ⟨2, 2, .ro, 0, 0, 1⟩, ⟨14, 8, .ro, 0, 0, 127⟩, ⟨24, 16, .ro, 0, 0, 511⟩]⟩,
  ⟨0x3801004, [(16, 32)], .anyDoor, [⟨6, 0, .rwe, 96, 0, 127⟩, ⟨14, 8, .rwe, 31, 0, 127⟩]⟩,
  ⟨0x3801008, [(16, 32)], .anyDoor, [⟨25, 0, .ro, 0, 0, 67108863⟩]⟩,
  ⟨0x380100C, [(16, 32)], .anyDoor, [⟨31, 0, .ro, 0, 0, 4294967295⟩]⟩,
  ⟨0x3802000, [(16, 16)], .anyDoor, [⟨1, 0, .ro, 0, 0, 3⟩, ⟨2, 2, .ro, 0, 0, 1⟩, ⟨31, 16, .ro, 0, 0, 65535⟩]⟩,
  ⟨0x3802004, [(16, 16)], .anyDoor, [⟨31, 0, .ro, 0, 0, 4294967295⟩]⟩]

/-- Every register word of block UCR beyond the common registers. -/
def regUCR : List WordDef := regUCR_part0

/-! ### Registers of block NWL -/

def NWL_CFG_SKEW_MAX : Fld := ⟨0x3C00040, 8, 0⟩
def NWL_CFG_DIG_LAG : Fld := ⟨0x3C00040, 12, 9⟩
def NWL_CFG_MATCH_COUNT : Fld := ⟨0x3C00040, 20, 13⟩
def NWL_CFG_AUTO_RESYNC : Fld := ⟨0x3C00040, 21, 21⟩
def NWL_CTRL_WITHDRAW : Fld := ⟨0x3C00044, 0, 0⟩
def NWL_CTRL_RESYNC : Fld := ⟨0x3C00044, 1, 1⟩
def NWL_CTRL_ABORT : Fld := ⟨0x3C00044, 2, 2⟩
def NWL_STAT_STATE : Fld := ⟨0x3C00048, 2, 0⟩
def NWL_STAT_LINK : Fld := ⟨0x3C00048, 3, 3⟩
def NWL_STAT_ALIVE : Fld := ⟨0x3C00048, 4, 4⟩
def NWL_STAT_CAUSE : Fld := ⟨0x3C00048, 11, 8⟩
def NWL_STAT_REFUSE : Fld := ⟨0x3C00048, 15, 12⟩
def NWL_LAT_LAT : Fld := ⟨0x3C0004C, 15, 0⟩
def NWL_SKEW_OFFSET : Fld := ⟨0x3C00050, 31, 0⟩
def NWL_LOCK_AT_TREADS : Fld := ⟨0x3C00054, 31, 0⟩
def NWL_LOCK_AT_SEC_LO : Fld := ⟨0x3C00058, 31, 0⟩
def NWL_LOCK_AT_SEC_HI : Fld := ⟨0x3C0005C, 15, 0⟩
def NWL_DIGEST_GROUP_LO : Fld := ⟨0x3C00060, 31, 0⟩
def NWL_DIGEST_GROUP_HI : Fld := ⟨0x3C00064, 31, 0⟩
def NWL_DIGEST_LOCAL_LO : Fld := ⟨0x3C00068, 31, 0⟩
def NWL_DIGEST_LOCAL_HI : Fld := ⟨0x3C0006C, 31, 0⟩
def NWL_DIGEST_REMOTE_LO : Fld := ⟨0x3C00070, 31, 0⟩
def NWL_DIGEST_REMOTE_HI : Fld := ⟨0x3C00074, 31, 0⟩
def NWL_RESYNC_PASS : Fld := ⟨0x3C00078, 7, 0⟩
def NWL_RESYNC_DIRTY : Fld := ⟨0x3C00078, 31, 8⟩
def NWL_RESYNC_BYTES_LO : Fld := ⟨0x3C0007C, 31, 0⟩
def NWL_RESYNC_BYTES_HI : Fld := ⟨0x3C00080, 31, 0⟩
def NWL_RESYNC_JOIN_LO : Fld := ⟨0x3C00084, 31, 0⟩
def NWL_RESYNC_JOIN_HI : Fld := ⟨0x3C00088, 31, 0⟩
def NWL_CNT_COUNT (c : Nat) : Fld := ⟨0x3C000C0 + 4 * c, 31, 0⟩
def NWL_LANE_STAT_STATE (n : Nat) : Fld := ⟨0x3C00100 + 4 * n, 1, 0⟩
def NWL_LANE_STAT_INVERTED (n : Nat) : Fld := ⟨0x3C00100 + 4 * n, 2, 2⟩
def NWL_LANE_STAT_SOURCE (n : Nat) : Fld := ⟨0x3C00100 + 4 * n, 5, 3⟩
def NWL_LANE_STAT_EYE (n : Nat) : Fld := ⟨0x3C00100 + 4 * n, 15, 8⟩
def NWL_LANE_STAT_SYMBOLS (n : Nat) : Fld := ⟨0x3C00100 + 4 * n, 31, 16⟩

/-- Register words of NWL, part 0: address, instances, write guard and fields. -/
def regNWL_part0 : List WordDef := [
  ⟨0x3C00040, [], .anyDoor, [⟨8, 0, .ro, 0, 0, 511⟩, ⟨12, 9, .ro, 0, 0, 15⟩, ⟨20, 13, .ro, 0, 0, 255⟩, ⟨21, 21, .ro, 0, 0, 1⟩]⟩,
  ⟨0x3C00044, [], .devOwner, [⟨0, 0, .wo, 0, 0, 1⟩, ⟨1, 1, .wo, 0, 0, 1⟩, ⟨2, 2, .wo, 0, 0, 1⟩]⟩,
  ⟨0x3C00048, [], .anyDoor, [⟨2, 0, .ro, 0, 0, 7⟩, ⟨3, 3, .ro, 0, 0, 1⟩, ⟨4, 4, .ro, 0, 0, 1⟩, ⟨11, 8, .ro, 0, 0, 15⟩, ⟨15, 12, .ro, 0, 0, 15⟩]⟩,
  ⟨0x3C0004C, [], .anyDoor, [⟨15, 0, .ro, 0, 0, 65535⟩]⟩,
  ⟨0x3C00050, [], .anyDoor, [⟨31, 0, .ro, 0, 0, 4294967295⟩]⟩,
  ⟨0x3C00054, [], .anyDoor, [⟨31, 0, .ro, 0, 0, 4294967295⟩]⟩,
  ⟨0x3C00058, [], .anyDoor, [⟨31, 0, .ro, 0, 0, 4294967295⟩]⟩,
  ⟨0x3C0005C, [], .anyDoor, [⟨15, 0, .ro, 0, 0, 65535⟩]⟩,
  ⟨0x3C00060, [], .anyDoor, [⟨31, 0, .ro, 0, 0, 4294967295⟩]⟩,
  ⟨0x3C00064, [], .anyDoor, [⟨31, 0, .ro, 0, 0, 4294967295⟩]⟩,
  ⟨0x3C00068, [], .anyDoor, [⟨31, 0, .ro, 0, 0, 4294967295⟩]⟩,
  ⟨0x3C0006C, [], .anyDoor, [⟨31, 0, .ro, 0, 0, 4294967295⟩]⟩,
  ⟨0x3C00070, [], .anyDoor, [⟨31, 0, .ro, 0, 0, 4294967295⟩]⟩,
  ⟨0x3C00074, [], .anyDoor, [⟨31, 0, .ro, 0, 0, 4294967295⟩]⟩,
  ⟨0x3C00078, [], .anyDoor, [⟨7, 0, .ro, 0, 0, 255⟩, ⟨31, 8, .ro, 0, 0, 16777215⟩]⟩,
  ⟨0x3C0007C, [], .anyDoor, [⟨31, 0, .ro, 0, 0, 4294967295⟩]⟩,
  ⟨0x3C00080, [], .anyDoor, [⟨31, 0, .ro, 0, 0, 4294967295⟩]⟩,
  ⟨0x3C00084, [], .anyDoor, [⟨31, 0, .ro, 0, 0, 4294967295⟩]⟩,
  ⟨0x3C00088, [], .anyDoor, [⟨31, 0, .ro, 0, 0, 4294967295⟩]⟩,
  ⟨0x3C000C0, [(8, 4)], .anyDoor, [⟨31, 0, .ro, 0, 0, 4294967295⟩]⟩,
  ⟨0x3C00100, [(8, 4)], .anyDoor, [⟨1, 0, .ro, 0, 0, 3⟩, ⟨2, 2, .ro, 0, 0, 1⟩, ⟨5, 3, .ro, 0, 0, 7⟩, ⟨15, 8, .ro, 0, 0, 255⟩, ⟨31, 16, .ro, 0, 0, 65535⟩]⟩]

/-- Every register word of block NWL beyond the common registers. -/
def regNWL : List WordDef := regNWL_part0

end Sys2Proof.Machine.Reg
end

