-- ==== Sys2Proof/Machine/RegSystem.lean ====
section
/-! DEFINITION. The registers of the PLT, CLK/PWR, EVT, WLD, CHT, DOR, TIM and TCM blocks, word by word, from the register entries of their chapters (R11, R19). -/

namespace Sys2Proof.Machine.Reg

/-! ### Registers of block PLT -/

def PLT_PART_PART : Fld := ⟨0x40, 15, 0⟩
def PLT_PART_VARIANT : Fld := ⟨0x40, 19, 16⟩
def PLT_SERIAL_SERIAL_LO : Fld := ⟨0x44, 31, 0⟩
def PLT_SERIAL_SERIAL_HI : Fld := ⟨0x48, 31, 0⟩
def PLT_DOOR_DOOR : Fld := ⟨0x4C, 1, 0⟩
def PLT_SCRATCH_DATA (d : Nat) : Fld := ⟨0x50 + 4 * d, 31, 0⟩

/-- Register words of PLT, part 0: address, instances, write guard and fields. -/
def regPLT_part0 : List WordDef := [
  ⟨0x40, [], .anyDoor, [⟨15, 0, .ro, 25616, 0, 65535⟩, ⟨19, 16, .ro, 0, 0, 15⟩]⟩,
  ⟨0x44, [], .anyDoor, [⟨31, 0, .ro, 0, 0, 4294967295⟩]⟩,
  ⟨0x48, [], .anyDoor, [⟨31, 0, .ro, 0, 0, 4294967295⟩]⟩,
  ⟨0x4C, [], .anyDoor, [⟨1, 0, .ro, 0, 0, 3⟩]⟩,
  ⟨0x50, [(4, 4)], (.perDoor 0), [⟨31, 0, .rws, 0, 0, 4294967295⟩]⟩]

/-- Every register word of block PLT beyond the common registers. -/
def regPLT : List WordDef := regPLT_part0

/-! ### Registers of block CLK -/

def CLK_PLL_STAT_LOCK : Fld := ⟨0x100040, 7, 0⟩
def CLK_PLL_STAT_TREAD_LOCK : Fld := ⟨0x100040, 8, 8⟩
def CLK_PLL_STAT_DRAM_ALT : Fld := ⟨0x100040, 9, 9⟩
def CLK_PLL_STAT_UCR_ALT : Fld := ⟨0x100040, 10, 10⟩
def CLK_OBS_SRC : Fld := ⟨0x100044, 3, 0⟩
def CLK_OBS_EN : Fld := ⟨0x100044, 4, 4⟩
def CLK_OBS_DIV : Fld := ⟨0x100044, 20, 5⟩
def CLK_MON_STAT_COUNT (r : Nat) : Fld := ⟨0x100080 + 8 * r, 15, 0⟩
def CLK_MON_STAT_FAIL (r : Nat) : Fld := ⟨0x100080 + 8 * r, 16, 16⟩
def CLK_MON_STAT_SEEN (r : Nat) : Fld := ⟨0x100080 + 8 * r, 17, 17⟩
def CLK_MON_STAT_FAILS (r : Nat) : Fld := ⟨0x100084 + 8 * r, 15, 0⟩
def CLK_SEL_SRC (d : Nat) : Fld := ⟨0x100200 + 16 * d, 0, 0⟩
def CLK_SW_STAT_CUR (d : Nat) : Fld := ⟨0x100204 + 16 * d, 0, 0⟩
def CLK_SW_STAT_BUSY (d : Nat) : Fld := ⟨0x100204 + 16 * d, 1, 1⟩
def CLK_SW_STAT_FORCED (d : Nat) : Fld := ⟨0x100204 + 16 * d, 2, 2⟩
def CLK_SW_STAT_SWITCHES (d : Nat) : Fld := ⟨0x100204 + 16 * d, 31, 16⟩
def CLK_GATE_CMD (n : Nat) : Fld := ⟨0x101000 + 4 * n, 1, 0⟩
def CLK_GATE_OPEN (n : Nat) : Fld := ⟨0x101000 + 4 * n, 2, 2⟩
def CLK_GATE_HELD (n : Nat) : Fld := ⟨0x101000 + 4 * n, 3, 3⟩
def CLK_GATE_STATUS (n : Nat) : Fld := ⟨0x101000 + 4 * n, 6, 4⟩
def CLK_GATE_PARENT (n : Nat) : Fld := ⟨0x101000 + 4 * n, 14, 8⟩
def CLK_GATE_LEVEL (n : Nat) : Fld := ⟨0x101000 + 4 * n, 16, 15⟩
def PWR_CTRL_TARGET : Fld := ⟨0x108000, 1, 0⟩
def PWR_STAT_STATE : Fld := ⟨0x108004, 2, 0⟩
def PWR_STAT_WAKE : Fld := ⟨0x108004, 6, 4⟩
def PWR_STAT_WAKE_FAIL : Fld := ⟨0x108004, 7, 7⟩
def PWR_WAKE_CFG_PIN_EN : Fld := ⟨0x108008, 0, 0⟩
def PWR_WAKE_CFG_ALARM_EN : Fld := ⟨0x108008, 1, 1⟩
def PWR_WAKE_CFG_CAP_EN : Fld := ⟨0x108008, 2, 2⟩
def PWR_WAKE_CFG_CAP_CH : Fld := ⟨0x108008, 6, 3⟩
def PWR_WAKE_CFG_CAP_EDGE : Fld := ⟨0x108008, 7, 7⟩
def PWR_WAKE_AT_TREADS : Fld := ⟨0x108010, 31, 0⟩
def PWR_WAKE_AT_SEC_LO : Fld := ⟨0x108014, 31, 0⟩
def PWR_WAKE_AT_SEC_HI : Fld := ⟨0x108018, 15, 0⟩
def PWR_KEEP_COUNT_COUNT : Fld := ⟨0x10801C, 15, 0⟩

/-- Register words of CLK, part 0: address, instances, write guard and fields. -/
def regCLK_part0 : List WordDef := [
  ⟨0x100040, [], .devOwner, [⟨7, 0, .ro, 0, 0, 255⟩, ⟨8, 8, .ro, 0, 0, 1⟩, ⟨9, 9, .ro, 0, 0, 1⟩, ⟨10, 10, .ro, 0, 0, 1⟩]⟩,
  ⟨0x100044, [], .devOwner, [⟨3, 0, .rw, 0, 0, 13⟩, ⟨4, 4, .rw, 0, 0, 1⟩, ⟨20, 5, .rw, 0, 0, 65535⟩]⟩,
  ⟨0x100080, [(3, 8)], .devOwner, [⟨15, 0, .ro, 0, 0, 65535⟩, ⟨16, 16, .ro, 0, 0, 1⟩, ⟨17, 17, .w1c, 0, 0, 1⟩]⟩,
  ⟨0x100084, [(3, 8)], .devOwner, [⟨15, 0, .ro, 0, 0, 65535⟩]⟩,
  ⟨0x100200, [(3, 16)], .devOwner, [⟨0, 0, .rw, 0, 0, 1⟩]⟩,
  ⟨0x100204, [(5, 16)], .devOwner, [⟨0, 0, .ro, 0, 0, 1⟩, ⟨1, 1, .ro, 0, 0, 1⟩, ⟨2, 2, .w1c, 0, 0, 1⟩, ⟨31, 16, .ro, 0, 0, 65535⟩]⟩,
  ⟨0x101000, [(84, 4)], .devOwner, [⟨1, 0, .wo, 0, 0, 3⟩, ⟨2, 2, .ro, 0, 0, 1⟩, ⟨3, 3, .ro, 0, 0, 1⟩, ⟨6, 4, .ro, 0, 0, 7⟩, ⟨14, 8, .ro, 0, 0, 127⟩, ⟨16, 15, .ro, 0, 0, 3⟩]⟩,
  ⟨0x108000, [], .devOwner, [⟨1, 0, .wo, 0, 0, 2⟩]⟩,
  ⟨0x108004, [], .devOwner, [⟨2, 0, .ro, 0, 0, 7⟩, ⟨6, 4, .rws, 0, 0, 4⟩, ⟨7, 7, .w1c, 0, 0, 1⟩]⟩,
  ⟨0x108008, [], .devOwner, [⟨0, 0, .rwl, 0, 0, 1⟩, ⟨1, 1, .rwl, 0, 0, 1⟩, ⟨2, 2, .rwl, 0, 0, 1⟩, ⟨6, 3, .rwl, 0, 0, 8⟩, ⟨7, 7, .rwl, 0, 0, 1⟩]⟩,
  ⟨0x108010, [], .devOwner, [⟨31, 0, .rws, 0, 0, 141119999⟩]⟩,
  ⟨0x108014, [], .devOwner, [⟨31, 0, .rws, 0, 0, 4294967295⟩]⟩,
  ⟨0x108018, [], .devOwner, [⟨15, 0, .rws, 0, 0, 65535⟩]⟩,
  ⟨0x10801C, [], .devOwner, [⟨15, 0, .rws, 0, 0, 65535⟩]⟩]

/-- Every register word of block CLK beyond the common registers. -/
def regCLK : List WordDef := regCLK_part0

/-! ### Registers of block EVT -/

def EVT_STAT_FATAL_OPEN : Fld := ⟨0x200040, 7, 0⟩
def EVT_LOG_STAT_NEXT : Fld := ⟨0x200044, 7, 0⟩
def EVT_LOG_STAT_WRAPPED : Fld := ⟨0x200044, 8, 8⟩
def EVT_LOG_STAT_LOST : Fld := ⟨0x200044, 23, 16⟩
def EVT_LOG_STAT_ACCESS_DROP : Fld := ⟨0x200044, 31, 24⟩
def EVT_LOG_SEQ_SEQ_LO : Fld := ⟨0x200048, 31, 0⟩
def EVT_LOG_SEQ_SEQ_HI : Fld := ⟨0x20004C, 31, 0⟩
def EVT_ALERT_LAST : Fld := ⟨0x200050, 10, 0⟩
def EVT_ALERT_COUNT : Fld := ⟨0x200050, 27, 12⟩
def EVT_ALERT_ACTIVE : Fld := ⟨0x200050, 31, 31⟩
def EVT_TEST_EVENT : Fld := ⟨0x200054, 10, 0⟩
def EVT_LAST_EVENT : Fld := ⟨0x200058, 10, 0⟩
def EVT_LAST_TEST : Fld := ⟨0x200058, 11, 11⟩
def EVT_PEND_PEND (d w : Nat) : Fld := ⟨0x201000 + 256 * d + 4 * w, 31, 0⟩

/-- Register words of EVT, part 0: address, instances, write guard and fields. -/
def regEVT_part0 : List WordDef := [
  ⟨0x200040, [], .devOwner, [⟨7, 0, .ro, 0, 0, 255⟩]⟩,
  ⟨0x200044, [], .devOwner, [⟨7, 0, .ro, 0, 0, 255⟩, ⟨8, 8, .ro, 0, 0, 1⟩, ⟨23, 16, .ro, 0, 0, 255⟩, ⟨31, 24, .ro, 0, 0, 255⟩]⟩,
  ⟨0x200048, [], .devOwner, [⟨31, 0, .ro, 1, 0, 4294967295⟩]⟩,
  ⟨0x20004C, [], .devOwner, [⟨31, 0, .ro, 0, 0, 4294967295⟩]⟩,
  ⟨0x200050, [], .devOwner, [⟨10, 0, .ro, 0, 0, 2047⟩, ⟨27, 12, .ro, 0, 0, 65535⟩, ⟨31, 31, .w1c, 0, 0, 1⟩]⟩,
  ⟨0x200054, [], .devOwner, [⟨10, 0, .wo, 0, 0, 1535⟩]⟩,
  ⟨0x200058, [], .devOwner, [⟨10, 0, .ro, 0, 0, 2047⟩, ⟨11, 11, .ro, 0, 0, 1⟩]⟩,
  ⟨0x201000, [(4, 256), (48, 4)], (.perDoor 0), [⟨31, 0, .w1c, 0, 0, 4294967295⟩]⟩]

/-- Every register word of block EVT beyond the common registers. -/
def regEVT : List WordDef := regEVT_part0

/-! ### Registers of block WLD -/

def WLD_DOOR_CLOISTER : Fld := ⟨0x300040, 3, 0⟩
def WLD_PART_CLOISTER : Fld := ⟨0x300044, 15, 0⟩
def WLD_ENG_DEC : Fld := ⟨0x300048, 7, 0⟩
def WLD_ENG_HAL : Fld := ⟨0x300048, 11, 8⟩
def WLD_ENG_ENC : Fld := ⟨0x300048, 19, 12⟩
def WLD_FAULT_LAST_BLOCK : Fld := ⟨0x300050, 11, 0⟩
def WLD_FAULT_LAST_INTERNAL : Fld := ⟨0x300050, 12, 12⟩
def WLD_FAULT_LAST_DOOR : Fld := ⟨0x300050, 14, 13⟩
def WLD_FAULT_LAST_PORT : Fld := ⟨0x300050, 19, 15⟩
def WLD_FAULT_LAST_WRITE : Fld := ⟨0x300050, 20, 20⟩
def WLD_FAULT_LAST_TARGET : Fld := ⟨0x300054, 31, 0⟩
def WLD_FAULT_COUNT_DOOR : Fld := ⟨0x300058, 15, 0⟩
def WLD_FAULT_COUNT_INTERNAL : Fld := ⟨0x300058, 31, 16⟩
def WLD_REGION_CLOISTER (w : Nat) : Fld := ⟨0x300080 + 4 * w, 31, 0⟩
def WLD_LND_CLOISTER (w : Nat) : Fld := ⟨0x300100 + 4 * w, 31, 0⟩

/-- Register words of WLD, part 0: address, instances, write guard and fields. -/
def regWLD_part0 : List WordDef := [
  ⟨0x300040, [], .devOwner, [⟨3, 0, .rwl, 0, 0, 15⟩]⟩,
  ⟨0x300044, [], .devOwner, [⟨15, 0, .rwl, 0, 0, 65535⟩]⟩,
  ⟨0x300048, [], .devOwner, [⟨7, 0, .rwl, 0, 0, 255⟩, ⟨11, 8, .rwl, 0, 0, 15⟩, ⟨19, 12, .rwl, 0, 0, 255⟩]⟩,
  ⟨0x300050, [], .devOwner, [⟨11, 0, .ro, 0, 0, 4095⟩, ⟨12, 12, .ro, 0, 0, 1⟩, ⟨14, 13, .ro, 0, 0, 3⟩, ⟨19, 15, .ro, 0, 0, 31⟩, ⟨20, 20, .ro, 0, 0, 1⟩]⟩,
  ⟨0x300054, [], .devOwner, [⟨31, 0, .ro, 0, 0, 4294967295⟩]⟩,
  ⟨0x300058, [], .devOwner, [⟨15, 0, .ro, 0, 0, 65535⟩, ⟨31, 16, .ro, 0, 0, 65535⟩]⟩,
  ⟨0x300080, [(8, 4)], .devOwner, [⟨31, 0, .rwl, 0, 0, 4294967295⟩]⟩,
  ⟨0x300100, [(16, 4)], .devOwner, [⟨31, 0, .rwl, 0, 0, 4294967295⟩]⟩]

/-- Every register word of block WLD beyond the common registers. -/
def regWLD : List WordDef := regWLD_part0

/-! ### Registers of block CHT -/

def CHT_STAT_STEP : Fld := ⟨0x400040, 3, 0⟩
def CHT_STAT_STOPPED : Fld := ⟨0x400040, 4, 4⟩
def CHT_STAT_SEALED : Fld := ⟨0x400040, 5, 5⟩
def CHT_STAT_SLOT : Fld := ⟨0x400040, 6, 6⟩
def CHT_STAT_SLOW : Fld := ⟨0x400040, 7, 7⟩
def CHT_STAT_CODE_A : Fld := ⟨0x400040, 11, 8⟩
def CHT_STAT_CODE_B : Fld := ⟨0x400040, 15, 12⟩
def CHT_STAT_PAIRED : Fld := ⟨0x400040, 16, 16⟩
def CHT_STEP_DONE_US (n : Nat) : Fld := ⟨0x400080 + 4 * n, 31, 0⟩
def CHT_DIGEST_HASH (n : Nat) : Fld := ⟨0x400100 + 4 * n, 31, 0⟩
def CHT_SERIAL_SERIAL_LO : Fld := ⟨0x400140, 31, 0⟩
def CHT_SERIAL_SERIAL_HI : Fld := ⟨0x400144, 31, 0⟩
def CHT_ROLE_TWIN : Fld := ⟨0x400148, 1, 0⟩
def CHT_ROLE_TIME_OWNER : Fld := ⟨0x400148, 3, 2⟩
def CHT_ROLE_DEV_OWNER : Fld := ⟨0x400148, 5, 4⟩
def CHT_ROLE_SHAPE : Fld := ⟨0x400148, 6, 6⟩
def CHT_ROLE_DOORS : Fld := ⟨0x400148, 11, 8⟩
def CHT_WAIT_PAIR_WAIT : Fld := ⟨0x40014C, 15, 0⟩
def CHT_WAIT_PTP_WAIT : Fld := ⟨0x40014C, 31, 16⟩
def CHT_RESET_WARM : Fld := ⟨0x400150, 0, 0⟩
def CHT_RESET_DOOR : Fld := ⟨0x400150, 1, 1⟩
def CHT_RESET_TARGET : Fld := ⟨0x400150, 3, 2⟩
def CHT_WARM_COUNT_COUNT : Fld := ⟨0x400154, 15, 0⟩
def CHT_OWNER_QUERY_KIND : Fld := ⟨0x400160, 3, 0⟩
def CHT_OWNER_QUERY_ID : Fld := ⟨0x400160, 20, 4⟩
def CHT_OWNER_RESULT_DOOR : Fld := ⟨0x400164, 1, 0⟩
def CHT_OWNER_RESULT_ASSIGNED : Fld := ⟨0x400164, 2, 2⟩
def CHT_OWNER_RESULT_SHARED : Fld := ⟨0x400164, 3, 3⟩
def CHT_OWNER_RESULT_VALID : Fld := ⟨0x400164, 31, 31⟩
def CHT_PAIR_DIGEST_HASH (n : Nat) : Fld := ⟨0x400180 + 4 * n, 31, 0⟩
def CHT_REC_CTRL_CMD : Fld := ⟨0x400200, 2, 0⟩
def CHT_REC_CTRL_GO : Fld := ⟨0x400200, 3, 3⟩
def CHT_REC_CTRL_BUSY : Fld := ⟨0x400200, 4, 4⟩
def CHT_REC_CTRL_ERR : Fld := ⟨0x400200, 5, 5⟩
def CHT_REC_ADDR_ADDR : Fld := ⟨0x400204, 27, 0⟩
def CHT_REC_BUF_DATA (n : Nat) : Fld := ⟨0x400300 + 4 * n, 31, 0⟩

/-- Register words of CHT, part 0: address, instances, write guard and fields. -/
def regCHT_part0 : List WordDef := [
  ⟨0x400040, [], .anyDoor, [⟨3, 0, .ro, 0, 0, 15⟩, ⟨4, 4, .ro, 0, 0, 1⟩, ⟨5, 5, .ro, 0, 0, 1⟩, ⟨6, 6, .ro, 0, 0, 1⟩, ⟨7, 7, .ro, 0, 0, 1⟩, ⟨11, 8, .ro, 0, 0, 15⟩, ⟨15, 12, .ro, 0, 0, 15⟩, ⟨16, 16, .ro, 0, 0, 1⟩]⟩,
  ⟨0x400080, [(11, 4)], .anyDoor, [⟨31, 0, .ro, 0, 0, 4294967295⟩]⟩,
  ⟨0x400100, [(12, 4)], .anyDoor, [⟨31, 0, .ro, 0, 0, 4294967295⟩]⟩,
  ⟨0x400140, [], .anyDoor, [⟨31, 0, .ro, 0, 0, 4294967295⟩]⟩,
  ⟨0x400144, [], .anyDoor, [⟨31, 0, .ro, 0, 0, 4294967295⟩]⟩,
  ⟨0x400148, [], .anyDoor, [⟨1, 0, .ro, 0, 0, 3⟩, ⟨3, 2, .ro, 0, 0, 3⟩, ⟨5, 4, .ro, 0, 0, 3⟩, ⟨6, 6, .ro, 0, 0, 1⟩, ⟨11, 8, .ro, 0, 0, 15⟩]⟩,
  ⟨0x40014C, [], .anyDoor, [⟨15, 0, .ro, 0, 0, 65535⟩, ⟨31, 16, .ro, 0, 0, 65535⟩]⟩,
  ⟨0x400150, [], .anyDoor, [⟨0, 0, .wo, 0, 0, 1⟩, ⟨1, 1, .wo, 0, 0, 1⟩, ⟨3, 2, .wo, 0, 0, 3⟩]⟩,
  ⟨0x400154, [], .anyDoor, [⟨15, 0, .rws, 0, 0, 65535⟩]⟩,
  ⟨0x400160, [], .anyDoor, [⟨3, 0, .wo, 0, 0, 14⟩, ⟨20, 4, .wo, 0, 0, 131071⟩]⟩,
  ⟨0x400164, [], .anyDoor, [⟨1, 0, .ro, 0, 0, 3⟩, ⟨2, 2, .ro, 0, 0, 1⟩, ⟨3, 3, .ro, 0, 0, 1⟩, ⟨31, 31, .ro, 0, 0, 1⟩]⟩,
  ⟨0x400180, [(12, 4)], .anyDoor, [⟨31, 0, .ro, 0, 0, 4294967295⟩]⟩,
  ⟨0x400200, [], .anyDoor, [⟨2, 0, .rw, 0, 0, 4⟩, ⟨3, 3, .wo, 0, 0, 1⟩, ⟨4, 4, .ro, 0, 0, 1⟩, ⟨5, 5, .w1c, 0, 0, 1⟩]⟩,
  ⟨0x400204, [], .anyDoor, [⟨27, 0, .rw, 0, 0, 268435455⟩]⟩,
  ⟨0x400300, [(64, 4)], .anyDoor, [⟨31, 0, .rw, 0, 0, 4294967295⟩]⟩]

/-- Every register word of block CHT beyond the common registers. -/
def regCHT : List WordDef := regCHT_part0

/-! ### Registers of block DOR -/

def DOR_EPOCH_NOW_EPOCH_LO : Fld := ⟨0x500040, 31, 0⟩
def DOR_EPOCH_NOW_EPOCH_HI : Fld := ⟨0x500044, 31, 0⟩
def DOR_EPOCH_NOW_TREADS : Fld := ⟨0x500048, 31, 0⟩
def DOR_EPOCH_NOW_SEC_LO : Fld := ⟨0x50004C, 31, 0⟩
def DOR_EPOCH_NOW_SEC_HI : Fld := ⟨0x500050, 15, 0⟩
def DOR_COMMIT_STAT_WORDS : Fld := ⟨0x500058, 14, 0⟩
def DOR_COMMIT_STAT_CARRY : Fld := ⟨0x500058, 15, 15⟩
def DOR_COMMIT_STAT_CARRIES : Fld := ⟨0x500058, 31, 16⟩
def DOR_SKEW_BLOCK : Fld := ⟨0x50005C, 11, 0⟩
def DOR_SKEW_INST : Fld := ⟨0x50005C, 28, 12⟩
def DOR_SKEW_COUNT : Fld := ⟨0x500060, 15, 0⟩
def DOR_STAT_PHASE (d : Nat) : Fld := ⟨0x501000 + 4096 * d, 1, 0⟩
def DOR_STAT_LINK (d : Nat) : Fld := ⟨0x501000 + 4096 * d, 2, 2⟩
def DOR_STAT_SPEED (d : Nat) : Fld := ⟨0x501000 + 4096 * d, 5, 3⟩
def DOR_STAT_WIDTH (d : Nat) : Fld := ⟨0x501000 + 4096 * d, 9, 6⟩
def DOR_SEQ_SEQ_LO (d : Nat) : Fld := ⟨0x501008 + 4096 * d, 31, 0⟩
def DOR_SEQ_SEQ_HI (d : Nat) : Fld := ⟨0x50100C + 4096 * d, 31, 0⟩
def DOR_VIEW_EPOCH_LO (d : Nat) : Fld := ⟨0x501010 + 4096 * d, 31, 0⟩
def DOR_VIEW_EPOCH_HI (d : Nat) : Fld := ⟨0x501014 + 4096 * d, 31, 0⟩
def DOR_VIEW_RETAIN (d : Nat) : Fld := ⟨0x501018 + 4096 * d, 16, 0⟩
def DOR_VIEW_MOVED (d : Nat) : Fld := ⟨0x501018 + 4096 * d, 17, 17⟩
def DOR_MALFORMED_COUNT (d : Nat) : Fld := ⟨0x501020 + 4096 * d, 31, 0⟩
def DOR_DEFER_LEVEL (d : Nat) : Fld := ⟨0x501024 + 4096 * d, 10, 0⟩
def DOR_RQ_BASE_BASE_LO (d r : Nat) : Fld := ⟨0x501100 + 4096 * d + 64 * r, 31, 12⟩
def DOR_RQ_BASE_BASE_HI (d r : Nat) : Fld := ⟨0x501104 + 4096 * d + 64 * r, 31, 0⟩
def DOR_RQ_CFG_EN (d r : Nat) : Fld := ⟨0x501108 + 4096 * d + 64 * r, 0, 0⟩
def DOR_RQ_CFG_LOG2SIZE (d r : Nat) : Fld := ⟨0x501108 + 4096 * d + 64 * r, 5, 1⟩
def DOR_RQ_CFG_CQ (d r : Nat) : Fld := ⟨0x501108 + 4096 * d + 64 * r, 8, 6⟩
def DOR_RQ_CFG_KIND (d r : Nat) : Fld := ⟨0x501108 + 4096 * d + 64 * r, 9, 9⟩
def DOR_RQ_CFG_STALL (d r : Nat) : Fld := ⟨0x501108 + 4096 * d + 64 * r, 10, 10⟩
def DOR_RQ_PTR_TAIL (d r : Nat) : Fld := ⟨0x50110C + 4096 * d + 64 * r, 15, 0⟩
def DOR_RQ_PTR_HEAD (d r : Nat) : Fld := ⟨0x50110C + 4096 * d + 64 * r, 31, 16⟩
def DOR_CQ_BASE_BASE_LO (d c : Nat) : Fld := ⟨0x501300 + 4096 * d + 64 * c, 31, 12⟩
def DOR_CQ_BASE_BASE_HI (d c : Nat) : Fld := ⟨0x501304 + 4096 * d + 64 * c, 31, 0⟩
def DOR_CQ_CFG_EN (d c : Nat) : Fld := ⟨0x501308 + 4096 * d + 64 * c, 0, 0⟩
def DOR_CQ_CFG_LOG2SIZE (d c : Nat) : Fld := ⟨0x501308 + 4096 * d + 64 * c, 5, 1⟩
def DOR_CQ_CFG_VECTOR (d c : Nat) : Fld := ⟨0x501308 + 4096 * d + 64 * c, 16, 6⟩
def DOR_CQ_CFG_LOST (d c : Nat) : Fld := ⟨0x501308 + 4096 * d + 64 * c, 17, 17⟩
def DOR_CQ_PTR_HEAD (d c : Nat) : Fld := ⟨0x50130C + 4096 * d + 64 * c, 15, 0⟩
def DOR_CQ_PTR_TAIL (d c : Nat) : Fld := ⟨0x50130C + 4096 * d + 64 * c, 31, 16⟩
def DOR_JRN_BASE_BASE_LO (d : Nat) : Fld := ⟨0x501500 + 4096 * d, 31, 12⟩
def DOR_JRN_BASE_BASE_HI (d : Nat) : Fld := ⟨0x501504 + 4096 * d, 31, 0⟩
def DOR_JRN_CFG_EN (d : Nat) : Fld := ⟨0x501508 + 4096 * d, 0, 0⟩
def DOR_JRN_CFG_LOG2SIZE (d : Nat) : Fld := ⟨0x501508 + 4096 * d, 5, 1⟩
def DOR_JRN_CFG_KINDS (d : Nat) : Fld := ⟨0x501508 + 4096 * d, 12, 6⟩
def DOR_JRN_CFG_ALL (d : Nat) : Fld := ⟨0x501508 + 4096 * d, 13, 13⟩
def DOR_JRN_CFG_VECTOR (d : Nat) : Fld := ⟨0x501508 + 4096 * d, 24, 14⟩
def DOR_JRN_HEAD_HEAD (d : Nat) : Fld := ⟨0x50150C + 4096 * d, 19, 0⟩
def DOR_JRN_TAIL_TAIL (d : Nat) : Fld := ⟨0x501510 + 4096 * d, 19, 0⟩
def DOR_JRN_DROP_COUNT (d : Nat) : Fld := ⟨0x501514 + 4096 * d, 31, 0⟩
def MSIX_ADDR_LO (d v : Nat) : Fld := ⟨0x508000 + 32768 * d + 16 * v, 31, 0⟩
def MSIX_ADDR_HI (d v : Nat) : Fld := ⟨0x508004 + 32768 * d + 16 * v, 31, 0⟩
def MSIX_DATA (d v : Nat) : Fld := ⟨0x508008 + 32768 * d + 16 * v, 31, 0⟩
def MSIX_MASK (d v : Nat) : Fld := ⟨0x50800C + 32768 * d + 16 * v, 0, 0⟩
def MSIX_PBA (d w : Nat) : Fld := ⟨0x528000 + 256 * d + 4 * w, 31, 0⟩

/-- Register words of DOR, part 0: address, instances, write guard and fields. -/
def regDOR_part0 : List WordDef := [
  ⟨0x500040, [], .anyDoor, [⟨31, 0, .ro, 0, 0, 4294967295⟩]⟩,
  ⟨0x500044, [], .anyDoor, [⟨31, 0, .ro, 0, 0, 4294967295⟩]⟩,
  ⟨0x500048, [], .anyDoor, [⟨31, 0, .ro, 0, 0, 4294967295⟩]⟩,
  ⟨0x50004C, [], .anyDoor, [⟨31, 0, .ro, 0, 0, 4294967295⟩]⟩,
  ⟨0x500050, [], .anyDoor, [⟨15, 0, .ro, 0, 0, 65535⟩]⟩,
  ⟨0x500058, [], .anyDoor, [⟨14, 0, .ro, 0, 0, 32767⟩, ⟨15, 15, .w1c, 0, 0, 1⟩, ⟨31, 16, .ro, 0, 0, 65535⟩]⟩,
  ⟨0x50005C, [], .anyDoor, [⟨11, 0, .ro, 0, 0, 4095⟩, ⟨28, 12, .ro, 0, 0, 131071⟩]⟩,
  ⟨0x500060, [], .anyDoor, [⟨15, 0, .ro, 0, 0, 65535⟩]⟩,
  ⟨0x501000, [(4, 4096)], (.perDoor 0), [⟨1, 0, .ro, 0, 0, 3⟩, ⟨2, 2, .ro, 0, 0, 1⟩, ⟨5, 3, .ro, 0, 0, 7⟩, ⟨9, 6, .ro, 0, 0, 15⟩]⟩,
  ⟨0x501008, [(4, 4096)], (.perDoor 0), [⟨31, 0, .ro, 1, 0, 4294967295⟩]⟩,
  ⟨0x50100C, [(4, 4096)], (.perDoor 0), [⟨31, 0, .ro, 0, 0, 4294967295⟩]⟩,
  ⟨0x501010, [(4, 4096)], (.perDoor 0), [⟨31, 0, .ro, 0, 0, 4294967295⟩]⟩,
  ⟨0x501014, [(4, 4096)], (.perDoor 0), [⟨31, 0, .ro, 0, 0, 4294967295⟩]⟩,
  ⟨0x501018, [(4, 4096)], (.perDoor 0), [⟨16, 0, .ro, 0, 0, 131071⟩, ⟨17, 17, .w1c, 0, 0, 1⟩]⟩,
  ⟨0x501020, [(4, 4096)], (.perDoor 0), [⟨31, 0, .ro, 0, 0, 4294967295⟩]⟩,
  ⟨0x501024, [(4, 4096)], (.perDoor 0), [⟨10, 0, .ro, 0, 0, 2047⟩]⟩,
  ⟨0x501100, [(4, 4096), (8, 64)], (.perDoor 0), [⟨31, 12, .rw, 0, 0, 1048575⟩]⟩,
  ⟨0x501104, [(4, 4096), (8, 64)], (.perDoor 0), [⟨31, 0, .rw, 0, 0, 4294967295⟩]⟩,
  ⟨0x501108, [(4, 4096), (8, 64)], (.perDoor 0), [⟨0, 0, .rw, 0, 0, 1⟩, ⟨5, 1, .rw, 4, 4, 16⟩, ⟨8, 6, .rw, 0, 0, 7⟩, ⟨9, 9, .rw, 0, 0, 1⟩, ⟨10, 10, .ro, 0, 0, 1⟩]⟩,
  ⟨0x50110C, [(4, 4096), (8, 64)], (.perDoor 0), [⟨15, 0, .rw, 0, 0, 65535⟩, ⟨31, 16, .ro, 0, 0, 65535⟩]⟩,
  ⟨0x501300, [(4, 4096), (8, 64)], (.perDoor 0), [⟨31, 12, .rw, 0, 0, 1048575⟩]⟩,
  ⟨0x501304, [(4, 4096), (8, 64)], (.perDoor 0), [⟨31, 0, .rw, 0, 0, 4294967295⟩]⟩,
  ⟨0x501308, [(4, 4096), (8, 64)], (.perDoor 0), [⟨0, 0, .rw, 0, 0, 1⟩, ⟨5, 1, .rw, 4, 4, 16⟩, ⟨16, 6, .rw, 0, 0, 2047⟩, ⟨17, 17, .w1c, 0, 0, 1⟩]⟩,
  ⟨0x50130C, [(4, 4096), (8, 64)], (.perDoor 0), [⟨15, 0, .rw, 0, 0, 65535⟩, ⟨31, 16, .ro, 0, 0, 65535⟩]⟩,
  ⟨0x501500, [(4, 4096)], (.perDoor 0), [⟨31, 12, .rw, 0, 0, 1048575⟩]⟩,
  ⟨0x501504, [(4, 4096)], (.perDoor 0), [⟨31, 0, .rw, 0, 0, 4294967295⟩]⟩,
  ⟨0x501508, [(4, 4096)], (.perDoor 0), [⟨0, 0, .rw, 0, 0, 1⟩, ⟨5, 1, .rw, 8, 8, 20⟩, ⟨12, 6, .rw, 127, 0, 127⟩, ⟨13, 13, .rw, 0, 0, 1⟩, ⟨24, 14, .rw, 0, 0, 2047⟩]⟩,
  ⟨0x50150C, [(4, 4096)], (.perDoor 0), [⟨19, 0, .rw, 0, 0, 1048575⟩]⟩,
  ⟨0x501510, [(4, 4096)], (.perDoor 0), [⟨19, 0, .ro, 0, 0, 1048575⟩]⟩,
  ⟨0x501514, [(4, 4096)], (.perDoor 0), [⟨31, 0, .ro, 0, 0, 4294967295⟩]⟩,
  ⟨0x508000, [(4, 32768), (2048, 16)], (.perDoor 0), [⟨31, 0, .rw, 0, 0, 4294967295⟩]⟩,
  ⟨0x508004, [(4, 32768), (2048, 16)], (.perDoor 0), [⟨31, 0, .rw, 0, 0, 4294967295⟩]⟩,
  ⟨0x508008, [(4, 32768), (2048, 16)], (.perDoor 0), [⟨31, 0, .rw, 0, 0, 4294967295⟩]⟩,
  ⟨0x50800C, [(4, 32768), (2048, 16)], (.perDoor 0), [⟨0, 0, .rw, 1, 0, 1⟩]⟩,
  ⟨0x528000, [(4, 256), (64, 4)], (.perDoor 0), [⟨31, 0, .ro, 0, 0, 4294967295⟩]⟩]

/-- Every register word of block DOR beyond the common registers. -/
def regDOR : List WordDef := regDOR_part0

/-! ### Registers of block TIM -/

def TIM_CTRL_RESTART : Fld := ⟨0x600040, 0, 0⟩
def TIM_STAT_STATE : Fld := ⟨0x600044, 2, 0⟩
def TIM_STAT_STEPPED : Fld := ⟨0x600044, 3, 3⟩
def TIM_STAT_FLIGHTS : Fld := ⟨0x600044, 4, 4⟩
def TIM_STAT_RATE_LIM : Fld := ⟨0x600044, 5, 5⟩
def TIM_STAT_REF_LOST : Fld := ⟨0x600044, 6, 6⟩
def TIM_STAT_STEP_GEN : Fld := ⟨0x600044, 11, 8⟩
def TIM_NOW_TREADS : Fld := ⟨0x600048, 31, 0⟩
def TIM_NOW_SEC_LO : Fld := ⟨0x60004C, 31, 0⟩
def TIM_NOW_SEC_HI : Fld := ⟨0x600050, 31, 0⟩
def TIM_NOW_NS_NS : Fld := ⟨0x600054, 29, 0⟩
def TIM_RATE_RATE_LO : Fld := ⟨0x600058, 31, 0⟩
def TIM_RATE_RATE_HI : Fld := ⟨0x60005C, 7, 0⟩
def TIM_SERVO_CFG_KP : Fld := ⟨0x600060, 15, 0⟩
def TIM_SERVO_CFG_KI : Fld := ⟨0x600060, 31, 16⟩
def TIM_LOCK_CFG_LOCK_THR : Fld := ⟨0x600064, 15, 0⟩
def TIM_LOCK_CFG_LOCK_COUNT : Fld := ⟨0x600064, 19, 16⟩
def TIM_LOCK_CFG_STEP_COUNT : Fld := ⟨0x600064, 23, 20⟩
def TIM_LOCK_CFG_UNLOCK_COUNT : Fld := ⟨0x600064, 27, 24⟩
def TIM_SPREAD_CFG_STEP_SPREAD : Fld := ⟨0x600068, 23, 0⟩
def TIM_UNLOCK_CFG_UNLOCK_THR : Fld := ⟨0x60006C, 23, 0⟩
def TIM_HOLD_CFG_HOLD_TIMEOUT : Fld := ⟨0x600070, 31, 0⟩
def TIM_SERVO_OFS_OFS_LO : Fld := ⟨0x600078, 31, 0⟩
def TIM_SERVO_OFS_OFS_MID : Fld := ⟨0x60007C, 31, 0⟩
def TIM_SERVO_OFS_OFS_HI : Fld := ⟨0x600080, 27, 0⟩
def TIM_SERVO_OFS_GEN : Fld := ⟨0x600080, 31, 28⟩
def TIM_SERVO_DISCARD_COUNT : Fld := ⟨0x600084, 31, 0⟩
def TIM_STEP_AT_TREADS : Fld := ⟨0x600088, 31, 0⟩
def TIM_STEP_AT_SEC_LO : Fld := ⟨0x60008C, 31, 0⟩
def TIM_STEP_AT_SEC_HI : Fld := ⟨0x600090, 15, 0⟩
def TIM_STEP_SIZE_D_LO : Fld := ⟨0x600098, 31, 0⟩
def TIM_STEP_SIZE_D_HI : Fld := ⟨0x60009C, 31, 0⟩
def TIM_FLIGHT_CFG_K : Fld := ⟨0x6000A0, 3, 0⟩
def TIM_FLIGHT_CFG_ARR_MARGIN : Fld := ⟨0x6000A0, 31, 16⟩
def TIM_FLIGHT_NOW_N_LO : Fld := ⟨0x6000A8, 31, 0⟩
def TIM_FLIGHT_NOW_N_HI : Fld := ⟨0x6000AC, 31, 0⟩
def TIM_FLIGHT_FIRST_TREADS : Fld := ⟨0x6000B0, 31, 0⟩
def TIM_FLIGHT_FIRST_SEC_LO : Fld := ⟨0x6000B4, 31, 0⟩
def TIM_FLIGHT_FIRST_SEC_HI : Fld := ⟨0x6000B8, 15, 0⟩
def TIM_TXQ_STAT_LEVEL : Fld := ⟨0x6000C0, 6, 0⟩
def TIM_TXQ_STAT_OVF : Fld := ⟨0x6000C0, 8, 8⟩
def TIM_TXQ_DROP_COUNT : Fld := ⟨0x6000C4, 31, 0⟩
def TIM_TXQ_ENTRY_ID : Fld := ⟨0x6000C8, 15, 0⟩
def TIM_TXQ_ENTRY_PORT : Fld := ⟨0x6000C8, 17, 16⟩
def TIM_TXQ_ENTRY_VALID : Fld := ⟨0x6000C8, 31, 31⟩
def TIM_TXQ_ENTRY_TREADS : Fld := ⟨0x6000CC, 31, 0⟩
def TIM_TXQ_ENTRY_SEC_LO : Fld := ⟨0x6000D0, 31, 0⟩
def TIM_TXQ_ENTRY_SEC_HI : Fld := ⟨0x6000D4, 15, 0⟩
def TIM_TXQ_POP_POP : Fld := ⟨0x6000D8, 0, 0⟩
def TIM_CAP_CFG_EDGES (n : Nat) : Fld := ⟨0x600200 + 32 * n, 1, 0⟩
def TIM_CAP_CFG_FILTER (n : Nat) : Fld := ⟨0x600200 + 32 * n, 15, 8⟩
def TIM_CAP_STAT_LEVEL (n : Nat) : Fld := ⟨0x600204 + 32 * n, 3, 0⟩
def TIM_CAP_STAT_OVF (n : Nat) : Fld := ⟨0x600204 + 32 * n, 8, 8⟩
def TIM_CAP_STAT_DROPS (n : Nat) : Fld := ⟨0x600204 + 32 * n, 31, 16⟩
def TIM_CAP_DATA_TREADS (n : Nat) : Fld := ⟨0x600208 + 32 * n, 31, 0⟩
def TIM_CAP_DATA_SEC_LO (n : Nat) : Fld := ⟨0x60020C + 32 * n, 31, 0⟩
def TIM_CAP_DATA_SEC_HI (n : Nat) : Fld := ⟨0x600210 + 32 * n, 15, 0⟩
def TIM_CAP_DATA_EDGE (n : Nat) : Fld := ⟨0x600210 + 32 * n, 16, 16⟩
def TIM_CAP_DATA_VALID (n : Nat) : Fld := ⟨0x600210 + 32 * n, 31, 31⟩
def TIM_CAP_POP_POP (n : Nat) : Fld := ⟨0x600214 + 32 * n, 0, 0⟩
def TIM_TOUT_CFG_MODE (n : Nat) : Fld := ⟨0x600400 + 32 * n, 2, 0⟩
def TIM_TOUT_CFG_POL (n : Nat) : Fld := ⟨0x600400 + 32 * n, 3, 3⟩
def TIM_TOUT_CFG_RATE (n : Nat) : Fld := ⟨0x600400 + 32 * n, 7, 4⟩
def TIM_TOUT_WIDTH_WIDTH (n : Nat) : Fld := ⟨0x600404 + 32 * n, 23, 0⟩
def TIM_TOUT_PERIOD_PERIOD (n : Nat) : Fld := ⟨0x600408 + 32 * n, 31, 0⟩
def TIM_TOUT_PHASE_PHASE (n : Nat) : Fld := ⟨0x60040C + 32 * n, 31, 0⟩
def TIM_TOUT_AT_TREADS (n : Nat) : Fld := ⟨0x600410 + 32 * n, 31, 0⟩
def TIM_TOUT_AT_SEC_LO (n : Nat) : Fld := ⟨0x600414 + 32 * n, 31, 0⟩
def TIM_TOUT_AT_SEC_HI (n : Nat) : Fld := ⟨0x600418 + 32 * n, 15, 0⟩
def TIM_TOUT_STAT_FIRED (n : Nat) : Fld := ⟨0x60041C + 32 * n, 0, 0⟩
def TIM_TOUT_STAT_MISSED (n : Nat) : Fld := ⟨0x60041C + 32 * n, 1, 1⟩
def TIM_TOUT_STAT_BAD (n : Nat) : Fld := ⟨0x60041C + 32 * n, 2, 2⟩
def TIM_TOUT_STAT_LEVEL (n : Nat) : Fld := ⟨0x60041C + 32 * n, 3, 3⟩

/-- Register words of TIM, part 0: address, instances, write guard and fields. -/
def regTIM_part0 : List WordDef := [
  ⟨0x600040, [], .timeOwner, [⟨0, 0, .wo, 0, 0, 1⟩]⟩,
  ⟨0x600044, [], .anyDoor, [⟨2, 0, .ro, 0, 0, 7⟩, ⟨3, 3, .ro, 0, 0, 1⟩, ⟨4, 4, .ro, 0, 0, 1⟩, ⟨5, 5, .ro, 0, 0, 1⟩, ⟨6, 6, .ro, 0, 0, 1⟩, ⟨11, 8, .ro, 0, 0, 15⟩]⟩,
  ⟨0x600048, [], .anyDoor, [⟨31, 0, .ro, 0, 0, 4294967295⟩]⟩,
  ⟨0x60004C, [], .anyDoor, [⟨31, 0, .ro, 0, 0, 4294967295⟩]⟩,
  ⟨0x600050, [], .anyDoor, [⟨31, 0, .ro, 0, 0, 4294967295⟩]⟩,
  ⟨0x600054, [], .anyDoor, [⟨29, 0, .ro, 0, 0, 1073741823⟩]⟩,
  ⟨0x600058, [], .anyDoor, [⟨31, 0, .ro, 0, 0, 4294967295⟩]⟩,
  ⟨0x60005C, [], .anyDoor, [⟨7, 0, .ro, 0, 0, 255⟩]⟩,
  ⟨0x600060, [], .timeOwner, [⟨15, 0, .rw, 0, 0, 65535⟩, ⟨31, 16, .rw, 0, 0, 65535⟩]⟩,
  ⟨0x600064, [], .timeOwner, [⟨15, 0, .rw, 1000, 1, 65535⟩, ⟨19, 16, .rw, 8, 1, 15⟩, ⟨23, 20, .rw, 4, 1, 15⟩, ⟨27, 24, .rw, 2, 1, 15⟩]⟩,
  ⟨0x600068, [], .timeOwner, [⟨23, 0, .rw, 10000, 0, 16777215⟩]⟩,
  ⟨0x60006C, [], .timeOwner, [⟨23, 0, .rw, 10000, 0, 16777215⟩]⟩,
  ⟨0x600070, [], .timeOwner, [⟨31, 0, .rw, 423360000, 8820, 4294967295⟩]⟩,
  ⟨0x600078, [], .timeOwner, [⟨31, 0, .wo, 0, 0, 4294967295⟩]⟩,
  ⟨0x60007C, [], .timeOwner, [⟨31, 0, .wo, 0, 0, 4294967295⟩]⟩,
  ⟨0x600080, [], .timeOwner, [⟨27, 0, .wo, 0, 0, 268435455⟩, ⟨31, 28, .wo, 0, 0, 15⟩]⟩,
  ⟨0x600084, [], .anyDoor, [⟨31, 0, .ro, 0, 0, 4294967295⟩]⟩,
  ⟨0x600088, [], .anyDoor, [⟨31, 0, .ro, 0, 0, 4294967295⟩]⟩,
  ⟨0x60008C, [], .anyDoor, [⟨31, 0, .ro, 0, 0, 4294967295⟩]⟩,
  ⟨0x600090, [], .anyDoor, [⟨15, 0, .ro, 0, 0, 65535⟩]⟩,
  ⟨0x600098, [], .anyDoor, [⟨31, 0, .ro, 0, 0, 4294967295⟩]⟩,
  ⟨0x60009C, [], .anyDoor, [⟨31, 0, .ro, 0, 0, 4294967295⟩]⟩,
  ⟨0x6000A0, [], .anyDoor, [⟨3, 0, .ro, 0, 0, 15⟩, ⟨31, 16, .ro, 0, 0, 65535⟩]⟩,
  ⟨0x6000A8, [], .anyDoor, [⟨31, 0, .ro, 0, 0, 4294967295⟩]⟩,
  ⟨0x6000AC, [], .anyDoor, [⟨31, 0, .ro, 0, 0, 4294967295⟩]⟩,
  ⟨0x6000B0, [], .anyDoor, [⟨31, 0, .ro, 0, 0, 4294967295⟩]⟩,
  ⟨0x6000B4, [], .anyDoor, [⟨31, 0, .ro, 0, 0, 4294967295⟩]⟩,
  ⟨0x6000B8, [], .anyDoor, [⟨15, 0, .ro, 0, 0, 65535⟩]⟩,
  ⟨0x6000C0, [], .anyDoor, [⟨6, 0, .ro, 0, 0, 127⟩, ⟨8, 8, .w1c, 0, 0, 1⟩]⟩,
  ⟨0x6000C4, [], .anyDoor, [⟨31, 0, .ro, 0, 0, 4294967295⟩]⟩,
  ⟨0x6000C8, [], .anyDoor, [⟨15, 0, .ro, 0, 0, 65535⟩, ⟨17, 16, .ro, 0, 0, 3⟩, ⟨31, 31, .ro, 0, 0, 1⟩]⟩,
  ⟨0x6000CC, [], .anyDoor, [⟨31, 0, .ro, 0, 0, 4294967295⟩]⟩,
  ⟨0x6000D0, [], .anyDoor, [⟨31, 0, .ro, 0, 0, 4294967295⟩]⟩,
  ⟨0x6000D4, [], .anyDoor, [⟨15, 0, .ro, 0, 0, 65535⟩]⟩,
  ⟨0x6000D8, [], .timeOwner, [⟨0, 0, .wo, 0, 0, 1⟩]⟩,
  ⟨0x600200, [(9, 32)], (.object 10 0), [⟨1, 0, .rw, 0, 0, 3⟩, ⟨15, 8, .rw, 0, 0, 255⟩]⟩,
  ⟨0x600204, [(9, 32)], (.object 10 0), [⟨3, 0, .ro, 0, 0, 15⟩, ⟨8, 8, .w1c, 0, 0, 1⟩, ⟨31, 16, .ro, 0, 0, 65535⟩]⟩,
  ⟨0x600208, [(9, 32)], (.object 10 0), [⟨31, 0, .ro, 0, 0, 4294967295⟩]⟩,
  ⟨0x60020C, [(9, 32)], (.object 10 0), [⟨31, 0, .ro, 0, 0, 4294967295⟩]⟩,
  ⟨0x600210, [(9, 32)], (.object 10 0), [⟨15, 0, .ro, 0, 0, 65535⟩, ⟨16, 16, .ro, 0, 0, 1⟩, ⟨31, 31, .ro, 0, 0, 1⟩]⟩]

/-- Register words of TIM, part 1: address, instances, write guard and fields. -/
def regTIM_part1 : List WordDef := [
  ⟨0x600214, [(9, 32)], (.object 10 0), [⟨0, 0, .wo, 0, 0, 1⟩]⟩,
  ⟨0x600400, [(8, 32)], (.object 11 0), [⟨2, 0, .rwe, 0, 0, 4⟩, ⟨3, 3, .rwe, 0, 0, 1⟩, ⟨7, 4, .rwe, 0, 0, 12⟩]⟩,
  ⟨0x600404, [(8, 32)], (.object 11 0), [⟨23, 0, .rwe, 1, 1, 16777215⟩]⟩,
  ⟨0x600408, [(8, 32)], (.object 11 0), [⟨31, 0, .rwe, 141120000, 2, 4294967295⟩]⟩,
  ⟨0x60040C, [(8, 32)], (.object 11 0), [⟨31, 0, .rwe, 0, 0, 4294967295⟩]⟩,
  ⟨0x600410, [(8, 32)], (.object 11 0), [⟨31, 0, .rwe, 0, 0, 141119999⟩]⟩,
  ⟨0x600414, [(8, 32)], (.object 11 0), [⟨31, 0, .rwe, 0, 0, 4294967295⟩]⟩,
  ⟨0x600418, [(8, 32)], (.object 11 0), [⟨15, 0, .rwe, 0, 0, 65535⟩]⟩,
  ⟨0x60041C, [(8, 32)], (.object 11 0), [⟨0, 0, .w1c, 0, 0, 1⟩, ⟨1, 1, .w1c, 0, 0, 1⟩, ⟨2, 2, .ro, 0, 0, 1⟩, ⟨3, 3, .ro, 0, 0, 1⟩]⟩]

/-- Every register word of block TIM beyond the common registers. -/
def regTIM : List WordDef := regTIM_part0 ++ regTIM_part1

/-! ### Registers of block TCM -/

def TCM_DEC_CFG_EN (n : Nat) : Fld := ⟨0x701000 + 64 * n, 0, 0⟩
def TCM_DEC_CFG_RATE (n : Nat) : Fld := ⟨0x701000 + 64 * n, 3, 1⟩
def TCM_DEC_CFG_LEG (n : Nat) : Fld := ⟨0x701000 + 64 * n, 17, 4⟩
def TCM_DEC_STAT_STATE (n : Nat) : Fld := ⟨0x701004 + 64 * n, 1, 0⟩
def TCM_DEC_STAT_DIR (n : Nat) : Fld := ⟨0x701004 + 64 * n, 2, 2⟩
def TCM_DEC_STAT_LEVEL (n : Nat) : Fld := ⟨0x701004 + 64 * n, 7, 3⟩
def TCM_DEC_STAT_QUALITY (n : Nat) : Fld := ⟨0x701004 + 64 * n, 15, 8⟩
def TCM_DEC_STAT_OVF (n : Nat) : Fld := ⟨0x701004 + 64 * n, 16, 16⟩
def TCM_DEC_DATA_FRAMES (n : Nat) : Fld := ⟨0x701008 + 64 * n, 4, 0⟩
def TCM_DEC_DATA_SECONDS (n : Nat) : Fld := ⟨0x701008 + 64 * n, 10, 5⟩
def TCM_DEC_DATA_MINUTES (n : Nat) : Fld := ⟨0x701008 + 64 * n, 16, 11⟩
def TCM_DEC_DATA_HOURS (n : Nat) : Fld := ⟨0x701008 + 64 * n, 21, 17⟩
def TCM_DEC_DATA_DF (n : Nat) : Fld := ⟨0x701008 + 64 * n, 22, 22⟩
def TCM_DEC_DATA_CF (n : Nat) : Fld := ⟨0x701008 + 64 * n, 23, 23⟩
def TCM_DEC_DATA_BGF (n : Nat) : Fld := ⟨0x701008 + 64 * n, 25, 24⟩
def TCM_DEC_DATA_DIR (n : Nat) : Fld := ⟨0x701008 + 64 * n, 26, 26⟩
def TCM_DEC_DATA_BCD_ERR (n : Nat) : Fld := ⟨0x701008 + 64 * n, 30, 30⟩
def TCM_DEC_DATA_VALID (n : Nat) : Fld := ⟨0x701008 + 64 * n, 31, 31⟩
def TCM_DEC_DATA_USER (n : Nat) : Fld := ⟨0x70100C + 64 * n, 31, 0⟩
def TCM_DEC_DATA_TREADS (n : Nat) : Fld := ⟨0x701010 + 64 * n, 31, 0⟩
def TCM_DEC_DATA_SEC_LO (n : Nat) : Fld := ⟨0x701014 + 64 * n, 31, 0⟩
def TCM_DEC_DATA_SEC_HI (n : Nat) : Fld := ⟨0x701018 + 64 * n, 15, 0⟩
def TCM_DEC_DATA_SPEED (n : Nat) : Fld := ⟨0x701018 + 64 * n, 31, 16⟩
def TCM_DEC_DATA_QUALITY (n : Nat) : Fld := ⟨0x70101C + 64 * n, 7, 0⟩
def TCM_DEC_POP_POP (n : Nat) : Fld := ⟨0x701020 + 64 * n, 0, 0⟩
def TCM_GEN_CFG_EN (n : Nat) : Fld := ⟨0x702000 + 16 * n, 0, 0⟩
def TCM_GEN_CFG_RATE (n : Nat) : Fld := ⟨0x702000 + 16 * n, 3, 1⟩
def TCM_GEN_CFG_DF (n : Nat) : Fld := ⟨0x702000 + 16 * n, 4, 4⟩
def TCM_GEN_CFG_LEG (n : Nat) : Fld := ⟨0x702000 + 16 * n, 18, 5⟩
def TCM_GEN_AMPL_AMPL (n : Nat) : Fld := ⟨0x702004 + 16 * n, 19, 0⟩
def TCM_GEN_OFS_OFS (n : Nat) : Fld := ⟨0x702008 + 16 * n, 17, 0⟩
def TCM_TONE_CFG_EN (n : Nat) : Fld := ⟨0x704000 + 16 * n, 0, 0⟩
def TCM_TONE_CFG_LEG (n : Nat) : Fld := ⟨0x704000 + 16 * n, 14, 1⟩
def TCM_TONE_CFG_PRESENT (n : Nat) : Fld := ⟨0x704000 + 16 * n, 15, 15⟩
def TCM_TONE_QUAL_FREQ (n : Nat) : Fld := ⟨0x704004 + 16 * n, 11, 0⟩
def TCM_TONE_QUAL_TOL (n : Nat) : Fld := ⟨0x704004 + 16 * n, 18, 12⟩
def TCM_TONE_QUAL_THR (n : Nat) : Fld := ⟨0x704004 + 16 * n, 25, 19⟩
def TCM_TONE_TIME_MIN_ON (n : Nat) : Fld := ⟨0x704008 + 16 * n, 15, 0⟩
def TCM_TONE_TIME_MIN_OFF (n : Nat) : Fld := ⟨0x704008 + 16 * n, 31, 16⟩
def TCM_TONE_DATA_DET (d : Nat) : Fld := ⟨0x708000 + 32 * d, 9, 0⟩
def TCM_TONE_DATA_ON (d : Nat) : Fld := ⟨0x708000 + 32 * d, 10, 10⟩
def TCM_TONE_DATA_VALID (d : Nat) : Fld := ⟨0x708000 + 32 * d, 31, 31⟩
def TCM_TONE_DATA_TREADS (d : Nat) : Fld := ⟨0x708004 + 32 * d, 31, 0⟩
def TCM_TONE_DATA_SEC_LO (d : Nat) : Fld := ⟨0x708008 + 32 * d, 31, 0⟩
def TCM_TONE_DATA_SEC_HI (d : Nat) : Fld := ⟨0x70800C + 32 * d, 15, 0⟩
def TCM_TONE_STAT_LEVEL (d : Nat) : Fld := ⟨0x708010 + 32 * d, 6, 0⟩
def TCM_TONE_STAT_OVF (d : Nat) : Fld := ⟨0x708010 + 32 * d, 7, 7⟩
def TCM_TONE_STAT_DROPS (d : Nat) : Fld := ⟨0x708010 + 32 * d, 31, 16⟩
def TCM_TONE_POP_POP (d : Nat) : Fld := ⟨0x708014 + 32 * d, 0, 0⟩

/-- Register words of TCM, part 0: address, instances, write guard and fields. -/
def regTCM_part0 : List WordDef := [
  ⟨0x701000, [(64, 64)], (.object 12 0), [⟨0, 0, .rwe, 0, 0, 1⟩, ⟨3, 1, .rwe, 2, 0, 4⟩, ⟨17, 4, .rwe, 0, 0, 10239⟩]⟩,
  ⟨0x701004, [(64, 64)], (.object 12 0), [⟨1, 0, .ro, 0, 0, 3⟩, ⟨2, 2, .ro, 0, 0, 1⟩, ⟨7, 3, .ro, 0, 0, 31⟩, ⟨15, 8, .ro, 0, 0, 255⟩, ⟨16, 16, .w1c, 0, 0, 1⟩]⟩,
  ⟨0x701008, [(64, 64)], (.object 12 0), [⟨4, 0, .ro, 0, 0, 31⟩, ⟨10, 5, .ro, 0, 0, 63⟩, ⟨16, 11, .ro, 0, 0, 63⟩, ⟨21, 17, .ro, 0, 0, 31⟩, ⟨22, 22, .ro, 0, 0, 1⟩, ⟨23, 23, .ro, 0, 0, 1⟩, ⟨25, 24, .ro, 0, 0, 3⟩, ⟨26, 26, .ro, 0, 0, 1⟩, ⟨30, 30, .ro, 0, 0, 1⟩, ⟨31, 31, .ro, 0, 0, 1⟩]⟩,
  ⟨0x70100C, [(64, 64)], (.object 12 0), [⟨31, 0, .ro, 0, 0, 4294967295⟩]⟩,
  ⟨0x701010, [(64, 64)], (.object 12 0), [⟨31, 0, .ro, 0, 0, 4294967295⟩]⟩,
  ⟨0x701014, [(64, 64)], (.object 12 0), [⟨31, 0, .ro, 0, 0, 4294967295⟩]⟩,
  ⟨0x701018, [(64, 64)], (.object 12 0), [⟨15, 0, .ro, 0, 0, 65535⟩, ⟨31, 16, .ro, 0, 0, 65535⟩]⟩,
  ⟨0x70101C, [(64, 64)], (.object 12 0), [⟨7, 0, .ro, 0, 0, 255⟩]⟩,
  ⟨0x701020, [(64, 64)], (.object 12 0), [⟨0, 0, .wo, 0, 0, 1⟩]⟩,
  ⟨0x702000, [(64, 16)], (.object 13 0), [⟨0, 0, .rwe, 0, 0, 1⟩, ⟨3, 1, .rwe, 2, 0, 4⟩, ⟨4, 4, .rwe, 0, 0, 1⟩, ⟨18, 5, .rwe, 0, 0, 10239⟩]⟩,
  ⟨0x702004, [(64, 16)], (.object 13 0), [⟨19, 0, .rwe, 32768, 0, 262144⟩]⟩,
  ⟨0x702008, [(64, 16)], (.object 13 0), [⟨17, 0, .rwe, 0, 175745, 86399⟩]⟩,
  ⟨0x704000, [(1024, 16)], (.object 14 0), [⟨0, 0, .rwe, 0, 0, 1⟩, ⟨14, 1, .rwe, 0, 0, 10239⟩, ⟨15, 15, .ro, 0, 0, 1⟩]⟩,
  ⟨0x704004, [(1024, 16)], (.object 14 0), [⟨11, 0, .rwe, 2280, 300, 3400⟩, ⟨18, 12, .rwe, 15, 1, 127⟩, ⟨25, 19, .rwe, 60, 0, 127⟩]⟩,
  ⟨0x704008, [(1024, 16)], (.object 14 0), [⟨15, 0, .rwe, 40, 1, 65535⟩, ⟨31, 16, .rwe, 20, 1, 65535⟩]⟩,
  ⟨0x708000, [(4, 32)], (.perDoor 0), [⟨9, 0, .ro, 0, 0, 1023⟩, ⟨10, 10, .ro, 0, 0, 1⟩, ⟨31, 31, .ro, 0, 0, 1⟩]⟩,
  ⟨0x708004, [(4, 32)], (.perDoor 0), [⟨31, 0, .ro, 0, 0, 4294967295⟩]⟩,
  ⟨0x708008, [(4, 32)], (.perDoor 0), [⟨31, 0, .ro, 0, 0, 4294967295⟩]⟩,
  ⟨0x70800C, [(4, 32)], (.perDoor 0), [⟨15, 0, .ro, 0, 0, 65535⟩]⟩,
  ⟨0x708010, [(4, 32)], (.perDoor 0), [⟨6, 0, .ro, 0, 0, 127⟩, ⟨7, 7, .w1c, 0, 0, 1⟩, ⟨31, 16, .ro, 0, 0, 65535⟩]⟩,
  ⟨0x708014, [(4, 32)], (.perDoor 0), [⟨0, 0, .wo, 0, 0, 1⟩]⟩]

/-- Every register word of block TCM beyond the common registers. -/
def regTCM : List WordDef := regTCM_part0

end Sys2Proof.Machine.Reg
end

