-- ==== Sys2Proof/Machine/RegTables.lean ====
section
/-! DEFINITION. The BAR2 tables, word by word, at their R113-coded addresses (bit 31 set; R499). -/

namespace Sys2Proof.Machine.Reg

/-! ### BAR2 tables of block EVT -/

def ROUTE_VECTOR (e d : Nat) : Fld := ⟨0x87000000 + 32 * e + 4 * d, 10, 0⟩
def ROUTE_EN (e d : Nat) : Fld := ⟨0x87000000 + 32 * e + 4 * d, 11, 11⟩
def ROUTE_ALERT (e : Nat) : Fld := ⟨0x87000010 + 32 * e, 0, 0⟩
def ROUTE_TWIN (e : Nat) : Fld := ⟨0x87000010 + 32 * e, 1, 1⟩
def ROUTE_NMI (e : Nat) : Fld := ⟨0x87000010 + 32 * e, 2, 2⟩
def ROUTE_DEFINED (e : Nat) : Fld := ⟨0x87000010 + 32 * e, 3, 3⟩
def ROUTE_COUNT (e : Nat) : Fld := ⟨0x87000014 + 32 * e, 31, 0⟩
def ROUTE_LAST_TREADS (e : Nat) : Fld := ⟨0x87000018 + 32 * e, 31, 0⟩
def ROUTE_LAST_SEC (e : Nat) : Fld := ⟨0x8700001C + 32 * e, 31, 0⟩
def LOG_TREADS (n : Nat) : Fld := ⟨0x87010000 + 32 * n, 31, 0⟩
def LOG_SEC (n : Nat) : Fld := ⟨0x87010004 + 32 * n, 31, 0⟩
def LOG_SEC_HI (n : Nat) : Fld := ⟨0x87010008 + 32 * n, 15, 0⟩
def LOG_BLOCK (n : Nat) : Fld := ⟨0x87010008 + 32 * n, 27, 16⟩
def LOG_CODE (n : Nat) : Fld := ⟨0x8701000C + 32 * n, 7, 0⟩
def LOG_SEV (n : Nat) : Fld := ⟨0x8701000C + 32 * n, 9, 8⟩
def LOG_TAKEOVER (n : Nat) : Fld := ⟨0x8701000C + 32 * n, 10, 10⟩
def LOG_FIRST (n : Nat) : Fld := ⟨0x8701000C + 32 * n, 11, 11⟩
def LOG_DETAIL (n : Nat) : Fld := ⟨0x8701000C + 32 * n, 31, 16⟩
def LOG_INST (n : Nat) : Fld := ⟨0x87010010 + 32 * n, 16, 0⟩
def LOG_SEQ (n : Nat) : Fld := ⟨0x87010018 + 32 * n, 31, 0⟩
def LOG_SEQ_HI (n : Nat) : Fld := ⟨0x8701001C + 32 * n, 31, 0⟩

/-- Table words of EVT, part 0: address, instances, write guard and fields. -/
def tblEVT_part0 : List WordDef := [
  ⟨0x87000000, [(1536, 32), (4, 4)], (.perDoor 1), [⟨10, 0, .rw, 0, 0, 2047⟩, ⟨11, 11, .rw, 0, 0, 1⟩, ⟨31, 12, .rw, 0, 0, 0⟩]⟩,
  ⟨0x87000010, [(1536, 32)], .routeOwner, [⟨0, 0, .rw, 0, 0, 1⟩, ⟨1, 1, .rw, 0, 0, 1⟩, ⟨2, 2, .ro, 0, 0, 1⟩, ⟨3, 3, .ro, 0, 0, 1⟩, ⟨31, 4, .rw, 0, 0, 0⟩]⟩,
  ⟨0x87000014, [(1536, 32)], .routeOwner, [⟨31, 0, .ro, 0, 0, 4294967295⟩]⟩,
  ⟨0x87000018, [(1536, 32)], .routeOwner, [⟨31, 0, .ro, 0, 0, 4294967295⟩]⟩,
  ⟨0x8700001C, [(1536, 32)], .routeOwner, [⟨31, 0, .ro, 0, 0, 4294967295⟩]⟩,
  ⟨0x87010000, [(256, 32)], .anyDoor, [⟨31, 0, .ro, 0, 0, 4294967295⟩]⟩,
  ⟨0x87010004, [(256, 32)], .anyDoor, [⟨31, 0, .ro, 0, 0, 4294967295⟩]⟩,
  ⟨0x87010008, [(256, 32)], .anyDoor, [⟨15, 0, .ro, 0, 0, 65535⟩, ⟨27, 16, .ro, 0, 0, 4095⟩]⟩,
  ⟨0x8701000C, [(256, 32)], .anyDoor, [⟨7, 0, .ro, 0, 0, 255⟩, ⟨9, 8, .ro, 0, 0, 3⟩, ⟨10, 10, .ro, 0, 0, 1⟩, ⟨11, 11, .ro, 0, 0, 1⟩, ⟨31, 16, .ro, 0, 0, 65535⟩]⟩,
  ⟨0x87010010, [(256, 32)], .anyDoor, [⟨16, 0, .ro, 0, 0, 131071⟩]⟩,
  ⟨0x87010018, [(256, 32)], .anyDoor, [⟨31, 0, .ro, 0, 0, 4294967295⟩]⟩,
  ⟨0x8701001C, [(256, 32)], .anyDoor, [⟨31, 0, .ro, 0, 0, 4294967295⟩]⟩]

/-- Every table word of block EVT beyond the common registers. -/
def tblEVT : List WordDef := tblEVT_part0

/-! ### BAR2 tables of block ETH -/

def MATCH_DST (i : Nat) : Fld := ⟨0x80000000 + 64 * i, 31, 0⟩
def MATCH_DST_HI (i : Nat) : Fld := ⟨0x80000004 + 64 * i, 31, 0⟩
def MATCH_DST_W2 (i : Nat) : Fld := ⟨0x80000008 + 64 * i, 31, 0⟩
def MATCH_DST_W3 (i : Nat) : Fld := ⟨0x8000000C + 64 * i, 31, 0⟩
def MATCH_SRC (i : Nat) : Fld := ⟨0x80000010 + 64 * i, 31, 0⟩
def MATCH_SRC_HI (i : Nat) : Fld := ⟨0x80000014 + 64 * i, 31, 0⟩
def MATCH_SRC_W2 (i : Nat) : Fld := ⟨0x80000018 + 64 * i, 31, 0⟩
def MATCH_SRC_W3 (i : Nat) : Fld := ⟨0x8000001C + 64 * i, 31, 0⟩
def MATCH_DPORT (i : Nat) : Fld := ⟨0x80000020 + 64 * i, 15, 0⟩
def MATCH_VID (i : Nat) : Fld := ⟨0x80000020 + 64 * i, 27, 16⟩
def MATCH_PORT (i : Nat) : Fld := ⟨0x80000024 + 64 * i, 1, 0⟩
def MATCH_VALID (i : Nat) : Fld := ⟨0x80000028 + 64 * i, 0, 0⟩
def MATCH_KIND (i : Nat) : Fld := ⟨0x80000028 + 64 * i, 3, 1⟩
def MATCH_PATH (i : Nat) : Fld := ⟨0x80000028 + 64 * i, 4, 4⟩
def MATCH_PT_CHK (i : Nat) : Fld := ⟨0x80000028 + 64 * i, 5, 5⟩
def MATCH_SSRC_CHK (i : Nat) : Fld := ⟨0x80000028 + 64 * i, 6, 6⟩
def MATCH_CIPHER (i : Nat) : Fld := ⟨0x80000028 + 64 * i, 7, 7⟩
def MATCH_SUB (i : Nat) : Fld := ⟨0x80000028 + 64 * i, 15, 8⟩
def MATCH_PT (i : Nat) : Fld := ⟨0x80000028 + 64 * i, 22, 16⟩
def MATCH_SSRC (i : Nat) : Fld := ⟨0x8000002C + 64 * i, 31, 0⟩
def MATCH_OBJECT (i : Nat) : Fld := ⟨0x80000030 + 64 * i, 15, 0⟩
def MATCH_CIX (i : Nat) : Fld := ⟨0x80000030 + 64 * i, 31, 16⟩
def MATCH_HITS (i : Nat) : Fld := ⟨0x80000038 + 64 * i, 31, 0⟩
def LEG_IN_FMT (leg : Nat) : Fld := ⟨0x80200000 + 64 * leg, 3, 0⟩
def LEG_IN_RATE (leg : Nat) : Fld := ⟨0x80200000 + 64 * leg, 5, 4⟩
def LEG_IN_PTIME (leg : Nat) : Fld := ⟨0x80200000 + 64 * leg, 9, 6⟩
def LEG_OUT_FMT (leg : Nat) : Fld := ⟨0x80200000 + 64 * leg, 13, 10⟩
def LEG_OUT_PTIME (leg : Nat) : Fld := ⟨0x80200000 + 64 * leg, 17, 14⟩
def LEG_OUT_CHANNELS (leg : Nat) : Fld := ⟨0x80200000 + 64 * leg, 20, 18⟩
def LEG_QUEUE_A (leg : Nat) : Fld := ⟨0x80200004 + 64 * leg, 14, 0⟩
def LEG_A_EN (leg : Nat) : Fld := ⟨0x80200004 + 64 * leg, 15, 15⟩
def LEG_QUEUE_B (leg : Nat) : Fld := ⟨0x80200004 + 64 * leg, 30, 16⟩
def LEG_B_EN (leg : Nat) : Fld := ⟨0x80200004 + 64 * leg, 31, 31⟩
def LEG_TS_OFS (leg : Nat) : Fld := ⟨0x80200008 + 64 * leg, 31, 0⟩
def LEG_LAST_SEQ (leg : Nat) : Fld := ⟨0x8020000C + 64 * leg, 15, 0⟩
def LEG_PATH_A (leg : Nat) : Fld := ⟨0x8020000C + 64 * leg, 16, 16⟩
def LEG_PATH_B (leg : Nat) : Fld := ⟨0x8020000C + 64 * leg, 17, 17⟩
def LEG_JB_MIN (leg : Nat) : Fld := ⟨0x80200010 + 64 * leg, 11, 0⟩
def LEG_JB_MAX (leg : Nat) : Fld := ⟨0x80200010 + 64 * leg, 23, 12⟩
def LEG_JB_ADAPT (leg : Nat) : Fld := ⟨0x80200010 + 64 * leg, 24, 24⟩
def LEG_JB_INIT (leg : Nat) : Fld := ⟨0x80200014 + 64 * leg, 11, 0⟩
def LEG_PLC_MODE (leg : Nat) : Fld := ⟨0x80200014 + 64 * leg, 13, 12⟩
def LEG_PLC_FADE (leg : Nat) : Fld := ⟨0x80200014 + 64 * leg, 31, 16⟩
def LEG_SRC_MODE (leg : Nat) : Fld := ⟨0x80200018 + 64 * leg, 0, 0⟩
def LEG_SRC_PPM_MAX (leg : Nat) : Fld := ⟨0x80200018 + 64 * leg, 15, 8⟩
def LEG_BITRATE (leg : Nat) : Fld := ⟨0x8020001C + 64 * leg, 12, 0⟩
def LEG_COMPLEXITY (leg : Nat) : Fld := ⟨0x8020001C + 64 * leg, 16, 13⟩
def LEG_FEC (leg : Nat) : Fld := ⟨0x8020001C + 64 * leg, 17, 17⟩
def LEG_DTX (leg : Nat) : Fld := ⟨0x8020001C + 64 * leg, 18, 18⟩
def LEG_CBR (leg : Nat) : Fld := ⟨0x8020001C + 64 * leg, 19, 19⟩
def LEG_BANDWIDTH (leg : Nat) : Fld := ⟨0x8020001C + 64 * leg, 22, 20⟩
def LEG_G722_MODE (leg : Nat) : Fld := ⟨0x8020001C + 64 * leg, 24, 23⟩
def LEG_EC_EN (leg : Nat) : Fld := ⟨0x80200020 + 64 * leg, 0, 0⟩
def LEG_EC_TAIL (leg : Nat) : Fld := ⟨0x80200020 + 64 * leg, 2, 1⟩
def LEG_NLP (leg : Nat) : Fld := ⟨0x80200020 + 64 * leg, 3, 3⟩
def LEG_EC_BULK (leg : Nat) : Fld := ⟨0x80200020 + 64 * leg, 15, 4⟩
def LEG_NS_EN (leg : Nat) : Fld := ⟨0x80200024 + 64 * leg, 0, 0⟩
def LEG_NS_DEPTH (leg : Nat) : Fld := ⟨0x80200024 + 64 * leg, 4, 1⟩
def LEG_AGC_EN (leg : Nat) : Fld := ⟨0x80200028 + 64 * leg, 0, 0⟩
def LEG_TARGET (leg : Nat) : Fld := ⟨0x80200028 + 64 * leg, 8, 1⟩
def LEG_MAX_GAIN (leg : Nat) : Fld := ⟨0x80200028 + 64 * leg, 15, 9⟩
def LEG_IN_TRIM (leg : Nat) : Fld := ⟨0x8020002C + 64 * leg, 19, 0⟩
def LEG_CORE (leg : Nat) : Fld := ⟨0x80200030 + 64 * leg, 8, 0⟩
def LEG_DEPTH (leg : Nat) : Fld := ⟨0x80200034 + 64 * leg, 11, 0⟩
def LEG_HELD (leg : Nat) : Fld := ⟨0x80200034 + 64 * leg, 12, 12⟩
def LEG_LATE (leg : Nat) : Fld := ⟨0x80200038 + 64 * leg, 31, 0⟩
def LEG_CONCEALED (leg : Nat) : Fld := ⟨0x8020003C + 64 * leg, 31, 0⟩

/-- Table words of ETH, part 0: address, instances, write guard and fields. -/
def tblETH_part0 : List WordDef := [
  ⟨0x80000000, [(32768, 64)], .matchEntry, [⟨31, 0, .rwe, 0, 0, 4294967295⟩]⟩,
  ⟨0x80000004, [(32768, 64)], .matchEntry, [⟨31, 0, .rwe, 0, 0, 4294967295⟩]⟩,
  ⟨0x80000008, [(32768, 64)], .matchEntry, [⟨31, 0, .rwe, 0, 0, 4294967295⟩]⟩,
  ⟨0x8000000C, [(32768, 64)], .matchEntry, [⟨31, 0, .rwe, 0, 0, 4294967295⟩]⟩,
  ⟨0x80000010, [(32768, 64)], .matchEntry, [⟨31, 0, .rwe, 0, 0, 4294967295⟩]⟩,
  ⟨0x80000014, [(32768, 64)], .matchEntry, [⟨31, 0, .rwe, 0, 0, 4294967295⟩]⟩,
  ⟨0x80000018, [(32768, 64)], .matchEntry, [⟨31, 0, .rwe, 0, 0, 4294967295⟩]⟩,
  ⟨0x8000001C, [(32768, 64)], .matchEntry, [⟨31, 0, .rwe, 0, 0, 4294967295⟩]⟩,
  ⟨0x80000020, [(32768, 64)], .matchEntry, [⟨15, 0, .rwe, 0, 0, 65535⟩, ⟨27, 16, .rwe, 0, 0, 4095⟩, ⟨31, 28, .rwe, 0, 0, 0⟩]⟩,
  ⟨0x80000024, [(32768, 64)], .matchEntry, [⟨1, 0, .rwe, 0, 0, 3⟩, ⟨7, 2, .rwe, 0, 0, 0⟩, ⟨31, 8, .rwe, 0, 0, 0⟩]⟩,
  ⟨0x80000028, [(32768, 64)], .matchEntry, [⟨0, 0, .rwe, 0, 0, 1⟩, ⟨3, 1, .rwe, 0, 0, 6⟩, ⟨4, 4, .rwe, 0, 0, 1⟩, ⟨5, 5, .rwe, 0, 0, 1⟩, ⟨6, 6, .rwe, 0, 0, 1⟩, ⟨7, 7, .rwe, 0, 0, 1⟩, ⟨15, 8, .rwe, 0, 0, 255⟩, ⟨22, 16, .rwe, 0, 0, 127⟩, ⟨23, 23, .rwe, 0, 0, 0⟩, ⟨31, 24, .rwe, 0, 0, 0⟩]⟩,
  ⟨0x8000002C, [(32768, 64)], .matchEntry, [⟨31, 0, .rwe, 0, 0, 4294967295⟩]⟩,
  ⟨0x80000030, [(32768, 64)], .matchEntry, [⟨15, 0, .rwe, 0, 0, 65535⟩, ⟨31, 16, .rwe, 0, 0, 65535⟩]⟩,
  ⟨0x80000034, [(32768, 64)], .matchEntry, [⟨31, 0, .rwe, 0, 0, 0⟩]⟩,
  ⟨0x80000038, [(32768, 64)], .matchEntry, [⟨31, 0, .ro, 0, 0, 4294967295⟩]⟩,
  ⟨0x80200000, [(10240, 64)], (.object 0 0), [⟨3, 0, .rwe, 0, 0, 6⟩, ⟨5, 4, .rwe, 0, 0, 1⟩, ⟨9, 6, .rwe, 0, 0, 6⟩, ⟨13, 10, .rwe, 0, 0, 7⟩, ⟨17, 14, .rwe, 0, 0, 6⟩, ⟨20, 18, .rwe, 0, 0, 7⟩, ⟨31, 21, .rwe, 0, 0, 0⟩]⟩,
  ⟨0x80200004, [(10240, 64)], (.object 0 0), [⟨14, 0, .rwe, 0, 0, 32767⟩, ⟨15, 15, .rwe, 0, 0, 1⟩, ⟨30, 16, .rwe, 0, 0, 32767⟩, ⟨31, 31, .rwe, 0, 0, 1⟩]⟩,
  ⟨0x80200008, [(10240, 64)], (.object 0 0), [⟨31, 0, .rwe, 0, 0, 4294967295⟩]⟩,
  ⟨0x8020000C, [(10240, 64)], (.object 0 0), [⟨15, 0, .ro, 0, 0, 65535⟩, ⟨16, 16, .ro, 0, 0, 1⟩, ⟨17, 17, .ro, 0, 0, 1⟩]⟩,
  ⟨0x80200010, [(10240, 64)], (.object 0 0), [⟨11, 0, .rwe, 0, 0, 4095⟩, ⟨23, 12, .rwe, 0, 0, 4095⟩, ⟨24, 24, .rwe, 0, 0, 1⟩, ⟨31, 25, .rwe, 0, 0, 0⟩]⟩,
  ⟨0x80200014, [(10240, 64)], (.object 0 0), [⟨11, 0, .rwe, 0, 0, 4095⟩, ⟨13, 12, .rwe, 0, 0, 2⟩, ⟨15, 14, .rwe, 0, 0, 0⟩, ⟨31, 16, .rwe, 0, 0, 65535⟩]⟩,
  ⟨0x80200018, [(10240, 64)], (.object 0 0), [⟨0, 0, .rwe, 0, 0, 1⟩, ⟨7, 1, .rwe, 0, 0, 0⟩, ⟨15, 8, .rwe, 0, 0, 255⟩, ⟨31, 16, .rwe, 0, 0, 0⟩]⟩,
  ⟨0x8020001C, [(10240, 64)], (.object 0 0), [⟨12, 0, .rwe, 0, 0, 5100⟩, ⟨16, 13, .rwe, 0, 0, 10⟩, ⟨17, 17, .rwe, 0, 0, 1⟩, ⟨18, 18, .rwe, 0, 0, 1⟩, ⟨19, 19, .rwe, 0, 0, 1⟩, ⟨22, 20, .rwe, 0, 0, 5⟩, ⟨24, 23, .rwe, 0, 0, 2⟩, ⟨31, 25, .rwe, 0, 0, 0⟩]⟩,
  ⟨0x80200020, [(10240, 64)], (.object 0 0), [⟨0, 0, .rwe, 0, 0, 1⟩, ⟨2, 1, .rwe, 0, 0, 2⟩, ⟨3, 3, .rwe, 0, 0, 1⟩, ⟨15, 4, .rwe, 0, 0, 4095⟩, ⟨31, 16, .rwe, 0, 0, 0⟩]⟩,
  ⟨0x80200024, [(10240, 64)], (.object 0 0), [⟨0, 0, .rwe, 0, 0, 1⟩, ⟨4, 1, .rwe, 0, 0, 15⟩, ⟨31, 5, .rwe, 0, 0, 0⟩]⟩,
  ⟨0x80200028, [(10240, 64)], (.object 0 0), [⟨0, 0, .rwe, 0, 0, 1⟩, ⟨8, 1, .rwe, 0, 0, 255⟩, ⟨15, 9, .rwe, 0, 0, 127⟩, ⟨31, 16, .rwe, 0, 0, 0⟩]⟩,
  ⟨0x8020002C, [(10240, 64)], (.object 0 0), [⟨19, 0, .rwe, 0, 0, 1048575⟩, ⟨31, 20, .rwe, 0, 0, 0⟩]⟩,
  ⟨0x80200030, [(10240, 64)], (.object 0 0), [⟨8, 0, .ro, 0, 0, 511⟩]⟩,
  ⟨0x80200034, [(10240, 64)], (.object 0 0), [⟨11, 0, .ro, 0, 0, 4095⟩, ⟨12, 12, .ro, 0, 0, 1⟩]⟩,
  ⟨0x80200038, [(10240, 64)], (.object 0 0), [⟨31, 0, .ro, 0, 0, 4294967295⟩]⟩,
  ⟨0x8020003C, [(10240, 64)], (.object 0 0), [⟨31, 0, .ro, 0, 0, 4294967295⟩]⟩]

/-- Every table word of block ETH beyond the common registers. -/
def tblETH : List WordDef := tblETH_part0

/-! ### BAR2 tables of block SHP -/

def QUEUE_EN (q : Nat) : Fld := ⟨0x80400000 + 256 * q, 0, 0⟩
def QUEUE_FLUSH (q : Nat) : Fld := ⟨0x80400000 + 256 * q, 1, 1⟩
def QUEUE_NOTIFY (q : Nat) : Fld := ⟨0x80400000 + 256 * q, 2, 2⟩
def QUEUE_RTCP (q : Nat) : Fld := ⟨0x80400000 + 256 * q, 3, 3⟩
def QUEUE_PORT (q : Nat) : Fld := ⟨0x80400000 + 256 * q, 5, 4⟩
def QUEUE_CSUM (q : Nat) : Fld := ⟨0x80400000 + 256 * q, 6, 6⟩
def QUEUE_HLEN (q : Nat) : Fld := ⟨0x80400000 + 256 * q, 23, 16⟩
def QUEUE_DEPTH_MAX (q : Nat) : Fld := ⟨0x80400004 + 256 * q, 16, 0⟩
def QUEUE_TASK (q : Nat) : Fld := ⟨0x80400008 + 256 * q, 16, 0⟩
def QUEUE_SEQ_SET (q : Nat) : Fld := ⟨0x8040000C + 256 * q, 15, 0⟩
def QUEUE_LEVEL (q : Nat) : Fld := ⟨0x80400010 + 256 * q, 16, 0⟩
def QUEUE_DISCARD (q : Nat) : Fld := ⟨0x80400010 + 256 * q, 17, 17⟩
def QUEUE_STALL (q : Nat) : Fld := ⟨0x80400010 + 256 * q, 18, 18⟩
def QUEUE_PKTS (q : Nat) : Fld := ⟨0x80400014 + 256 * q, 16, 0⟩
def QUEUE_SEQ (q : Nat) : Fld := ⟨0x80400018 + 256 * q, 15, 0⟩
def QUEUE_FLUSHED (q : Nat) : Fld := ⟨0x8040001C + 256 * q, 31, 0⟩
def QUEUE_HDR (q : Nat) : Fld := ⟨0x80400020 + 256 * q, 31, 0⟩
def QUEUE_HDR_HI (q : Nat) : Fld := ⟨0x80400024 + 256 * q, 31, 0⟩
def QUEUE_HDR_W2 (q : Nat) : Fld := ⟨0x80400028 + 256 * q, 31, 0⟩
def QUEUE_HDR_W3 (q : Nat) : Fld := ⟨0x8040002C + 256 * q, 31, 0⟩
def QUEUE_HDR_W4 (q : Nat) : Fld := ⟨0x80400030 + 256 * q, 31, 0⟩
def QUEUE_HDR_W5 (q : Nat) : Fld := ⟨0x80400034 + 256 * q, 31, 0⟩
def QUEUE_HDR_W6 (q : Nat) : Fld := ⟨0x80400038 + 256 * q, 31, 0⟩
def QUEUE_HDR_W7 (q : Nat) : Fld := ⟨0x8040003C + 256 * q, 31, 0⟩
def QUEUE_HDR_W8 (q : Nat) : Fld := ⟨0x80400040 + 256 * q, 31, 0⟩
def QUEUE_HDR_W9 (q : Nat) : Fld := ⟨0x80400044 + 256 * q, 31, 0⟩
def QUEUE_HDR_W10 (q : Nat) : Fld := ⟨0x80400048 + 256 * q, 31, 0⟩
def QUEUE_HDR_W11 (q : Nat) : Fld := ⟨0x8040004C + 256 * q, 31, 0⟩
def QUEUE_HDR_W12 (q : Nat) : Fld := ⟨0x80400050 + 256 * q, 31, 0⟩
def QUEUE_HDR_W13 (q : Nat) : Fld := ⟨0x80400054 + 256 * q, 31, 0⟩
def QUEUE_HDR_W14 (q : Nat) : Fld := ⟨0x80400058 + 256 * q, 31, 0⟩
def QUEUE_HDR_W15 (q : Nat) : Fld := ⟨0x8040005C + 256 * q, 31, 0⟩
def QUEUE_HDR_W16 (q : Nat) : Fld := ⟨0x80400060 + 256 * q, 31, 0⟩
def QUEUE_HDR_W17 (q : Nat) : Fld := ⟨0x80400064 + 256 * q, 31, 0⟩
def QUEUE_HDR_W18 (q : Nat) : Fld := ⟨0x80400068 + 256 * q, 31, 0⟩
def QUEUE_HDR_W19 (q : Nat) : Fld := ⟨0x8040006C + 256 * q, 31, 0⟩
def SVC_PORT (s : Nat) : Fld := ⟨0x80C00000 + 64 * s, 1, 0⟩
def SVC_DOOR (s : Nat) : Fld := ⟨0x80C00000 + 64 * s, 3, 2⟩
def SVC_CLASS (s : Nat) : Fld := ⟨0x80C00000 + 64 * s, 6, 4⟩
def SVC_LIMIT (s : Nat) : Fld := ⟨0x80C00000 + 64 * s, 7, 7⟩
def SVC_RESET_TO (s : Nat) : Fld := ⟨0x80C00000 + 64 * s, 8, 8⟩
def SVC_QUANTUM (s : Nat) : Fld := ⟨0x80C00000 + 64 * s, 31, 16⟩
def SVC_CIR (s : Nat) : Fld := ⟨0x80C00004 + 64 * s, 26, 0⟩
def SVC_PIR (s : Nat) : Fld := ⟨0x80C00008 + 64 * s, 26, 0⟩
def SVC_CBS (s : Nat) : Fld := ⟨0x80C0000C + 64 * s, 23, 0⟩
def SVC_PBS (s : Nat) : Fld := ⟨0x80C00010 + 64 * s, 23, 0⟩
def SVC_OVERHEAD (s : Nat) : Fld := ⟨0x80C00010 + 64 * s, 31, 24⟩
def SVC_C (s : Nat) : Fld := ⟨0x80C00018 + 64 * s, 31, 0⟩
def SVC_C_HI (s : Nat) : Fld := ⟨0x80C0001C + 64 * s, 31, 0⟩
def SVC_P (s : Nat) : Fld := ⟨0x80C00020 + 64 * s, 31, 0⟩
def SVC_P_HI (s : Nat) : Fld := ⟨0x80C00024 + 64 * s, 31, 0⟩
def SVC_DEFICIT (s : Nat) : Fld := ⟨0x80C00028 + 64 * s, 31, 0⟩
def GATE_DURATION (p e : Nat) : Fld := ⟨0x80C10000 + 1024 * p + 4 * e, 23, 0⟩
def GATE_GATES (p e : Nat) : Fld := ⟨0x80C10000 + 1024 * p + 4 * e, 31, 24⟩
def VLEG_EN (v : Nat) : Fld := ⟨0x80C20000 + 128 * v, 0, 0⟩
def VLEG_PROGRAM (v : Nat) : Fld := ⟨0x80C20000 + 128 * v, 6, 1⟩
def VLEG_VOTE (v : Nat) : Fld := ⟨0x80C20000 + 128 * v, 7, 7⟩
def VLEG_PIN (v : Nat) : Fld := ⟨0x80C20000 + 128 * v, 8, 8⟩
def VLEG_PIN_S (v : Nat) : Fld := ⟨0x80C20000 + 128 * v, 10, 9⟩
def VLEG_PIN_T (v : Nat) : Fld := ⟨0x80C20000 + 128 * v, 12, 11⟩
def VLEG_S_MIN (v : Nat) : Fld := ⟨0x80C20000 + 128 * v, 14, 13⟩
def VLEG_S_MAX (v : Nat) : Fld := ⟨0x80C20000 + 128 * v, 16, 15⟩
def VLEG_T_MIN (v : Nat) : Fld := ⟨0x80C20000 + 128 * v, 18, 17⟩
def VLEG_T_MAX (v : Nat) : Fld := ⟨0x80C20000 + 128 * v, 20, 19⟩
def VLEG_PACE (v : Nat) : Fld := ⟨0x80C20000 + 128 * v, 24, 21⟩
def VLEG_QUEUE_A (v : Nat) : Fld := ⟨0x80C20004 + 128 * v, 14, 0⟩
def VLEG_A_EN (v : Nat) : Fld := ⟨0x80C20004 + 128 * v, 15, 15⟩
def VLEG_QUEUE_B (v : Nat) : Fld := ⟨0x80C20004 + 128 * v, 30, 16⟩
def VLEG_B_EN (v : Nat) : Fld := ⟨0x80C20004 + 128 * v, 31, 31⟩
def VLEG_CAP_MIN (v : Nat) : Fld := ⟨0x80C20008 + 128 * v, 26, 0⟩
def VLEG_CAP_MAX (v : Nat) : Fld := ⟨0x80C2000C + 128 * v, 26, 0⟩
def VLEG_CAP_INIT (v : Nat) : Fld := ⟨0x80C20010 + 128 * v, 26, 0⟩
def VLEG_CAP (v : Nat) : Fld := ⟨0x80C20040 + 128 * v, 26, 0⟩
def VLEG_CUR_S (v : Nat) : Fld := ⟨0x80C20044 + 128 * v, 1, 0⟩
def VLEG_CUR_T (v : Nat) : Fld := ⟨0x80C20044 + 128 * v, 3, 2⟩
def VLEG_PENDING (v : Nat) : Fld := ⟨0x80C20044 + 128 * v, 4, 4⟩
def VLEG_PEND_S (v : Nat) : Fld := ⟨0x80C20044 + 128 * v, 6, 5⟩
def VLEG_NONE (v : Nat) : Fld := ⟨0x80C20044 + 128 * v, 7, 7⟩
def VLEG_HELD (v : Nat) : Fld := ⟨0x80C20044 + 128 * v, 8, 8⟩
def VLEG_FRAMES (v : Nat) : Fld := ⟨0x80C20048 + 128 * v, 31, 0⟩
def VLEG_REPORTS (v : Nat) : Fld := ⟨0x80C2004C + 128 * v, 31, 0⟩
def VLEG_LOST (v : Nat) : Fld := ⟨0x80C20050 + 128 * v, 31, 0⟩
def VLEG_SWITCHES (v : Nat) : Fld := ⟨0x80C20054 + 128 * v, 31, 0⟩
def QUEUE_CLASS (q : Nat) : Fld := ⟨0x80400080 + 256 * q, 2, 0⟩
def QUEUE_LIMIT (q : Nat) : Fld := ⟨0x80400080 + 256 * q, 4, 3⟩
def QUEUE_RESET_TO (q : Nat) : Fld := ⟨0x80400080 + 256 * q, 5, 5⟩
def QUEUE_OVERHEAD (q : Nat) : Fld := ⟨0x80400080 + 256 * q, 15, 8⟩
def QUEUE_QUANTUM (q : Nat) : Fld := ⟨0x80400080 + 256 * q, 31, 16⟩
def QUEUE_CIR (q : Nat) : Fld := ⟨0x80400084 + 256 * q, 26, 0⟩
def QUEUE_PIR (q : Nat) : Fld := ⟨0x80400088 + 256 * q, 26, 0⟩
def QUEUE_CBS (q : Nat) : Fld := ⟨0x8040008C + 256 * q, 23, 0⟩
def QUEUE_PBS (q : Nat) : Fld := ⟨0x80400090 + 256 * q, 23, 0⟩
def QUEUE_DROP_AFTER (q : Nat) : Fld := ⟨0x80400094 + 256 * q, 15, 0⟩
def QUEUE_SERVICE (q : Nat) : Fld := ⟨0x80400094 + 256 * q, 23, 16⟩
def QUEUE_C (q : Nat) : Fld := ⟨0x804000A0 + 256 * q, 31, 0⟩
def QUEUE_C_HI (q : Nat) : Fld := ⟨0x804000A4 + 256 * q, 31, 0⟩
def QUEUE_P (q : Nat) : Fld := ⟨0x804000A8 + 256 * q, 31, 0⟩
def QUEUE_P_HI (q : Nat) : Fld := ⟨0x804000AC + 256 * q, 31, 0⟩
def QUEUE_NEXT (q : Nat) : Fld := ⟨0x804000B0 + 256 * q, 31, 0⟩
def QUEUE_NEXT_HI (q : Nat) : Fld := ⟨0x804000B4 + 256 * q, 31, 0⟩
def QUEUE_NEXT_FRAC (q : Nat) : Fld := ⟨0x804000B8 + 256 * q, 15, 0⟩
def QUEUE_DEFICIT (q : Nat) : Fld := ⟨0x804000BC + 256 * q, 31, 0⟩
def QUEUE_SENT (q : Nat) : Fld := ⟨0x804000C0 + 256 * q, 31, 0⟩
def QUEUE_LATE_DROPS (q : Nat) : Fld := ⟨0x804000C4 + 256 * q, 31, 0⟩
def QUEUE_DEPTH_SAMPLE (q : Nat) : Fld := ⟨0x804000C8 + 256 * q, 16, 0⟩
def QUEUE_DEPTH_PEAK (q : Nat) : Fld := ⟨0x804000CC + 256 * q, 16, 0⟩
def QUEUE_DELAY_LAST (q : Nat) : Fld := ⟨0x804000D0 + 256 * q, 31, 0⟩
def QUEUE_DELAY_PEAK (q : Nat) : Fld := ⟨0x804000D4 + 256 * q, 31, 0⟩
def QUEUE_SAMPLE_TREADS (q : Nat) : Fld := ⟨0x804000D8 + 256 * q, 31, 0⟩
def QUEUE_SAMPLE_SEC (q : Nat) : Fld := ⟨0x804000DC + 256 * q, 31, 0⟩
def QUEUE_SAMPLE_SEC_HI (q : Nat) : Fld := ⟨0x804000E0 + 256 * q, 15, 0⟩
def QUEUE_STATE (q : Nat) : Fld := ⟨0x804000E0 + 256 * q, 17, 16⟩

/-- Table words of SHP, part 0: address, instances, write guard and fields. -/
def tblSHP_part0 : List WordDef := [
  ⟨0x80400000, [(32768, 256)], (.object 6 0), [⟨0, 0, .rwe, 0, 0, 1⟩, ⟨1, 1, .rwe, 0, 0, 1⟩, ⟨2, 2, .rwe, 0, 0, 1⟩, ⟨3, 3, .rwe, 0, 0, 1⟩, ⟨5, 4, .rwe, 0, 0, 3⟩, ⟨6, 6, .rwe, 0, 0, 1⟩, ⟨15, 7, .rwe, 0, 0, 0⟩, ⟨23, 16, .rwe, 0, 0, 255⟩, ⟨31, 24, .rwe, 0, 0, 0⟩]⟩,
  ⟨0x80400004, [(32768, 256)], (.object 6 0), [⟨16, 0, .rwe, 0, 0, 131071⟩, ⟨31, 17, .rwe, 0, 0, 0⟩]⟩,
  ⟨0x80400008, [(32768, 256)], (.object 6 0), [⟨16, 0, .rwe, 0, 0, 131071⟩, ⟨31, 17, .rwe, 0, 0, 0⟩]⟩,
  ⟨0x8040000C, [(32768, 256)], (.object 6 0), [⟨15, 0, .rwe, 0, 0, 65535⟩, ⟨31, 16, .rwe, 0, 0, 0⟩]⟩,
  ⟨0x80400010, [(32768, 256)], (.object 6 0), [⟨16, 0, .ro, 0, 0, 131071⟩, ⟨17, 17, .ro, 0, 0, 1⟩, ⟨18, 18, .ro, 0, 0, 1⟩]⟩,
  ⟨0x80400014, [(32768, 256)], (.object 6 0), [⟨16, 0, .ro, 0, 0, 131071⟩]⟩,
  ⟨0x80400018, [(32768, 256)], (.object 6 0), [⟨15, 0, .ro, 0, 0, 65535⟩]⟩,
  ⟨0x8040001C, [(32768, 256)], (.object 6 0), [⟨31, 0, .ro, 0, 0, 4294967295⟩]⟩,
  ⟨0x80400020, [(32768, 256)], (.object 6 0), [⟨31, 0, .rwe, 0, 0, 4294967295⟩]⟩,
  ⟨0x80400024, [(32768, 256)], (.object 6 0), [⟨31, 0, .rwe, 0, 0, 4294967295⟩]⟩,
  ⟨0x80400028, [(32768, 256)], (.object 6 0), [⟨31, 0, .rwe, 0, 0, 4294967295⟩]⟩,
  ⟨0x8040002C, [(32768, 256)], (.object 6 0), [⟨31, 0, .rwe, 0, 0, 4294967295⟩]⟩,
  ⟨0x80400030, [(32768, 256)], (.object 6 0), [⟨31, 0, .rwe, 0, 0, 4294967295⟩]⟩,
  ⟨0x80400034, [(32768, 256)], (.object 6 0), [⟨31, 0, .rwe, 0, 0, 4294967295⟩]⟩,
  ⟨0x80400038, [(32768, 256)], (.object 6 0), [⟨31, 0, .rwe, 0, 0, 4294967295⟩]⟩,
  ⟨0x8040003C, [(32768, 256)], (.object 6 0), [⟨31, 0, .rwe, 0, 0, 4294967295⟩]⟩,
  ⟨0x80400040, [(32768, 256)], (.object 6 0), [⟨31, 0, .rwe, 0, 0, 4294967295⟩]⟩,
  ⟨0x80400044, [(32768, 256)], (.object 6 0), [⟨31, 0, .rwe, 0, 0, 4294967295⟩]⟩,
  ⟨0x80400048, [(32768, 256)], (.object 6 0), [⟨31, 0, .rwe, 0, 0, 4294967295⟩]⟩,
  ⟨0x8040004C, [(32768, 256)], (.object 6 0), [⟨31, 0, .rwe, 0, 0, 4294967295⟩]⟩,
  ⟨0x80400050, [(32768, 256)], (.object 6 0), [⟨31, 0, .rwe, 0, 0, 4294967295⟩]⟩,
  ⟨0x80400054, [(32768, 256)], (.object 6 0), [⟨31, 0, .rwe, 0, 0, 4294967295⟩]⟩,
  ⟨0x80400058, [(32768, 256)], (.object 6 0), [⟨31, 0, .rwe, 0, 0, 4294967295⟩]⟩,
  ⟨0x8040005C, [(32768, 256)], (.object 6 0), [⟨31, 0, .rwe, 0, 0, 4294967295⟩]⟩,
  ⟨0x80400060, [(32768, 256)], (.object 6 0), [⟨31, 0, .rwe, 0, 0, 4294967295⟩]⟩,
  ⟨0x80400064, [(32768, 256)], (.object 6 0), [⟨31, 0, .rwe, 0, 0, 4294967295⟩]⟩,
  ⟨0x80400068, [(32768, 256)], (.object 6 0), [⟨31, 0, .rwe, 0, 0, 4294967295⟩]⟩,
  ⟨0x8040006C, [(32768, 256)], (.object 6 0), [⟨31, 0, .rwe, 0, 0, 4294967295⟩]⟩,
  ⟨0x80400070, [(32768, 256)], (.object 6 0), [⟨31, 0, .rwe, 0, 0, 0⟩]⟩,
  ⟨0x80400074, [(32768, 256)], (.object 6 0), [⟨31, 0, .rwe, 0, 0, 0⟩]⟩,
  ⟨0x80400078, [(32768, 256)], (.object 6 0), [⟨31, 0, .rwe, 0, 0, 0⟩]⟩,
  ⟨0x8040007C, [(32768, 256)], (.object 6 0), [⟨31, 0, .rwe, 0, 0, 0⟩]⟩,
  ⟨0x80C00000, [(256, 64)], .service, [⟨1, 0, .ro, 0, 0, 3⟩, ⟨3, 2, .ro, 0, 0, 3⟩, ⟨6, 4, .rwe, 0, 0, 7⟩, ⟨7, 7, .rwe, 0, 0, 1⟩, ⟨8, 8, .rwe, 0, 0, 1⟩, ⟨15, 9, .rwe, 0, 0, 0⟩, ⟨31, 16, .rwe, 0, 0, 65535⟩]⟩,
  ⟨0x80C00004, [(256, 64)], .service, [⟨26, 0, .rwe, 0, 0, 134217727⟩, ⟨31, 27, .rwe, 0, 0, 0⟩]⟩,
  ⟨0x80C00008, [(256, 64)], .service, [⟨26, 0, .rwe, 0, 0, 134217727⟩, ⟨31, 27, .rwe, 0, 0, 0⟩]⟩,
  ⟨0x80C0000C, [(256, 64)], .service, [⟨23, 0, .rwe, 0, 0, 16777215⟩, ⟨31, 24, .rwe, 0, 0, 0⟩]⟩,
  ⟨0x80C00010, [(256, 64)], .service, [⟨23, 0, .rwe, 0, 0, 16777215⟩, ⟨31, 24, .rwe, 0, 0, 255⟩]⟩,
  ⟨0x80C00014, [(256, 64)], .service, [⟨31, 0, .rwe, 0, 0, 0⟩]⟩,
  ⟨0x80C00018, [(256, 64)], .service, [⟨31, 0, .ro, 0, 0, 4294967295⟩]⟩,
  ⟨0x80C0001C, [(256, 64)], .service, [⟨31, 0, .ro, 0, 0, 4294967295⟩]⟩]

/-- Table words of SHP, part 1: address, instances, write guard and fields. -/
def tblSHP_part1 : List WordDef := [
  ⟨0x80C00020, [(256, 64)], .service, [⟨31, 0, .ro, 0, 0, 4294967295⟩]⟩,
  ⟨0x80C00024, [(256, 64)], .service, [⟨31, 0, .ro, 0, 0, 4294967295⟩]⟩,
  ⟨0x80C00028, [(256, 64)], .service, [⟨31, 0, .ro, 0, 0, 4294967295⟩]⟩,
  ⟨0x80C10000, [(4, 1024), (256, 4)], .devOwner, [⟨23, 0, .rwe, 0, 1, 16777215⟩, ⟨31, 24, .rwe, 0, 0, 255⟩]⟩,
  ⟨0x80C20000, [(2048, 128)], (.object 2 0), [⟨0, 0, .rwe, 0, 0, 1⟩, ⟨6, 1, .rwe, 0, 0, 63⟩, ⟨7, 7, .rwe, 0, 0, 1⟩, ⟨8, 8, .rwe, 0, 0, 1⟩, ⟨10, 9, .rwe, 0, 0, 3⟩, ⟨12, 11, .rwe, 0, 0, 3⟩, ⟨14, 13, .rwe, 0, 0, 3⟩, ⟨16, 15, .rwe, 0, 0, 3⟩, ⟨18, 17, .rwe, 0, 0, 3⟩, ⟨20, 19, .rwe, 0, 0, 3⟩, ⟨24, 21, .rwe, 0, 0, 15⟩, ⟨31, 25, .rwe, 0, 0, 0⟩]⟩,
  ⟨0x80C20004, [(2048, 128)], (.object 2 0), [⟨14, 0, .rwe, 0, 0, 32767⟩, ⟨15, 15, .rwe, 0, 0, 1⟩, ⟨30, 16, .rwe, 0, 0, 32767⟩, ⟨31, 31, .rwe, 0, 0, 1⟩]⟩,
  ⟨0x80C20008, [(2048, 128)], (.object 2 0), [⟨26, 0, .rwe, 0, 0, 134217727⟩, ⟨31, 27, .rwe, 0, 0, 0⟩]⟩,
  ⟨0x80C2000C, [(2048, 128)], (.object 2 0), [⟨26, 0, .rwe, 0, 0, 134217727⟩, ⟨31, 27, .rwe, 0, 0, 0⟩]⟩,
  ⟨0x80C20010, [(2048, 128)], (.object 2 0), [⟨26, 0, .rwe, 0, 0, 134217727⟩, ⟨31, 27, .rwe, 0, 0, 0⟩]⟩,
  ⟨0x80C20014, [(2048, 128)], (.object 2 0), [⟨31, 0, .rwe, 0, 0, 0⟩]⟩,
  ⟨0x80C20018, [(2048, 128)], (.object 2 0), [⟨31, 0, .rwe, 0, 0, 0⟩]⟩,
  ⟨0x80C2001C, [(2048, 128)], (.object 2 0), [⟨31, 0, .rwe, 0, 0, 0⟩]⟩,
  ⟨0x80C20020, [(2048, 128)], (.object 2 0), [⟨31, 0, .rwe, 0, 0, 0⟩]⟩,
  ⟨0x80C20024, [(2048, 128)], (.object 2 0), [⟨31, 0, .rwe, 0, 0, 0⟩]⟩,
  ⟨0x80C20028, [(2048, 128)], (.object 2 0), [⟨31, 0, .rwe, 0, 0, 0⟩]⟩,
  ⟨0x80C2002C, [(2048, 128)], (.object 2 0), [⟨31, 0, .rwe, 0, 0, 0⟩]⟩,
  ⟨0x80C20030, [(2048, 128)], (.object 2 0), [⟨31, 0, .rwe, 0, 0, 0⟩]⟩,
  ⟨0x80C20034, [(2048, 128)], (.object 2 0), [⟨31, 0, .rwe, 0, 0, 0⟩]⟩,
  ⟨0x80C20038, [(2048, 128)], (.object 2 0), [⟨31, 0, .rwe, 0, 0, 0⟩]⟩,
  ⟨0x80C2003C, [(2048, 128)], (.object 2 0), [⟨31, 0, .rwe, 0, 0, 0⟩]⟩,
  ⟨0x80C20040, [(2048, 128)], (.object 2 0), [⟨26, 0, .ro, 0, 0, 134217727⟩]⟩,
  ⟨0x80C20044, [(2048, 128)], (.object 2 0), [⟨1, 0, .ro, 0, 0, 3⟩, ⟨3, 2, .ro, 0, 0, 3⟩, ⟨4, 4, .ro, 0, 0, 1⟩, ⟨6, 5, .ro, 0, 0, 3⟩, ⟨7, 7, .ro, 0, 0, 1⟩, ⟨8, 8, .ro, 0, 0, 1⟩]⟩,
  ⟨0x80C20048, [(2048, 128)], (.object 2 0), [⟨31, 0, .ro, 0, 0, 4294967295⟩]⟩,
  ⟨0x80C2004C, [(2048, 128)], (.object 2 0), [⟨31, 0, .ro, 0, 0, 4294967295⟩]⟩,
  ⟨0x80C20050, [(2048, 128)], (.object 2 0), [⟨31, 0, .ro, 0, 0, 4294967295⟩]⟩,
  ⟨0x80C20054, [(2048, 128)], (.object 2 0), [⟨31, 0, .ro, 0, 0, 4294967295⟩]⟩,
  ⟨0x80400080, [(32768, 256)], (.object 6 0), [⟨2, 0, .rwe, 0, 0, 7⟩, ⟨4, 3, .rwe, 0, 0, 2⟩, ⟨5, 5, .rwe, 0, 0, 1⟩, ⟨7, 6, .rwe, 0, 0, 0⟩, ⟨15, 8, .rwe, 0, 0, 255⟩, ⟨31, 16, .rwe, 0, 0, 65535⟩]⟩,
  ⟨0x80400084, [(32768, 256)], (.object 6 0), [⟨26, 0, .rwe, 0, 0, 134217727⟩, ⟨31, 27, .rwe, 0, 0, 0⟩]⟩,
  ⟨0x80400088, [(32768, 256)], (.object 6 0), [⟨26, 0, .rwe, 0, 0, 134217727⟩, ⟨31, 27, .rwe, 0, 0, 0⟩]⟩,
  ⟨0x8040008C, [(32768, 256)], (.object 6 0), [⟨23, 0, .rwe, 0, 0, 16777215⟩, ⟨31, 24, .rwe, 0, 0, 0⟩]⟩,
  ⟨0x80400090, [(32768, 256)], (.object 6 0), [⟨23, 0, .rwe, 0, 0, 16777215⟩, ⟨31, 24, .rwe, 0, 0, 0⟩]⟩,
  ⟨0x80400094, [(32768, 256)], (.object 6 0), [⟨15, 0, .rwe, 0, 0, 65535⟩, ⟨23, 16, .rwe, 0, 0, 255⟩, ⟨31, 24, .rwe, 0, 0, 0⟩]⟩,
  ⟨0x80400098, [(32768, 256)], (.object 6 0), [⟨31, 0, .rwe, 0, 0, 0⟩]⟩,
  ⟨0x8040009C, [(32768, 256)], (.object 6 0), [⟨31, 0, .rwe, 0, 0, 0⟩]⟩,
  ⟨0x804000A0, [(32768, 256)], (.object 6 0), [⟨31, 0, .ro, 0, 0, 4294967295⟩]⟩,
  ⟨0x804000A4, [(32768, 256)], (.object 6 0), [⟨31, 0, .ro, 0, 0, 4294967295⟩]⟩,
  ⟨0x804000A8, [(32768, 256)], (.object 6 0), [⟨31, 0, .ro, 0, 0, 4294967295⟩]⟩,
  ⟨0x804000AC, [(32768, 256)], (.object 6 0), [⟨31, 0, .ro, 0, 0, 4294967295⟩]⟩,
  ⟨0x804000B0, [(32768, 256)], (.object 6 0), [⟨31, 0, .ro, 0, 0, 4294967295⟩]⟩,
  ⟨0x804000B4, [(32768, 256)], (.object 6 0), [⟨31, 0, .ro, 0, 0, 4294967295⟩]⟩]

/-- Table words of SHP, part 2: address, instances, write guard and fields. -/
def tblSHP_part2 : List WordDef := [
  ⟨0x804000B8, [(32768, 256)], (.object 6 0), [⟨15, 0, .ro, 0, 0, 65535⟩]⟩,
  ⟨0x804000BC, [(32768, 256)], (.object 6 0), [⟨31, 0, .ro, 0, 0, 4294967295⟩]⟩,
  ⟨0x804000C0, [(32768, 256)], (.object 6 0), [⟨31, 0, .ro, 0, 0, 4294967295⟩]⟩,
  ⟨0x804000C4, [(32768, 256)], (.object 6 0), [⟨31, 0, .ro, 0, 0, 4294967295⟩]⟩,
  ⟨0x804000C8, [(32768, 256)], (.object 6 0), [⟨16, 0, .ro, 0, 0, 131071⟩]⟩,
  ⟨0x804000CC, [(32768, 256)], (.object 6 0), [⟨16, 0, .ro, 0, 0, 131071⟩]⟩,
  ⟨0x804000D0, [(32768, 256)], (.object 6 0), [⟨31, 0, .ro, 0, 0, 4294967295⟩]⟩,
  ⟨0x804000D4, [(32768, 256)], (.object 6 0), [⟨31, 0, .ro, 0, 0, 4294967295⟩]⟩,
  ⟨0x804000D8, [(32768, 256)], (.object 6 0), [⟨31, 0, .ro, 0, 0, 4294967295⟩]⟩,
  ⟨0x804000DC, [(32768, 256)], (.object 6 0), [⟨31, 0, .ro, 0, 0, 4294967295⟩]⟩,
  ⟨0x804000E0, [(32768, 256)], (.object 6 0), [⟨15, 0, .ro, 0, 0, 65535⟩, ⟨17, 16, .ro, 0, 0, 3⟩]⟩]

/-- Every table word of block SHP beyond the common registers. -/
def tblSHP : List WordDef := tblSHP_part0 ++ tblSHP_part1 ++ tblSHP_part2

/-! ### BAR2 tables of block CIP -/

def RXC_KEYED (c : Nat) : Fld := ⟨0x81000000 + 32 * c, 0, 0⟩
def RXC_DOOR (c : Nat) : Fld := ⟨0x81000000 + 32 * c, 2, 1⟩
def RXC_NEXT (c : Nat) : Fld := ⟨0x81000000 + 32 * c, 3, 3⟩
def RXC_PROFILE (c : Nat) : Fld := ⟨0x81000000 + 32 * c, 7, 4⟩
def RXC_SSRC (c : Nat) : Fld := ⟨0x81000004 + 32 * c, 31, 0⟩
def RXC_ROC (c : Nat) : Fld := ⟨0x81000008 + 32 * c, 31, 0⟩
def RXC_S_L (c : Nat) : Fld := ⟨0x8100000C + 32 * c, 15, 0⟩
def RXC_S_L_SET (c : Nat) : Fld := ⟨0x8100000C + 32 * c, 16, 16⟩
def RXC_AUTH_FAIL (c : Nat) : Fld := ⟨0x81000010 + 32 * c, 31, 0⟩
def RXC_REPLAY (c : Nat) : Fld := ⟨0x81000014 + 32 * c, 31, 0⟩
def RXC_FROM_INDEX (c : Nat) : Fld := ⟨0x81000018 + 32 * c, 31, 0⟩
def RXC_FROM_INDEX_HI (c : Nat) : Fld := ⟨0x8100001C + 32 * c, 15, 0⟩
def TXC_KEYED (q : Nat) : Fld := ⟨0x81080000 + 32 * q, 0, 0⟩
def TXC_PROFILE (q : Nat) : Fld := ⟨0x81080000 + 32 * q, 7, 4⟩
def TXC_SSRC (q : Nat) : Fld := ⟨0x81080004 + 32 * q, 31, 0⟩
def TXC_ROC (q : Nat) : Fld := ⟨0x81080008 + 32 * q, 31, 0⟩
def TXC_SEQ (q : Nat) : Fld := ⟨0x8108000C + 32 * q, 15, 0⟩
def TXC_PACKETS (q : Nat) : Fld := ⟨0x81080010 + 32 * q, 31, 0⟩
def TXC_PACKETS_HI (q : Nat) : Fld := ⟨0x81080014 + 32 * q, 31, 0⟩
def TXC_SRTCP_INDEX (q : Nat) : Fld := ⟨0x81080018 + 32 * q, 30, 0⟩

/-- Table words of CIP, part 0: address, instances, write guard and fields. -/
def tblCIP_part0 : List WordDef := [
  ⟨0x81000000, [(16384, 32)], .anyDoor, [⟨0, 0, .ro, 0, 0, 1⟩, ⟨2, 1, .ro, 0, 0, 3⟩, ⟨3, 3, .ro, 0, 0, 1⟩, ⟨7, 4, .ro, 0, 0, 15⟩]⟩,
  ⟨0x81000004, [(16384, 32)], .anyDoor, [⟨31, 0, .ro, 0, 0, 4294967295⟩]⟩,
  ⟨0x81000008, [(16384, 32)], .anyDoor, [⟨31, 0, .ro, 0, 0, 4294967295⟩]⟩,
  ⟨0x8100000C, [(16384, 32)], .anyDoor, [⟨15, 0, .ro, 0, 0, 65535⟩, ⟨16, 16, .ro, 0, 0, 1⟩]⟩,
  ⟨0x81000010, [(16384, 32)], .anyDoor, [⟨31, 0, .ro, 0, 0, 4294967295⟩]⟩,
  ⟨0x81000014, [(16384, 32)], .anyDoor, [⟨31, 0, .ro, 0, 0, 4294967295⟩]⟩,
  ⟨0x81000018, [(16384, 32)], .anyDoor, [⟨31, 0, .ro, 0, 0, 4294967295⟩]⟩,
  ⟨0x8100001C, [(16384, 32)], .anyDoor, [⟨15, 0, .ro, 0, 0, 65535⟩]⟩,
  ⟨0x81080000, [(32768, 32)], .anyDoor, [⟨0, 0, .ro, 0, 0, 1⟩, ⟨7, 4, .ro, 0, 0, 15⟩]⟩,
  ⟨0x81080004, [(32768, 32)], .anyDoor, [⟨31, 0, .ro, 0, 0, 4294967295⟩]⟩,
  ⟨0x81080008, [(32768, 32)], .anyDoor, [⟨31, 0, .ro, 0, 0, 4294967295⟩]⟩,
  ⟨0x8108000C, [(32768, 32)], .anyDoor, [⟨15, 0, .ro, 0, 0, 65535⟩]⟩,
  ⟨0x81080010, [(32768, 32)], .anyDoor, [⟨31, 0, .ro, 0, 0, 4294967295⟩]⟩,
  ⟨0x81080014, [(32768, 32)], .anyDoor, [⟨31, 0, .ro, 0, 0, 4294967295⟩]⟩,
  ⟨0x81080018, [(32768, 32)], .anyDoor, [⟨30, 0, .ro, 0, 0, 2147483647⟩]⟩]

/-- Every table word of block CIP beyond the common registers. -/
def tblCIP : List WordDef := tblCIP_part0

/-! ### BAR2 tables of block GAL -/

def XP_LEG (e : Nat) : Fld := ⟨0x82000000 + 8 * e, 13, 0⟩
def XP_BUS (e : Nat) : Fld := ⟨0x82000000 + 8 * e, 23, 14⟩
def XP_RAMP (e : Nat) : Fld := ⟨0x82000000 + 8 * e, 25, 24⟩
def XP_VALID (e : Nat) : Fld := ⟨0x82000000 + 8 * e, 26, 26⟩
def XP_GAIN (e : Nat) : Fld := ⟨0x82000004 + 8 * e, 19, 0⟩
def RCP_EN (leg : Nat) : Fld := ⟨0x82400000 + 128 * leg, 0, 0⟩
def RCP_SELF_EN (leg : Nat) : Fld := ⟨0x82400000 + 128 * leg, 1, 1⟩
def RCP_SELF_AUTO (leg : Nat) : Fld := ⟨0x82400000 + 128 * leg, 2, 2⟩
def RCP_LIM_EN (leg : Nat) : Fld := ⟨0x82400000 + 128 * leg, 3, 3⟩
def RCP_ST_EN (leg : Nat) : Fld := ⟨0x82400000 + 128 * leg, 4, 4⟩
def RCP_ST_DELAY (leg : Nat) : Fld := ⟨0x82400000 + 128 * leg, 6, 5⟩
def RCP_SELF_GAIN (leg : Nat) : Fld := ⟨0x82400004 + 128 * leg, 19, 0⟩
def RCP_LIM_THR (leg : Nat) : Fld := ⟨0x82400008 + 128 * leg, 22, 0⟩
def RCP_ST_GAIN (leg : Nat) : Fld := ⟨0x8240000C + 128 * leg, 19, 0⟩
def RCP_TERM_BUS (leg j : Nat) : Fld := ⟨0x82400010 + 128 * leg + 4 * j, 9, 0⟩
def RCP_TERM_GAIN (leg j : Nat) : Fld := ⟨0x82400010 + 128 * leg + 4 * j, 29, 10⟩
def RCP_TERM_EN (leg j : Nat) : Fld := ⟨0x82400010 + 128 * leg + 4 * j, 30, 30⟩
def RCP_EXCL_LEG (leg m : Nat) : Fld := ⟨0x82400030 + 128 * leg + 8 * m, 13, 0⟩
def RCP_EXCL_EN (leg m : Nat) : Fld := ⟨0x82400030 + 128 * leg + 8 * m, 14, 14⟩
def RCP_EXCL_AUTO (leg m : Nat) : Fld := ⟨0x82400030 + 128 * leg + 8 * m, 15, 15⟩
def RCP_EXCL_GAIN (leg m : Nat) : Fld := ⟨0x82400034 + 128 * leg + 8 * m, 19, 0⟩
def RCP_H_SELF (leg : Nat) : Fld := ⟨0x82400050 + 128 * leg, 19, 0⟩
def RCP_LIM_GAIN (leg : Nat) : Fld := ⟨0x82400054 + 128 * leg, 19, 0⟩
def RCP_OUT_CLIP (leg : Nat) : Fld := ⟨0x82400058 + 128 * leg, 31, 0⟩
def RCP_ST_MISS (leg : Nat) : Fld := ⟨0x8240005C + 128 * leg, 31, 0⟩
def MTR_FLIGHT (leg : Nat) : Fld := ⟨0x82600000 + 64 * leg, 31, 0⟩
def MTR_FLIGHT_HI (leg : Nat) : Fld := ⟨0x82600004 + 64 * leg, 31, 0⟩
def MTR_IN_PEAK (leg : Nat) : Fld := ⟨0x82600008 + 64 * leg, 22, 0⟩
def MTR_IN_RMS (leg : Nat) : Fld := ⟨0x8260000C + 64 * leg, 22, 0⟩
def MTR_IN_HOLD (leg : Nat) : Fld := ⟨0x82600010 + 64 * leg, 22, 0⟩
def MTR_OUT_PEAK (leg : Nat) : Fld := ⟨0x82600014 + 64 * leg, 22, 0⟩
def MTR_OUT_RMS (leg : Nat) : Fld := ⟨0x82600018 + 64 * leg, 22, 0⟩
def MTR_OUT_HOLD (leg : Nat) : Fld := ⟨0x8260001C + 64 * leg, 22, 0⟩
def MTR_LIM_MIN (leg : Nat) : Fld := ⟨0x82600020 + 64 * leg, 19, 0⟩
def MTR_FLAGS (leg : Nat) : Fld := ⟨0x82600024 + 64 * leg, 4, 0⟩
def BST_XPOINTS (b : Nat) : Fld := ⟨0x82700000 + 16 * b, 13, 0⟩
def BST_CLIP (b : Nat) : Fld := ⟨0x82700004 + 16 * b, 31, 0⟩
def BST_PEAK (b : Nat) : Fld := ⟨0x82700008 + 16 * b, 30, 0⟩

/-- Table words of GAL, part 0: address, instances, write guard and fields. -/
def tblGAL_part0 : List WordDef := [
  ⟨0x82000000, [(262144, 8)], .crosspoint, [⟨13, 0, .rwe, 0, 0, 10239⟩, ⟨23, 14, .rwe, 0, 0, 1023⟩, ⟨25, 24, .rwe, 0, 0, 3⟩, ⟨26, 26, .rwe, 0, 0, 1⟩, ⟨31, 27, .rwe, 0, 0, 0⟩]⟩,
  ⟨0x82000004, [(262144, 8)], .crosspoint, [⟨19, 0, .rwe, 0, 0, 1048575⟩, ⟨31, 20, .rwe, 0, 0, 0⟩]⟩,
  ⟨0x82400000, [(10240, 128)], (.object 0 0), [⟨0, 0, .rwe, 0, 0, 1⟩, ⟨1, 1, .rwe, 0, 0, 1⟩, ⟨2, 2, .rwe, 0, 0, 1⟩, ⟨3, 3, .rwe, 0, 0, 1⟩, ⟨4, 4, .rwe, 0, 0, 1⟩, ⟨6, 5, .rwe, 0, 0, 3⟩, ⟨31, 7, .rwe, 0, 0, 0⟩]⟩,
  ⟨0x82400004, [(10240, 128)], (.object 0 0), [⟨19, 0, .rwe, 0, 0, 1048575⟩, ⟨31, 20, .rwe, 0, 0, 0⟩]⟩,
  ⟨0x82400008, [(10240, 128)], (.object 0 0), [⟨22, 0, .rwe, 0, 1, 8388607⟩, ⟨31, 23, .rwe, 0, 0, 0⟩]⟩,
  ⟨0x8240000C, [(10240, 128)], (.object 0 0), [⟨19, 0, .rwe, 0, 0, 1048575⟩, ⟨31, 20, .rwe, 0, 0, 0⟩]⟩,
  ⟨0x82400010, [(10240, 128), (8, 4)], (.object 0 0), [⟨9, 0, .rwe, 0, 0, 1023⟩, ⟨29, 10, .rwe, 0, 0, 1048575⟩, ⟨30, 30, .rwe, 0, 0, 1⟩, ⟨31, 31, .rwe, 0, 0, 0⟩]⟩,
  ⟨0x82400030, [(10240, 128), (4, 8)], (.object 0 0), [⟨13, 0, .rwe, 0, 0, 10239⟩, ⟨14, 14, .rwe, 0, 0, 1⟩, ⟨15, 15, .rwe, 0, 0, 1⟩, ⟨31, 16, .rwe, 0, 0, 0⟩]⟩,
  ⟨0x82400034, [(10240, 128), (4, 8)], (.object 0 0), [⟨19, 0, .rwe, 0, 0, 1048575⟩, ⟨31, 20, .rwe, 0, 0, 0⟩]⟩,
  ⟨0x82400050, [(10240, 128)], (.object 0 0), [⟨19, 0, .ro, 0, 0, 1048575⟩]⟩,
  ⟨0x82400054, [(10240, 128)], (.object 0 0), [⟨19, 0, .ro, 0, 0, 1048575⟩]⟩,
  ⟨0x82400058, [(10240, 128)], (.object 0 0), [⟨31, 0, .ro, 0, 0, 4294967295⟩]⟩,
  ⟨0x8240005C, [(10240, 128)], (.object 0 0), [⟨31, 0, .ro, 0, 0, 4294967295⟩]⟩,
  ⟨0x82600000, [(10240, 64)], .anyDoor, [⟨31, 0, .ro, 0, 0, 4294967295⟩]⟩,
  ⟨0x82600004, [(10240, 64)], .anyDoor, [⟨31, 0, .ro, 0, 0, 4294967295⟩]⟩,
  ⟨0x82600008, [(10240, 64)], .anyDoor, [⟨22, 0, .ro, 0, 0, 8388607⟩]⟩,
  ⟨0x8260000C, [(10240, 64)], .anyDoor, [⟨22, 0, .ro, 0, 0, 8388607⟩]⟩,
  ⟨0x82600010, [(10240, 64)], .anyDoor, [⟨22, 0, .ro, 0, 0, 8388607⟩]⟩,
  ⟨0x82600014, [(10240, 64)], .anyDoor, [⟨22, 0, .ro, 0, 0, 8388607⟩]⟩,
  ⟨0x82600018, [(10240, 64)], .anyDoor, [⟨22, 0, .ro, 0, 0, 8388607⟩]⟩,
  ⟨0x8260001C, [(10240, 64)], .anyDoor, [⟨22, 0, .ro, 0, 0, 8388607⟩]⟩,
  ⟨0x82600020, [(10240, 64)], .anyDoor, [⟨19, 0, .ro, 0, 0, 1048575⟩]⟩,
  ⟨0x82600024, [(10240, 64)], .anyDoor, [⟨4, 0, .ro, 0, 0, 31⟩]⟩,
  ⟨0x82700000, [(1024, 16)], .anyDoor, [⟨13, 0, .ro, 0, 0, 16383⟩]⟩,
  ⟨0x82700004, [(1024, 16)], .anyDoor, [⟨31, 0, .ro, 0, 0, 4294967295⟩]⟩,
  ⟨0x82700008, [(1024, 16)], .anyDoor, [⟨30, 0, .ro, 0, 0, 2147483647⟩]⟩]

/-- Every table word of block GAL beyond the common registers. -/
def tblGAL : List WordDef := tblGAL_part0

/-! ### BAR2 tables of block DEC -/

def STR_EN (s : Nat) : Fld := ⟨0x83000000 + 256 * s, 0, 0⟩
def STR_CODEC (s : Nat) : Fld := ⟨0x83000000 + 256 * s, 2, 1⟩
def STR_DEPTH10 (s : Nat) : Fld := ⟨0x83000000 + 256 * s, 3, 3⟩
def STR_RATE (s : Nat) : Fld := ⟨0x83000000 + 256 * s, 7, 4⟩
def STR_ENGINE (s : Nat) : Fld := ⟨0x83000000 + 256 * s, 10, 8⟩
def STR_WAIT_FLIGHTS (s : Nat) : Fld := ⟨0x83000000 + 256 * s, 12, 11⟩
def STR_CCFB (s : Nat) : Fld := ⟨0x83000000 + 256 * s, 13, 13⟩
def STR_OP (s : Nat) : Fld := ⟨0x83000000 + 256 * s, 18, 14⟩
def STR_MAX_W (s : Nat) : Fld := ⟨0x83000004 + 256 * s, 11, 0⟩
def STR_MAX_H (s : Nat) : Fld := ⟨0x83000004 + 256 * s, 23, 12⟩
def STR_NPIC (s : Nat) : Fld := ⟨0x83000004 + 256 * s, 28, 24⟩
def STR_POOL_REGION (s : Nat) : Fld := ⟨0x83000008 + 256 * s, 7, 0⟩
def STR_POOL_OFS (s : Nat) : Fld := ⟨0x8300000C + 256 * s, 26, 0⟩
def STR_STATE (s : Nat) : Fld := ⟨0x83000020 + 256 * s, 1, 0⟩
def STR_WAITING (s : Nat) : Fld := ⟨0x83000020 + 256 * s, 5, 2⟩
def STR_REF_NEED (s : Nat) : Fld := ⟨0x83000020 + 256 * s, 10, 6⟩
def STR_AU_DECODED (s : Nat) : Fld := ⟨0x83000024 + 256 * s, 31, 0⟩
def STR_AU_CONCEALED (s : Nat) : Fld := ⟨0x83000028 + 256 * s, 31, 0⟩
def STR_LATE (s : Nat) : Fld := ⟨0x8300002C + 256 * s, 31, 0⟩
def STR_SLOT_BYTES (s : Nat) : Fld := ⟨0x83000030 + 256 * s, 19, 0⟩
def STR_DECL_RATE (s : Nat) : Fld := ⟨0x83000034 + 256 * s, 31, 0⟩
def PIC_PICTURE (s : Nat) : Fld := ⟨0x83010000 + 64 * s, 31, 0⟩
def PIC_PICTURE_HI (s : Nat) : Fld := ⟨0x83010004 + 64 * s, 31, 0⟩
def PIC_FLIGHT_TREADS (s : Nat) : Fld := ⟨0x83010008 + 64 * s, 31, 0⟩
def PIC_FLIGHT_SEC (s : Nat) : Fld := ⟨0x8301000C + 64 * s, 31, 0⟩
def PIC_FLIGHT_SEC_HI (s : Nat) : Fld := ⟨0x83010010 + 64 * s, 15, 0⟩
def PIC_RTP_TS (s : Nat) : Fld := ⟨0x83010014 + 64 * s, 31, 0⟩
def PIC_SLOT (s : Nat) : Fld := ⟨0x83010018 + 64 * s, 4, 0⟩
def PIC_FLAGS (s : Nat) : Fld := ⟨0x83010018 + 64 * s, 12, 8⟩
def PIC_DEPTH (s : Nat) : Fld := ⟨0x83010018 + 64 * s, 23, 16⟩
def PIC_WIN_X (s : Nat) : Fld := ⟨0x8301001C + 64 * s, 15, 0⟩
def PIC_WIN_Y (s : Nat) : Fld := ⟨0x8301001C + 64 * s, 31, 16⟩
def PIC_W (s : Nat) : Fld := ⟨0x83010020 + 64 * s, 15, 0⟩
def PIC_H (s : Nat) : Fld := ⟨0x83010020 + 64 * s, 31, 16⟩
def PIC_PITCH (s : Nat) : Fld := ⟨0x83010024 + 64 * s, 31, 0⟩
def PIC_LUMA (s : Nat) : Fld := ⟨0x83010028 + 64 * s, 31, 0⟩
def PIC_LUMA_HI (s : Nat) : Fld := ⟨0x8301002C + 64 * s, 31, 0⟩
def PIC_CHROMA (s : Nat) : Fld := ⟨0x83010030 + 64 * s, 31, 0⟩
def PIC_CHROMA_HI (s : Nat) : Fld := ⟨0x83010034 + 64 * s, 31, 0⟩

/-- Table words of DEC, part 0: address, instances, write guard and fields. -/
def tblDEC_part0 : List WordDef := [
  ⟨0x83000000, [(256, 256)], (.object 1 0), [⟨0, 0, .rwe, 0, 0, 1⟩, ⟨2, 1, .rwe, 0, 0, 3⟩, ⟨3, 3, .rwe, 0, 0, 1⟩, ⟨7, 4, .rwe, 0, 0, 12⟩, ⟨10, 8, .rwe, 0, 0, 7⟩, ⟨12, 11, .rwe, 0, 0, 3⟩, ⟨13, 13, .rwe, 0, 0, 1⟩, ⟨18, 14, .rwe, 0, 0, 31⟩, ⟨31, 19, .rwe, 0, 0, 0⟩]⟩,
  ⟨0x83000004, [(256, 256)], (.object 1 0), [⟨11, 0, .rwe, 0, 0, 4095⟩, ⟨23, 12, .rwe, 0, 0, 4095⟩, ⟨28, 24, .rwe, 0, 0, 31⟩, ⟨31, 29, .rwe, 0, 0, 0⟩]⟩,
  ⟨0x83000008, [(256, 256)], (.object 1 0), [⟨7, 0, .rwe, 0, 0, 255⟩, ⟨31, 8, .rwe, 0, 0, 0⟩]⟩,
  ⟨0x8300000C, [(256, 256)], (.object 1 0), [⟨26, 0, .rwe, 0, 0, 134217727⟩, ⟨31, 27, .rwe, 0, 0, 0⟩]⟩,
  ⟨0x83000010, [(256, 256)], (.object 1 0), [⟨31, 0, .rwe, 0, 0, 0⟩]⟩,
  ⟨0x83000014, [(256, 256)], (.object 1 0), [⟨31, 0, .rwe, 0, 0, 0⟩]⟩,
  ⟨0x83000018, [(256, 256)], (.object 1 0), [⟨31, 0, .rwe, 0, 0, 0⟩]⟩,
  ⟨0x8300001C, [(256, 256)], (.object 1 0), [⟨31, 0, .rwe, 0, 0, 0⟩]⟩,
  ⟨0x83000020, [(256, 256)], (.object 1 0), [⟨1, 0, .ro, 0, 0, 3⟩, ⟨5, 2, .ro, 0, 0, 15⟩, ⟨10, 6, .ro, 0, 0, 31⟩]⟩,
  ⟨0x83000024, [(256, 256)], (.object 1 0), [⟨31, 0, .ro, 0, 0, 4294967295⟩]⟩,
  ⟨0x83000028, [(256, 256)], (.object 1 0), [⟨31, 0, .ro, 0, 0, 4294967295⟩]⟩,
  ⟨0x8300002C, [(256, 256)], (.object 1 0), [⟨31, 0, .ro, 0, 0, 4294967295⟩]⟩,
  ⟨0x83000030, [(256, 256)], (.object 1 0), [⟨19, 0, .ro, 0, 0, 1048575⟩]⟩,
  ⟨0x83000034, [(256, 256)], (.object 1 0), [⟨31, 0, .ro, 0, 0, 4294967295⟩]⟩,
  ⟨0x83010000, [(256, 64)], .anyDoor, [⟨31, 0, .ro, 0, 0, 4294967295⟩]⟩,
  ⟨0x83010004, [(256, 64)], .anyDoor, [⟨31, 0, .ro, 0, 0, 4294967295⟩]⟩,
  ⟨0x83010008, [(256, 64)], .anyDoor, [⟨31, 0, .ro, 0, 0, 4294967295⟩]⟩,
  ⟨0x8301000C, [(256, 64)], .anyDoor, [⟨31, 0, .ro, 0, 0, 4294967295⟩]⟩,
  ⟨0x83010010, [(256, 64)], .anyDoor, [⟨15, 0, .ro, 0, 0, 65535⟩]⟩,
  ⟨0x83010014, [(256, 64)], .anyDoor, [⟨31, 0, .ro, 0, 0, 4294967295⟩]⟩,
  ⟨0x83010018, [(256, 64)], .anyDoor, [⟨4, 0, .ro, 0, 0, 31⟩, ⟨12, 8, .ro, 0, 0, 31⟩, ⟨23, 16, .ro, 0, 0, 255⟩]⟩,
  ⟨0x8301001C, [(256, 64)], .anyDoor, [⟨15, 0, .ro, 0, 0, 65535⟩, ⟨31, 16, .ro, 0, 0, 65535⟩]⟩,
  ⟨0x83010020, [(256, 64)], .anyDoor, [⟨15, 0, .ro, 0, 0, 65535⟩, ⟨31, 16, .ro, 0, 0, 65535⟩]⟩,
  ⟨0x83010024, [(256, 64)], .anyDoor, [⟨31, 0, .ro, 0, 0, 4294967295⟩]⟩,
  ⟨0x83010028, [(256, 64)], .anyDoor, [⟨31, 0, .ro, 0, 0, 4294967295⟩]⟩,
  ⟨0x8301002C, [(256, 64)], .anyDoor, [⟨31, 0, .ro, 0, 0, 4294967295⟩]⟩,
  ⟨0x83010030, [(256, 64)], .anyDoor, [⟨31, 0, .ro, 0, 0, 4294967295⟩]⟩,
  ⟨0x83010034, [(256, 64)], .anyDoor, [⟨31, 0, .ro, 0, 0, 4294967295⟩]⟩]

/-- Every table word of block DEC beyond the common registers. -/
def tblDEC : List WordDef := tblDEC_part0

/-! ### BAR2 tables of block HAL -/

def TILE_EN (t : Nat) : Fld := ⟨0x83410000 + 128 * t, 0, 0⟩
def TILE_COMP (t : Nat) : Fld := ⟨0x83410000 + 128 * t, 6, 1⟩
def TILE_SRC_KIND (t : Nat) : Fld := ⟨0x83410000 + 128 * t, 8, 7⟩
def TILE_SRC_ID (t : Nat) : Fld := ⟨0x83410000 + 128 * t, 16, 9⟩
def TILE_LAYER (t : Nat) : Fld := ⟨0x83410000 + 128 * t, 24, 17⟩
def TILE_CROP_X (t : Nat) : Fld := ⟨0x83410004 + 128 * t, 11, 0⟩
def TILE_CROP_Y (t : Nat) : Fld := ⟨0x83410004 + 128 * t, 23, 12⟩
def TILE_CROP_W (t : Nat) : Fld := ⟨0x83410008 + 128 * t, 11, 0⟩
def TILE_CROP_H (t : Nat) : Fld := ⟨0x83410008 + 128 * t, 23, 12⟩
def TILE_DST_X (t : Nat) : Fld := ⟨0x8341000C + 128 * t, 11, 0⟩
def TILE_DST_Y (t : Nat) : Fld := ⟨0x8341000C + 128 * t, 23, 12⟩
def TILE_DST_W (t : Nat) : Fld := ⟨0x83410010 + 128 * t, 11, 0⟩
def TILE_DST_H (t : Nat) : Fld := ⟨0x83410010 + 128 * t, 23, 12⟩
def TILE_FILL (t : Nat) : Fld := ⟨0x83410014 + 128 * t, 29, 0⟩
def TILE_BORDER_W (t : Nat) : Fld := ⟨0x83410018 + 128 * t, 5, 0⟩
def TILE_BORDER_PAL (t : Nat) : Fld := ⟨0x83410018 + 128 * t, 9, 6⟩
def TILE_TALLY (t : Nat) : Fld := ⟨0x83410018 + 128 * t, 11, 10⟩
def TILE_TALLY_W (t : Nat) : Fld := ⟨0x83410018 + 128 * t, 17, 12⟩
def TILE_MARK_EN (t : Nat) : Fld := ⟨0x83410018 + 128 * t, 18, 18⟩
def TILE_LABEL_EN (t : Nat) : Fld := ⟨0x8341001C + 128 * t, 0, 0⟩
def TILE_LABEL_POS (t : Nat) : Fld := ⟨0x8341001C + 128 * t, 2, 1⟩
def TILE_LABEL_SCALE (t : Nat) : Fld := ⟨0x8341001C + 128 * t, 4, 3⟩
def TILE_LABEL_FG (t : Nat) : Fld := ⟨0x8341001C + 128 * t, 8, 5⟩
def TILE_LABEL_BG (t : Nat) : Fld := ⟨0x8341001C + 128 * t, 12, 9⟩
def TILE_LABEL_BOX (t : Nat) : Fld := ⟨0x8341001C + 128 * t, 13, 13⟩
def TILE_METER_EN (t : Nat) : Fld := ⟨0x83410020 + 128 * t, 0, 0⟩
def TILE_METER_LEG (t : Nat) : Fld := ⟨0x83410020 + 128 * t, 14, 1⟩
def TILE_METER_COUNT (t : Nat) : Fld := ⟨0x83410020 + 128 * t, 17, 15⟩
def TILE_METER_MODE (t : Nat) : Fld := ⟨0x83410020 + 128 * t, 19, 18⟩
def TILE_METER_SIDE (t : Nat) : Fld := ⟨0x83410020 + 128 * t, 20, 20⟩
def TILE_METER_W (t : Nat) : Fld := ⟨0x83410020 + 128 * t, 26, 21⟩
def TILE_BURN_EN (t : Nat) : Fld := ⟨0x83410024 + 128 * t, 0, 0⟩
def TILE_BURN_KIND (t : Nat) : Fld := ⟨0x83410024 + 128 * t, 2, 1⟩
def TILE_BURN_POS (t : Nat) : Fld := ⟨0x83410024 + 128 * t, 4, 3⟩
def TILE_BURN_SCALE (t : Nat) : Fld := ⟨0x83410024 + 128 * t, 6, 5⟩
def TILE_LABEL (t : Nat) : Fld := ⟨0x83410040 + 128 * t, 31, 0⟩
def TILE_LABEL_HI (t : Nat) : Fld := ⟨0x83410044 + 128 * t, 31, 0⟩
def TILE_LABEL_W2 (t : Nat) : Fld := ⟨0x83410048 + 128 * t, 31, 0⟩
def TILE_LABEL_W3 (t : Nat) : Fld := ⟨0x8341004C + 128 * t, 31, 0⟩
def TILE_LABEL_W4 (t : Nat) : Fld := ⟨0x83410050 + 128 * t, 31, 0⟩
def TILE_LABEL_W5 (t : Nat) : Fld := ⟨0x83410054 + 128 * t, 31, 0⟩
def TILE_LABEL_W6 (t : Nat) : Fld := ⟨0x83410058 + 128 * t, 31, 0⟩
def TILE_LABEL_W7 (t : Nat) : Fld := ⟨0x8341005C + 128 * t, 31, 0⟩
def TILE_SRC_PICTURE (t : Nat) : Fld := ⟨0x83410060 + 128 * t, 31, 0⟩
def TILE_SRC_PICTURE_HI (t : Nat) : Fld := ⟨0x83410064 + 128 * t, 31, 0⟩
def TILE_SRC_STATE (t : Nat) : Fld := ⟨0x83410068 + 128 * t, 2, 0⟩
def INC_EN (i : Nat) : Fld := ⟨0x83430000 + 64 * i, 0, 0⟩
def INC_RATE (i : Nat) : Fld := ⟨0x83430000 + 64 * i, 4, 1⟩
def INC_SIZE (i : Nat) : Fld := ⟨0x83430000 + 64 * i, 5, 5⟩
def INC_NPIC (i : Nat) : Fld := ⟨0x83430000 + 64 * i, 10, 6⟩
def INC_POOL_REGION (i : Nat) : Fld := ⟨0x83430000 + 64 * i, 18, 11⟩
def INC_POOL_OFS (i : Nat) : Fld := ⟨0x83430004 + 64 * i, 26, 0⟩
def INC_MALFORMED (i : Nat) : Fld := ⟨0x83430008 + 64 * i, 31, 0⟩
def INC_LATE (i : Nat) : Fld := ⟨0x8343000C + 64 * i, 31, 0⟩
def INC_SKIPPED (i : Nat) : Fld := ⟨0x83430010 + 64 * i, 31, 0⟩
def OUTC_EN (n : Nat) : Fld := ⟨0x83431000 + 64 * n, 0, 0⟩
def OUTC_COMP (n : Nat) : Fld := ⟨0x83431000 + 64 * n, 6, 1⟩
def OUTC_QUEUE_A (n : Nat) : Fld := ⟨0x83431004 + 64 * n, 14, 0⟩
def OUTC_A_EN (n : Nat) : Fld := ⟨0x83431004 + 64 * n, 15, 15⟩
def OUTC_QUEUE_B (n : Nat) : Fld := ⟨0x83431004 + 64 * n, 30, 16⟩
def OUTC_B_EN (n : Nat) : Fld := ⟨0x83431004 + 64 * n, 31, 31⟩
def OUTC_TS_OFS (n : Nat) : Fld := ⟨0x83431008 + 64 * n, 31, 0⟩
def OUTC_FRAMES (n : Nat) : Fld := ⟨0x8343100C + 64 * n, 31, 0⟩
def COMP_EN (c : Nat) : Fld := ⟨0x83400000 + 256 * c, 0, 0⟩
def COMP_RATE (c : Nat) : Fld := ⟨0x83400000 + 256 * c, 4, 1⟩
def COMP_NPIC (c : Nat) : Fld := ⟨0x83400000 + 256 * c, 9, 5⟩
def COMP_POOL_REGION (c : Nat) : Fld := ⟨0x83400000 + 256 * c, 17, 10⟩
def COMP_WIDTH (c : Nat) : Fld := ⟨0x83400004 + 256 * c, 11, 0⟩
def COMP_HEIGHT (c : Nat) : Fld := ⟨0x83400004 + 256 * c, 23, 12⟩
def COMP_POOL_OFS (c : Nat) : Fld := ⟨0x83400008 + 256 * c, 26, 0⟩
def COMP_BG (c : Nat) : Fld := ⟨0x8340000C + 256 * c, 29, 0⟩
def COMP_TILES (c : Nat) : Fld := ⟨0x83400010 + 256 * c, 8, 0⟩
def COMP_DECL_RATE (c : Nat) : Fld := ⟨0x83400014 + 256 * c, 31, 0⟩
def COMP_REPEATS (c : Nat) : Fld := ⟨0x83400018 + 256 * c, 31, 0⟩
def COMPPUB_PICTURE (c : Nat) : Fld := ⟨0x83440000 + 64 * c, 31, 0⟩
def COMPPUB_PICTURE_HI (c : Nat) : Fld := ⟨0x83440004 + 64 * c, 31, 0⟩
def COMPPUB_FLIGHT_TREADS (c : Nat) : Fld := ⟨0x83440008 + 64 * c, 31, 0⟩
def COMPPUB_FLIGHT_SEC (c : Nat) : Fld := ⟨0x8344000C + 64 * c, 31, 0⟩
def COMPPUB_FLIGHT_SEC_HI (c : Nat) : Fld := ⟨0x83440010 + 64 * c, 15, 0⟩
def COMPPUB_RTP_TS (c : Nat) : Fld := ⟨0x83440014 + 64 * c, 31, 0⟩
def COMPPUB_SLOT (c : Nat) : Fld := ⟨0x83440018 + 64 * c, 4, 0⟩
def COMPPUB_FLAGS (c : Nat) : Fld := ⟨0x83440018 + 64 * c, 12, 8⟩
def COMPPUB_DEPTH (c : Nat) : Fld := ⟨0x83440018 + 64 * c, 23, 16⟩
def COMPPUB_WIN_X (c : Nat) : Fld := ⟨0x8344001C + 64 * c, 15, 0⟩
def COMPPUB_WIN_Y (c : Nat) : Fld := ⟨0x8344001C + 64 * c, 31, 16⟩
def COMPPUB_W (c : Nat) : Fld := ⟨0x83440020 + 64 * c, 15, 0⟩
def COMPPUB_H (c : Nat) : Fld := ⟨0x83440020 + 64 * c, 31, 16⟩
def COMPPUB_PITCH (c : Nat) : Fld := ⟨0x83440024 + 64 * c, 31, 0⟩
def COMPPUB_LUMA (c : Nat) : Fld := ⟨0x83440028 + 64 * c, 31, 0⟩
def COMPPUB_LUMA_HI (c : Nat) : Fld := ⟨0x8344002C + 64 * c, 31, 0⟩
def COMPPUB_CHROMA (c : Nat) : Fld := ⟨0x83440030 + 64 * c, 31, 0⟩
def COMPPUB_CHROMA_HI (c : Nat) : Fld := ⟨0x83440034 + 64 * c, 31, 0⟩
def INPUB_PICTURE (i : Nat) : Fld := ⟨0x83441000 + 64 * i, 31, 0⟩
def INPUB_PICTURE_HI (i : Nat) : Fld := ⟨0x83441004 + 64 * i, 31, 0⟩
def INPUB_FLIGHT_TREADS (i : Nat) : Fld := ⟨0x83441008 + 64 * i, 31, 0⟩
def INPUB_FLIGHT_SEC (i : Nat) : Fld := ⟨0x8344100C + 64 * i, 31, 0⟩
def INPUB_FLIGHT_SEC_HI (i : Nat) : Fld := ⟨0x83441010 + 64 * i, 15, 0⟩
def INPUB_RTP_TS (i : Nat) : Fld := ⟨0x83441014 + 64 * i, 31, 0⟩
def INPUB_SLOT (i : Nat) : Fld := ⟨0x83441018 + 64 * i, 4, 0⟩
def INPUB_FLAGS (i : Nat) : Fld := ⟨0x83441018 + 64 * i, 12, 8⟩
def INPUB_DEPTH (i : Nat) : Fld := ⟨0x83441018 + 64 * i, 23, 16⟩
def INPUB_WIN_X (i : Nat) : Fld := ⟨0x8344101C + 64 * i, 15, 0⟩
def INPUB_WIN_Y (i : Nat) : Fld := ⟨0x8344101C + 64 * i, 31, 16⟩
def INPUB_W (i : Nat) : Fld := ⟨0x83441020 + 64 * i, 15, 0⟩
def INPUB_H (i : Nat) : Fld := ⟨0x83441020 + 64 * i, 31, 16⟩
def INPUB_PITCH (i : Nat) : Fld := ⟨0x83441024 + 64 * i, 31, 0⟩
def INPUB_LUMA (i : Nat) : Fld := ⟨0x83441028 + 64 * i, 31, 0⟩
def INPUB_LUMA_HI (i : Nat) : Fld := ⟨0x8344102C + 64 * i, 31, 0⟩
def INPUB_CHROMA (i : Nat) : Fld := ⟨0x83441030 + 64 * i, 31, 0⟩
def INPUB_CHROMA_HI (i : Nat) : Fld := ⟨0x83441034 + 64 * i, 31, 0⟩
def CL_EVEN (s ph k : Nat) : Fld := ⟨0x83460000 + 1024 * s + 16 * ph + 4 * k, 15, 0⟩
def CL_ODD (s ph k : Nat) : Fld := ⟨0x83460000 + 1024 * s + 16 * ph + 4 * k, 31, 16⟩
def CC_EVEN (s ph k : Nat) : Fld := ⟨0x83461000 + 512 * s + 8 * ph + 4 * k, 15, 0⟩
def CC_ODD (s ph k : Nat) : Fld := ⟨0x83461000 + 512 * s + 8 * ph + 4 * k, 31, 16⟩
def GLYPH_COVER (g w : Nat) : Fld := ⟨0x83480000 + 192 * g + 4 * w, 31, 0⟩

/-- Table words of HAL, part 0: address, instances, write guard and fields. -/
def tblHAL_part0 : List WordDef := [
  ⟨0x83410000, [(1024, 128)], .tile, [⟨0, 0, .rwe, 0, 0, 1⟩, ⟨6, 1, .rwe, 0, 0, 63⟩, ⟨8, 7, .rwe, 0, 0, 3⟩, ⟨16, 9, .rwe, 0, 0, 255⟩, ⟨24, 17, .rwe, 0, 0, 255⟩, ⟨31, 25, .rwe, 0, 0, 0⟩]⟩,
  ⟨0x83410004, [(1024, 128)], .tile, [⟨11, 0, .rwe, 0, 0, 4095⟩, ⟨23, 12, .rwe, 0, 0, 4095⟩, ⟨31, 24, .rwe, 0, 0, 0⟩]⟩,
  ⟨0x83410008, [(1024, 128)], .tile, [⟨11, 0, .rwe, 0, 0, 4095⟩, ⟨23, 12, .rwe, 0, 0, 4095⟩, ⟨31, 24, .rwe, 0, 0, 0⟩]⟩,
  ⟨0x8341000C, [(1024, 128)], .tile, [⟨11, 0, .rwe, 0, 0, 4095⟩, ⟨23, 12, .rwe, 0, 0, 4095⟩, ⟨31, 24, .rwe, 0, 0, 0⟩]⟩,
  ⟨0x83410010, [(1024, 128)], .tile, [⟨11, 0, .rwe, 0, 2, 4095⟩, ⟨23, 12, .rwe, 0, 2, 4095⟩, ⟨31, 24, .rwe, 0, 0, 0⟩]⟩,
  ⟨0x83410014, [(1024, 128)], .tile, [⟨29, 0, .rwe, 0, 0, 1073741823⟩, ⟨31, 30, .rwe, 0, 0, 0⟩]⟩,
  ⟨0x83410018, [(1024, 128)], .tile, [⟨5, 0, .rwe, 0, 0, 63⟩, ⟨9, 6, .rwe, 0, 0, 15⟩, ⟨11, 10, .rwe, 0, 0, 3⟩, ⟨17, 12, .rwe, 0, 0, 63⟩, ⟨18, 18, .rwe, 0, 0, 1⟩, ⟨31, 19, .rwe, 0, 0, 0⟩]⟩,
  ⟨0x8341001C, [(1024, 128)], .tile, [⟨0, 0, .rwe, 0, 0, 1⟩, ⟨2, 1, .rwe, 0, 0, 3⟩, ⟨4, 3, .rwe, 0, 0, 3⟩, ⟨8, 5, .rwe, 0, 0, 15⟩, ⟨12, 9, .rwe, 0, 0, 15⟩, ⟨13, 13, .rwe, 0, 0, 1⟩, ⟨31, 14, .rwe, 0, 0, 0⟩]⟩,
  ⟨0x83410020, [(1024, 128)], .tile, [⟨0, 0, .rwe, 0, 0, 1⟩, ⟨14, 1, .rwe, 0, 0, 10239⟩, ⟨17, 15, .rwe, 0, 0, 7⟩, ⟨19, 18, .rwe, 0, 0, 2⟩, ⟨20, 20, .rwe, 0, 0, 1⟩, ⟨26, 21, .rwe, 0, 2, 63⟩, ⟨31, 27, .rwe, 0, 0, 0⟩]⟩,
  ⟨0x83410024, [(1024, 128)], .tile, [⟨0, 0, .rwe, 0, 0, 1⟩, ⟨2, 1, .rwe, 0, 0, 2⟩, ⟨4, 3, .rwe, 0, 0, 3⟩, ⟨6, 5, .rwe, 0, 0, 3⟩, ⟨31, 7, .rwe, 0, 0, 0⟩]⟩,
  ⟨0x83410028, [(1024, 128)], .tile, [⟨31, 0, .rwe, 0, 0, 0⟩]⟩,
  ⟨0x8341002C, [(1024, 128)], .tile, [⟨31, 0, .rwe, 0, 0, 0⟩]⟩,
  ⟨0x83410030, [(1024, 128)], .tile, [⟨31, 0, .rwe, 0, 0, 0⟩]⟩,
  ⟨0x83410034, [(1024, 128)], .tile, [⟨31, 0, .rwe, 0, 0, 0⟩]⟩,
  ⟨0x83410038, [(1024, 128)], .tile, [⟨31, 0, .rwe, 0, 0, 0⟩]⟩,
  ⟨0x8341003C, [(1024, 128)], .tile, [⟨31, 0, .rwe, 0, 0, 0⟩]⟩,
  ⟨0x83410040, [(1024, 128)], .tile, [⟨31, 0, .rwe, 0, 0, 4294967295⟩]⟩,
  ⟨0x83410044, [(1024, 128)], .tile, [⟨31, 0, .rwe, 0, 0, 4294967295⟩]⟩,
  ⟨0x83410048, [(1024, 128)], .tile, [⟨31, 0, .rwe, 0, 0, 4294967295⟩]⟩,
  ⟨0x8341004C, [(1024, 128)], .tile, [⟨31, 0, .rwe, 0, 0, 4294967295⟩]⟩,
  ⟨0x83410050, [(1024, 128)], .tile, [⟨31, 0, .rwe, 0, 0, 4294967295⟩]⟩,
  ⟨0x83410054, [(1024, 128)], .tile, [⟨31, 0, .rwe, 0, 0, 4294967295⟩]⟩,
  ⟨0x83410058, [(1024, 128)], .tile, [⟨31, 0, .rwe, 0, 0, 4294967295⟩]⟩,
  ⟨0x8341005C, [(1024, 128)], .tile, [⟨31, 0, .rwe, 0, 0, 4294967295⟩]⟩,
  ⟨0x83410060, [(1024, 128)], .tile, [⟨31, 0, .ro, 0, 0, 4294967295⟩]⟩,
  ⟨0x83410064, [(1024, 128)], .tile, [⟨31, 0, .ro, 0, 0, 4294967295⟩]⟩,
  ⟨0x83410068, [(1024, 128)], .tile, [⟨2, 0, .ro, 0, 0, 7⟩]⟩,
  ⟨0x83430000, [(16, 64)], .devOwner, [⟨0, 0, .rwe, 0, 0, 1⟩, ⟨4, 1, .rwe, 0, 0, 12⟩, ⟨5, 5, .rwe, 0, 0, 1⟩, ⟨10, 6, .rwe, 0, 0, 31⟩, ⟨18, 11, .rwe, 0, 0, 255⟩, ⟨31, 19, .rwe, 0, 0, 0⟩]⟩,
  ⟨0x83430004, [(16, 64)], .devOwner, [⟨26, 0, .rwe, 0, 0, 134217727⟩, ⟨31, 27, .rwe, 0, 0, 0⟩]⟩,
  ⟨0x83430008, [(16, 64)], .devOwner, [⟨31, 0, .ro, 0, 0, 4294967295⟩]⟩,
  ⟨0x8343000C, [(16, 64)], .devOwner, [⟨31, 0, .ro, 0, 0, 4294967295⟩]⟩,
  ⟨0x83430010, [(16, 64)], .devOwner, [⟨31, 0, .ro, 0, 0, 4294967295⟩]⟩,
  ⟨0x83431000, [(8, 64)], .outContext, [⟨0, 0, .rwe, 0, 0, 1⟩, ⟨6, 1, .rwe, 0, 0, 63⟩, ⟨31, 7, .rwe, 0, 0, 0⟩]⟩,
  ⟨0x83431004, [(8, 64)], .outContext, [⟨14, 0, .rwe, 0, 0, 32767⟩, ⟨15, 15, .rwe, 0, 0, 1⟩, ⟨30, 16, .rwe, 0, 0, 32767⟩, ⟨31, 31, .rwe, 0, 0, 1⟩]⟩,
  ⟨0x83431008, [(8, 64)], .outContext, [⟨31, 0, .rwe, 0, 0, 4294967295⟩]⟩,
  ⟨0x8343100C, [(8, 64)], .outContext, [⟨31, 0, .ro, 0, 0, 4294967295⟩]⟩,
  ⟨0x83400000, [(64, 256)], (.object 4 0), [⟨0, 0, .rwe, 0, 0, 1⟩, ⟨4, 1, .rwe, 0, 0, 12⟩, ⟨9, 5, .rwe, 0, 0, 31⟩, ⟨17, 10, .rwe, 0, 0, 255⟩, ⟨31, 18, .rwe, 0, 0, 0⟩]⟩,
  ⟨0x83400004, [(64, 256)], (.object 4 0), [⟨11, 0, .rwe, 0, 0, 4095⟩, ⟨23, 12, .rwe, 0, 0, 4095⟩, ⟨31, 24, .rwe, 0, 0, 0⟩]⟩,
  ⟨0x83400008, [(64, 256)], (.object 4 0), [⟨26, 0, .rwe, 0, 0, 134217727⟩, ⟨31, 27, .rwe, 0, 0, 0⟩]⟩,
  ⟨0x8340000C, [(64, 256)], (.object 4 0), [⟨29, 0, .rwe, 0, 0, 1073741823⟩, ⟨31, 30, .rwe, 0, 0, 0⟩]⟩]

/-- Table words of HAL, part 1: address, instances, write guard and fields. -/
def tblHAL_part1 : List WordDef := [
  ⟨0x83400010, [(64, 256)], (.object 4 0), [⟨8, 0, .ro, 0, 0, 511⟩]⟩,
  ⟨0x83400014, [(64, 256)], (.object 4 0), [⟨31, 0, .ro, 0, 0, 4294967295⟩]⟩,
  ⟨0x83400018, [(64, 256)], (.object 4 0), [⟨31, 0, .ro, 0, 0, 4294967295⟩]⟩,
  ⟨0x83440000, [(64, 64)], .anyDoor, [⟨31, 0, .ro, 0, 0, 4294967295⟩]⟩,
  ⟨0x83440004, [(64, 64)], .anyDoor, [⟨31, 0, .ro, 0, 0, 4294967295⟩]⟩,
  ⟨0x83440008, [(64, 64)], .anyDoor, [⟨31, 0, .ro, 0, 0, 4294967295⟩]⟩,
  ⟨0x8344000C, [(64, 64)], .anyDoor, [⟨31, 0, .ro, 0, 0, 4294967295⟩]⟩,
  ⟨0x83440010, [(64, 64)], .anyDoor, [⟨15, 0, .ro, 0, 0, 65535⟩]⟩,
  ⟨0x83440014, [(64, 64)], .anyDoor, [⟨31, 0, .ro, 0, 0, 4294967295⟩]⟩,
  ⟨0x83440018, [(64, 64)], .anyDoor, [⟨4, 0, .ro, 0, 0, 31⟩, ⟨12, 8, .ro, 0, 0, 31⟩, ⟨23, 16, .ro, 0, 0, 255⟩]⟩,
  ⟨0x8344001C, [(64, 64)], .anyDoor, [⟨15, 0, .ro, 0, 0, 65535⟩, ⟨31, 16, .ro, 0, 0, 65535⟩]⟩,
  ⟨0x83440020, [(64, 64)], .anyDoor, [⟨15, 0, .ro, 0, 0, 65535⟩, ⟨31, 16, .ro, 0, 0, 65535⟩]⟩,
  ⟨0x83440024, [(64, 64)], .anyDoor, [⟨31, 0, .ro, 0, 0, 4294967295⟩]⟩,
  ⟨0x83440028, [(64, 64)], .anyDoor, [⟨31, 0, .ro, 0, 0, 4294967295⟩]⟩,
  ⟨0x8344002C, [(64, 64)], .anyDoor, [⟨31, 0, .ro, 0, 0, 4294967295⟩]⟩,
  ⟨0x83440030, [(64, 64)], .anyDoor, [⟨31, 0, .ro, 0, 0, 4294967295⟩]⟩,
  ⟨0x83440034, [(64, 64)], .anyDoor, [⟨31, 0, .ro, 0, 0, 4294967295⟩]⟩,
  ⟨0x83441000, [(16, 64)], .anyDoor, [⟨31, 0, .ro, 0, 0, 4294967295⟩]⟩,
  ⟨0x83441004, [(16, 64)], .anyDoor, [⟨31, 0, .ro, 0, 0, 4294967295⟩]⟩,
  ⟨0x83441008, [(16, 64)], .anyDoor, [⟨31, 0, .ro, 0, 0, 4294967295⟩]⟩,
  ⟨0x8344100C, [(16, 64)], .anyDoor, [⟨31, 0, .ro, 0, 0, 4294967295⟩]⟩,
  ⟨0x83441010, [(16, 64)], .anyDoor, [⟨15, 0, .ro, 0, 0, 65535⟩]⟩,
  ⟨0x83441014, [(16, 64)], .anyDoor, [⟨31, 0, .ro, 0, 0, 4294967295⟩]⟩,
  ⟨0x83441018, [(16, 64)], .anyDoor, [⟨4, 0, .ro, 0, 0, 31⟩, ⟨12, 8, .ro, 0, 0, 31⟩, ⟨23, 16, .ro, 0, 0, 255⟩]⟩,
  ⟨0x8344101C, [(16, 64)], .anyDoor, [⟨15, 0, .ro, 0, 0, 65535⟩, ⟨31, 16, .ro, 0, 0, 65535⟩]⟩,
  ⟨0x83441020, [(16, 64)], .anyDoor, [⟨15, 0, .ro, 0, 0, 65535⟩, ⟨31, 16, .ro, 0, 0, 65535⟩]⟩,
  ⟨0x83441024, [(16, 64)], .anyDoor, [⟨31, 0, .ro, 0, 0, 4294967295⟩]⟩,
  ⟨0x83441028, [(16, 64)], .anyDoor, [⟨31, 0, .ro, 0, 0, 4294967295⟩]⟩,
  ⟨0x8344102C, [(16, 64)], .anyDoor, [⟨31, 0, .ro, 0, 0, 4294967295⟩]⟩,
  ⟨0x83441030, [(16, 64)], .anyDoor, [⟨31, 0, .ro, 0, 0, 4294967295⟩]⟩,
  ⟨0x83441034, [(16, 64)], .anyDoor, [⟨31, 0, .ro, 0, 0, 4294967295⟩]⟩,
  ⟨0x83460000, [(2, 1024), (64, 16), (4, 4)], .devOwner, [⟨15, 0, .rwe, 0, 0, 65535⟩, ⟨31, 16, .rwe, 0, 0, 65535⟩]⟩,
  ⟨0x83461000, [(2, 512), (64, 8), (2, 4)], .devOwner, [⟨15, 0, .rwe, 0, 0, 65535⟩, ⟨31, 16, .rwe, 0, 0, 65535⟩]⟩,
  ⟨0x83480000, [(256, 192), (48, 4)], .devOwner, [⟨31, 0, .rwe, 0, 0, 4294967295⟩]⟩]

/-- Every table word of block HAL beyond the common registers. -/
def tblHAL : List WordDef := tblHAL_part0 ++ tblHAL_part1

/-! ### BAR2 tables of block ENC -/

def FRM_FRAME (p : Nat) : Fld := ⟨0x83810000 + 64 * p, 31, 0⟩
def FRM_FRAME_HI (p : Nat) : Fld := ⟨0x83810004 + 64 * p, 31, 0⟩
def FRM_FLIGHT_TREADS (p : Nat) : Fld := ⟨0x83810008 + 64 * p, 31, 0⟩
def FRM_FLIGHT_SEC (p : Nat) : Fld := ⟨0x8381000C + 64 * p, 31, 0⟩
def FRM_FLIGHT_SEC_HI (p : Nat) : Fld := ⟨0x83810010 + 64 * p, 15, 0⟩
def FRM_SLOT (p : Nat) : Fld := ⟨0x83810010 + 64 * p, 20, 16⟩
def FRM_FLAGS (p : Nat) : Fld := ⟨0x83810010 + 64 * p, 30, 24⟩
def FRM_TID (p : Nat) : Fld := ⟨0x83810014 + 64 * p, 1, 0⟩
def FRM_STATS_SLOT (p : Nat) : Fld := ⟨0x83810014 + 64 * p, 12, 8⟩
def FRM_RTP_TS (p : Nat) : Fld := ⟨0x83810018 + 64 * p, 31, 0⟩
def FRM_BYTES (p : Nat) : Fld := ⟨0x8381001C + 64 * p, 31, 0⟩
def FRM_BYTES_HI (p : Nat) : Fld := ⟨0x83810020 + 64 * p, 31, 0⟩
def FRM_BYTES_W2 (p : Nat) : Fld := ⟨0x83810024 + 64 * p, 31, 0⟩
def PRG_EN (p : Nat) : Fld := ⟨0x83800000 + 512 * p, 0, 0⟩
def PRG_CODEC (p : Nat) : Fld := ⟨0x83800000 + 512 * p, 1, 1⟩
def PRG_DEPTH10 (p : Nat) : Fld := ⟨0x83800000 + 512 * p, 2, 2⟩
def PRG_RATE (p : Nat) : Fld := ⟨0x83800000 + 512 * p, 6, 3⟩
def PRG_COMP (p : Nat) : Fld := ⟨0x83800000 + 512 * p, 12, 7⟩
def PRG_SPATIAL (p : Nat) : Fld := ⟨0x83800000 + 512 * p, 14, 13⟩
def PRG_TEMPORAL (p : Nat) : Fld := ⟨0x83800000 + 512 * p, 16, 15⟩
def PRG_NREF (p : Nat) : Fld := ⟨0x83800000 + 512 * p, 18, 17⟩
def PRG_STATS_EN (p : Nat) : Fld := ⟨0x83800000 + 512 * p, 19, 19⟩
def PRG_STATS_LAYER (p : Nat) : Fld := ⟨0x83800000 + 512 * p, 21, 20⟩
def PRG_KEY_INTERVAL (p : Nat) : Fld := ⟨0x83800004 + 512 * p, 15, 0⟩
def PRG_MIN_KEY_GAP (p : Nat) : Fld := ⟨0x83800004 + 512 * p, 23, 16⟩
def PRG_KEY_MUL (p : Nat) : Fld := ⟨0x83800004 + 512 * p, 31, 24⟩
def PRG_OUT_REGION (p : Nat) : Fld := ⟨0x83800008 + 512 * p, 7, 0⟩
def PRG_NOUT (p : Nat) : Fld := ⟨0x83800008 + 512 * p, 12, 8⟩
def PRG_PAYLOAD_MAX (p : Nat) : Fld := ⟨0x83800008 + 512 * p, 23, 13⟩
def PRG_OUT_OFS (p : Nat) : Fld := ⟨0x8380000C + 512 * p, 26, 0⟩
def PRG_OUT_SLOT_KIB (p : Nat) : Fld := ⟨0x83800010 + 512 * p, 15, 0⟩
def PRG_REC_REGION (p : Nat) : Fld := ⟨0x83800014 + 512 * p, 7, 0⟩
def PRG_REC_OFS (p : Nat) : Fld := ⟨0x83800018 + 512 * p, 26, 0⟩
def PRG_STATS_REGION (p : Nat) : Fld := ⟨0x8380001C + 512 * p, 7, 0⟩
def PRG_NSTATS (p : Nat) : Fld := ⟨0x8380001C + 512 * p, 12, 8⟩
def PRG_STATS_OFS (p : Nat) : Fld := ⟨0x83800020 + 512 * p, 26, 0⟩
def PRG_TS_OFS (p : Nat) : Fld := ⟨0x83800024 + 512 * p, 31, 0⟩
def PRG_ENGINE (p s : Nat) : Fld := ⟨0x83800040 + 512 * p + 64 * s, 2, 0⟩
def PRG_SR_X (p s : Nat) : Fld := ⟨0x83800040 + 512 * p + 64 * s, 7, 3⟩
def PRG_SR_Y (p s : Nat) : Fld := ⟨0x83800040 + 512 * p + 64 * s, 11, 8⟩
def PRG_ADAPT (p s : Nat) : Fld := ⟨0x83800040 + 512 * p + 64 * s, 12, 12⟩
def PRG_BR_MIN (p s : Nat) : Fld := ⟨0x83800044 + 512 * p + 64 * s, 19, 0⟩
def PRG_BR_MAX (p s : Nat) : Fld := ⟨0x83800048 + 512 * p + 64 * s, 19, 0⟩
def PRG_MIN_QP (p s : Nat) : Fld := ⟨0x8380004C + 512 * p + 64 * s, 7, 0⟩
def PRG_MAX_QP (p s : Nat) : Fld := ⟨0x8380004C + 512 * p + 64 * s, 15, 8⟩
def PRG_VBV_MS (p s : Nat) : Fld := ⟨0x8380004C + 512 * p + 64 * s, 27, 16⟩
def PRG_TARGET (p s : Nat) : Fld := ⟨0x83800050 + 512 * p + 64 * s, 19, 0⟩
def PRG_FULLNESS (p s : Nat) : Fld := ⟨0x83800054 + 512 * p + 64 * s, 31, 0⟩
def PRG_CARRY (p s : Nat) : Fld := ⟨0x83800058 + 512 * p + 64 * s, 31, 0⟩
def PRG_LAST_BITS (p s : Nat) : Fld := ⟨0x8380005C + 512 * p + 64 * s, 31, 0⟩
def PRG_LAST_QP (p s : Nat) : Fld := ⟨0x83800060 + 512 * p + 64 * s, 7, 0⟩
def PRG_PICTURES (p s : Nat) : Fld := ⟨0x83800064 + 512 * p + 64 * s, 31, 0⟩
def PRG_TAIL (p s : Nat) : Fld := ⟨0x83800068 + 512 * p + 64 * s, 31, 0⟩
def PRG_SKIPPED (p s : Nat) : Fld := ⟨0x8380006C + 512 * p + 64 * s, 31, 0⟩
def PRG_FALLBACK (p s : Nat) : Fld := ⟨0x83800070 + 512 * p + 64 * s, 31, 0⟩
def PRG_DECL_RATE (p : Nat) : Fld := ⟨0x83800100 + 512 * p, 31, 0⟩
def PRG_REPEATS (p : Nat) : Fld := ⟨0x83800104 + 512 * p, 31, 0⟩
def PRG_LATE (p : Nat) : Fld := ⟨0x83800108 + 512 * p, 31, 0⟩

/-- Table words of ENC, part 0: address, instances, write guard and fields. -/
def tblENC_part0 : List WordDef := [
  ⟨0x83810000, [(64, 64)], .anyDoor, [⟨31, 0, .ro, 0, 0, 4294967295⟩]⟩,
  ⟨0x83810004, [(64, 64)], .anyDoor, [⟨31, 0, .ro, 0, 0, 4294967295⟩]⟩,
  ⟨0x83810008, [(64, 64)], .anyDoor, [⟨31, 0, .ro, 0, 0, 4294967295⟩]⟩,
  ⟨0x8381000C, [(64, 64)], .anyDoor, [⟨31, 0, .ro, 0, 0, 4294967295⟩]⟩,
  ⟨0x83810010, [(64, 64)], .anyDoor, [⟨15, 0, .ro, 0, 0, 65535⟩, ⟨20, 16, .ro, 0, 0, 31⟩, ⟨30, 24, .ro, 0, 0, 127⟩]⟩,
  ⟨0x83810014, [(64, 64)], .anyDoor, [⟨1, 0, .ro, 0, 0, 3⟩, ⟨12, 8, .ro, 0, 0, 31⟩]⟩,
  ⟨0x83810018, [(64, 64)], .anyDoor, [⟨31, 0, .ro, 0, 0, 4294967295⟩]⟩,
  ⟨0x8381001C, [(64, 64)], .anyDoor, [⟨31, 0, .ro, 0, 0, 4294967295⟩]⟩,
  ⟨0x83810020, [(64, 64)], .anyDoor, [⟨31, 0, .ro, 0, 0, 4294967295⟩]⟩,
  ⟨0x83810024, [(64, 64)], .anyDoor, [⟨31, 0, .ro, 0, 0, 4294967295⟩]⟩,
  ⟨0x83800000, [(64, 512)], (.object 3 0), [⟨0, 0, .rwe, 0, 0, 1⟩, ⟨1, 1, .rwe, 0, 0, 1⟩, ⟨2, 2, .rwe, 0, 0, 1⟩, ⟨6, 3, .rwe, 0, 0, 12⟩, ⟨12, 7, .rwe, 0, 0, 63⟩, ⟨14, 13, .rwe, 0, 0, 3⟩, ⟨16, 15, .rwe, 0, 0, 3⟩, ⟨18, 17, .rwe, 0, 0, 3⟩, ⟨19, 19, .rwe, 0, 0, 1⟩, ⟨21, 20, .rwe, 0, 0, 3⟩, ⟨31, 22, .rwe, 0, 0, 0⟩]⟩,
  ⟨0x83800004, [(64, 512)], (.object 3 0), [⟨15, 0, .rwe, 0, 0, 65535⟩, ⟨23, 16, .rwe, 0, 0, 255⟩, ⟨31, 24, .rwe, 0, 0, 255⟩]⟩,
  ⟨0x83800008, [(64, 512)], (.object 3 0), [⟨7, 0, .rwe, 0, 0, 255⟩, ⟨12, 8, .rwe, 0, 0, 31⟩, ⟨23, 13, .rwe, 0, 0, 2047⟩, ⟨31, 24, .rwe, 0, 0, 0⟩]⟩,
  ⟨0x8380000C, [(64, 512)], (.object 3 0), [⟨26, 0, .rwe, 0, 0, 134217727⟩, ⟨31, 27, .rwe, 0, 0, 0⟩]⟩,
  ⟨0x83800010, [(64, 512)], (.object 3 0), [⟨15, 0, .rwe, 0, 0, 65535⟩, ⟨31, 16, .rwe, 0, 0, 0⟩]⟩,
  ⟨0x83800014, [(64, 512)], (.object 3 0), [⟨7, 0, .rwe, 0, 0, 255⟩, ⟨31, 8, .rwe, 0, 0, 0⟩]⟩,
  ⟨0x83800018, [(64, 512)], (.object 3 0), [⟨26, 0, .rwe, 0, 0, 134217727⟩, ⟨31, 27, .rwe, 0, 0, 0⟩]⟩,
  ⟨0x8380001C, [(64, 512)], (.object 3 0), [⟨7, 0, .rwe, 0, 0, 255⟩, ⟨12, 8, .rwe, 0, 0, 31⟩, ⟨31, 13, .rwe, 0, 0, 0⟩]⟩,
  ⟨0x83800020, [(64, 512)], (.object 3 0), [⟨26, 0, .rwe, 0, 0, 134217727⟩, ⟨31, 27, .rwe, 0, 0, 0⟩]⟩,
  ⟨0x83800024, [(64, 512)], (.object 3 0), [⟨31, 0, .rwe, 0, 0, 4294967295⟩]⟩,
  ⟨0x83800028, [(64, 512)], (.object 3 0), [⟨31, 0, .rwe, 0, 0, 0⟩]⟩,
  ⟨0x8380002C, [(64, 512)], (.object 3 0), [⟨31, 0, .rwe, 0, 0, 0⟩]⟩,
  ⟨0x83800030, [(64, 512)], (.object 3 0), [⟨31, 0, .rwe, 0, 0, 0⟩]⟩,
  ⟨0x83800034, [(64, 512)], (.object 3 0), [⟨31, 0, .rwe, 0, 0, 0⟩]⟩,
  ⟨0x83800038, [(64, 512)], (.object 3 0), [⟨31, 0, .rwe, 0, 0, 0⟩]⟩,
  ⟨0x8380003C, [(64, 512)], (.object 3 0), [⟨31, 0, .rwe, 0, 0, 0⟩]⟩,
  ⟨0x83800040, [(64, 512), (3, 64)], (.object 3 0), [⟨2, 0, .rwe, 0, 0, 7⟩, ⟨7, 3, .rwe, 0, 0, 31⟩, ⟨11, 8, .rwe, 0, 0, 15⟩, ⟨12, 12, .rwe, 0, 0, 1⟩, ⟨31, 13, .rwe, 0, 0, 0⟩]⟩,
  ⟨0x83800044, [(64, 512), (3, 64)], (.object 3 0), [⟨19, 0, .rwe, 0, 0, 1048575⟩, ⟨31, 20, .rwe, 0, 0, 0⟩]⟩,
  ⟨0x83800048, [(64, 512), (3, 64)], (.object 3 0), [⟨19, 0, .rwe, 0, 0, 1048575⟩, ⟨31, 20, .rwe, 0, 0, 0⟩]⟩,
  ⟨0x8380004C, [(64, 512), (3, 64)], (.object 3 0), [⟨7, 0, .rwe, 0, 0, 255⟩, ⟨15, 8, .rwe, 0, 0, 255⟩, ⟨27, 16, .rwe, 0, 0, 4095⟩, ⟨31, 28, .rwe, 0, 0, 0⟩]⟩,
  ⟨0x83800050, [(64, 512), (3, 64)], (.object 3 0), [⟨19, 0, .ro, 0, 0, 1048575⟩]⟩,
  ⟨0x83800054, [(64, 512), (3, 64)], (.object 3 0), [⟨31, 0, .ro, 0, 0, 4294967295⟩]⟩,
  ⟨0x83800058, [(64, 512), (3, 64)], (.object 3 0), [⟨31, 0, .ro, 0, 0, 4294967295⟩]⟩,
  ⟨0x8380005C, [(64, 512), (3, 64)], (.object 3 0), [⟨31, 0, .ro, 0, 0, 4294967295⟩]⟩,
  ⟨0x83800060, [(64, 512), (3, 64)], (.object 3 0), [⟨7, 0, .ro, 0, 0, 255⟩]⟩,
  ⟨0x83800064, [(64, 512), (3, 64)], (.object 3 0), [⟨31, 0, .ro, 0, 0, 4294967295⟩]⟩,
  ⟨0x83800068, [(64, 512), (3, 64)], (.object 3 0), [⟨31, 0, .ro, 0, 0, 4294967295⟩]⟩,
  ⟨0x8380006C, [(64, 512), (3, 64)], (.object 3 0), [⟨31, 0, .ro, 0, 0, 4294967295⟩]⟩,
  ⟨0x83800070, [(64, 512), (3, 64)], (.object 3 0), [⟨31, 0, .ro, 0, 0, 4294967295⟩]⟩,
  ⟨0x83800100, [(64, 512)], (.object 3 0), [⟨31, 0, .ro, 0, 0, 4294967295⟩]⟩]

/-- Table words of ENC, part 1: address, instances, write guard and fields. -/
def tblENC_part1 : List WordDef := [
  ⟨0x83800104, [(64, 512)], (.object 3 0), [⟨31, 0, .ro, 0, 0, 4294967295⟩]⟩,
  ⟨0x83800108, [(64, 512)], (.object 3 0), [⟨31, 0, .ro, 0, 0, 4294967295⟩]⟩]

/-- Every table word of block ENC beyond the common registers. -/
def tblENC : List WordDef := tblENC_part0 ++ tblENC_part1

/-! ### BAR2 tables of block STW -/

def TASK_VALID (t : Nat) : Fld := ⟨0x84000000 + 128 * t, 0, 0⟩
def TASK_CLASS (t : Nat) : Fld := ⟨0x84000000 + 128 * t, 4, 1⟩
def TASK_ENGINE (t : Nat) : Fld := ⟨0x84000000 + 128 * t, 13, 5⟩
def TASK_RATE (t : Nat) : Fld := ⟨0x84000000 + 128 * t, 17, 14⟩
def TASK_DEPTH (t : Nat) : Fld := ⟨0x84000000 + 128 * t, 19, 18⟩
def TASK_TRACE (t : Nat) : Fld := ⟨0x84000000 + 128 * t, 20, 20⟩
def TASK_DOOR (t : Nat) : Fld := ⟨0x84000000 + 128 * t, 22, 21⟩
def TASK_OWNED (t : Nat) : Fld := ⟨0x84000000 + 128 * t, 23, 23⟩
def TASK_FUNC (t : Nat) : Fld := ⟨0x84000000 + 128 * t, 31, 24⟩
def TASK_OBJECT (t : Nat) : Fld := ⟨0x84000004 + 128 * t, 19, 0⟩
def TASK_DL_OFS (t : Nat) : Fld := ⟨0x84000008 + 128 * t, 31, 0⟩
def TASK_TO_OFS (t : Nat) : Fld := ⟨0x8400000C + 128 * t, 31, 0⟩
def TASK_OPK (t : Nat) : Fld := ⟨0x84000010 + 128 * t, 31, 0⟩
def TASK_OPK_HI (t : Nat) : Fld := ⟨0x84000014 + 128 * t, 12, 0⟩
def TASK_RANGE_A (t : Nat) : Fld := ⟨0x84000018 + 128 * t, 7, 0⟩
def TASK_RANGE_B (t : Nat) : Fld := ⟨0x84000018 + 128 * t, 15, 8⟩
def TASK_OPEN (t : Nat) : Fld := ⟨0x84000020 + 128 * t, 2, 0⟩
def TASK_LAST_EXIT (t : Nat) : Fld := ⟨0x84000020 + 128 * t, 23, 16⟩
def TASK_LAST_FLIGHT (t : Nat) : Fld := ⟨0x84000024 + 128 * t, 31, 0⟩
def TASK_LAST_FLIGHT_HI (t : Nat) : Fld := ⟨0x84000028 + 128 * t, 31, 0⟩
def TASK_MISSES (t : Nat) : Fld := ⟨0x8400002C + 128 * t, 31, 0⟩
def TASK_TIMEOUTS (t : Nat) : Fld := ⟨0x84000030 + 128 * t, 31, 0⟩
def TASK_LINK_TASK (t j : Nat) : Fld := ⟨0x84000040 + 128 * t + 4 * j, 16, 0⟩
def TASK_LINK_OP (t j : Nat) : Fld := ⟨0x84000040 + 128 * t + 4 * j, 20, 17⟩
def TASK_NEXT (t j : Nat) : Fld := ⟨0x84000040 + 128 * t + 4 * j, 21, 21⟩
def TASK_DATA (t j : Nat) : Fld := ⟨0x84000040 + 128 * t + 4 * j, 22, 22⟩
def TASK_LINK_EN (t j : Nat) : Fld := ⟨0x84000040 + 128 * t + 4 * j, 23, 23⟩
def MV_TASK (e : Nat) : Fld := ⟨0x85000000 + 64 * e, 16, 0⟩
def MV_USED (e : Nat) : Fld := ⟨0x85000000 + 64 * e, 17, 17⟩
def MV_STATE (e : Nat) : Fld := ⟨0x85000000 + 64 * e, 20, 18⟩
def MV_FLIGHT (e : Nat) : Fld := ⟨0x85000004 + 64 * e, 31, 0⟩
def MV_FLIGHT_HI (e : Nat) : Fld := ⟨0x85000008 + 64 * e, 31, 0⟩
def MV_PRESENT (e : Nat) : Fld := ⟨0x8500000C + 64 * e, 14, 0⟩
def MV_ABSENT (e : Nat) : Fld := ⟨0x8500000C + 64 * e, 30, 16⟩
def MV_POISON (e : Nat) : Fld := ⟨0x85000010 + 64 * e, 14, 0⟩
def MV_PENDING (e : Nat) : Fld := ⟨0x85000010 + 64 * e, 30, 16⟩
def MV_DL_TREADS (e : Nat) : Fld := ⟨0x85000014 + 64 * e, 31, 0⟩
def MV_DL_SEC (e : Nat) : Fld := ⟨0x85000018 + 64 * e, 31, 0⟩
def MV_DL_SEC_HI (e : Nat) : Fld := ⟨0x8500001C + 64 * e, 15, 0⟩
def RNG_FIRST (r : Nat) : Fld := ⟨0x85400000 + 16 * r, 16, 0⟩
def RNG_LAST (r : Nat) : Fld := ⟨0x85400004 + 16 * r, 16, 0⟩

/-- Table words of STW, part 0: address, instances, write guard and fields. -/
def tblSTW_part0 : List WordDef := [
  ⟨0x84000000, [(131072, 128)], .taskDescriptor, [⟨0, 0, .ro, 0, 0, 1⟩, ⟨4, 1, .ro, 0, 0, 15⟩, ⟨13, 5, .ro, 0, 0, 511⟩, ⟨17, 14, .ro, 0, 0, 15⟩, ⟨19, 18, .ro, 0, 0, 3⟩, ⟨20, 20, .rwe, 0, 0, 1⟩, ⟨22, 21, .ro, 0, 0, 3⟩, ⟨23, 23, .ro, 0, 0, 1⟩, ⟨31, 24, .ro, 0, 0, 255⟩]⟩,
  ⟨0x84000004, [(131072, 128)], .taskDescriptor, [⟨19, 0, .ro, 0, 0, 1048575⟩]⟩,
  ⟨0x84000008, [(131072, 128)], .taskDescriptor, [⟨31, 0, .rwe, 0, 1, 4294967295⟩]⟩,
  ⟨0x8400000C, [(131072, 128)], .taskDescriptor, [⟨31, 0, .rwe, 0, 0, 4294967295⟩]⟩,
  ⟨0x84000010, [(131072, 128)], .taskDescriptor, [⟨31, 0, .ro, 0, 0, 4294967295⟩]⟩,
  ⟨0x84000014, [(131072, 128)], .taskDescriptor, [⟨12, 0, .ro, 0, 0, 8191⟩]⟩,
  ⟨0x84000018, [(131072, 128)], .taskDescriptor, [⟨7, 0, .ro, 0, 0, 255⟩, ⟨15, 8, .ro, 0, 0, 255⟩]⟩,
  ⟨0x84000020, [(131072, 128)], .taskDescriptor, [⟨2, 0, .ro, 0, 0, 7⟩, ⟨23, 16, .ro, 0, 0, 255⟩]⟩,
  ⟨0x84000024, [(131072, 128)], .taskDescriptor, [⟨31, 0, .ro, 0, 0, 4294967295⟩]⟩,
  ⟨0x84000028, [(131072, 128)], .taskDescriptor, [⟨31, 0, .ro, 0, 0, 4294967295⟩]⟩,
  ⟨0x8400002C, [(131072, 128)], .taskDescriptor, [⟨31, 0, .ro, 0, 0, 4294967295⟩]⟩,
  ⟨0x84000030, [(131072, 128)], .taskDescriptor, [⟨31, 0, .ro, 0, 0, 4294967295⟩]⟩,
  ⟨0x84000040, [(131072, 128), (16, 4)], .taskDescriptor, [⟨16, 0, .ro, 0, 0, 131071⟩, ⟨20, 17, .ro, 0, 0, 15⟩, ⟨21, 21, .ro, 0, 0, 1⟩, ⟨22, 22, .ro, 0, 0, 1⟩, ⟨23, 23, .ro, 0, 0, 1⟩]⟩,
  ⟨0x85000000, [(65536, 64)], .anyDoor, [⟨16, 0, .ro, 0, 0, 131071⟩, ⟨17, 17, .ro, 0, 0, 1⟩, ⟨20, 18, .ro, 0, 0, 7⟩]⟩,
  ⟨0x85000004, [(65536, 64)], .anyDoor, [⟨31, 0, .ro, 0, 0, 4294967295⟩]⟩,
  ⟨0x85000008, [(65536, 64)], .anyDoor, [⟨31, 0, .ro, 0, 0, 4294967295⟩]⟩,
  ⟨0x8500000C, [(65536, 64)], .anyDoor, [⟨14, 0, .ro, 0, 0, 32767⟩, ⟨30, 16, .ro, 0, 0, 32767⟩]⟩,
  ⟨0x85000010, [(65536, 64)], .anyDoor, [⟨14, 0, .ro, 0, 0, 32767⟩, ⟨30, 16, .ro, 0, 0, 32767⟩]⟩,
  ⟨0x85000014, [(65536, 64)], .anyDoor, [⟨31, 0, .ro, 0, 0, 4294967295⟩]⟩,
  ⟨0x85000018, [(65536, 64)], .anyDoor, [⟨31, 0, .ro, 0, 0, 4294967295⟩]⟩,
  ⟨0x8500001C, [(65536, 64)], .anyDoor, [⟨15, 0, .ro, 0, 0, 65535⟩]⟩,
  ⟨0x85400000, [(256, 16)], .anyDoor, [⟨16, 0, .ro, 0, 0, 131071⟩]⟩,
  ⟨0x85400004, [(256, 16)], .anyDoor, [⟨16, 0, .ro, 0, 0, 131071⟩]⟩]

/-- Every table word of block STW beyond the common registers. -/
def tblSTW : List WordDef := tblSTW_part0

/-! ### BAR2 tables of block UCR -/

def WEAR_COUNT (k r : Nat) : Fld := ⟨0x86000000 + 65536 * k + 16 * r, 31, 0⟩
def WEAR_COUNT_HI (k r : Nat) : Fld := ⟨0x86000004 + 65536 * k + 16 * r, 15, 0⟩
def WEAR_KIND (k r : Nat) : Fld := ⟨0x86000008 + 65536 * k + 16 * r, 1, 0⟩
def WEAR_SPARES (k r : Nat) : Fld := ⟨0x86000008 + 65536 * k + 16 * r, 31, 16⟩
def PART_BASE (n : Nat) : Fld := ⟨0x86100000 + 32 * n, 11, 0⟩
def PART_SIZE (n : Nat) : Fld := ⟨0x86100004 + 32 * n, 11, 0⟩
def PART_DOOR (n : Nat) : Fld := ⟨0x86100008 + 32 * n, 1, 0⟩
def PART_HOST_WR (n : Nat) : Fld := ⟨0x86100008 + 32 * n, 2, 2⟩

/-- Table words of UCR, part 0: address, instances, write guard and fields. -/
def tblUCR_part0 : List WordDef := [
  ⟨0x86000000, [(16, 65536), (4096, 16)], .anyDoor, [⟨31, 0, .ro, 0, 0, 4294967295⟩]⟩,
  ⟨0x86000004, [(16, 65536), (4096, 16)], .anyDoor, [⟨15, 0, .ro, 0, 0, 65535⟩]⟩,
  ⟨0x86000008, [(16, 65536), (4096, 16)], .anyDoor, [⟨1, 0, .ro, 0, 0, 3⟩, ⟨31, 16, .ro, 0, 0, 65535⟩]⟩,
  ⟨0x86100000, [(16, 32)], .anyDoor, [⟨11, 0, .ro, 0, 0, 4095⟩]⟩,
  ⟨0x86100004, [(16, 32)], .anyDoor, [⟨11, 0, .ro, 0, 0, 4095⟩]⟩,
  ⟨0x86100008, [(16, 32)], .anyDoor, [⟨1, 0, .ro, 0, 0, 3⟩, ⟨2, 2, .ro, 0, 0, 1⟩]⟩]

/-- Every table word of block UCR beyond the common registers. -/
def tblUCR : List WordDef := tblUCR_part0

end Sys2Proof.Machine.Reg
end

