-- ==== Sys2Proof/Machine/Sparse.lean ====
section
/-! DEFINITION. Reading and writing a numbered table held in canonical form: entries by rising number, none equal to
what an unlisted number holds. -/

namespace Sys2Proof.Machine

/-- What number k holds: its entry, or `dflt k` where none is listed. -/
def sget {α : Type} (dflt : Nat → α) : Sparse α → Nat → α
  | [], k => dflt k
  | (k', v) :: t, k => if k = k' then v else if k < k' then dflt k else sget dflt t k

/-- Insert (keep) or remove (not keep) the entry of number k, keeping the numbers rising. -/
def sput {α : Type} (k : Nat) (v : α) (keep : Bool) : Sparse α → Sparse α
  | [] => if keep then [(k, v)] else []
  | (k', v') :: t =>
    if k < k' then (if keep then (k, v) :: (k', v') :: t else (k', v') :: t)
    else if k = k' then (if keep then (k, v) :: t else t)
    else (k', v') :: sput k v keep t

/-- Number k now holds v; an entry equal to the default is removed. -/
def sset {α : Type} [DecidableEq α] (dflt : Nat → α) (m : Sparse α) (k : Nat) (v : α) : Sparse α :=
  sput k v (decide (v ≠ dflt k)) m

/-- Every listed number is above `lo`'s bound and the numbers rise strictly. -/
def sorted {α : Type} : Nat → Sparse α → Bool
  | _, [] => true
  | lo, (k, _) :: t => decide (lo ≤ k) && sorted (k + 1) t

/-- The canonical form: strictly rising numbers, and no entry equal to the default. -/
def swf {α : Type} [DecidableEq α] (dflt : Nat → α) (m : Sparse α) : Bool :=
  sorted 0 m && m.all (fun e => decide (e.2 ≠ dflt e.1))

/-- A table whose unlisted entries all hold v. -/
def sgetC {α : Type} (v : α) (m : Sparse α) (k : Nat) : α := sget (fun _ => v) m k

/-- Write an entry of a table whose unlisted entries all hold d. -/
def ssetC {α : Type} [DecidableEq α] (d : α) (m : Sparse α) (k : Nat) (v : α) : Sparse α :=
  sset (fun _ => d) m k v

/-- Drop every entry whose number satisfies p. -/
def sdrop {α : Type} (p : Nat → Bool) (m : Sparse α) : Sparse α := m.filter (fun e => !p e.1)

end Sys2Proof.Machine
end

