-- ==== Sys2Proof/Machine/RegMap.lean ====
section
/-! DEFINITION. Finding the word that an address names: blocks, common registers, instances, reset values and the
encodings that R15 admits. -/

namespace Sys2Proof.Machine

/-- Block base in BAR0 (Table 1 of Address map and register index). -/
def blockBase : Block → Nat
  | .plt => 0x0000000 | .clk => 0x0100000 | .evt => 0x0200000 | .wld => 0x0300000 | .cht => 0x0400000
  | .dor => 0x0500000 | .tim => 0x0600000 | .tcm => 0x0700000 | .eth => 0x0800000 | .shp => 0x0C00000
  | .cip => 0x1000000 | .lnd => 0x1400000 | .gal => 0x1800000 | .dec => 0x2000000 | .hal => 0x2400000
  | .enc => 0x2800000 | .stw => 0x2C00000 | .drm => 0x3000000 | .dma => 0x3400000 | .ucr => 0x3800000
  | .nwl => 0x3C00000

/-- Row number of the block in that table, counted from 0 (the bit of WORLDS.NAMED). -/
def blockRow : Block → Nat
  | .plt => 0 | .clk => 1 | .evt => 2 | .wld => 3 | .cht => 4 | .dor => 5 | .tim => 6 | .tcm => 7 | .eth => 8
  | .shp => 9 | .cip => 10 | .lnd => 11 | .gal => 12 | .dec => 13 | .hal => 14 | .enc => 15 | .stw => 16
  | .drm => 17 | .dma => 18 | .ucr => 19 | .nwl => 20

/-- Every block, in table order. -/
def allBlocks : List Block :=
  [.plt, .clk, .evt, .wld, .cht, .dor, .tim, .tcm, .eth, .shp, .cip, .lnd, .gal, .dec, .hal, .enc, .stw, .drm, .dma,
   .ucr, .nwl]

/-- Whether the block is cloister where WORLDS does not name it (R497, Table 1). -/
def blockCloisterDefault : Block → Bool
  | .clk | .evt | .wld | .cht | .cip | .drm | .ucr | .nwl => true
  | _ => false

/-- BLK_ID.BASE of a block: its base in MiB (R20). -/
def blockId (b : Block) : Nat := blockBase b / 0x100000

/-- First event number and number of events that a chapter defines for a block (Table 1 of Worlds, events and
errors); PLT raises none. -/
def blockEvents : Block → Nat × Nat
  | .plt => (0, 0) | .evt => (0x000, 3) | .wld => (0x010, 2) | .clk => (0x020, 10) | .cht => (0x040, 9)
  | .dor => (0x050, 16) | .tim => (0x060, 30) | .tcm => (0x080, 5) | .eth => (0x0A0, 15) | .shp => (0x0C0, 14)
  | .cip => (0x0E0, 9) | .lnd => (0x100, 8) | .gal => (0x120, 6) | .dec => (0x140, 11) | .hal => (0x160, 9)
  | .enc => (0x180, 10) | .stw => (0x1A0, 9) | .drm => (0x1C0, 9) | .dma => (0x1E0, 4) | .ucr => (0x200, 16)
  | .nwl => (0x220, 13)

/-- The block that defines an event, with the event's bit in that block's event registers (R460). -/
def eventSource (e : Nat) : Option (Block × Nat) :=
  (allBlocks.find? fun b => decide ((blockEvents b).1 ≤ e) && decide (e < (blockEvents b).1 + (blockEvents b).2)).map
    fun b => (b, e - (blockEvents b).1)

/-- Non-maskable events (Table 2 of Worlds, events and errors). -/
def nonMaskable (e : Nat) : Bool := e == 0x001 || (decide (0x020 ≤ e) && decide (e ≤ 0x023))

/-- Coded address (R113) of a window's offset. -/
def codedAddr (w : Window) (offset : Nat) : Nat :=
  match w with
  | .bar0 => offset
  | .bar2 => 0x80000000 + offset

/-- The block whose space or table holds an address (Tables 1 and 2 of Address map and register index). -/
def blockOf (a : Nat) : Block :=
  if a < 0x80000000 then
    if a < 0x0800000 then
      match a / 0x100000 with
      | 0 => .plt | 1 => .clk | 2 => .evt | 3 => .wld | 4 => .cht | 5 => .dor | 6 => .tim | _ => .tcm
    else
      match a / 0x400000 with
      | 2 => .eth | 3 => .shp | 4 => .cip | 5 => .lnd | 6 => .gal | 7 => .gal | 8 => .dec | 9 => .hal | 10 => .enc
      | 11 => .stw | 12 => .drm | 13 => .dma | 14 => .ucr | _ => .nwl
  else
    match (a - 0x80000000) / 0x400000 with
    | 0 => .eth | 1 => .shp | 2 => .shp | 3 => .shp
    | 4 => .cip | 5 => .cip | 6 => .cip | 7 => .cip
    | 8 => .gal | 9 => .gal | 10 => .gal | 11 => .gal
    | 12 => .dec | 13 => .hal | 14 => .enc | 15 => .enc
    | 16 => .stw | 17 => .stw | 18 => .stw | 19 => .stw | 20 => .stw | 21 => .stw | 22 => .stw | 23 => .stw
    | 24 => .ucr | 25 => .ucr | 26 => .ucr | 27 => .ucr
    | _ => .evt

/-- The register words of a block beyond the common registers. -/
def blockRegs : Block → List WordDef
  | .plt => Reg.regPLT | .clk => Reg.regCLK | .evt => Reg.regEVT | .wld => Reg.regWLD | .cht => Reg.regCHT
  | .dor => Reg.regDOR | .tim => Reg.regTIM | .tcm => Reg.regTCM | .eth => Reg.regETH | .shp => Reg.regSHP
  | .cip => Reg.regCIP | .lnd => Reg.regLND | .gal => Reg.regGAL | .dec => Reg.regDEC | .hal => Reg.regHAL
  | .enc => Reg.regENC | .stw => Reg.regSTW | .drm => Reg.regDRM | .dma => Reg.regDMA | .ucr => Reg.regUCR
  | .nwl => Reg.regNWL

/-- The BAR2 table words of a block. -/
def blockTables : Block → List WordDef
  | .eth => Reg.tblETH | .shp => Reg.tblSHP | .cip => Reg.tblCIP | .gal => Reg.tblGAL | .dec => Reg.tblDEC
  | .hal => Reg.tblHAL | .enc => Reg.tblENC | .stw => Reg.tblSTW | .ucr => Reg.tblUCR | .evt => Reg.tblEVT
  | _ => []

/-- The common registers of a block (Table 5 of Scope and conventions; Worlds, events and errors). Assumption 140 (DEDUCED). -/
def commonRegs (b : Block) : List WordDef :=
  let p := blockBase b
  let own : Guard := if b = .evt ∨ b = .wld then .devOwner else .anyDoor
  [⟨p, [], .anyDoor, [⟨31, 20, .ro, p / 0x100000, 0, 4095⟩, ⟨19, 16, .ro, 2, 0, 15⟩, ⟨15, 12, .ro, 1, 0, 15⟩]⟩,
   ⟨p + 0x04, [], own, [⟨0, 0, .rwl, (blockCloisterDefault b).toNat, 0, 1⟩]⟩,
   ⟨p + 0x08, [], .anyDoor, [⟨31, 0, .ro, 0, 0, 4294967295⟩]⟩,
   ⟨p + 0x0C, [], .devOwner, [⟨31, 0, .rw, 0, 0, 4294967295⟩]⟩,
   ⟨p + 0x10, [], .devOwner, [⟨31, 0, .w1c, 0, 0, 4294967295⟩]⟩,
   ⟨p + 0x14, [], .anyDoor, [⟨23, 0, .ro, 0, 0, 16777215⟩]⟩,
   ⟨p + 0x20, [], own, [⟨30, 0, .ro, 0, 0, 2147483647⟩, ⟨31, 31, .w1c, 0, 0, 1⟩]⟩,
   ⟨p + 0x24, [], .anyDoor, [⟨31, 0, .ro, 0, 0, 4294967295⟩]⟩,
   ⟨p + 0x28, [], .anyDoor, [⟨31, 0, .ro, 0, 0, 4294967295⟩]⟩,
   ⟨p + 0x2C, [], .anyDoor, [⟨31, 0, .ro, 0, 0, 4294967295⟩]⟩]

/-- The instance numbers that place an offset in nested arrays, outermost first; none where no instance lies there. -/
def instances : List (Nat × Nat) → Nat → Option (List Nat)
  | [], 0 => some []
  | [], _ + 1 => none
  | (count, stride) :: ds, off =>
    let i := off / stride
    if i < count then (instances ds (off - i * stride)).map (i :: ·) else none

/-- The instances of a word at an address, where the address is one of that word's. -/
def wordAt (d : WordDef) (a : Nat) : Option (List Nat) :=
  if d.base ≤ a then instances d.dims (a - d.base) else none

/-- The word that an address names, with its instance numbers; none at a reserved offset (R496, R499). -/
def findIn (a : Nat) : List WordDef → Option (WordDef × List Nat)
  | [] => none
  | d :: ds =>
    match wordAt d a with
    | some is => some (d, is)
    | none => findIn a ds

/-- The word that a coded address names. -/
def findWord (a : Nat) : Option (WordDef × List Nat) :=
  let b := blockOf a
  if a < 0x80000000 then
    if a % 0x100000 < 0x40 ∧ a = blockBase b + a % 0x40 then findIn a (commonRegs b)
    else if a < 0x4000000 then findIn a (blockRegs b) else none
  else findIn a (blockTables b)

/-- Reset value of one requester port's latency register (Table 3 of DRAM controller and DMA). -/
def portReset (n : Nat) : Nat :=
  if n = 0 then 0x10000 + 1000
  else if n = 1 ∨ n = 2 then 500
  else if n = 3 ∨ n = 21 then 1000
  else if n ≤ 13 then 0x10000 + 2000
  else if n ≤ 17 ∨ n = 20 ∨ n = 22 ∨ n = 23 then 0x30000 + 8000
  else 0x20000 + 4000

/-- Level and parent of a clock gate; 0x7F where it has none or does not exist (Table 4 of Clocks, power states and
reset). -/
def gatePlace (n : Nat) : Nat × Nat :=
  if n ≤ 7 then (0, 0x7F)
  else if n = 8 then (1, 1)
  else if n ≤ 11 then (1, 2)
  else if n = 12 then (1, 0)
  else if n = 13 then (1, 4)
  else if n = 14 then (1, 6)
  else if n ≤ 18 then (1, 5)
  else if n ≤ 31 then (0, 0x7F)
  else if n ≤ 47 then (2, 8)
  else if n ≤ 55 then (2, 9)
  else if n ≤ 59 then (2, 10)
  else if n ≤ 67 then (2, 11)
  else if n ≤ 75 then (2, 12)
  else (2, 13)

/-- Whether gate n exists (gates 19 to 31 do not). -/
def gateExists (n : Nat) : Bool := decide (n ≤ 18) || (decide (32 ≤ n) && decide (n ≤ 83))

/-- A gate's word at reset: its place in the tree; every gate is open until step 5 (Table 7). -/
def gateReset (n : Nat) : Nat :=
  if gateExists n then 4 + 256 * (gatePlace n).2 + 32768 * (gatePlace n).1 else 0

/-- The value that a set of fields holds at reset. -/
def fieldsReset : List FieldDef → Nat
  | [] => 0
  | f :: fs => f.rst * 2 ^ f.lo + fieldsReset fs

/-- The value of a word after Cold reset (R19); a CH field starts at 0 until the configuration step loads it (R100);
a reserved offset reads 0 (R15). Assumption 8 (DESIGN CHOICE). -/
def resetWord (a : Nat) : Word :=
  match findWord a with
  | none => 0
  | some (d, is) =>
    if d.base = 0x101000 then BitVec.ofNat 32 (gateReset (is.headD 0))
    else if d.base = 0x3000100 then BitVec.ofNat 32 (portReset (is.headD 0))
    else if d.base = 0x87000010 then
      BitVec.ofNat 32 (4 * (nonMaskable (is.headD 0)).toNat + 8 * (eventSource (is.headD 0)).isSome.toNat)
    else BitVec.ofNat 32 (fieldsReset d.fields)

/-- Bits hi to lo of a word. -/
def bitsOf (w : Word) (hi lo : Nat) : Nat := w.toNat / 2 ^ lo % 2 ^ (hi + 1 - lo)

/-- The word with bits hi to lo holding v. -/
def putBits (w : Word) (hi lo v : Nat) : Word :=
  BitVec.ofNat 32 (w.toNat - bitsOf w hi lo * 2 ^ lo + v % 2 ^ (hi + 1 - lo) * 2 ^ lo)

/-- Whether a value is one that the field's Meaning lists (R15). -/
def fieldLists (f : FieldDef) (v : Nat) : Bool :=
  if f.min ≤ f.max then decide (f.min ≤ v) && decide (v ≤ f.max) else decide (f.min ≤ v) || decide (v ≤ f.max)

/-- The fields that a write stores or that act on it: every code but RO. -/
def fieldTakes (f : FieldDef) : Bool := f.acc != .ro

/-- Whether every field that a write of v reaches receives an encoding it lists (R15). Assumption 20 (DEDUCED). -/
def encodingListed (d : WordDef) (v : Word) : Bool :=
  d.fields.all fun f => !fieldTakes f || f.acc == .w1c || f.acc == .w1s || fieldLists f (bitsOf v f.hi f.lo)

/-- Whether the word holds a field of an access code. -/
def wordHasAcc (d : WordDef) (a : Access) : Bool := d.fields.any fun f => f.acc == a

/-- The value a word holds after a write of v, field by field (Table 4 of Scope and conventions); the fields whose
code is `rwe` are stored only where `commit` is set, since a write stages them (R17). -/
def writtenWord (commit : Bool) (old v : Word) : List FieldDef → Word
  | [] => old
  | f :: fs =>
    let n := bitsOf v f.hi f.lo
    let o := bitsOf old f.hi f.lo
    let old' := match f.acc with
      | .rw | .rws | .rwl => putBits old f.hi f.lo n
      | .rwe => if commit then putBits old f.hi f.lo n else old
      | .w1c => putBits old f.hi f.lo (o &&& (2 ^ (f.hi + 1 - f.lo) - 1 - n))
      | .w1s => putBits old f.hi f.lo (o ||| n)
      | .ro | .wo => old
    writtenWord commit old' v fs

end Sys2Proof.Machine
end

