-- ==== Sys2Proof/Machine/State.lean ====
section
/-! DEFINITION. The state of the device, plain data, with the state after reset; the reasons a command can stop. -/

namespace Sys2Proof.Machine

/-- Why a command stops the device for good: the manual names no such case, so no meaning raises a fault. -/
inductive Fault where
  /-- Raised by no meaning; it is there because a machine answers with a fault type. Safe: it never appears. -/
  | none
  deriving DecidableEq, Repr

/-- Why a command has no meaning here. -/
inductive Refusal where
  /-- Raised by Dispatch for a command that is not modelled yet, by the name of its row. Safe: the machine stops where
  the hardware goes on. -/
  | notModelled (mnemonic : String)
  deriving DecidableEq, Repr

/-- The servo after Cold reset (R41). -/
def servoInit : Servo := ⟨.unset, false, 0, 0, 0, 0, [], 0, 0, 0, 0, 0, false, false, 0, 0⟩

/-- A trigger output with mode off (R60) and the reset values of its registers. -/
def trigInit : Trig := ⟨⟨0, 0, 1, 141120000, 0, 0, false⟩, none, none, false, false⟩

/-- The time unit after Cold reset. -/
def timInit : TimeUnit := ⟨servoInit, .stopped, none, 0, false, 0, [], [], [], []⟩

/-- A door after Cold reset: SHUT, its next sequence 1 (R118), nothing fetched, held or retained. -/
def doorInit : Door := ⟨⟨0x1F6A, 0x6410, 0x21, 0x048000, 0, 0⟩, .shut, 1, 0, [], [], 0, [], [], [], [], [], [], [], true, none, 0, none⟩

/-- The epoch machinery before epoch 1. -/
def epochInit : EpochUnit := ⟨0, 0, true, false, [], [], [], [], [], [], []⟩

/-- No event held, no error captured; log sequences count from 1 (R471). -/
def eventInit : EventUnit := ⟨[], [], 1, 0, false, []⟩

/-- No charter: nothing is assigned. -/
def charterNone : Charter :=
  ⟨0, 0, 0, 0, 0, 0, [], 0, 0, [], [], 0, 0, 0, 0, [], [], 0, false, 0, [], false, [], [], [], [], [], []⟩

/-- Before RESET_N is released. -/
def charterUnitInit : CharterUnit :=
  ⟨true, 0, 0, false, false, false, false, charterNone, none, [], none, [], ⟨none, none⟩, 0, none, false, 0, false⟩

/-- The modem after reset. -/
def modemInit : ModemUnit := ⟨[], [], [], []⟩

/-- The ports after reset. -/
def portInit : PortUnit := ⟨[], [], [], [], [], [], false, [], [], [], [], [], [], []⟩

/-- An empty queue. -/
def queueInit : LegQueue := ⟨[], [], [], none, [], 0, 0, 0, 0⟩

/-- No resynchronisation. -/
def resyncInit : Resync := ⟨false, false, 0, none, none, [], [], none, [], false, 0, 0, false, 0⟩

/-- The pair after reset: link down, role unknown; SEQ 0 is the first flit's. -/
def twinInit : TwinUnit :=
  { linkUp := false, state := .solo, sent := [], waiting := [], txSeq := 511, rxSeq := 511, unacked := [], nakDue := false,
    replays := 0, helloSent := false, helloOk := false, helloKept := none, probeSeq := 0, probesOk := 0, skewRun := 0, startFlight := none,
    unionFrom := none, summed := [], partnerIds := [], sealed := [], partnerSeals := [], removedTold := false, forwarded := 0,
    inbox := [], received := 0, partnerCuts := [], away := [], groups := [], groupEpochs := [], closed := [],
    partnerDigests := [], ownFault := none, partnerFault := none, partnerTakeover := false, recommend := false, logged := [],
    emitting := true, emitFrom := 0, withdrawnAt := none, failedAt := none, aliveSeen := none, aliveOut := false,
    resync := resyncInit }

/-- Clocks and power after Cold reset. -/
def clockInit : ClockUnit := ⟨.run, none, none, none, [], [], [], [], 0, 0, false⟩

/-- The pins at power-on with RESET_N low. Assumption 10 (DESIGN CHOICE). -/
def pinInit : PinUnit := ⟨false, false, false, true, false, true, false⟩

/-- The JTAG port in Test-Logic-Reset: IDCODE selected (IEEE 1149.1). -/
def jtagInit : JtagUnit := ⟨true, .idcode, 0, [], false, false⟩

/-- Nothing has left the device. Assumption 142 (DESIGN CHOICE). -/
def outInit : Outbox := ⟨[], [], [], [], [], []⟩

/-- No key has been loaded. -/
def cipherInit : CipherUnit := ⟨[], [], [], none⟩

/-- No frame waits or is on a wire. -/
def shaperInit : ShaperUnit := ⟨[], [], [], [], [], [], [], [], false, 0, [], [], []⟩

/-- The matching store, the lists and the slots are empty (R344). -/
def stairInit : StairUnit := ⟨[], [], [], [], [], [], [], [], false, [], false, none, none, [], 0⟩

/-- Every core at rest, every leg without state. -/
def landInit : LandUnit := ⟨[], [], []⟩

/-- The Gallery after reset. -/
def galInit : GalUnit := ⟨[], [], [], [], [], [], [], [], [], [], [], [], [], [], [], [], [], none, []⟩

/-- Decode, the Hall and encode after reset. -/
def decInit : DecUnit := ⟨[], []⟩
def halInit : HallUnit := ⟨[], [], [], []⟩
def encInit : EncUnit := ⟨[], []⟩

/-- The DRAM controller before training: no request, no access accepted. -/
def dramInit : DramUnit := ⟨[], [], 0, [], [], [], [], [], false, false, none⟩

/-- The Undercroft before its mount. -/
def ucrInit : UcrUnit := ⟨[], 0, [], [], [], none, []⟩

/-- The device: the commands that wait, first in first out; the count; every register and table word (canonical:
an unlisted word holds `resetWord`); and the units' own state. `drawn` is the model's own: how many open values
(Config) have been taken. -/
structure State where
  pending : List Instr
  now     : Treads
  drawn   : Nat
  regs    : Sparse Word
  tim     : TimeUnit
  doors   : Sparse Door
  epoch   : EpochUnit
  evt     : EventUnit
  cht     : CharterUnit
  modem   : ModemUnit
  ports   : PortUnit
  queues  : Sparse LegQueue
  cip     : CipherUnit
  shp     : ShaperUnit
  stw     : StairUnit
  lnd     : LandUnit
  gal     : GalUnit
  dec     : DecUnit
  hal     : HallUnit
  enc     : EncUnit
  drm     : DramUnit
  dma     : Sparse DmaChan
  ucr     : UcrUnit
  twin    : TwinUnit
  clk     : ClockUnit
  pins    : PinUnit
  jtag    : JtagUnit
  out     : Outbox
  deriving DecidableEq, Repr

/-- The device right after reset: no command waits, the count stands at 0:0, every register and table word at its
reset value. Assumption 9 (DESIGN CHOICE). -/
def State.reset : State :=
  ⟨[], 0, 0, [], timInit, [], epochInit, eventInit, charterUnitInit, modemInit, portInit, [], cipherInit,
   shaperInit, stairInit, landInit, galInit, decInit, halInit, encInit, dramInit, [], ucrInit, twinInit, clockInit,
   pinInit, jtagInit, outInit⟩

end Sys2Proof.Machine
end

