-- ==== Sys2Proof/Machine/Ops.lean ====
section
/-! DEFINITION. The named operations that every command is written over: the count, register fields, host memory,
MSI-X, the journal, events and captured errors. -/

namespace Sys2Proof.Machine

/-- What a meaning answers. -/
abbrev Out := Host.Outcome State Fault Refusal

/-! ### The count -/

/-- A command comes at instant t: the count stands there from then on (it never moves back by a command).
Assumption 1 (DESIGN CHOICE). Assumption 32 (DESIGN CHOICE). -/
def arriveAt (t : Treads) (s : State) : State := { s with now := max s.now t }

/-- A command that happens at instant t. -/
def timed (t : Treads) (f : State → State) (s : State) : Out := .next (f (arriveAt t s))

/-- Treads within the second of an instant (R8, R50). -/
def treadsOf (t : Treads) : Nat := t % treadsPerSecond

/-- Whole seconds of an instant. -/
def secondsOf (t : Treads) : Nat := t / treadsPerSecond

/-- Treads within the second to nanoseconds (R9). -/
def nsOf (t : Nat) : Nat := t * 3125 / 441

/-- The first multiple of p at or after t (R50). -/
def nextBoundary (t p : Nat) : Nat := if p = 0 then t else (t + p - 1) / p * p

/-- Audio flight length L (R53): 17,640 × k, with k from TIM_FLIGHT_CFG. -/
def flightLen (s : State) : Nat := 17640 * s.cht.loaded.k

/-- The first audio flight boundary strictly later than an instant (R53). -/
def boundaryAfter (s : State) (t : Treads) : Treads := nextBoundary (t + 1) (flightLen s)

/-- Whether a boundary starts no flight: a time restart (R47) or Hold entry (R448) has taken it. -/
def boundaryTaken (s : State) (t : Treads) : Bool :=
  s.tim.haltAt.any (fun b => decide (b ≤ t)) || s.clk.holdAt.any (fun b => decide (b ≤ t))

/-- Whether the pair's state lets flights run (Table 3 of Twin pairing and the Newel link). -/
def pairFlies (s : State) : Bool :=
  match s.twin.state with
  | .solo => true
  | .lockstep => true
  | .alone => true
  | .shadowing => true
  | _ => false

/-- Number of the audio flight that contains an instant (R53). -/
def flightNumber (s : State) (t : Treads) : Nat := if flightLen s = 0 then 0 else t / flightLen s

/-- Periods of the video rates (Table 3 of Treads, flights and network time). -/
def ratePeriod : Nat → Nat
  | 0 => 5885880 | 1 => 5880000 | 2 => 5644800 | 3 => 4708704 | 4 => 4704000 | 5 => 2942940 | 6 => 2940000
  | 7 => 2822400 | 8 => 2354352 | 9 => 2352000 | 10 => 1411200 | 11 => 1177176 | _ => 1176000

/-- The hold and delivery limit of 8,820 treads (62.5 µs) used by R61, R122, R127 and R500. -/
def holdTreads : Nat := 8820

/-! ### Register words and fields -/

/-- The stored value of a register or table word. -/
def rget (s : State) (a : Nat) : Word := sget resetWord s.regs a

/-- Store a register or table word. -/
def rset (s : State) (a : Nat) (w : Word) : State := { s with regs := sset resetWord s.regs a w }

/-- A field's value. -/
def getF (s : State) (f : Fld) : Nat := bitsOf (rget s f.addr) f.hi f.lo

/-- Store a field. -/
def setF (s : State) (f : Fld) (v : Nat) : State := rset s f.addr (putBits (rget s f.addr) f.hi f.lo v)

/-- Largest value of a field. -/
def fieldMax (f : Fld) : Nat := 2 ^ (f.hi + 1 - f.lo) - 1

/-- Count in a field that wraps. -/
def incF (s : State) (f : Fld) : State := setF s f (getF s f + 1)

/-- Add to a field that wraps. -/
def addF (s : State) (f : Fld) (n : Nat) : State := setF s f (getF s f + n)

/-- Count in a field that saturates. -/
def incSatF (s : State) (f : Fld) : State := setF s f (min (fieldMax f) (getF s f + 1))

/-- Store v where a condition holds. -/
def setIf (c : Bool) (f : Fld) (v : Nat) (s : State) : State := if c then setF s f v else s

/-- The live value of a state word that its unit publishes at commits (R125). -/
def liveOf (s : State) (a : Nat) : Word := ((s.epoch.words.find? fun e => e.1 == a).map (·.2)).getD (rget s a)

/-- A state word changes: its snapshot, which doors read, follows at a commit (R125). -/
def setLive (a : Nat) (w : Word) (s : State) : State :=
  let ws := s.epoch.words
  let ws' :=
    if w = rget s a then ws.filter fun e => e.1 != a
    else if ws.any fun e => e.1 == a then ws.map fun e => if e.1 = a then (a, w) else e
    else ws ++ [(a, w)]
  { s with epoch := { s.epoch with words := ws' } }

/-- A field of a state word, live. -/
def getL (s : State) (f : Fld) : Nat := bitsOf (liveOf s f.addr) f.hi f.lo

/-- A field of a state word changes. -/
def setL (s : State) (f : Fld) (v : Nat) : State := setLive f.addr (putBits (liveOf s f.addr) f.hi f.lo v) s

/-- A count in a state word that wraps. -/
def incL (s : State) (f : Fld) : State := setL s f (getL s f + 1)

/-- Add to a count in a state word that wraps. -/
def addL (s : State) (f : Fld) (n : Nat) : State := setL s f (getL s f + n)

/-- A 64-bit quantity at consecutive words, low word first (R11). -/
def get64 (s : State) (a : Nat) : Nat := (rget s a).toNat + 4294967296 * (rget s (a + 4)).toNat

/-- Store a 64-bit quantity. -/
def set64 (s : State) (a v : Nat) : State :=
  rset (rset s a (BitVec.ofNat 32 v)) (a + 4) (BitVec.ofNat 32 (v / 4294967296))

/-- Store a stamp as treads, seconds [31:0] and seconds [47:32] in three words, the last one's upper half kept. -/
def setStamp3 (s : State) (a : Nat) (t : Treads) : State :=
  let s := rset s a (BitVec.ofNat 32 (treadsOf t))
  let s := rset s (a + 4) (BitVec.ofNat 32 (secondsOf t))
  rset s (a + 8) (putBits (rget s (a + 8)) 15 0 (secondsOf t / 4294967296))

/-- Two's complement value of the low n bits of v. -/
def toSigned (n v : Nat) : Int := if v % 2 ^ n < 2 ^ (n - 1) then ((v % 2 ^ n : Nat) : Int) else ((v % 2 ^ n : Nat) : Int) - 2 ^ n

/-- The n-bit two's complement code of an integer. -/
def ofSigned (n : Nat) (i : Int) : Nat := (i % 2 ^ n).toNat

/-- Clamp to the range of an n-bit two's complement number (R22, sat). -/
def satTo (n : Nat) (i : Int) : Int := max (-(2 ^ (n - 1))) (min (2 ^ (n - 1) - 1) i)

/-- Clamp between two bounds. -/
def clampI (lo hi i : Int) : Int := max lo (min hi i)

/-- What a committed word held for the work of a flight that starts at an instant (R20, R32): a late task still sees its own
flight's configuration. -/
def cfgWord (s : State) (t : Treads) (a : Nat) : Word :=
  (s.epoch.prior.findSome? fun p => if t < p.1 then (p.2.find? fun e => e.1 == a).map (·.2) else none).getD (rget s a)

/-- A field of a committed word, for the work of a flight that starts at an instant. -/
def cfgF (s : State) (t : Treads) (f : Fld) : Nat := bitsOf (cfgWord s t f.addr) f.hi f.lo

/-- A signed field of a committed word, n bits wide. -/
def cfgS (s : State) (t : Treads) (n : Nat) (f : Fld) : Int := toSigned n (cfgF s t f)

/-- An arithmetic right shift (R22). -/
def shrI (i : Int) (n : Nat) : Int := i / 2 ^ n

/-! ### Open values -/

/-- Take the next open value (Config.freeNat) and count it. -/
def drawFree (s : State) : Nat × State := (Config.freeNat s.drawn, { s with drawn := s.drawn + 1 })

/-! ### Host memory and messages -/

/-- n little-endian bytes of v (R6). -/
def leBytes : Nat → Nat → List Byte
  | 0, _ => []
  | n + 1, v => BitVec.ofNat 8 v :: leBytes n (v / 256)

/-- The number that little-endian bytes spell. -/
def leNat : List Byte → Nat
  | [] => 0
  | b :: bs => b.toNat + 256 * leNat bs

/-- The number that big-endian bytes spell. -/
def beNat (bs : List Byte) : Nat := bs.foldl (fun a b => a * 256 + b.toNat) 0

/-- n big-endian bytes of v. -/
def beBytes (n v : Nat) : List Byte := (leBytes n v).reverse

/-- Byte i of a run; 0 beyond its end. -/
def byteAt (bs : List Byte) (i : Nat) : Nat := (bs.getD i 0).toNat

/-- Bytes i to i + n − 1 as a little-endian number; bytes beyond the end read 0. -/
def leAt (bs : List Byte) (i n : Nat) : Nat := leNat ((bs.drop i).take n)

/-- Door d writes bytes to host memory. -/
def hostWrite (d addr : Nat) (bs : List Byte) (s : State) : State :=
  { s with out := { s.out with hostWrites := s.out.hostWrites ++ [(d, addr, bs)] } }

/-- Door d writes bytes to host memory as poisoned TLPs (R377). -/
def hostWritePoisoned (d addr : Nat) (bs : List Byte) (s : State) : State :=
  hostWrite d addr bs { s with out := { s.out with poisonTlps := s.out.poisonTlps ++ [s.out.hostWrites.length] } }

/-- Whether door d's link is up. -/
def linkUp (s : State) (d : Nat) : Bool := getF s (Reg.DOR_STAT_LINK d) == 1

/-- Door d sends the MSI-X message of a vector: held in the pending-bit array while the vector is masked (R462, PCIe),
not sent while the link is down. -/
def sendMsix (d v : Nat) (s : State) : State :=
  if !linkUp s d then s
  else if getF s (Reg.MSIX_MASK d v) = 1 then
    rset s (Reg.MSIX_PBA d (v / 32)).addr
      (rget s (Reg.MSIX_PBA d (v / 32)).addr ||| BitVec.ofNat 32 (2 ^ (v % 32)))
  else { s with out := { s.out with msix := s.out.msix ++ [(d, v)] } }

/-- A ring's message: vector 0 means none (R110). -/
def ringMsix (d v : Nat) (s : State) : State := if v = 0 then s else sendMsix d v s

/-! ### Doors -/

/-- Door d's own state. -/
def doorOf (s : State) (d : Nat) : Door := sgetC doorInit s.doors d

/-- Replace door d's own state. -/
def setDoor (s : State) (d : Nat) (x : Door) : State := { s with doors := ssetC doorInit s.doors d x }

/-- The device-owner door of the charter. -/
def devOwner (s : State) : Nat := s.cht.loaded.devOwner

/-- The time-owner door of the charter. -/
def timeOwner (s : State) : Nat := s.cht.loaded.timeOwner

/-- Whether IDENTITY enables door d. -/
def doorEnabled (s : State) (d : Nat) : Bool := s.cht.loaded.doors / 2 ^ d % 2 == 1

/-- The doors. -/
def allDoors : List Nat := [0, 1, 2, 3]

/-! ### The journal (R126 to R128) -/

/-- Rank of a journal record's kind in merge order (R127). -/
def journalRank : Nat → Nat
  | 2 => 0 | 4 => 1 | 5 => 2 | 6 => 3 | 1 => 4 | 3 => 5 | _ => 6

/-- Whether record a comes before record b in merge order (R127). -/
def journalBefore (a b : JournalRec) : Bool :=
  if a.stamp ≠ b.stamp then decide (a.stamp < b.stamp)
  else if journalRank a.kind ≠ journalRank b.kind then decide (journalRank a.kind < journalRank b.kind)
  else if a.door ≠ b.door then decide (a.door < b.door)
  else decide (a.value < b.value)

/-- Insert a record in merge order, after those it does not precede. -/
def insertRec (r : JournalRec) : List JournalRec → List JournalRec
  | [] => [r]
  | x :: xs => if journalBefore r x then r :: x :: xs else x :: insertRec r xs

/-- Whether door d's journal takes records of a kind (KINDS, R126). -/
def journalTakes (s : State) (d kind : Nat) : Bool :=
  getF s (Reg.DOR_JRN_CFG_EN d) == 1 && getF s (Reg.DOR_JRN_CFG_KINDS d) / 2 ^ (kind - 1) % 2 == 1

/-- Door d holds a record until its hold has passed (R127). -/
def journalHold (d : Nat) (r : JournalRec) (s : State) : State :=
  if journalTakes s d r.kind then
    setDoor s d { doorOf s d with held := insertRec r (doorOf s d).held }
  else s

/-- The doors whose journals receive the arrivals and completions of door d: door d, and the device-owner door where its
journal has ALL set (R126). -/
def requestJournals (s : State) (d : Nat) : List Nat :=
  if getF s (Reg.DOR_JRN_CFG_ALL (devOwner s)) = 1 ∧ devOwner s ≠ d then [d, devOwner s] else [d]

/-! ### Events (R460 to R468) -/

/-- Whether the device is in Keep, where it stays while it waits for PWR_GOOD (R451). -/
def inKeep (s : State) : Bool := s.clk.power == .keep || (s.clk.power == .waking && !s.pins.pwrGood)

/-- Set ALERT_N's latch for an event (R464). -/
def latchAlert (e : Nat) (s : State) : State :=
  let s := incSatF s Reg.EVT_ALERT_COUNT
  setF (setF s Reg.EVT_ALERT_LAST e) Reg.EVT_ALERT_ACTIVE 1

/-- Deliver an event to door d on a vector: the pending bit, a message if the bit was 0, a journal record (R462).
Assumption 138 (DEDUCED). -/
def deliverTo (e d vec : Nat) (s : State) : State :=
  let a := (Reg.EVT_PEND_PEND d (e / 32)).addr
  let was := (rget s a).toNat / 2 ^ (e % 32) % 2
  let s := rset s a (rget s a ||| BitVec.ofNat 32 (2 ^ (e % 32)))
  let s := if was = 0 then sendMsix d vec s else s
  journalHold d ⟨s.now, 5, 0, 0xFF, e, 0, 0⟩ s

/-- Deliver an event to every door that its route names, or to every door if it is non-maskable (R462, R463). -/
def deliverDoors (e : Nat) (s : State) : State :=
  allDoors.foldl (fun s d =>
    if nonMaskable e then deliverTo e d 0 s
    else if getF s (Reg.ROUTE_EN e d) = 1 then deliverTo e d (getF s (Reg.ROUTE_VECTOR e d)) s
    else s) s

/-- Replace the pair's state. -/
def setTwin (x : TwinUnit) (s : State) : State := { s with twin := x }

/-- Body bytes of a request on the link (Table 2 of Twin pairing and the Newel link). -/
def reqBytes (r : Req) : Nat :=
  match r.body with
  | .entry _ _ data => 88 + min 64 data.length
  | .barWrite pairs => 24 + 8 * pairs.length
  | .partitionReturn => 24

/-- Body bytes of a message (Table 2), padded to a multiple of 8. -/
def bodyBytes : NewelMsg → Nat
  | .hello _ _ _ _ _ => 64
  | .start _ => 8
  | .probe _ _ t => if t.isSome then 48 else 16
  | .summary _ ids => 16 + 16 * ids.length
  | .copy _ r => 48 + (r.payload.length + 7) / 8 * 8
  | .seal _ _ ids => 16 + 16 * ids.length
  | .request u => u.members.foldl (fun n r => n + reqBytes r) 0
  | .reqSeal _ _ => 16
  | .completion _ _ => 32
  | .digest _ _ _ _ => 24
  | .fault _ _ _ => 8
  | .alert _ _ => 16
  | .withdraw _ _ => 16
  | .image (.block _ bs _) => (bs.length + 7) / 8 * 8
  | .image _ => 8
  | .join _ _ => 8

/-- Flits that a message takes: its 8-byte header and its body, padded to the end of its last flit (R410). Assumption 120 (DEDUCED). -/
def msgFlits (m : NewelMsg) : Nat := (8 + bodyBytes m + 639) / 640

/-- The first waiting message goes into flits with the next SEQs, while at most 256 of them stay unacknowledged (R409). -/
def pumpNewel : Nat → TwinUnit → TwinUnit
  | 0, x => x
  | n + 1, x =>
    match x.waiting with
    | [] => x
    | m :: rest =>
      if x.unacked.isEmpty ∨ x.unacked.length + msgFlits m ≤ 256 then
        pumpNewel n { x with
          waiting := rest, sent := x.sent ++ [m], txSeq := (x.txSeq + msgFlits m) % 512
          unacked := x.unacked ++ (List.range (msgFlits m)).map fun i => (x.txSeq + 1 + i) % 512 }
      else x

/-- A Newel message leaves for the partner, where the link is up. -/
def sendNewel (m : NewelMsg) (s : State) : State :=
  if s.twin.linkUp then
    setTwin (pumpNewel (s.twin.waiting.length + 1) { s.twin with waiting := s.twin.waiting ++ [m] }) s
  else s

/-- What a delivered event does beyond the doors: ALERT_N and the twin (R463 to R465). -/
def deliverPins (e : Nat) (s : State) : State :=
  let s := if nonMaskable e || getF s (Reg.ROUTE_ALERT e) == 1 then latchAlert e s else s
  if nonMaskable e || getF s (Reg.ROUTE_TWIN e) == 1 then sendNewel (.alert e s.now) s else s

/-- An event that is raised now: RAW, the route entry's count and stamp, EVT_LAST, and delivery where its EN bit, its
being non-maskable, or its being undefined calls for it (R461, R468). -/
def raiseNow (e : Nat) (test : Bool) (s : State) : State :=
  let s := incF s (Reg.ROUTE_COUNT e)
  let s := setF s (Reg.ROUTE_LAST_TREADS e) (treadsOf s.now)
  let s := setF s (Reg.ROUTE_LAST_SEC e) (secondsOf s.now)
  let s := setF (setF s Reg.EVT_LAST_EVENT e) Reg.EVT_LAST_TEST test.toNat
  match eventSource e with
  | some (b, i) =>
    let raw := blockBase b + 0x08
    let s := rset s raw (rget s raw ||| BitVec.ofNat 32 (2 ^ i))
    if nonMaskable e || (rget s (blockBase b + 0x0C)).toNat / 2 ^ i % 2 == 1 then
      let st := blockBase b + 0x10
      let s := rset s st (rget s st ||| BitVec.ofNat 32 (2 ^ i))
      deliverPins e (deliverDoors e s)
    else s
  | none => deliverPins e (deliverDoors e s)

/-- Raise an event; in Keep it is held with its stamp (R467). -/
def raiseEvent (e : Nat) (s : State) : State :=
  if inKeep s then { s with evt := { s.evt with heldEvents := s.evt.heldEvents ++ [(e, s.now)] } }
  else raiseNow e false s

/-- Raise an event where a condition holds. -/
def raiseIf (c : Bool) (e : Nat) (s : State) : State := if c then raiseEvent e s else s

/-! ### The journal ring -/

/-- The 32 bytes of a journal record with its phase (Table 6). -/
def journalBytes (r : JournalRec) (phase : Bool) : List Byte :=
  leBytes 4 (treadsOf r.stamp) ++ leBytes 6 (secondsOf r.stamp) ++ leBytes 1 r.kind ++ leBytes 1 r.flags ++
  leBytes 1 r.door ++ leBytes 1 0 ++ leBytes 2 r.code ++ leBytes 8 r.value ++ leBytes 4 r.detail ++
  leBytes 4 phase.toNat

/-- Entries of door d's journal ring. -/
def journalSize (s : State) (d : Nat) : Nat := 2 ^ getF s (Reg.DOR_JRN_CFG_LOG2SIZE d)

/-- Whether door d's journal is full (R105, R128). -/
def journalFull (s : State) (d : Nat) : Bool :=
  (getF s (Reg.DOR_JRN_TAIL_TAIL d) + 1) % journalSize s d == getF s (Reg.DOR_JRN_HEAD_HEAD d) % journalSize s d

/-- Write one record at the journal's tail, in two writes, and send the ring's message (R110). -/
def journalPut (d : Nat) (r : JournalRec) (s : State) : State :=
  let t := getF s (Reg.DOR_JRN_TAIL_TAIL d)
  let base := get64 s (Reg.DOR_JRN_BASE_BASE_LO d).addr
  let bs := journalBytes r (doorOf s d).jrnPhase
  let s := hostWrite d (base + 32 * t) (bs.take 28) s
  let s := hostWrite d (base + 32 * t + 28) (bs.drop 28) s
  let wraps := t + 1 = journalSize s d
  let s := setF s (Reg.DOR_JRN_TAIL_TAIL d) (if wraps then 0 else t + 1)
  let s := if wraps then setDoor s d { doorOf s d with jrnPhase := !(doorOf s d).jrnPhase } else s
  ringMsix d (getF s (Reg.DOR_JRN_CFG_VECTOR d)) s

/-- A record that finds the journal full is dropped (R128). -/
def journalLose (d : Nat) (r : JournalRec) (s : State) : State :=
  let s := incF s (Reg.DOR_JRN_DROP_COUNT d)
  match (doorOf s d).gap with
  | some g => setDoor s d { doorOf s d with gap := some { g with count := g.count + 1 } }
  | none => raiseEvent (0x058 + d) (setDoor s d { doorOf s d with gap := some ⟨r.stamp, 1⟩ })

/-- Write a record to door d's ring: a gap record first where records were dropped (R128) and KINDS takes it. A disabled journal
writes nothing (R131). Assumption 160 (DEDUCED). -/
def journalWrite (d : Nat) (r : JournalRec) (s : State) : State :=
  if getF s (Reg.DOR_JRN_CFG_EN d) = 0 then s
  else if journalFull s d then journalLose d r s
  else match (doorOf s d).gap with
    | none => journalPut d r s
    | some g =>
      let s := setDoor s d { doorOf s d with gap := none }
      let s := if journalTakes s d 7 then journalPut d ⟨g.stamp, 7, 0, 0xFF, 0, g.count, 0⟩ s else s
      if journalFull s d then journalLose d r s else journalPut d r s

/-- A record reaches door d: held until its hold has passed, or written at once with LATE set (R127). -/
def journalAdd (d : Nat) (r : JournalRec) (s : State) : State :=
  if s.now ≤ r.stamp + holdTreads then journalHold d r s
  else if journalTakes s d r.kind then journalWrite d { r with flags := r.flags ||| 1 } s
  else s

/-- Add a record of door d's requests to every journal that receives it. -/
def journalRequest (d : Nat) (r : JournalRec) (s : State) : State :=
  (requestJournals s d).foldl (fun s j => journalAdd j r s) s

/-! ### Captured errors (R469 to R475) -/

/-- The first-error record of a block. -/
def firstOf (s : State) (b : Block) : Option ErrFirst := sgetC none s.evt.firsts (blockRow b)

/-- Replace the first-error record of a block. -/
def setFirst (s : State) (b : Block) (f : Option ErrFirst) : State :=
  { s with evt := { s.evt with firsts := ssetC none s.evt.firsts (blockRow b) f } }

/-- Unacknowledged fatal errors: those in a first record and those that wait in the log (R474). -/
def fatalOpen (s : State) : Nat :=
  (allBlocks.filter fun b => (firstOf s b).any fun f => f.err.sev == 3).length +
  (s.evt.log.filter fun l => l.err.sev == 3 && !l.first).length

/-- Add an entry to the error log; the oldest of 256 gives way, and is LOST where it still waited (R471). -/
def logPut (e : ErrRec) (first : Bool) (s : State) : State :=
  let full := s.evt.log.length ≥ 256
  let lost := full && (s.evt.log.head?.any fun l => !l.first)
  let kept := if full then s.evt.log.drop 1 else s.evt.log
  let s := { s with evt := { s.evt with log := kept ++ [⟨e, first, s.evt.nextSeq⟩], nextSeq := s.evt.nextSeq + 1 } }
  let s := setF s Reg.EVT_LOG_STAT_NEXT ((getF s Reg.EVT_LOG_STAT_NEXT + 1) % 256)
  let s := setIf full Reg.EVT_LOG_STAT_WRAPPED 1 s
  if lost then raiseEvent 0x000 (incSatF s Reg.EVT_LOG_STAT_LOST) else s

/-- An access error beyond the sixteenth of its flight is counted, not logged (R471). -/
def logDrop (s : State) : State :=
  let s := incSatF s Reg.EVT_LOG_STAT_ACCESS_DROP
  if s.evt.accessEvent then s
  else raiseEvent 0x002 { s with evt := { s.evt with accessEvent := true } }

/-- Journal an error to the device-owner door, and an access error also to the door that caused it (R470). -/
def journalError (e : ErrRec) (door : Option Nat) (s : State) : State :=
  let r : JournalRec := ⟨e.stamp, 4, 0, 0xFF, e.code, blockId e.block + e.inst % 131072 * 4096, 0⟩
  let s := journalHold (devOwner s) r s
  match door with
  | some d => if e.sev = 0 ∧ d ≠ devOwner s then journalHold d r s else s
  | none => s

/-- An error that counts as a fault of the groups that close within the second after it (R421). -/
def noteFault (e : ErrRec) (s : State) : State :=
  let kept := s.twin.logged.filter fun l => decide (e.stamp ≤ l.1 + 2 * treadsPerSecond)
  setTwin { s.twin with logged := kept ++ [(e.stamp, e.sev)] } s

/-- Capture an error without the escalation of R474. -/
def captureBase (e : ErrRec) (door : Option Nat) (s : State) : State :=
  let held := (firstOf s e.block).isSome
  let s := if held then incSatF s ⟨blockBase e.block + 0x14, 23, 0⟩ else s
  let s := match firstOf s e.block with
    | some f => setFirst s e.block (some { f with cls := max f.cls e.sev })
    | none => setFirst s e.block (some ⟨e, e.sev, false⟩)
  let s := if e.sev = 0 ∧ s.evt.accessInFlight ≥ 16 then logDrop s
    else logPut e (!held) (if e.sev = 0 then { s with evt := { s.evt with accessInFlight := s.evt.accessInFlight + 1 } } else s)
  let s := if e.takeover || e.sev == 3 then { s with twin := { s.twin with recommend := true } } else s
  let s := if 2 ≤ e.sev ∨ (e.block = .cip ∧ e.code = 1) then noteFault e s else s
  journalError e door s

/-- Capture an error of a block: the first record or its count, the log, the journals, and the escalation of a fatal
error captured while another is unacknowledged (R470 to R474). -/
def captureError (b : Block) (code sev : Nat) (takeover : Bool) (inst detail : Nat) (door : Option Nat) (s : State) :
    State :=
  let other := fatalOpen s > 0
  let s := captureBase ⟨b, code, sev, takeover || sev == 3, inst, detail, s.now⟩ door s
  if sev = 3 ∧ other then
    raiseEvent 0x001 (captureBase ⟨.evt, 0x01, 3, true, 0, 0, s.now⟩ none s)
  else s

/-- An access error of a door (Table 5 of Worlds, events and errors). -/
def accessError (b : Block) (code d : Nat) (s : State) : State := captureError b code 0 false 0 0 (some d) s

/-- A configuration error (0xF0). -/
def configError (b : Block) (d : Nat) (s : State) : State := accessError b 0xF0 d s

/-- A locked-write error (0xF1). -/
def lockedError (b : Block) (d : Nat) (s : State) : State := accessError b 0xF1 d s

/-- A partition error (0xF2). -/
def partitionError (b : Block) (d : Nat) (s : State) : State := accessError b 0xF2 d s

end Sys2Proof.Machine
end

