-- ==== Sys2Proof/Machine/Limiter.lean ====
section
/-! DEFINITION. The rate limiters of queues, services and ports: filling, tests, charges and the change of a
configuration (R317 to R320). -/

namespace Sys2Proof.Machine

/-- One byte in the buckets' units (R319). -/
def byteUnits : Nat := 1128960

/-- A limiter without a limit. -/
def limiterInit : Limiter := ⟨0, 0, 0, 0, 0, 0, 0, 0, 0⟩

/-- Nothing scheduled. -/
def schedInit : Sched := ⟨limiterInit, 0, false⟩

/-- The scheduler's state of a queue, or of service n under 0x20000 + n. -/
def schedOf (s : State) (q : Nat) : Sched := sgetC schedInit s.shp.sched q

/-- Replace it. -/
def setSched (q : Nat) (x : Sched) (s : State) : State := { s with shp := { s.shp with sched := ssetC schedInit s.shp.sched q x } }

/-- The full bursts of a configuration, in units. -/
def fullC (l : Limiter) : Int := l.cbs * byteUnits
def fullP (l : Limiter) : Int := l.pbs * byteUnits

/-- The buckets filled up to now (R319). -/
def limFill (now : Treads) (l : Limiter) : Limiter :=
  let d := now - l.at_
  { l with c := min (l.c + l.cir * d) (fullC l), p := min (l.p + l.pir * d) (fullP l), at_ := now }

/-- The committed test: a limiter that has no two buckets passes the peak test too (R314, R318, R319). -/
def limCommitted (now : Treads) (l : Limiter) : Bool :=
  match l.limit with
  | 0 => true
  | 1 => decide (l.next ≤ now * 65536)
  | _ => let l := limFill now l; decide (0 ≤ l.c) && decide (0 ≤ l.p)

/-- Whether only the peak test passes. -/
def limExcess (now : Treads) (l : Limiter) : Bool :=
  l.limit == 2 && (let l := limFill now l; decide (l.c < 0) && decide (0 ≤ l.p))

/-- The test of a tier: excess or committed. -/
def limAllows (excess : Bool) (now : Treads) (l : Limiter) : Bool :=
  if excess then limExcess now l else limCommitted now l

/-- A calendar's NEXT after a take of n bytes at a rate (R318). -/
def calendarTake (now : Treads) (rate next n : Nat) : Nat :=
  let inc := n * byteUnits * 65536 / rate
  max next (now * 65536 - inc) + inc

/-- A take of n bytes charges the limiter (R318, R319). -/
def limCharge (now : Treads) (n : Nat) (l : Limiter) : Limiter :=
  match l.limit with
  | 0 => l
  | 1 => { l with next := calendarTake now l.cir l.next n }
  | _ =>
    let l := limFill now l
    let u := n * byteUnits
    { l with p := l.p - u, c := if 0 ≤ l.c then l.c - u else l.c }

/-- A queue that wakes from empty: its calendar does not lie in the past (R318). -/
def limWake (now : Treads) (l : Limiter) : Limiter :=
  if l.limit = 1 then { l with next := max l.next (now * 65536) } else l

/-- A bucket at a change: a debt is kept, else the new burst or zero (Table 4). -/
def bucketReset (zero : Bool) (old full : Int) : Int := if old < 0 then old else if zero then 0 else full

/-- The limiter state at a committed change from l to the configuration of n (Table 4). -/
def limReset (now : Treads) (zero : Bool) (l n : Limiter) : Limiter :=
  let l := limFill now l
  let n := { n with at_ := now, c := 0, p := 0, next := 0 }
  let t := now * 65536
  let fresh := { n with c := if zero then 0 else fullC n, p := if zero then 0 else fullP n }
  match n.limit, l.limit with
  | 0, _ => n
  | 1, 0 => { n with next := t }
  | 1, 1 => { n with next := if l.next ≤ t then t else t + (l.next - t) * l.cir / n.cir }
  | 1, _ => { n with next := t + (-l.c).toNat * 65536 / n.cir }
  | _, 0 => fresh
  | _, 1 =>
    if t < l.next then
      let debt : Int := -(((l.next - t) * l.cir / 65536 : Nat) : Int)
      { n with c := debt, p := debt }
    else fresh
  | _, _ => { n with c := bucketReset zero l.c (fullC n), p := bucketReset zero l.p (fullP n) }

/-- The limiter at the commit of the first epoch after a reset: counts at the bursts or zero, NEXT now (R320). -/
def limStart (now : Treads) (zero : Bool) (n : Limiter) : Limiter :=
  match n.limit with
  | 0 => { n with at_ := now, c := 0, p := 0, next := 0 }
  | 1 => { n with at_ := now, c := 0, p := 0, next := now * 65536 }
  | _ => { n with at_ := now, c := if zero then 0 else fullC n, p := if zero then 0 else fullP n, next := 0 }

/-- Tiered or flat (SHP_MODE). -/
def tiered (s : State) : Bool := getF s Reg.SHP_MODE_TIERED == 1

/-- The limiter configuration that a queue's descriptor gives. -/
def queueLimits (s : State) (q : Nat) : Limiter :=
  { limiterInit with limit := getF s (Reg.QUEUE_LIMIT q), cir := getF s (Reg.QUEUE_CIR q), pir := getF s (Reg.QUEUE_PIR q),
                     cbs := getF s (Reg.QUEUE_CBS q), pbs := getF s (Reg.QUEUE_PBS q) }

/-- The limiter configuration that a service entry gives: none or two buckets. -/
def serviceLimits (s : State) (v : Nat) : Limiter :=
  { limiterInit with limit := 2 * getF s (Reg.SVC_LIMIT v), cir := getF s (Reg.SVC_CIR v), pir := getF s (Reg.SVC_PIR v),
                     cbs := getF s (Reg.SVC_CBS v), pbs := getF s (Reg.SVC_PBS v) }

/-- The scheduler's number of service v. -/
def serviceId (v : Nat) : Nat := 0x20000 + v

/-- The 64-bit words of a count as a table shows them. -/
def countWord (v : Int) (i : Nat) : Word := BitVec.ofNat 32 (ofSigned 64 v / 4294967296 ^ i)

/-- Bytes 160 to 191 and 216 to 227 of a queue's descriptor, and bytes 24 to 43 of a service entry, where the scheduler
holds them (R318, R319, Tables 8 and 9 of Layer forwarding and egress shaping). -/
def liveShp (s : State) (a : Nat) : Option Word :=
  if 0x80400000 ≤ a ∧ a < 0x80C00000 then
    let q := (a - 0x80400000) / 256
    let x := schedOf s q
    let l := limFill s.now x.lim
    match a % 256 with
    | 160 => some (countWord l.c 0)
    | 164 => some (countWord l.c 1)
    | 168 => some (countWord l.p 0)
    | 172 => some (countWord l.p 1)
    | 176 => some (BitVec.ofNat 32 (l.next / 65536))
    | 180 => some (BitVec.ofNat 32 (l.next / 65536 / 4294967296))
    | 184 => some (BitVec.ofNat 32 (l.next % 65536))
    | 188 => some (BitVec.ofNat 32 x.deficit)
    | 216 => some (BitVec.ofNat 32 (treadsOf s.shp.sampleAt))
    | 220 => some (BitVec.ofNat 32 (secondsOf s.shp.sampleAt))
    | 224 =>
      let inList := (s.shp.lists.any fun e => e.2.contains q) || (s.shp.svcLists.any fun e => e.2.contains q)
      some (BitVec.ofNat 32 (secondsOf s.shp.sampleAt / 4294967296 % 65536 +
        65536 * (inList.toNat + 2 * (limExcess s.now l).toNat)))
    | _ => none
  else if 0x80C00000 ≤ a ∧ a < 0x80C04000 then
    let x := schedOf s (serviceId ((a - 0x80C00000) / 64))
    let l := limFill s.now x.lim
    match a % 64 with
    | 24 => some (countWord l.c 0)
    | 28 => some (countWord l.c 1)
    | 32 => some (countWord l.p 0)
    | 36 => some (countWord l.p 1)
    | 40 => some (BitVec.ofNat 32 x.deficit)
    | _ => none
  else none

end Sys2Proof.Machine
end

