-- ==== Sys2Proof/Machine/Live.lean ====
section
/-! DEFINITION. The register words that a unit's own state holds: each such quantity lives in the unit's state, and a
read computes the word from it. Every other word is the stored one. -/

namespace Sys2Proof.Machine

/-- Code of a servo state (Table 1 of Treads, flights and network time). -/
def servoCode : ServoState → Nat
  | .unset => 0 | .acquire => 1 | .locked => 2 | .tracking => 3 | .holdover => 4 | .halted => 5

/-- Code of a door phase (DOR_STAT.PHASE). -/
def phaseCode : DoorPhase → Nat
  | .shut => 0 | .time => 1 | .opened => 2

/-- Code of a pair state (Table 3 of Twin pairing and the Newel link). -/
def pairCode : PairState → Nat
  | .solo => 0 | .pairing => 1 | .lockstep => 2 | .alone => 3 | .withdrawn => 4 | .copying => 5 | .shadowing => 6

/-- Code of a power state (PWR_STAT.STATE); in Keep the register cannot be read. -/
def powerCode : PowerState → Nat
  | .run => 0 | .enteringHold => 1 | .hold => 2 | .leavingHold => 3 | .enteringKeep => 4 | .waking => 5 | .keep => 0

/-- A capture FIFO's entries, oldest first. -/
def captureFifo (s : State) (ch : Nat) : List CapEntry := sgetC [] s.tim.captures ch

/-- A decoder's state. -/
def decoderInit : LtcDecoder := ⟨[], [], [], [], none, 0, ⟨none, none, none, false⟩⟩

/-- Decoder n. -/
def decoderOf (s : State) (n : Nat) : LtcDecoder := sgetC decoderInit s.modem.decoders n

/-- A door's tone FIFO. -/
def toneFifo (s : State) (d : Nat) : List ToneEntry := sgetC [] s.modem.toneFifos d

/-- Trigger output n. -/
def trigOf (s : State) (n : Nat) : Trig := sgetC trigInit s.tim.trigs n

/-- The level of the pin TRIG_OUT[n]: its logical level, inverted where POL says active low (R60, TIM_TOUT_CFG). -/
def trigPin (s : State) (n : Nat) : Bool := (trigOf s n).pulseEnd.isSome != (trigOf s n).cfg.pol

/-- A word of 32 bits from a Nat. -/
def w32 (n : Nat) : Word := BitVec.ofNat 32 n

/-- Word i of a stamp held as treads, seconds [31:0], seconds [63:32]. -/
def stampWord (t : Treads) (i : Nat) : Nat :=
  match i with
  | 0 => treadsOf t
  | 1 => secondsOf t % 4294967296
  | _ => secondsOf t / 4294967296

/-- Seconds [47:32] of a stamp (R8). -/
def secHi16 (t : Treads) : Nat := secondsOf t / 4294967296 % 65536

/-- The number of the current audio flight; 0 while flights do not run (TIM_FLIGHT_NOW). -/
def flightNow (s : State) : Nat := if s.tim.flights = .stopped then 0 else flightNumber s s.tim.lastFlight

/-- The live words of the TIM block. -/
def liveTim (s : State) (d a : Nat) : Option Word :=
  let v := s.tim.servo
  if a = 0x600044 then
    some (w32 (servoCode v.state + 8 * v.stepped.toNat + 16 * (s.tim.flights != .stopped).toNat + 32 * v.rateLim.toNat
      + 64 * v.refLost.toNat + 256 * v.stepGen))
  else if a = 0x600048 ∨ a = 0x60004C ∨ a = 0x600050 then some (w32 (stampWord s.now ((a - 0x600048) / 4)))
  else if a = 0x600054 then some (w32 (doorOf s d).nowNs)
  else if a = 0x600058 then some (w32 (ofSigned 40 v.rate))
  else if a = 0x60005C then some (w32 (ofSigned 40 v.rate / 4294967296))
  else if a = 0x600084 then some (w32 v.discards)
  else if a = 0x600088 ∨ a = 0x60008C then some (w32 (stampWord v.stepAt ((a - 0x600088) / 4)))
  else if a = 0x600090 then some (w32 (secHi16 v.stepAt))
  else if a = 0x600098 then some (w32 (ofSigned 64 v.stepSize))
  else if a = 0x60009C then some (w32 (ofSigned 64 v.stepSize / 4294967296))
  else if a = 0x6000A8 then some (w32 (flightNow s))
  else if a = 0x6000AC then some (w32 (flightNow s / 4294967296))
  else if a = 0x6000B0 ∨ a = 0x6000B4 then some (w32 (stampWord s.tim.flightFirst ((a - 0x6000B0) / 4)))
  else if a = 0x6000B8 then some (w32 (secHi16 s.tim.flightFirst))
  else if a = 0x6000C0 then some (w32 (s.tim.txq.length + 256 * getF s Reg.TIM_TXQ_STAT_OVF))
  else if a = 0x6000C8 then
    some (match s.tim.txq with | [] => 0 | e :: _ => w32 (e.ident + 65536 * e.port + 2147483648))
  else if a = 0x6000CC ∨ a = 0x6000D0 then
    some (match s.tim.txq with | [] => 0 | e :: _ => w32 (stampWord e.stamp ((a - 0x6000CC) / 4)))
  else if a = 0x6000D4 then some (match s.tim.txq with | [] => 0 | e :: _ => w32 (secHi16 e.stamp))
  else if 0x600200 ≤ a ∧ a < 0x600320 then
    let ch := (a - 0x600200) / 0x20
    let q := captureFifo s ch
    match (a - 0x600200) % 0x20 with
    | 0x04 => some (w32 (q.length + 256 * getF s (Reg.TIM_CAP_STAT_OVF ch) + 65536 * getF s (Reg.TIM_CAP_STAT_DROPS ch)))
    | 0x08 => some (match q with | [] => 0 | e :: _ => w32 (treadsOf e.stamp))
    | 0x0C => some (match q with | [] => 0 | e :: _ => w32 (secondsOf e.stamp))
    | 0x10 => some (match q with
        | [] => 0
        | e :: _ => w32 (secHi16 e.stamp + 65536 * e.falling.toNat + 2147483648))
    | _ => none
  else if 0x600400 ≤ a ∧ a < 0x600500 ∧ a % 0x20 = 0x1C then
    let n := (a - 0x600400) / 0x20
    some (w32 (getF s (Reg.TIM_TOUT_STAT_FIRED n) + 2 * getF s (Reg.TIM_TOUT_STAT_MISSED n)
      + 4 * (trigOf s n).bad.toNat + 8 * (trigOf s n).pulseEnd.isSome.toNat))
  else none

/-- Entries of request ring r. -/
def rqSize (s : State) (d r : Nat) : Nat := 2 ^ getF s (Reg.DOR_RQ_CFG_LOG2SIZE d r)

/-- Entries that request ring r holds and the door has not fetched. -/
def rqWaiting (s : State) (d r : Nat) : Nat :=
  (getF s (Reg.DOR_RQ_PTR_TAIL d r) + rqSize s d r - getF s (Reg.DOR_RQ_PTR_HEAD d r) % rqSize s d r) % rqSize s d r

/-- Entries of completion ring c. -/
def cqSize (s : State) (d c : Nat) : Nat := 2 ^ getF s (Reg.DOR_CQ_CFG_LOG2SIZE d c)

/-- Completion entries that the host has not consumed. -/
def cqHeld (s : State) (d c : Nat) : Nat :=
  (getF s (Reg.DOR_CQ_PTR_TAIL d c) + cqSize s d c - getF s (Reg.DOR_CQ_PTR_HEAD d c) % cqSize s d c) % cqSize s d c

/-- Slots of completion ring c that requests have reserved. -/
def cqReservedOf (s : State) (d c : Nat) : Nat := sgetC 0 (doorOf s d).cqReserved c

/-- Whether a completion slot can be reserved (R105, R109). -/
def cqFree (s : State) (d c : Nat) : Bool :=
  getF s (Reg.DOR_CQ_CFG_EN d c) == 1 && decide (cqHeld s d c + cqReservedOf s d c + 1 < cqSize s d c)

/-- The live words of the DOR block. -/
def liveDor (s : State) (a : Nat) : Option Word :=
  if a = 0x500040 then some (w32 s.epoch.newest)
  else if a = 0x500044 then some (w32 (s.epoch.newest / 4294967296))
  else if a = 0x500048 ∨ a = 0x50004C then some (w32 (stampWord s.epoch.newestAt ((a - 0x500048) / 4)))
  else if a = 0x500050 then some (w32 (secHi16 s.epoch.newestAt))
  else if 0x501000 ≤ a ∧ a < 0x505000 then
    let d := (a - 0x501000) / 0x1000
    let x := doorOf s d
    let o := (a - 0x501000) % 0x1000
    if 0x100 ≤ o ∧ o < 0x300 ∧ o % 0x40 = 0x08 then
      let r := (o - 0x100) / 0x40
      some (putBits (rget s a) 10 10 (decide (0 < rqWaiting s d r) && getF s (Reg.DOR_RQ_CFG_EN d r) == 1 &&
        !cqFree s d (getF s (Reg.DOR_RQ_CFG_CQ d r))).toNat)
    else
    match o with
    | 0x00 => some (w32 (phaseCode x.phase + ((rget s a).toNat / 4) * 4))
    | 0x08 => some (w32 x.seq)
    | 0x0C => some (w32 (x.seq / 4294967296 + if s.cht.loaded.twinRole = 2 then 2147483648 else 0))
    | 0x10 => some (w32 x.view)
    | 0x14 => some (w32 (x.view / 4294967296))
    | 0x18 => some (w32 (x.retain.length + 131072 * getF s (Reg.DOR_VIEW_MOVED d)))
    | 0x24 => some (w32 ((s.epoch.deferred.filter fun u => u.2.door == d).foldl (fun n u => n + u.2.members.length) 0))
    | _ => none
  else none

/-- Word i of a block's BLK_ERR_FIRST record. -/
def errFirstWord (s : State) (b : Block) (i : Nat) : Word :=
  match firstOf s b with
  | none => 0
  | some f =>
    match i with
    | 0 => w32 (f.err.code % 256 + 256 * f.err.sev + 1024 * f.cls + 4096 * f.err.takeover.toNat + 8192 * f.promoted.toNat
        + 16384 * (f.err.inst % 131072) + 2147483648)
    | 1 => w32 (treadsOf f.err.stamp)
    | 2 => w32 (secondsOf f.err.stamp)
    | _ => w32 (secHi16 f.err.stamp + 65536 * (f.err.detail % 65536))

/-- Word i of the error log's entry n (Table 7 of Worlds, events and errors). -/
def logWord (s : State) (n i : Nat) : Word :=
  match s.evt.log.find? (fun l => (l.seq - 1) % 256 == n) with
  | none => 0
  | some l =>
    match i with
    | 0 => w32 (treadsOf l.err.stamp)
    | 1 => w32 (secondsOf l.err.stamp)
    | 2 => w32 (secHi16 l.err.stamp + 65536 * blockId l.err.block)
    | 3 => w32 (l.err.code % 256 + 256 * (l.err.sev + 4 * l.err.takeover.toNat + 8 * l.first.toNat)
        + 65536 * (l.err.detail % 65536))
    | 4 => w32 (l.err.inst % 131072)
    | 6 => w32 l.seq
    | 7 => w32 (l.seq / 4294967296)
    | _ => 0

/-- The live words of the EVT block and of the common error records. -/
def liveEvt (s : State) (a : Nat) : Option Word :=
  if a = 0x200040 then some (w32 (min 255 (fatalOpen s)))
  else if a = 0x200048 then some (w32 s.evt.nextSeq)
  else if a = 0x20004C then some (w32 (s.evt.nextSeq / 4294967296))
  else if 0x87010000 ≤ a ∧ a < 0x87012000 then some (logWord s ((a - 0x87010000) / 32) ((a - 0x87010000) % 32 / 4))
  else if a < 0x4000000 ∧ a = blockBase (blockOf a) + a % 0x100000 then
    let o := a % 0x100000
    if 0x20 ≤ o ∧ o < 0x30 then some (errFirstWord s (blockOf a) ((o - 0x20) / 4))
    else if o = 0x0C ∧ blockOf a = .evt then some (rget s a ||| 2)
    else if o = 0x0C ∧ blockOf a = .clk then some (rget s a ||| 15)
    else none
  else none

/-- The live words of the TCM block. -/
def liveTcm (s : State) (a : Nat) : Option Word :=
  if 0x701000 ≤ a ∧ a < 0x702000 then
    let n := (a - 0x701000) / 0x40
    let q := (decoderOf s n).fifo
    match (a - 0x701000) % 0x40 with
    | 0x04 => some (putBits (rget s a) 7 3 q.length)
    | 0x08 => some (match q with | [] => 0 | e :: _ => e.word0)
    | 0x0C => some (match q with | [] => 0 | e :: _ => e.user)
    | 0x10 => some (match q with | [] => 0 | e :: _ => w32 (treadsOf e.stamp))
    | 0x14 => some (match q with | [] => 0 | e :: _ => w32 (secondsOf e.stamp))
    | 0x18 => some (match q with | [] => 0 | e :: _ => w32 (secHi16 e.stamp + 65536 * e.speed))
    | 0x1C => some (match q with | [] => 0 | e :: _ => w32 e.quality)
    | _ => none
  else if 0x708000 ≤ a ∧ a < 0x708080 then
    let q := toneFifo s ((a - 0x708000) / 0x20)
    match (a - 0x708000) % 0x20 with
    | 0x00 => some (match q with
        | [] => 0
        | e :: _ => putBits (putBits (putBits 0 9 0 e.detector) 10 10 e.isOn.toNat) 31 31 1)
    | 0x04 => some (match q with | [] => 0 | e :: _ => w32 (treadsOf e.stamp))
    | 0x08 => some (match q with | [] => 0 | e :: _ => w32 (secondsOf e.stamp))
    | 0x0C => some (match q with | [] => 0 | e :: _ => w32 (secHi16 e.stamp))
    | 0x10 => some (putBits (rget s a) 6 0 q.length)
    | _ => none
  else none

/-- Code of a release's stage (Table 9 of Stairwell). -/
def stageCode : Stage → Nat
  | .opened => 0 | .waiting => 1 | .ready => 2 | .staged _ => 3 | .running _ => 4

/-- A mask of the operands that satisfy p. Assumption 105 (DEDUCED). -/
def opMask (p : Operand → Bool) : List Operand → Nat
  | [] => 0
  | o :: os => (p o).toNat + 2 * opMask p os

/-- Word i of a matching entry's view (Table 9 of Stairwell). -/
def matchWord (r : Release) (i : Nat) : Nat :=
  let pres := opMask (fun o => match o with | .present _ _ => true | _ => false) r.ops
  let abs := opMask (fun o => o == .absent) r.ops
  let poi := opMask (fun o => match o with | .present p _ => p | _ => false) r.ops
  let pen := opMask (fun o => match o with | .present _ p => p | _ => false) r.ops
  match i with
  | 0 => r.task + 131072 + 262144 * stageCode r.stage
  | 1 => r.flight
  | 2 => r.flight / 4294967296
  | 3 => pres + 65536 * abs
  | 4 => poi + 65536 * pen
  | 5 => treadsOf r.deadline
  | 6 => secondsOf r.deadline
  | 7 => secHi16 r.deadline
  | _ => 0

/-- The live words of the Stairwell: the store's occupancy, the ready lists and the matching view. -/
def liveStw (s : State) (a : Nat) : Option Word :=
  if a = 0x2C00040 then some (w32 s.stw.releases.length)
  else if 0x2C00100 ≤ a ∧ a < 0x2C001C0 ∧ a % 16 = 0 then
    let c := (a - 0x2C00100) / 16
    some (putBits (rget s a) 16 0
      (s.stw.releases.countP fun r => getF s (Reg.TASK_CLASS r.task) == c && r.stage == .ready))
  else if 0x85000000 ≤ a ∧ a < 0x85400000 then
    match s.stw.releases.find? (fun r => r.entry == (a - 0x85000000) / 64) with
    | some r => some (w32 (matchWord r ((a - 0x85000000) % 64 / 4)))
    | none => some 0
  else none

/-- The release that an engine of a class runs. -/
def engineRuns (s : State) (c e : Nat) : Option Release :=
  s.stw.releases.find? fun r => r.stage == .running e && getF s (Reg.TASK_CLASS r.task) == c

/-- The live words of the decode and encode engines: BUSY, and what runs. -/
def liveEngine (s : State) (a : Nat) : Option Word :=
  if 0x2000080 ≤ a ∧ a < 0x2000100 ∧ a % 16 = 0 then
    (engineRuns s 2 ((a - 0x2000080) / 16)).map fun r => putBits (putBits (rget s a) 7 7 1) 15 8 (r.task - 21704)
  else if 0x2800080 ≤ a ∧ a < 0x2800180 ∧ a % 32 = 4 then
    (engineRuns s 4 ((a - 0x2800080) / 32)).map fun r =>
      putBits (putBits (putBits (rget s a) 6 6 1) 13 8 ((r.task - 22048) / 3)) 15 14 ((r.task - 22048) % 3)
  else none

/-- Lines of a region. -/
def regionLines : Nat := 262144

/-- A package never formatted. Assumption 115 (DESIGN CHOICE). -/
def pkgInit : UcrPkg :=
  ⟨[], [], [], [], [], [], [], [], 0, [], [], [], [], 0, 0, 0, 0, 0, 0, [], [], [], [], [], none, 0, [], 0, false, false, 0, 0, 0⟩

/-- Package k. -/
def pkgOf (s : State) (k : Nat) : UcrPkg := sgetC pkgInit s.ucr.pkgs k

/-- Regions of a package, of 64 MiB each (R383). -/
def pkgRegions (s : State) : Nat := getF s Reg.UCR_GEOM_PKG_GIB * 16

/-- Spare regions of a package: ceil(3 × R / 100). -/
def spareRegions (s : State) : Nat := (3 * pkgRegions s + 99) / 100

/-- Data regions of a package. -/
def dataRegions (s : State) : Nat := pkgRegions s - spareRegions s

/-- First line of the spare pool beyond the regions' gap lines. -/
def poolFirst (s : State) : Nat := dataRegions s * regionLines + dataRegions s

/-- First line above the pool: the map area, or a spare region that has taken a retired region's place (R387). -/
def poolEnd (s : State) (x : UcrPkg) : Nat := (pkgRegions s - 1 - x.retired.length) * regionLines

/-- Free spare lines of a package. -/
def freeLines (s : State) (x : UcrPkg) : Nat := x.freed.length + (poolEnd s x - max (poolFirst s) x.nextFree)

/-- SPARE entries of a physical region. -/
def spareEntries (x : UcrPkg) (r : Nat) : Nat := x.spare.countP fun e => e.1 / regionLines == r

/-- What a physical region is (Table 13 of Undercroft: the archive). -/
def regionKind (s : State) (x : UcrPkg) (r : Nat) : Nat :=
  if x.retired.any (fun e => e.1 == r) then 3
  else if r + 1 = pkgRegions s then 2
  else if r < dataRegions s ∨ x.retired.any (fun e => e.2 == r) then 0
  else 1

/-- The live words of the Undercroft: the wear table, the pending lists and the free spare lines. -/
def liveUcr (s : State) (a : Nat) : Option Word :=
  if 0x86000000 ≤ a ∧ a < 0x86100000 then
    let x := pkgOf s ((a - 0x86000000) / 65536)
    let r := (a - 0x86000000) % 65536 / 16
    if pkgRegions s ≤ r then none
    else match a % 16 with
      | 0 => some (w32 (sgetC 0 x.wear r))
      | 4 => some (w32 (sgetC 0 x.wear r / 4294967296))
      | 8 => some (w32 (regionKind s x r + 65536 * spareEntries x r))
      | _ => none
  else if 0x3801000 ≤ a ∧ a < 0x3801200 then
    let x := pkgOf s ((a - 0x3801000) / 32)
    match a % 32 with
    | 0 => some (putBits (rget s a) 24 16 x.pending.length)
    | 8 => some (w32 (freeLines s x))
    | _ => none
  else none

/-- The meter words of a leg that has never been active (Table 4 of Gallery): the flight last published, an absent input,
an output of zeros. -/
def liveMtr (s : State) (a : Nat) : Option Word :=
  match s.gal.metersAt with
  | none => none
  | some f =>
    if s.gal.metered.contains ((a - 0x82600000) / 64) then none
    else match a % 64 with
      | 0 => some (w32 f)
      | 4 => some (w32 (f / 4294967296))
      | 32 => some (w32 0x40000)
      | 36 => some (w32 2)
      | _ => none

/-- Whether a staged release waits for a Landing core: its foyer image is complete with its staging. -/
def coreStaged (s : State) (n : Nat) : Bool :=
  s.stw.releases.any fun r => r.stage == .staged n && getF s (Reg.TASK_CLASS r.task) == 0

/-- The live word at an address, as door d would read it; none where the stored word is the value. -/
def liveWord (s : State) (d a : Nat) : Option Word :=
  if a = 0x4C then some (w32 d)
  else if a = 0x108004 then some (putBits (rget s a) 2 0 (powerCode s.clk.power))
  else if a = 0x400040 then
    some (putBits (putBits (putBits (putBits (rget s a) 3 0 s.cht.step) 4 4 s.cht.stopped.toNat) 5 5 s.cht.sealed.toNat) 16 16
      (s.twin.state == .lockstep).toNat)
  else if a = 0x400164 then some (doorOf s d).ownerResult
  else if a = 0x3C00048 then
    let alive := s.twin.aliveSeen.any fun e => decide (s.now ≤ e + (2 * flightLen s + 17640))
    some (putBits (putBits (putBits (rget s a) 2 0 (pairCode s.twin.state)) 3 3 s.twin.linkUp.toNat) 4 4 alive.toNat)
  else if 0x600000 ≤ a ∧ a < 0x700000 ∧ 0x600040 ≤ a then liveTim s d a
  else if 0x700040 ≤ a ∧ a < 0x800000 then liveTcm s a
  else if 0x500040 ≤ a ∧ a < 0x600000 then liveDor s a
  else if 0x1401000 ≤ a ∧ a < 0x1405000 ∧ a % 32 = 0 then
    some (putBits (rget s a) 3 3 (coreStaged s ((a - 0x1401000) / 32)).toNat)
  else if 0x80400000 ≤ a ∧ a < 0x80C04000 then liveShp s a
  else if 0x82600000 ≤ a ∧ a < 0x826A0000 then liveMtr s a
  else if (0x2C00040 ≤ a ∧ a < 0x3000000) ∨ (0x85000000 ≤ a ∧ a < 0x85400000) then liveStw s a
  else if (0x2000080 ≤ a ∧ a < 0x2000100) ∨ (0x2800080 ≤ a ∧ a < 0x2800180) then liveEngine s a
  else if (0x3801000 ≤ a ∧ a < 0x3801200) ∨ (0x86000000 ≤ a ∧ a < 0x86100000) then liveUcr s a
  else liveEvt s a

/-- The value of a word now, for door d: live where the unit holds it, else stored. -/
def currentWord (s : State) (d a : Nat) : Word := (liveWord s d a).getD (rget s a)

end Sys2Proof.Machine
end

