-- ==== Sys2Proof/Machine/Access.lean ====
section
/-! DEFINITION. Who may reach what: worlds, partitions, write guards; reading a word, its snapshots and its epoch
view; the generic write of a stored word. -/

namespace Sys2Proof.Machine

/-! ### Partitions (R86, R87) -/

/-- The assignment record that names an object. -/
def assignOf (s : State) (kind id : Nat) : Option AssignRec :=
  s.cht.loaded.records.find? fun r => r.kind == kind && decide (r.first ≤ id) && decide (id ≤ r.last)

/-- The door that owns an object; none where the object is unused. -/
def ownerOf (s : State) (kind id : Nat) : Option Nat := (assignOf s kind id).map (·.door)

/-- Whether door d owns an object. -/
def owns (s : State) (d kind id : Nat) : Bool := ownerOf s kind id == some d

/-- Largest identifier of each object kind (Table 6 of Scope and conventions; CHT_OWNER_QUERY.KIND). -/
def kindLast : Nat → Nat
  | 0 => 10239 | 1 => 255 | 2 => 2047 | 3 => 63 | 4 => 63 | 5 => 1023 | 6 => 32767 | 7 => 255 | 8 => 15 | 9 => 31
  | 10 => 8 | 11 => 7 | 12 => 63 | 13 => 63 | _ => 1023

/-! ### Worlds (R454 to R459) -/

/-- Whether a block is cloister (BLK_WORLD). -/
def blockCloister (s : State) (b : Block) : Bool := getF s ⟨blockBase b + 4, 0, 0⟩ == 1

/-- Whether door d is cloister (WLD_DOOR). -/
def doorCloister (s : State) (d : Nat) : Bool := getF s Reg.WLD_DOOR_CLOISTER / 2 ^ d % 2 == 1

/-- The recovery registers, which are cloister whatever the charter says (R455). -/
def recoveryWord (a : Nat) : Bool := decide (0x400200 ≤ a) && decide (a < 0x400400)

/-- The door whose instance a per-door word is, where it is one. -/
def instanceDoor (a : Nat) : Option Nat :=
  match findWord a with
  | some (⟨_, _, .perDoor i, _⟩, is) => if a < 0x80000000 then some (is.getD i 0) else none
  | _ => none

/-- The windows of the BAR2 tables (Table 2 of Address map and register index): base and bytes. -/
def tableWindows : List (Nat × Nat) :=
  [(0x0000000, 0x200000), (0x0200000, 0xA0000), (0x0400000, 0x800000), (0x0C00000, 0x4000), (0x0C10000, 0x1000),
   (0x0C20000, 0x40000), (0x1000000, 0x80000), (0x1080000, 0x100000), (0x2000000, 0x200000), (0x2400000, 0x140000),
   (0x2600000, 0xA0000), (0x2700000, 0x4000), (0x3000000, 0x10000), (0x3010000, 0x4000), (0x3400000, 0x4000),
   (0x3410000, 0x20000), (0x3430000, 0x400), (0x3431000, 0x200), (0x3440000, 0x1000), (0x3441000, 0x400),
   (0x3460000, 0x800), (0x3461000, 0x400), (0x3480000, 0xC000), (0x3800000, 0x8000), (0x3810000, 0x1000),
   (0x4000000, 0x1000000), (0x5000000, 0x400000), (0x5400000, 0x1000), (0x6000000, 0x100000), (0x6100000, 0x200),
   (0x7000000, 0xC000), (0x7010000, 0x2000)]

/-- Whether an address lies in no block space and in no table (R496, R499). Assumption 17 (DEDUCED). -/
def outsideMap (a : Nat) : Bool :=
  if a < 0x80000000 then decide (0x4000000 ≤ a)
  else !tableWindows.any fun w => decide (0x80000000 + w.1 ≤ a) && decide (a < 0x80000000 + w.1 + w.2)

/-- Whether the target of an access is cloister: the recovery registers always, a per-door instance as its door,
anything else as its block (R454, R455, R497). -/
def targetCloister (s : State) (a : Nat) : Bool :=
  if recoveryWord a then true
  else if outsideMap a then false
  else match instanceDoor a with
    | some i => doorCloister s i
    | none => blockCloister s (blockOf a)

/-- BLK_ID and BLK_WORLD of every block are readable by every door (R455). -/
def idOrWorld (a : Nat) : Bool := decide (a < 0x4000000) && (decide (a % 0x100000 = 0) || decide (a % 0x100000 = 4)) &&
  decide (a < blockBase (blockOf a) + 8)

/-- Whether door d's world reaches an address; until the seal every requester counts as cloister (R455). -/
def reaches (s : State) (d a : Nat) : Bool := !s.cht.sealed || doorCloister s d || !targetCloister s a

/-- The block that an event number's range belongs to, of those of Table 1 of Worlds, events and errors. -/
def eventBlock (e : Nat) : Option Block :=
  if 0x240 ≤ e then none
  else allBlocks.foldl (fun x b =>
    if b ≠ .plt ∧ (blockEvents b).1 ≤ e ∧ (x.all fun y => decide ((blockEvents y).1 ≤ (blockEvents b).1)) then some b else x)
    none

/-- The event and the door of a door's word of a route entry (Table 4 of Worlds, events and errors). Assumption 16 (DEDUCED). -/
def routeWord (a : Nat) : Option (Nat × Nat) :=
  if 0x87000000 ≤ a ∧ a < 0x8700C000 ∧ (a - 0x87000000) % 32 < 16 then
    some ((a - 0x87000000) / 32, (a - 0x87000000) % 32 / 4)
  else none

/-- Whether door d's world reaches a word that it writes: a door's word of a route entry is as the door, and as the block
that raises the event (R454, R466). -/
def writeReaches (s : State) (d a : Nat) : Bool :=
  match routeWord a with
  | some (e, i) =>
    !s.cht.sealed || doorCloister s d || (!doorCloister s i && !((eventBlock e).any fun b => blockCloister s b))
  | none => reaches s d a

/-- A world fault of a door (R456): WLD captures code 0x01, event 0x010, WLD_FAULT_LAST and its count. -/
def worldFault (d a : Nat) (write : Bool) (s : State) : State :=
  let s := setF s Reg.WLD_FAULT_LAST_BLOCK (blockId (blockOf a))
  let s := setF s Reg.WLD_FAULT_LAST_INTERNAL 0
  let s := setF s Reg.WLD_FAULT_LAST_DOOR d
  let s := setF s Reg.WLD_FAULT_LAST_PORT 0
  let s := setF s Reg.WLD_FAULT_LAST_WRITE write.toNat
  let s := setF s Reg.WLD_FAULT_LAST_TARGET a
  let s := incSatF s Reg.WLD_FAULT_COUNT_DOOR
  raiseEvent 0x010 (accessError .wld 0x01 d s)

/-- Whether DRAM region r is cloister (WLD_REGION). -/
def regionCloister (s : State) (r : Nat) : Bool := getF s (Reg.WLD_REGION_CLOISTER (r / 32)) / 2 ^ (r % 32) % 2 == 1

/-- Whether decode engine e is open. -/
def decOpen (s : State) (e : Nat) : Bool := getF s Reg.WLD_ENG_DEC / 2 ^ e % 2 == 0

/-- Whether encode engine e is open. -/
def encOpen (s : State) (e : Nat) : Bool := getF s Reg.WLD_ENG_ENC / 2 ^ e % 2 == 0

/-- An internal world fault (R458): WLD captures code 0x02 and raises event 0x011. -/
def internalWorldFault (port target : Nat) (write : Bool) (s : State) : State :=
  let s := setF s Reg.WLD_FAULT_LAST_BLOCK 0xFFF
  let s := setF s Reg.WLD_FAULT_LAST_INTERNAL 1
  let s := setF s Reg.WLD_FAULT_LAST_DOOR 0
  let s := setF s Reg.WLD_FAULT_LAST_PORT port
  let s := setF s Reg.WLD_FAULT_LAST_WRITE write.toNat
  let s := setF s Reg.WLD_FAULT_LAST_TARGET target
  let s := incSatF s Reg.WLD_FAULT_COUNT_INTERNAL
  raiseEvent 0x011 (captureError .wld 0x02 2 false port 0 none s)

/-! ### Door phases (R84, R90) -/

/-- Whether a word belongs to door d's ring or MSI-X registers (R130). -/
def ringWord (d a : Nat) : Bool :=
  (decide (0x501100 + 0x1000 * d ≤ a) && decide (a < 0x501518 + 0x1000 * d)) ||
  (decide (0x508000 + 0x8000 * d ≤ a) && decide (a < 0x510000 + 0x8000 * d)) ||
  (decide (0x528000 + 0x100 * d ≤ a) && decide (a < 0x528100 + 0x100 * d))

/-- Whether door d's phase admits an access to an address. -/
def phaseAdmits (s : State) (d a : Nat) (write : Bool) : Bool :=
  let home := decide (a < 0x80000000) && (blockOf a == .plt || blockOf a == .cht)
  if s.cht.stopped then d == 0 && home
  else match (doorOf s d).phase with
    | .shut => !write && home
    | .time => (!write && home) || (decide (a < 0x80000000) && blockOf a == .tim) || ringWord d a
    | .opened => true

/-! ### Write guards -/

/-- Whether door d may write a word under its guard; the guards of entries whose owner follows from their committed
content are checked at commit (R119). -/
def guardAdmits (s : State) (d : Nat) (g : Guard) (is : List Nat) : Bool :=
  match g with
  | .anyDoor | .matchEntry | .crosspoint | .tile | .outContext => true
  | .devOwner | .routeOwner => d == devOwner s
  | .timeOwner => d == timeOwner s
  | .perDoor i => is.getD i 0 == d
  | .object k i => owns s d k (is.getD i 0)
  | .service => ((s.cht.loaded.services.getD (is.headD 0) (4, 4)).2) == d
  | .taskDescriptor => true

/-! ### Reading -/

/-- A word as door d's epoch view shows it (R123): the retained value where a commit since the view epoch changed the
word, else the current value. -/
def viewWord (s : State) (d a : Nat) : Word :=
  match (doorOf s d).retain.find? (fun e => e.1 == a) with
  | some e => e.2
  | none => currentWord s d a

/-- The wide RO and RWS quantities that a read of their lowest word snapshots (R13, R475): first address and words.
Assumption 11 (DEDUCED). -/
def wideQuantity (a : Nat) : Option (Nat × Nat) :=
  let inArr := fun (base stride count words : Nat) =>
    if base ≤ a ∧ (a - base) / stride < count ∧ (a - base) % stride < 4 * words then
      some (base + (a - base) / stride * stride, words) else none
  let one := fun (base words : Nat) => if base ≤ a ∧ a < base + 4 * words then some (base, words) else none
  if a ≥ 0x4000000 then none
  else
    (one 0x44 2) <|> (one 0x108010 3) <|> (one 0x200048 2) <|> (one 0x300050 2) <|> (one 0x400140 2) <|>
    (one 0x500040 5) <|> (one 0x50005C 2) <|> (inArr 0x501008 0x1000 4 2) <|> (inArr 0x501010 0x1000 4 2) <|>
    (one 0x600048 3) <|> (one 0x600058 2) <|> (one 0x600088 3) <|> (one 0x600098 2) <|> (one 0x6000A8 2) <|>
    (one 0x6000B0 3) <|> (one 0x6000C8 4) <|> (inArr 0x600208 0x20 9 3) <|> (inArr 0x701008 0x40 64 6) <|>
    (inArr 0x708000 0x20 4 4) <|> (inArr 0xC00180 0x10 4 3) <|> (one 0x1800050 2) <|> (one 0x2000048 2) <|>
    (one 0x2400050 3) <|> (one 0x2800048 2) <|> (one 0x2C00060 4) <|> (one 0x3000060 3) <|>
    (inArr 0x3401028 0x40 32 2) <|> (one 0x3800048 2) <|> (one 0x3800050 4) <|> (one 0x3800070 2) <|>
    (one 0x3C00054 3) <|> (one 0x3C00060 6) <|> (one 0x3C00078 5) <|>
    (if a % 0x100000 < 0x30 ∧ 0x20 ≤ a % 0x100000 ∧ a = blockBase (blockOf a) + a % 0x40 then
      some (blockBase (blockOf a) + 0x20, 4) else none)

/-- The snapshot that door d holds of a word, if any. -/
def snapOf (s : State) (d a : Nat) : Option Word := sgetC none (doorOf s d).snaps a

/-- Door d takes its snapshot of a wide quantity (R13): all its words at once. -/
def takeSnapshot (s : State) (d base words : Nat) : State :=
  let snaps := (List.range words).foldl
    (fun m i => ssetC none m (base + 4 * i) (some (currentWord s d (base + 4 * i)))) (doorOf s d).snaps
  setDoor s d { doorOf s d with snaps := snaps }

/-- What door d's read of a word returns, without its side effects: 0 where its phase or world does not admit it (R84,
R456), its snapshot of a higher word (R13), its view otherwise. -/
def readWord (s : State) (d a : Nat) : Word :=
  if !phaseAdmits s d a false then 0
  else if !reaches s d a && !idOrWorld a then 0
  else match findWord a with
    | none => 0
    | some (def_, is) =>
      if 0x508000 ≤ a ∧ a < 0x528400 ∧ !guardAdmits s d def_.guard is then 0
      else match wideQuantity a with
        | some (base, _) => if a = base then currentWord s d a else (snapOf s d a).getD (currentWord s d a)
        | none => viewWord s d a

/-! ### Writing a stored word -/

/-- Why a write of a stored word is dropped. -/
inductive WriteDrop where
  | reserved | world | partition | locked | encoding
  deriving DecidableEq, Repr

/-- The encodings whose listed range another field or the media profile bounds (R15): DRM_SCHED_CFG.WRQ_LO is below WRQ_HI, and
UCR_SCRUB_CFG.REFRESH_AGE is at most the 2,160 hours of media profile 1, and HAL_METER_CFG.ZONE2 is not below ZONE1. -/
def boundedListed (a : Nat) (v : Word) : Bool :=
  match a with
  | 0x3000044 => decide (bitsOf v 31 24 < bitsOf v 23 16)
  | 0x3800060 => decide (bitsOf v 15 0 ≤ 2160)
  | 0x2400044 => decide (bitsOf v 5 0 ≤ bitsOf v 11 6)
  | _ => true

/-- The check of a write in the order of REGISTER_WRITE: world, partition, lock, encoding (R15, R16, R104, R456). -/
def writeCheck (s : State) (d a : Nat) (v : Word) : Option WriteDrop :=
  if !phaseAdmits s d a true then some .reserved
  else if !writeReaches s d a then some .world
  else match findWord a with
    | none => some .reserved
    | some (w, is) =>
      if !guardAdmits s d w.guard is then some .partition
      else if wordHasAcc w .rwl && s.cht.sealed then some .locked
      else if !encodingListed w v || !boundedListed a v then some .encoding
      else none

/-- The record that a dropped write leaves (R15, R16, R104, R456). Assumption 15 (DEDUCED). -/
def dropRecord (d a : Nat) (r : WriteDrop) (s : State) : State :=
  match r with
  | .reserved => s
  | .world => worldFault d a true s
  | .partition => partitionError (blockOf a) d s
  | .locked => lockedError (blockOf a) d s
  | .encoding => configError (blockOf a) d s

/-- Store a write into a word, field by field; RWE fields keep their committed value. -/
def storeWord (a : Nat) (v : Word) (s : State) : State :=
  match findWord a with
  | none => s
  | some (w, _) => rset s a (writtenWord false (rget s a) v w.fields)

/-- A bus write of door d of v to the word at a that acts as f: checked, then done or dropped with its record. -/
def busWrite (d a : Nat) (v : Word) (f : State → State) (s : State) : State :=
  match writeCheck s d a v with
  | some r => dropRecord d a r s
  | none => f s

/-- A write of door d to a stored word: checked, then stored or dropped. -/
def writeStored (d a : Nat) (v : Word) (s : State) : State :=
  match writeCheck s d a v with
  | some r => dropRecord d a r s
  | none => storeWord a v s

end Sys2Proof.Machine
end

