-- ==== Sys2Proof/Machine/Crc.lean ====
section
/-! DEFINITION. The checks that the manual computes over bytes: CRC-32C and Fletcher-64 (R374), CRC-16 (Table 4 of DRAM
controller and DMA, Table 5 of the Undercroft), and the Internet checksum of IPv4 and UDP headers. -/

namespace Sys2Proof.Machine

/-- One bit step of the reflected CRC-32C register. -/
def crc32cBit (r : BitVec 32) : BitVec 32 :=
  if r.getLsbD 0 then (r >>> 1) ^^^ 0x82F63B78#32 else r >>> 1

/-- Apply a function n times. -/
def times {α : Type} : Nat → (α → α) → α → α
  | 0, _, x => x
  | n + 1, f, x => times n f (f x)

/-- One byte into the CRC-32C register (R374). -/
def crc32cByte (r : BitVec 32) (b : Byte) : BitVec 32 := times 8 crc32cBit (r ^^^ b.zeroExtend 32)

/-- The CRC-32C register after bytes, before the final XOR. -/
def crc32cRun (r : BitVec 32) (bs : List Byte) : BitVec 32 := bs.foldl crc32cByte r

/-- CRC-32C of a byte run (R374). -/
def crc32c (bs : List Byte) : BitVec 32 := crc32cRun 0xFFFFFFFF#32 bs ^^^ 0xFFFFFFFF#32

/-- One bit step of CRC-16 with polynomial 0x1021, most significant bit first. -/
def crc16Bit (r : BitVec 16) : BitVec 16 := if r.getLsbD 15 then (r <<< 1) ^^^ 0x1021#16 else r <<< 1

/-- One byte into the CRC-16 register. -/
def crc16Byte (r : BitVec 16) (b : Byte) : BitVec 16 := times 8 crc16Bit (r ^^^ (b.zeroExtend 16 <<< 8))

/-- CRC-16, polynomial 0x1021, initial 0xFFFF. -/
def crc16 (bs : List Byte) : BitVec 16 := bs.foldl crc16Byte 0xFFFF#16

/-- One bit step of CRC-64 with polynomial 0x42F0E1EBA9EA3693, most significant bit first (R419). -/
def crc64Bit (r : BitVec 64) : BitVec 64 := if r.getLsbD 63 then (r <<< 1) ^^^ 0x42F0E1EBA9EA3693#64 else r <<< 1

/-- One byte into the CRC-64 register. -/
def crc64Byte (r : BitVec 64) (b : Byte) : BitVec 64 := times 8 crc64Bit (r ^^^ (b.zeroExtend 64 <<< 56))

/-- CRC-64 of a byte run, initial value 0 (R419). -/
def crc64 (bs : List Byte) : BitVec 64 := bs.foldl crc64Byte 0#64

/-- The modulus of Fletcher-64. -/
def fletcherMod : Nat := 4294967295

/-- One word into Fletcher-64's registers A and B (R374). -/
def fletcherWord (ab : Nat × Nat) (w : Nat) : Nat × Nat :=
  let a := (ab.1 + w) % fletcherMod
  (a, (ab.2 + a) % fletcherMod)

/-- Fletcher-64's registers after bytes taken as little-endian words, the last word padded with zero. -/
def fletcherRun (ab : Nat × Nat) : List Byte → Nat × Nat
  | [] => ab
  | a :: b :: c :: d :: rest => fletcherRun (fletcherWord ab (leNat [a, b, c, d])) rest
  | bs => fletcherWord ab (leNat bs)

/-- The sum of 16-bit big-endian words, the last byte padded with zero. -/
def sum16 : List Byte → Nat
  | [] => 0
  | [a] => a.toNat * 256
  | a :: b :: rest => a.toNat * 256 + b.toNat + sum16 rest

/-- Fold carries into 16 bits twice and complement: the Internet checksum. -/
def inetChecksum (bs : List Byte) : Nat :=
  let x := sum16 bs
  let x := x % 65536 + x / 65536
  let x := x % 65536 + x / 65536
  65535 - x

end Sys2Proof.Machine
end

