-- ==== Sys2Proof/Machine/Ecdsa.lean ====
section
/-! DEFINITION. ECDSA over P-384 (FIPS 186-5), which the charter's signature check uses (R80). -/

namespace Sys2Proof.Machine

/-- The prime of the field of P-384. -/
def p384p : Nat := 2 ^ 384 - 2 ^ 128 - 2 ^ 96 + 2 ^ 32 - 1

/-- The order of its base point. -/
def p384n : Nat := 0xFFFFFFFFFFFFFFFFFFFFFFFFFFFFFFFFFFFFFFFFFFFFFFFFC7634D81F4372DDF581A0DB248B0A77AECEC196ACCC52973

/-- The constant of its curve y² = x³ − 3x + b. -/
def p384b : Nat := 0xB3312FA7E23EE7E4988E056BE3F82D19181D9C6EFE8141120314088F5013875AC656398D8A2ED19D2A85C8EDD3EC2AEF

/-- Its base point. -/
def p384g : Nat × Nat :=
  (0xAA87CA22BE8B05378EB1C71EF320AD746E1D3B628BA79B9859F741E082542A385502F25DBF55296C3A545E3872760AB7,
   0x3617DE4A96262C6F5D9E98BF9292DC29F8F41DBD289A147CE9DA3113B5F0B8C00A60B1CE1D7E819D7A431D7C90EA0E5F)

/-- b to the power of the low f bits of e, modulo m. -/
def powMod (m : Nat) : Nat → Nat → Nat → Nat
  | 0, _, _ => 1 % m
  | f + 1, b, e =>
    let h := powMod m f (b * b % m) (e / 2)
    if e % 2 = 1 then b * h % m else h

/-- The inverse of a modulo the prime m, by Fermat. -/
def invMod (m a : Nat) : Nat := powMod m 384 (a % m) (m - 2)

/-- a − b modulo m. -/
def subMod (m a b : Nat) : Nat := (a % m + m - b % m) % m

/-- A point of the curve; none is the point at infinity. -/
abbrev CurvePoint := Option (Nat × Nat)

/-- Whether a pair of coordinates lies on the curve. -/
def onCurve (q : Nat × Nat) : Bool :=
  decide (q.1 < p384p) && decide (q.2 < p384p) && q.2 * q.2 % p384p == subMod p384p (q.1 * q.1 * q.1 + p384b) (3 * q.1)

/-- The sum of two points. -/
def pointAdd : CurvePoint → CurvePoint → CurvePoint
  | none, b => b
  | a, none => a
  | some (x1, y1), some (x2, y2) =>
    if x1 = x2 ∧ (y1 + y2) % p384p = 0 then none
    else
      let k := if x1 = x2 then subMod p384p (3 * x1 * x1) 3 * invMod p384p (2 * y1) % p384p
        else subMod p384p y2 y1 * invMod p384p (subMod p384p x2 x1) % p384p
      let x := subMod p384p (k * k) (x1 + x2)
      some (x, subMod p384p (k * subMod p384p x1 x) y1)

/-- The multiple of a point by the low f bits of e. -/
def pointMul : Nat → CurvePoint → Nat → CurvePoint
  | 0, _, _ => none
  | f + 1, q, e =>
    let h := pointMul f (pointAdd q q) (e / 2)
    if e % 2 = 1 then pointAdd q h else h

/-- Whether (r, s) signs the digest e under the key (x, y). -/
def ecdsaOk (e x y r s : Nat) : Bool :=
  decide (1 ≤ r) && decide (r < p384n) && decide (1 ≤ s) && decide (s < p384n) && onCurve (x, y) &&
    let w := invMod p384n s
    match pointAdd (pointMul 384 (some p384g) (e * w % p384n)) (pointMul 384 (some (x, y)) (r * w % p384n)) with
    | none => false
    | some q => q.1 % p384n == r

end Sys2Proof.Machine
end

