-- ==== Sys2Proof/Machine/CharterImage.lean ====
section
/-! DEFINITION. The charter image: header, directory and sections, their layouts, and what each section holds (R78 to R83,
R99, R100, Tables 1 to 3 and 11 to 24 of Charter, start-up and partitions). -/

namespace Sys2Proof.Machine

/-! ### Bytes -/

/-- n bytes of an image from byte i. -/
def imgBytes (img : List Byte) (i n : Nat) : List Byte := (img.drop i).take n

/-- Whether n bytes from byte i are zero. -/
def zeroAt (b : List Byte) (i n : Nat) : Bool := (imgBytes b i n).all (· == 0)

/-- Little-endian words of a byte list. -/
def leWords : Nat → List Byte → List Word
  | 0, _ => []
  | n + 1, bs => BitVec.ofNat 32 (leAt bs 0 4) :: leWords n (bs.drop 4)

/-! ### Header and directory (R78, Tables 1 and 2) -/

/-- LENGTH of an image. -/
def imgLength (img : List Byte) : Nat := leAt img 8 4

/-- The signed bytes of an image. -/
def signedBytes (img : List Byte) : List Byte := img.take (imgLength img - 256)

/-- A directory entry: type, flags, offset, length, CRC. -/
structure DirEntry where
  type  : Nat
  flags : Nat
  ofs   : Nat
  len   : Nat
  crc   : Nat
  deriving DecidableEq, Repr

/-- The directory entries in use. -/
def directory (img : List Byte) : List DirEntry :=
  (List.range (min 64 (leAt img 6 2))).map fun i =>
    let e := imgBytes img (0x40 + 16 * i) 16
    ⟨leAt e 0 2, leAt e 2 2, leAt e 4 4, leAt e 8 4, leAt e 12 4⟩

/-- The bytes of the section of a type; empty where there is none. -/
def sectionOf (img : List Byte) (type : Nat) : List Byte :=
  match (directory img).find? fun e => e.type == type with
  | some e => imgBytes img e.ofs e.len
  | none => []

/-- Whether two spans share a byte or unit. -/
def spansMeet (a b : Nat × Nat) : Bool := decide (0 < a.2) && decide (0 < b.2) && decide (a.1 < b.1 + b.2) && decide (b.1 < a.1 + a.2)

/-- Whether any two spans of a list meet. -/
def anyMeet : List (Nat × Nat) → Bool
  | [] => false
  | x :: xs => xs.any (spansMeet x) || anyMeet xs

/-- The section set and its places (R78, R79). -/
def sectionSetOk (img : List Byte) : Bool :=
  let d := directory img
  let count := fun t => d.countP fun e => e.type == t
  decide (1 ≤ leAt img 6 2) && decide (leAt img 6 2 ≤ 64) &&
  ((List.range 10).all fun i => count (i + 1) == 1) && decide (count 11 ≤ 1) &&
  (d.all fun e => decide (1 ≤ e.type) && decide (e.type ≤ 11) && e.flags == 0 && e.ofs % 4096 == 0 && decide (0x1000 ≤ e.ofs) &&
    decide (e.ofs + e.len + 256 ≤ imgLength img)) &&
  !anyMeet (d.map fun e => (e.ofs, e.len))

/-! ### IDENTITY, TIMING and WORLDS (Tables 11, 12, 16) -/

/-- Enabled doors of an IDENTITY section. -/
def identityDoor (b : List Byte) (d : Nat) : Bool := byteAt b 3 / 2 ^ d % 2 == 1

def identityOk (b : List Byte) : Bool :=
  b.length == 64 && decide (byteAt b 0 ≤ 2) && decide (byteAt b 3 < 16) && identityDoor b (byteAt b 1) && identityDoor b (byteAt b 2) &&
  decide (1 ≤ leAt b 24 2) && decide (leAt b 24 2 ≤ 282) && decide (1 ≤ byteAt b 26) && decide (byteAt b 26 ≤ 8) &&
  decide (1 ≤ byteAt b 27) && decide (byteAt b 28 ≤ 1) && zeroAt b 29 35

def timingOk (b : List Byte) : Bool := b.length == 16 && zeroAt b 1 1 && zeroAt b 8 8

def worldsOk (b : List Byte) : Bool :=
  b.length == 112 && decide (byteAt b 0 < 16) && zeroAt b 1 1 && decide (leAt b 4 4 < 1048576) && decide (leAt b 8 4 < 2097152) &&
  (leAt b 12 4 &&& (4294967295 - leAt b 8 4)) == 0

/-! ### PARTITION (Tables 13 to 15) -/

/-- The quota block of door d. -/
def quotaBlock (b : List Byte) (d : Nat) : List Byte := imgBytes b (32 * d) 32

/-- Its values. -/
def quotaAt (b : List Byte) (d : Nat) : Quota :=
  let q := quotaBlock b d
  ⟨leAt q 0 8, leAt q 8 8, leAt q 16 2, leAt q 18 2, leAt q 20 4, leAt q 24 4, leAt q 28 2⟩

def quotaOk (enabled : Bool) (q : List Byte) : Bool :=
  if enabled then
    decide (leAt q 16 2 ≤ 1024) && decide (leAt q 18 2 ≤ 4096) && decide (leAt q 20 4 ≤ 65536) && decide (leAt q 24 4 ≤ 131072) &&
    decide (1 ≤ leAt q 28 2) && decide (leAt q 28 2 ≤ 2048) && zeroAt q 30 2
  else zeroAt q 0 32

/-- The assignment records. -/
def recordsOf (b : List Byte) : List AssignRec :=
  (List.range (leAt b 128 4)).map fun i =>
    let r := imgBytes b (136 + 16 * i) 16
    ⟨byteAt r 0, byteAt r 1, byteAt r 2 % 2 == 1, leAt r 4 4, leAt r 8 4⟩

def recordOk (r : List Byte) : Bool :=
  let kind := byteAt r 0
  let last := if kind = 15 then 131071 else kindLast kind
  decide (kind ≤ 15) && decide (byteAt r 1 ≤ 3) && decide (byteAt r 2 ≤ 1) && (byteAt r 2 == 0 || kind == 5) && zeroAt r 3 1 &&
  decide (leAt r 4 4 ≤ leAt r 8 4) && decide (leAt r 8 4 ≤ last) && (kind != 15 || decide (32768 ≤ leAt r 4 4)) && zeroAt r 12 4

def partitionOk (identity b : List Byte) : Bool :=
  let n := leAt b 128 4
  decide (n ≤ 65536) && b.length == 136 + 16 * n && zeroAt b 132 4 &&
  ([0, 1, 2, 3].all fun d => quotaOk (identityDoor identity d) (quotaBlock b d)) &&
  ((List.range n).all fun i => recordOk (imgBytes b (136 + 16 * i) 16))

/-! ### MEMORY and MEDIA (Tables 17 and 18) -/

def regionsOf (b : List Byte) : List RegionRec :=
  (List.range (leAt b 4 2)).map fun i =>
    let r := imgBytes b (16 + 16 * i) 16
    ⟨byteAt r 0, byteAt r 1 == 1, leAt r 4 4, leAt r 8 4⟩

def areasOf (b : List Byte) : List AreaRec :=
  (List.range (leAt b 6 2)).map fun j =>
    let r := imgBytes b (16 + 16 * leAt b 4 2 + 16 * j) 16
    ⟨byteAt r 0, leAt r 4 4, leAt r 8 4⟩

/-- The kinds of private areas appear as the text under Table 17 states. -/
def areaKindsOk (identity : List Byte) (l : List AreaRec) : Bool :=
  let count := fun k => l.countP fun a => a.kind == k
  count 4 == 1 && count 5 == 1 && count 6 == 1 &&
  ([0, 1, 2, 3].all fun d => decide (count d ≤ 1) && (count d == 0 || identityDoor identity d)) &&
  count 7 == (if byteAt identity 0 = 0 then 0 else 1)

def memoryOk (identity b : List Byte) : Bool :=
  let r := leAt b 4 2
  let a := leAt b 6 2
  b.length == 16 + 16 * (r + a) && decide (byteAt b 0 ≤ 2) && decide (byteAt b 1 ≤ 1) && (byteAt b 2 == 1 || byteAt b 2 == 2) &&
  decide (byteAt b 3 ≤ 2) && decide (r ≤ 256) && decide (3 ≤ a) && decide (a ≤ 8) && zeroAt b 8 8 &&
  ((List.range r).all fun i =>
    let x := imgBytes b (16 + 16 * i) 16
    decide (byteAt x 1 ≤ 1) && zeroAt x 2 2 && zeroAt x 12 4) &&
  ((List.range a).all fun j =>
    let x := imgBytes b (16 + 16 * r + 16 * j) 16
    decide (byteAt x 0 ≤ 7) && zeroAt x 1 3 && zeroAt x 12 4) &&
  areaKindsOk identity (areasOf b)

def mediaPartsOf (b : List Byte) : List MediaPart :=
  (List.range (byteAt b 7)).map fun n =>
    let p := imgBytes b (8 + 8 * n) 8
    ⟨leAt p 0 2, leAt p 2 2, byteAt p 4 == 1⟩

def mediaOk (b : List Byte) : Bool :=
  let n := byteAt b 7
  b.length == 8 + 8 * n && byteAt b 0 == 1 && decide (byteAt b 1 ≤ 1) && [64, 128, 256].contains (leAt b 2 2) &&
  decide (24 ≤ leAt b 4 2) && decide (leAt b 4 2 ≤ 2160) && decide (1 ≤ byteAt b 6) && decide (byteAt b 6 ≤ 16) &&
  decide (1 ≤ n) && decide (n ≤ 16) &&
  ((List.range n).all fun i =>
    let p := imgBytes b (8 + 8 * i) 8
    decide (byteAt p 4 ≤ 1) && zeroAt p 5 3 && (i != 0 || byteAt p 4 == 0))

/-! ### SHAPER and LANDING (Tables 19 to 21) -/

/-- Port and door of each bound service. -/
def servicesOf (b : List Byte) : List (Nat × Nat) :=
  (List.range (leAt b 2 2)).map fun s => (leAt b (8 + 2 * s) 2 % 4, leAt b (8 + 2 * s) 2 / 4 % 4)

def shaperOk (identity b : List Byte) : Bool :=
  let n := leAt b 2 2
  b.length == (8 + 2 * n + 7) / 8 * 8 && decide (byteAt b 0 ≤ 1) && zeroAt b 1 1 && decide (n ≤ 256) && (byteAt b 0 == 1 || n == 0) &&
  zeroAt b 4 4 && ((List.range n).all fun s => decide (leAt b (8 + 2 * s) 2 < 16) && identityDoor identity (leAt b (8 + 2 * s) 2 / 4)) &&
  zeroAt b (8 + 2 * n) 8

def placesOf (b : List Byte) : List Placement :=
  (List.range (leAt b 4 4)).map fun j =>
    let p := imgBytes b (32800 + 16 * j) 16
    ⟨byteAt p 0, byteAt p 1, leAt p 2 2, leAt p 4 2, leAt p 6 2⟩

/-- The object kind of PARTITION that a placement kind places. -/
def placeOwnerKind : Nat → Nat
  | 0 => 0 | 1 => 12 | 2 => 13 | _ => 14

/-- Identifiers of a kind that the records assign. -/
def assignedIds (l : List AssignRec) (kind : Nat) : List Nat :=
  (l.filter fun r => r.kind == kind).flatMap fun r => (List.range (r.last + 1 - r.first)).map (r.first + ·)

/-- Each owned leg, decoder, generator and detector is placed once, and nothing else is (R178). -/
def placedOnce (records : List AssignRec) (places : List Placement) : Bool :=
  [0, 1, 2, 3].all fun k =>
    let ids := (places.filter fun p => p.kind == k).map (·.object)
    let own := assignedIds records (placeOwnerKind k)
    ids.Nodup && ids.all own.contains && own.all ids.contains

def landingOk (partition b : List Byte) : Bool :=
  let n := leAt b 4 4
  decide (n ≤ 11392) && b.length == 32800 + 16 * n && zeroAt b 8 24 &&
  ((List.range n).all fun j =>
    let p := imgBytes b (32800 + 16 * j) 16
    decide (byteAt p 0 ≤ 3) && decide (byteAt p 1 < 64) && (byteAt p 0 == 0 || (zeroAt p 1 1 && zeroAt p 6 2)) &&
    decide (leAt p 2 2 ≤ 511) && decide (leAt p 4 2 ≤ kindLast (placeOwnerKind (byteAt p 0))) && zeroAt p 8 8) &&
  placedOnce (recordsOf partition) (placesOf b)

/-! ### GALLERY, REGISTERS and TABLES (R100, Tables 22 to 24) -/

/-- The bits of a word's fields with an access code. -/
def fieldBits (w : WordDef) (p : FieldDef → Bool) : Nat :=
  (w.fields.filter p).foldl (fun n f => n ||| (2 ^ (f.hi + 1 - f.lo) - 1) * 2 ^ f.lo) 0

/-- Whether v holds nothing outside the RWE and RW fields of the word at an address, and only encodings that they list. -/
def plainWordOk (a v : Nat) : Bool :=
  match findWord a with
  | none => false
  | some (w, _) =>
    let mine := fun (f : FieldDef) => f.acc == .rwe || f.acc == .rw
    w.fields.any mine && (v &&& (4294967295 - fieldBits w mine)) == 0 &&
      w.fields.all fun f => !mine f || fieldLists f (bitsOf (BitVec.ofNat 32 v) f.hi f.lo)

/-- The crosspoint and recipe records: addresses and words. -/
def galleryWords (b : List Byte) : List (Nat × Nat) :=
  let x := leAt b 4096 4
  ((List.range x).flatMap fun i =>
    let r := imgBytes b (4112 + 12 * i) 12
    [0, 1].map fun j => (0x82000000 + 8 * leAt r 0 4 + 4 * j, leAt r (4 + 4 * j) 4)) ++
  ((List.range (leAt b 4100 4)).flatMap fun m =>
    let r := imgBytes b (4112 + 12 * x + 84 * m) 84
    (List.range 20).map fun j => (0x82400000 + 128 * leAt r 0 2 + 4 * j, leAt r (4 + 4 * j) 4))

/-- Assumption 55 (DEDUCED). -/
def galleryOk (b : List Byte) : Bool :=
  let x := leAt b 4096 4
  let r := leAt b 4100 4
  decide (x ≤ 262144) && decide (r ≤ 10240) && b.length == 4112 + 12 * x + 84 * r && zeroAt b 4104 8 &&
  ((List.range 1024).all fun n => decide (leAt b (4 * n) 4 < 1048576)) &&
  ((List.range x).all fun i => decide (leAt b (4112 + 12 * i) 4 < 262144)) &&
  ((List.range r).all fun m => decide (leAt b (4112 + 12 * x + 84 * m) 2 < 10240) && zeroAt b (4112 + 12 * x + 84 * m + 2) 2) &&
  (galleryWords b).all fun w => plainWordOk w.1 w.2

/-- The CH bits of a BAR0 register that no section but REGISTERS sets. -/
def registerBits (a : Nat) : Nat :=
  if a < 0x4000000 ∧ a = blockBase (blockOf a) + 0x0C then 0xFFFFFFFF
  else if 0x800048 ≤ a ∧ a < 0x8000C8 ∧ a % 32 = 8 then 0xFFFFFFFF
  else if 0x800048 ≤ a ∧ a < 0x8000D0 ∧ a % 32 = 12 then 0xFFFF
  else if 0x800110 ≤ a ∧ a < 0x800120 then 0xFFFFFFFF
  else if a = 0x2400044 then 0xFFF
  else if 0x2400100 ≤ a ∧ a < 0x2400140 then 0x3FFFFFFF
  else if 0x2400200 ≤ a ∧ a < 0x2400280 then 0x7FFFFF
  else if 0x101000 ≤ a ∧ a < 0x101150 ∧ gateExists ((a - 0x101000) / 4) then 4
  else if a = 0x108008 then 0xFF
  else 0

/-- The REGISTERS pairs. -/
def registerPairs (b : List Byte) : List (Nat × Nat) :=
  (List.range (leAt b 0 4)).map fun i => (leAt b (8 + 8 * i) 4, leAt b (12 + 8 * i) 4)

def pairOk (p : Nat × Nat) : Bool :=
  let m := registerBits p.1
  p.1 % 4 == 0 && m != 0 && (p.2 &&& (4294967295 - m)) == 0 && (p.1 != 0x2400044 || decide (p.2 % 64 ≤ p.2 / 64 % 64)) &&
  (match findWord p.1 with
   | none => false
   | some (w, _) => w.fields.all fun f => m / 2 ^ f.lo % 2 == 0 || fieldLists f (bitsOf (BitVec.ofNat 32 p.2) f.hi f.lo))

def registersOk (b : List Byte) : Bool :=
  b.length == 8 + 8 * leAt b 0 4 && zeroAt b 4 4 && (registerPairs b).all pairOk

/-- The words of n TABLES records, with the bytes that follow; none where a record is malformed. -/
def tableRecords : Nat → List Byte → Option (List (Nat × Nat))
  | 0, bs => if bs.isEmpty then some [] else none
  | n + 1, bs =>
    let ofs := leAt bs 0 4
    let len := leAt bs 4 4
    let padded := (len + 7) / 8 * 8
    if bs.length < 8 + padded ∨ ofs % 4 ≠ 0 ∨ len % 4 ≠ 0 ∨ len < 4 ∨ 65536 < len ∨ !zeroAt bs (8 + len) (padded - len) then none
    else
      let ws := (List.range (len / 4)).map fun i => (0x80000000 + ofs + 4 * i, leAt bs (8 + 4 * i) 4)
      (tableRecords n (bs.drop (8 + padded))).map (ws ++ ·)

/-- The words of the TABLES section; an image without one names none. -/
def tableWords (img : List Byte) : Option (List (Nat × Nat)) :=
  let b := sectionOf img 11
  if !((directory img).any fun e => e.type == 11) then some []
  else if b.length < 8 ∨ !zeroAt b 4 4 then none
  else tableRecords (leAt b 0 4) (b.drop 8)

/-- Whether a task belongs to the classes whose RATE, DL_OFS and TO_OFS the device sets (R328, R331). -/
def followsObject (t : Nat) : Bool := decide (21704 ≤ t) && decide (t < 22304)

/-- A record's word of a task descriptor: only what R328 lets TABLES cover, in encodings that Table 8 lists. -/
def taskWordOk (t o v : Nat) : Bool :=
  let bits := fun (hi lo : Nat) => v / 2 ^ lo % 2 ^ (hi + 1 - lo)
  if o = 0 then
    bits 22 21 == 0 && bits 23 23 == 0 && (bits 0 0 == 0 || decide (22308 ≤ t)) &&
    (bits 13 5 == 0 || decide (22308 ≤ t) || (decide (21632 ≤ t) && decide (t < 21704)) || (decide (21960 ≤ t) && decide (t < 22048)) ||
      decide (22240 ≤ t)) &&
    (bits 17 14 == 0 || !followsObject t) && decide (bits 17 14 ≤ 14) && decide (bits 4 1 ≤ 11)
  else if o = 4 then decide (v < 1048576)
  else if o = 8 then if followsObject t then v == 0 else v != 0
  else if o = 12 then !followsObject t || v == 0
  else if o = 16 then (List.range 10).all fun n => decide (bits (3 * n + 2) (3 * n) ≤ 5)
  else if o = 20 then decide (v < 8192) && (List.range 4).all fun n => decide (bits (3 * n + 3) (3 * n + 1) ≤ 5)
  else if o = 24 then decide (v < 65536)
  else if o = 28 then v == 0
  else decide (64 ≤ o) && decide (v < 16777216) && decide (bits 20 17 ≤ 14)

/-- A program's layer word lists SR_X from 1 to 16 and SR_Y from 1 to 8 (Table 7 of Encode). Assumption 55 (DEDUCED). -/
def searchWordOk (a v : Nat) : Bool :=
  if 0x83800000 ≤ a ∧ a < 0x83808000 ∧ a % 64 = 0 ∧ a % 512 ≠ 0 ∧ a % 512 < 256 then
    decide (1 ≤ v / 8 % 32) && decide (v / 8 % 32 ≤ 16) && decide (1 ≤ v / 256 % 16) && decide (v / 256 % 16 ≤ 8)
  else true

/-- One word of a TABLES record (R100, R328). -/
def tableWordOk (w : Nat × Nat) : Bool :=
  let a := w.1
  if 0x84000000 ≤ a ∧ a < 0x85000000 then taskWordOk ((a - 0x84000000) / 128) (a % 128) w.2
  else if 0x85400000 ≤ a ∧ a < 0x85401000 then decide (a % 16 < 8) && decide (w.2 < 131072)
  else if (0x82000000 ≤ a ∧ a < 0x82200000) ∨ (0x82400000 ≤ a ∧ a < 0x82540000) then false
  else decide (0x80000000 ≤ a) && plainWordOk a w.2 && searchWordOk a w.2

def tablesOk (img : List Byte) : Bool :=
  match tableWords img with
  | some ws => ws.all tableWordOk
  | none => false

/-- Stage 1 of check 7 (R99): the section set and every section's layout. -/
def layoutOk (img : List Byte) : Bool :=
  let id := sectionOf img 1
  sectionSetOk img && identityOk id && timingOk (sectionOf img 2) && partitionOk id (sectionOf img 3) && worldsOk (sectionOf img 4) &&
  memoryOk id (sectionOf img 5) && mediaOk (sectionOf img 6) && shaperOk id (sectionOf img 7) &&
  landingOk (sectionOf img 3) (sectionOf img 8) && galleryOk (sectionOf img 9) && registersOk (sectionOf img 10) && tablesOk img

/-! ### What the image fixes (R98) -/

/-- Bytes of an image with a range taken from another list. -/
def patched (img : List Byte) (i n : Nat) (bs : List Byte) : List Byte := img.take i ++ bs.take n ++ img.drop (i + n)

/-- The signature block's key and signature are valid over the signed bytes (R80, Table 3). -/
def signatureOk (img : List Byte) : Bool :=
  let block := imgBytes img (imgLength img - 256) 192
  let n := fun (i : Nat) => beNat (imgBytes block (48 * i) 48)
  ecdsaOk (beNat (sha384 (signedBytes img))) (n 0) (n 1) (n 2) (n 3)

/-! ### The readings of a slot (R81, R82) -/

/-- A command in 1S-1S-1S at 25 MHz without dummy cycles. -/
def slowCmd (op : Nat) (addr : Option Nat) (data : List Byte) (read : Nat) : XspiCmd :=
  ⟨false, 0, 0, [BitVec.ofNat 8 op], addr, data, read⟩

/-- Bytes of the header and the directory. -/
def headerBytes : Nat := 0x444

/-- ENTER_SEQ: the commands up to the first of length 0. Assumption 156 (DESIGN CHOICE). -/
def enterSeq (img : List Byte) : List XspiCmd :=
  let cmds := [0, 1, 2, 3].map fun i => imgBytes img (0x21 + 8 * i) (min 7 (byteAt img (0x20 + 8 * i)))
  (cmds.takeWhile fun c => !c.isEmpty).map fun c => ⟨false, 0, 0, c.take 1, none, c.drop 1, 0⟩

/-- A read in the mode that the header configures; in 8D-8D-8D mode the opcode is followed by its inverse (R81). -/
def configuredRead (img : List Byte) (addr n : Nat) : XspiCmd :=
  let op := BitVec.ofNat 8 (byteAt img 0x1B)
  let wide := byteAt img 0x18 == 1
  ⟨wide, byteAt img 0x19, byteAt img 0x1A, if wide then [op, ~~~op] else [op], some addr, [], n⟩

/-- Whether the re-read header differs from the first. -/
def rereadDiffers (r : SlotRead) : Bool := imgBytes r.image 0 headerBytes != imgBytes r.reread 0 headerBytes

/-- A read of the slot at `base` in the mode that the two readings of its header leave. -/
def slotReadCmd (base : Nat) (r : SlotRead) (ofs n : Nat) : XspiCmd :=
  if rereadDiffers r then slowCmd 0x13 (some (base + ofs)) [] n else configuredRead r.image (base + ofs) n

/-- The readings of directory entry i: the first, and two more. -/
def sectionReads (r : SlotRead) (i : Nat) (e : DirEntry) : List (List Byte) :=
  imgBytes r.image e.ofs e.len :: match r.again.find? fun x => x.1 == i with
    | some x => [x.2.1, x.2.2]
    | none => []

/-- Whether a reading of a section has the directory's CRC. -/
def readingOk (e : DirEntry) (bs : List Byte) : Bool := bs.length == e.len && (crc32c bs).toNat == e.crc

/-- The directory entries with their numbers. -/
def entriesOf (img : List Byte) : List (Nat × DirEntry) :=
  let d := directory img
  (List.range d.length).zip d

/-- Every section has a reading whose CRC holds (R82). -/
def sectionsRead (r : SlotRead) : Bool := (entriesOf r.image).all fun x => (sectionReads r x.1 x.2).any (readingOk x.2)

/-- The image with each section as its first good reading gives it. -/
def settledImage (r : SlotRead) : List Byte :=
  (entriesOf r.image).foldl (fun img x =>
    match (sectionReads r x.1 x.2).find? (readingOk x.2) with
    | some bs => patched img x.2.ofs x.2.len bs
    | none => img) r.image

/-- How often a section is read. -/
def timesRead (r : SlotRead) (i : Nat) (e : DirEntry) : Nat := min 3 (((sectionReads r i e).findIdx (readingOk e)) + 1)

/-- What the loader sends to the store for the slot at `base` (R81, R82). Assumption 156 (DESIGN CHOICE). -/
def slotCommands (base : Nat) (r : SlotRead) : List XspiCmd :=
  slowCmd 0x13 (some base) [] headerBytes ::
    if !r.answers then []
    else enterSeq r.image ++ [configuredRead r.image base headerBytes] ++
      (entriesOf r.image).flatMap (fun x => List.replicate (timesRead r x.1 x.2) (slotReadCmd base r x.2.ofs x.2.len)) ++
      [slotReadCmd base r (imgLength r.image - 256) 256]

/-- Bytes of an image with a range taken as zero. -/
def zeroed (img : List Byte) (i n : Nat) : List Byte := img.take i ++ List.replicate n 0 ++ img.drop (i + n)

/-- The signed bytes as the pair digest reads them: TWIN_ROLE, the CRC of the IDENTITY entry and HDR_CRC as zero (R91). -/
def pairBytes (img : List Byte) : List Byte :=
  let d := directory img
  let role := ((d.find? fun e => e.type == 1).map (·.ofs)).getD 0
  let at_ := d.findIdx fun e => e.type == 1
  signedBytes (zeroed (zeroed (zeroed img role 1) (0x40 + 16 * at_ + 12) 4) 0x440 4)

/-- The words of a digest, byte 0 in bits [7:0] of word 0. -/
def digestWords (bs : List Byte) : List Word := leWords 12 (sha384 bs)

/-- The charter that an image spells. -/
def imageCharter (img : List Byte) : Charter :=
  let id := sectionOf img 1
  let ti := sectionOf img 2
  let pa := sectionOf img 3
  let me := sectionOf img 5
  let md := sectionOf img 6
  let sh := sectionOf img 7
  let la := sectionOf img 8
  { twinRole := byteAt id 0, timeOwner := byteAt id 1, devOwner := byteAt id 2, doors := byteAt id 3
    pairWait := leAt id 4 2, ptpWait := leAt id 6 2, subsys := [0, 1, 2, 3].map fun d => leAt id (8 + 4 * d) 4
    k := byteAt ti 0, arrMargin := leAt ti 2 2
    quotas := [0, 1, 2, 3].map (quotaAt pa), records := recordsOf pa
    speed := byteAt me 0, density := byteAt me 1, ranks := byteAt me 2, gran := byteAt me 3
    regions := regionsOf me, areas := areasOf me
    profile := byteAt md 0, formatFlag := byteAt md 1 == 1, pkgGib := leAt md 2 2, parts := mediaPartsOf md
    shapeTiered := byteAt sh 0 == 1, services := servicesOf sh
    image := leWords 8192 (imgBytes la 32 32768), places := placesOf la
    digest := digestWords (signedBytes img), mediaDigest := (digestWords md).take 4, pairDigest := digestWords (pairBytes img) }

end Sys2Proof.Machine
end

