-- ==== Sys2Proof/Machine/Doors.lean ====
section
/-! DEFINITION. Doors: rings, request entries, arrivals, completions, the journal's delivery, views and their commands
(Doors, requests and the coherent view). -/

namespace Sys2Proof.Machine

/-! ### Status codes (Table 5 of Doors, requests and the coherent view) -/

def stOk : Nat := 0
def stRange : Nat := 1
def stPartition : Nat := 2
def stCapacity : Nat := 3
def stQuota : Nat := 4
def stWorld : Nat := 5
def stBadOpcode : Nat := 6
def stBadArgs : Nat := 7
def stBadTarget : Nat := 8
def stGroup : Nat := 9
def stDeferFull : Nat := 10
def stAborted : Nat := 11
def stDevice : Nat := 12

/-! ### Request entries (R111 to R113, R500) -/

/-- A little-endian argument: n bytes of the entry from byte i (ARGS begin at byte 16). -/
def argAt (a : List Byte) (i n : Nat) : Nat := leAt a (i - 16) n

/-- Whether an argument's bytes are all zero. -/
def argZero (a : List Byte) (i n : Nat) : Bool := argAt a i n == 0

/-- The opcodes of Table 3 and of the chapters' tables. -/
def knownOpcodes : List Nat :=
  [0x0000, 0x0001, 0x0002, 0x0100, 0x0101, 0x0110, 0x0111, 0x0200, 0x0201, 0x0300, 0x0301, 0x0400, 0x0401, 0x0402]

/-- The PTP message opcodes, which alone a ring of KIND 1 accepts (R112, R148). -/
def ptpOpcode (op : Nat) : Bool := op == 0x0100 || op == 0x0101

/-- Immediate opcodes (R112). -/
def immediateOpcode (op : Nat) : Bool := op == 0x0002 || ptpOpcode op || op == 0x0400

/-- The six OFFSET and VALUE pairs of a STAGE_WRITES, by number, the unused ones left out (R113). -/
def stagePairs (a : List Byte) : List (Nat × Nat × Word) :=
  ((List.range 6).map fun i => (i, argAt a (16 + 8 * i) 4, BitVec.ofNat 32 (argAt a (20 + 8 * i) 4))).filter
    fun p => p.2.1 != 0xFFFFFFFF

/-- A malformed OFFSET: bit 30 set or not 4-byte aligned (R113). Assumption 21 (DEDUCED). -/
def badOffset (o : Nat) : Bool := o / 1073741824 % 2 == 1 || o % 4 != 0

/-- The argument checks that an entry alone decides, by opcode (R111, R113, R114, R148, Tables of the chapters). Bits [7:1] of KEY_CLEAR's
byte 18 count as zero bits. Assumption 162 (DEDUCED). -/
def argsBad (op : Nat) (a : List Byte) : Bool :=
  match op with
  | 0x0001 => (stagePairs a).isEmpty || (stagePairs a).any fun p => badOffset p.2.1
  | 0x0002 =>
    badOffset (argAt a 16 4) || decide (argAt a 20 4 < 4) || decide (65536 < argAt a 20 4) || argAt a 20 4 % 4 != 0 ||
      argAt a 24 8 % 4 != 0
  | 0x0100 => decide (argAt a 20 2 < 64) || decide (1518 < argAt a 20 2)
  | 0x0101 => argAt a 24 8 % 64 != 0
  | 0x0200 => decide (8 ≤ argAt a 18 1) || argAt a 24 8 % 8 != 0 || !argZero a 38 26
  | 0x0201 => decide (2 ≤ argAt a 18 1) || !argZero a 19 45
  | 0x0400 =>
    !([1, 2, 3, 5].contains (argAt a 16 1)) || decide (argAt a 20 4 < 4096) || decide (1073741824 < argAt a 20 4) ||
      argAt a 20 4 % 4096 != 0 || argAt a 24 8 % 4096 != 0 || !argZero a 60 4
  | 0x0401 => !([1, 2].contains (argAt a 16 1)) || decide (3 < argAt a 17 1) || !argZero a 48 16
  | 0x0402 => decide (3 < argAt a 17 1) || !argZero a 16 1 || !argZero a 18 46
  | _ => false

/-- The failure that an entry alone decides, 0 where there is none (R111, R112, R148, R500). Assumption 22 (DEDUCED). -/
def entryStatus (kind : Nat) (e : RequestEntry) : Nat :=
  let op := e.opcode.toNat
  if !knownOpcodes.contains op || (kind == 1 && !ptpOpcode op) then stBadOpcode
  else if e.byte3 ≠ 0 ∨ 2 ≤ e.flags.toNat ∨ argsBad op e.args then stBadArgs
  else 0

/-- RESULT of a failure that the entry alone decides: the first malformed pair of a STAGE_WRITES (R113). -/
def entryResult (e : RequestEntry) : Nat :=
  if e.opcode = 1 then (((stagePairs e.args).find? fun p => badOffset p.2.1).map (·.1)).getD 0 else 0

/-! ### Rings (R105 to R110, R131) -/

/-- The rings from which door d fetches in its phase (R90, R130). -/
def fetchPhase (s : State) (d r : Nat) : Bool :=
  match (doorOf s d).phase with
  | .shut => false
  | .time => d == timeOwner s && getF s (Reg.DOR_RQ_CFG_KIND d r) == 1
  | .opened => true

/-- Whether the door fetches the next entry of ring r (R106, R109, R130). -/
def canFetch (s : State) (d r : Nat) : Bool :=
  linkUp s d && fetchPhase s d r && getF s (Reg.DOR_RQ_CFG_EN d r) == 1 && decide (0 < rqWaiting s d r) &&
  cqFree s d (getF s (Reg.DOR_RQ_CFG_CQ d r))

/-- The door takes an entry: HEAD passes it and a completion slot is reserved (R106, R109). -/
def takeEntry (d r : Nat) (s : State) : State :=
  let c := getF s (Reg.DOR_RQ_CFG_CQ d r)
  let s := setF s (Reg.DOR_RQ_PTR_HEAD d r) ((getF s (Reg.DOR_RQ_PTR_HEAD d r) + 1) % rqSize s d r)
  setDoor s d { doorOf s d with cqReserved := ssetC 0 (doorOf s d).cqReserved c (cqReservedOf s d c + 1) }

/-! ### Completions (R122, R500) -/

/-- Queue a completion of door d with a status, a result and the epoch committed or read. -/
def complete (d : Nat) (r : Req) (epoch status result : Nat) (s : State) : State :=
  setDoor s d { doorOf s d with
    completions := (doorOf s d).completions ++ [⟨{ r with status := status, result := result }, epoch⟩] }

/-- The journal record of a completion (Table 6 of Doors, requests and the coherent view). -/
def completionRec (d : Nat) (r : Req) (stamp : Treads) : JournalRec :=
  ⟨stamp, 3, 2 * r.otherTwin.toNat + 4 * r.late.toNat, d, r.status, r.seq, r.tag.toNat⟩

/-- The 32 bytes of a completion entry (Table 4). -/
def completionBytes (c : Completion) (phase : Bool) : List Byte :=
  leBytes 4 c.req.tag.toNat ++ leBytes 2 c.req.status ++ leBytes 1 (c.req.ring.getD 0) ++
  leBytes 1 (c.req.late.toNat + 2 * c.req.otherTwin.toNat) ++ leBytes 8 c.req.seq ++ leBytes 8 c.epoch ++
  leBytes 4 c.req.result ++ leBytes 4 phase.toNat

/-- The completion ring in which a completion still has its place: the ring of its reserved slot, in the generation of
the reservation (R131), or for a request received at the other twin the ring bound to its ring's number (R122); none
where that ring is disabled. Assumption 159 (DESIGN CHOICE). -/
def completionRing (s : State) (d : Nat) (r : Req) : Option Nat :=
  match r.slot with
  | some (c, g) =>
    if getF s (Reg.DOR_CQ_CFG_EN d c) = 1 ∧ sgetC 0 (doorOf s d).cqGen c = g then some c else none
  | none =>
    match r.ring with
    | some ring =>
      let c := getF s (Reg.DOR_RQ_CFG_CQ d ring)
      if getF s (Reg.DOR_CQ_CFG_EN d c) = 1 then some c else none
    | none => none

/-- Write a completion entry at its ring's tail in two writes, then the ring's message (R110). -/
def putCompletion (d c : Nat) (x : Completion) (s : State) : State :=
  let t := getF s (Reg.DOR_CQ_PTR_TAIL d c)
  let base := get64 s (Reg.DOR_CQ_BASE_BASE_LO d c).addr
  let bs := completionBytes x (sgetC true (doorOf s d).cqPhase c)
  let s := hostWrite d (base + 32 * t) (bs.take 28) s
  let s := hostWrite d (base + 32 * t + 28) (bs.drop 28) s
  let wraps := t + 1 = cqSize s d c
  let s := setF s (Reg.DOR_CQ_PTR_TAIL d c) (if wraps then 0 else t + 1)
  let y := doorOf s d
  let y := if wraps then { y with cqPhase := ssetC true y.cqPhase c (!(sgetC true y.cqPhase c)) } else y
  let y := if x.req.slot.isSome then { y with cqReserved := ssetC 0 y.cqReserved c (sgetC 0 y.cqReserved c - 1) } else y
  ringMsix d (getF s (Reg.DOR_CQ_CFG_VECTOR d c)) (setDoor s d y)

/-- Write one completion: its journal record, and its entry where its ring still takes it (R122, R126, R131). -/
def writeCompletion (d : Nat) (x : Completion) (s : State) : State :=
  let s := journalRequest d (completionRec d x.req s.now) s
  match completionRing s d x.req with
  | some c => putCompletion d c x s
  | none => s

/-! ### Arrivals (R115, R116, R118) -/

/-- The epoch that a request arriving now joins where AT_EPOCH names none: the next, or the one after it once the
commit cut has passed (R17) or where the next is the epoch of the charter state (R92). -/
def joinEpoch (s : State) : Nat :=
  s.epoch.newest + (if s.epoch.cutDone || s.epoch.charterDue then 2 else 1)

/-- Whether a unit holds an immediate opcode. -/
def reqImmediate (r : Req) : Bool :=
  match r.body with
  | .entry op _ _ => immediateOpcode op
  | _ => false

/-- Whether a unit fails by its entries alone (R500). -/
def unitFails (u : ReqUnit) : Bool := u.members.any fun r => r.status != 0

/-- Requests of door d that wait for a later epoch. -/
def deferredOf (s : State) (d : Nat) : Nat :=
  (s.epoch.deferred.filter fun u => u.2.door == d).foldl (fun n u => n + u.2.members.length) 0

/-- Place an epoch unit that joins epoch `join`: deferred to the epoch it names where there is room, else among the
arrivals of that epoch, or in its batch where its cut has passed; LATE where that is after the one it names (R116). A unit
that fails by its entries is not held (R500). While a joiner waits for its image, it only keeps what arrives. -/
def placeUnitAt (join : Nat) (batch : Bool) (u : ReqUnit) (s : State) : State :=
  if s.twin.state = .copying then { s with epoch := { s.epoch with arrived := s.epoch.arrived ++ [u] } }
  else if !unitFails u ∧ join < u.atEpoch then
    if deferredOf s u.door + u.members.length ≤ 1024 then
      { s with epoch := { s.epoch with deferred := s.epoch.deferred ++ [(u.atEpoch, u)] } }
    else
      raiseEvent 0x05E (u.members.foldl (fun s r => complete u.door r 0 stDeferFull 0 s) s)
  else
    let late := !unitFails u && u.atEpoch != 0 && decide (u.atEpoch < join)
    let u := { u with members := u.members.map fun r => { r with late := late } }
    if batch then { s with epoch := { s.epoch with batch := s.epoch.batch ++ [u] } }
    else { s with epoch := { s.epoch with arrived := s.epoch.arrived ++ [u] } }

/-- Place a unit that arrives now. -/
def placeUnit (u : ReqUnit) (s : State) : State := placeUnitAt (joinEpoch s) false u s

/-- The sequence that door d gives its next arrival (R118): bit 63 is 1 on a secondary. -/
def nextSeq (s : State) (d : Nat) : Nat :=
  (doorOf s d).seq % 9223372036854775808 + (if s.cht.loaded.twinRole = 2 then 9223372036854775808 else 0)

/-- One request arrives: its sequence, and its journal record (R118, R126). -/
def arriveReq (d : Nat) (stamp : Treads) (r : Req) (s : State) : Req × State :=
  let r := { r with seq := nextSeq s d }
  let s := setDoor s d { doorOf s d with seq := (doorOf s d).seq + 1 }
  (r, journalRequest d ⟨stamp, 1, 0, d, 0, r.seq, r.tag.toNat⟩ s)

/-- The members of a unit arrive in order. -/
def arriveAll (d : Nat) (stamp : Treads) : List Req → State → List Req × State
  | [], s => ([], s)
  | r :: rs, s =>
    let (r, s) := arriveReq d stamp r s
    let (rs, s) := arriveAll d stamp rs s
    (r :: rs, s)

/-- A unit goes to the partner as a REQUEST, counted for the next REQ_SEAL (R417). -/
def forwardUnit (u : ReqUnit) (s : State) : State :=
  sendNewel (.request u) (setTwin { s.twin with forwarded := s.twin.forwarded + u.members.length } s)

/-- Whether a device exchanges its requests with a partner and commits them itself (R417, R430): from the agreed start on, or
from the cut before that of the join flight on. -/
def exchanges (s : State) : Bool :=
  let r := s.twin.resync
  if r.active then r.joinFlight.any fun n => decide (n * flightLen s ≤ s.now + flightLen s + 4410)
  else s.twin.unionFrom.isSome || (s.twin.startFlight.isSome && s.twin.state == .pairing)

/-- Whether a partner commits this device's requests (R424). -/
def handsOver (s : State) : Bool :=
  !exchanges s && (s.twin.state == .withdrawn || s.twin.state == .copying || s.twin.state == .shadowing)

/-- A withdrawn device forwards a unit and keeps its requests until their COMPLETIONs; with the link down they complete with
WITHDRAWN (R424). -/
def handOver (u : ReqUnit) (s : State) : State :=
  if s.twin.linkUp then
    let s := forwardUnit u s
    setTwin { s.twin with away := s.twin.away ++ u.members.map fun r => (u.door, r) } s
  else u.members.foldl (fun s r => complete u.door r 0 0x1D0 0 s) s

/-! ### Ties (R118) -/

/-- Where a request stands among the arrivals of one tread: BAR writes before ring entries, then by ring number. -/
def tieRank (r : Req) : Nat := match r.ring with | none => 0 | some n => n + 1

/-- The requests of door d's host that arrived in this tread and wait. -/
def tiedReqs (s : State) (d : Nat) : List Req :=
  let e := s.epoch
  let own := fun (u : ReqUnit) => if u.door == d && u.stamp == s.now then u.members.filter (!·.otherTwin) else []
  (e.arrived ++ e.batch ++ e.deferred.map (·.2)).flatMap own ++
    ((doorOf s d).immediate.filter fun x => x.2 == s.now).map (·.1)

/-- The sequences that arrivals of one tread exchange: those of the requests that stand behind the new ones take the later
numbers. -/
def tieSwaps (s : State) (d : Nat) (new : List Req) : List (Nat × Nat) :=
  let rank := (new.map tieRank).foldl max 0
  let behind := ((tiedReqs s d).filter fun r => decide (rank < tieRank r)).map (·.seq)
  if behind.isEmpty then []
  else
    let order := new.map (·.seq) ++ behind.mergeSort (· ≤ ·)
    order.zip (order.mergeSort (· ≤ ·))

/-- A sequence after an exchange. -/
def swapSeq (m : List (Nat × Nat)) (n : Nat) : Nat := ((m.find? fun x => x.1 == n).map (·.2)).getD n

/-- A request after an exchange. -/
def swapReq (m : List (Nat × Nat)) (r : Req) : Req := { r with seq := swapSeq m r.seq }

/-- A unit of door d after an exchange. -/
def swapUnit (d : Nat) (m : List (Nat × Nat)) (u : ReqUnit) : ReqUnit :=
  if u.door = d then { u with members := u.members.map (swapReq m) } else u

/-- The arrival records of door d that are still held, after an exchange. -/
def swapHeld (d : Nat) (m : List (Nat × Nat)) (l : List JournalRec) : List JournalRec :=
  l.foldl (fun l r => insertRec (if (r.kind = 1 ∨ r.kind = 3) ∧ r.door = d then { r with value := swapSeq m r.value } else r) l) []

/-- A message to the partner after an exchange. -/
def swapMsg (d : Nat) (m : List (Nat × Nat)) : NewelMsg → NewelMsg
  | .request u => .request (swapUnit d m u)
  | x => x

/-- Sequences of door d's waiting requests are exchanged wherever they stand. -/
def swapAll (d : Nat) (m : List (Nat × Nat)) (s : State) : State :=
  let e := s.epoch
  let s := { s with epoch := { e with
    arrived := e.arrived.map (swapUnit d m), batch := e.batch.map (swapUnit d m)
    deferred := e.deferred.map fun u => (u.1, swapUnit d m u.2) } }
  let s := setTwin { s.twin with
    sent := s.twin.sent.map (swapMsg d m), waiting := s.twin.waiting.map (swapMsg d m)
    away := s.twin.away.map fun x => if x.1 = d then (x.1, swapReq m x.2) else x } s
  let s := allDoors.foldl (fun s j => setDoor s j { doorOf s j with held := swapHeld d m (doorOf s j).held }) s
  setDoor s d { doorOf s d with
    immediate := (doorOf s d).immediate.map fun x => (swapReq m x.1, x.2)
    completions := (doorOf s d).completions.map fun x => { x with req := swapReq m x.req } }

/-- The members of a unit arrive now, in the order that R118 gives the arrivals of one tread. Assumption 161 (DEDUCED). -/
def arriveNow (d : Nat) (members : List Req) (s : State) : List Req × State :=
  let (members, s) := arriveAll d s.now members s
  let m := tieSwaps s d members
  if m.isEmpty then (members, s) else (members.map (swapReq m), swapAll d m s)

/-- An epoch unit of door d arrives now; an immediate member that fails by its entry completes at once (R500). -/
def arriveUnit (d atEpoch : Nat) (members : List Req) (s : State) : State :=
  let (members, s) := arriveNow d members s
  let quick := fun (r : Req) => r.status != 0 && reqImmediate r
  let s := (members.filter quick).foldl (fun s r => complete d r 0 r.status r.result s) s
  let u : ReqUnit := ⟨d, s.now, atEpoch, members.filter fun r => !quick r⟩
  if u.members.isEmpty then s
  else if handsOver s then handOver u s
  else placeUnit u (if exchanges s then forwardUnit u s else s)

/-- An atomic group with more than 64 entries, or one that contains an immediate opcode, fails in every member (R115). -/
def checkGroup (members : List Req) : List Req :=
  if 64 < members.length ∨ (1 < members.length ∧ members.any reqImmediate) then
    members.map fun r => { r with status := stBadArgs, result := 0 }
  else members

/-- An immediate request arrives: it waits for its execution, or completes with the failure of its entry (R500). -/
def arriveImmediate (d : Nat) (r : Req) (s : State) : State :=
  let (rs, s) := arriveNow d [r] s
  rs.foldl (fun s r =>
    if r.status ≠ 0 then complete d r 0 r.status r.result s
    else setDoor s d { doorOf s d with immediate := (doorOf s d).immediate ++ [(r, s.now)] }) s

/-- The request that an entry of ring r makes, with its completion slot. -/
def makeReq (s : State) (d r : Nat) (e : RequestEntry) (data : List Byte) : Req :=
  let c := getF s (Reg.DOR_RQ_CFG_CQ d r)
  let st := entryStatus (getF s (Reg.DOR_RQ_CFG_KIND d r)) e
  ⟨0, some r, e.tag, false, false, some (c, sgetC 0 (doorOf s d).cqGen c), .entry e.opcode.toNat e.args data, st,
   if st = 0 then 0 else entryResult e⟩

/-- The fetched members of ring r's open atomic group. -/
def openGroup (s : State) (d r : Nat) : List Req := sgetC [] (doorOf s d).groups r

/-- Replace them. -/
def setGroup (d r : Nat) (g : List Req) (s : State) : State :=
  setDoor s d { doorOf s d with groups := ssetC [] (doorOf s d).groups r g }

/-- An entry of ring r has been received in full (R106, R115, R118). -/
def receiveEntry (d r : Nat) (e : RequestEntry) (data : List Byte) (s : State) : State :=
  let req := makeReq s d r e data
  let s := takeEntry d r s
  let group := openGroup s d r ++ [req]
  if e.flags.toNat % 2 = 1 then setGroup d r group s
  else
    let s := setGroup d r [] s
    if group.length = 1 ∧ reqImmediate req then arriveImmediate d req s
    else arriveUnit d e.atEpoch.toNat (checkGroup group) s

/-- REQUEST_ARRIVAL (R118): the door has received the next entry of a ring, with the data that it names; nothing has
arrived where the door does not fetch (R109, R130). -/
def requestArrival (d r : Nat) (e : RequestEntry) (data : List Byte) (s : State) : State :=
  if canFetch s d r then receiveEntry d r e data s else s

/-! ### Ring doorbells and disabling (R106, R131) -/

/-- RING_DOORBELL (R106): a write of DOR_RQ_PTR[d][r]. A TAIL beyond the ring is dropped with a configuration error. -/
def ringDoorbell (d r : Nat) (v : Word) (s : State) : State :=
  if !phaseAdmits s d (Reg.DOR_RQ_PTR_TAIL d r).addr true then s
  else if rqSize s d r ≤ v.toNat % 65536 then configError .dor d s
  else setF s (Reg.DOR_RQ_PTR_TAIL d r) (v.toNat % 65536)

/-- Clearing EN of a request ring: its indexes return to 0 and the members of an incomplete group arrive and fail with
BAD_ARGS (R131): they complete as R500 says of a failure that the entries alone decide, an immediate one at once and any other
with the next epoch. Assumption 24 (DEDUCED). -/
def disableRequestRing (d r : Nat) (s : State) : State :=
  let s := setF s (Reg.DOR_RQ_CFG_EN d r) 0
  let s := setF (setF s (Reg.DOR_RQ_PTR_TAIL d r) 0) (Reg.DOR_RQ_PTR_HEAD d r) 0
  let g := openGroup s d r
  let s := setGroup d r [] s
  if g.isEmpty then s else arriveUnit d 0 (g.map fun x => { x with status := stBadArgs, result := 0 }) s

/-- Clearing EN of a completion ring: reserved completions are discarded with LOST, the indexes return to 0, and the
ring starts again at PHASE 1 (R131). -/
def disableCompletionRing (d c : Nat) (s : State) : State :=
  let s := setF s (Reg.DOR_CQ_CFG_EN d c) 0
  let s := setIf (0 < cqReservedOf s d c) (Reg.DOR_CQ_CFG_LOST d c) 1 s
  let s := setF (setF s (Reg.DOR_CQ_PTR_TAIL d c) 0) (Reg.DOR_CQ_PTR_HEAD d c) 0
  let x := doorOf s d
  setDoor s d { x with
    cqReserved := ssetC 0 x.cqReserved c 0
    cqPhase := ssetC true x.cqPhase c true
    cqGen := ssetC 0 x.cqGen c (sgetC 0 x.cqGen c + 1) }

/-- Clearing EN of the journal: its indexes return to 0 and it starts again at PHASE 1 (R131). -/
def disableJournal (d : Nat) (s : State) : State :=
  let s := setF s (Reg.DOR_JRN_CFG_EN d) 0
  let s := setF (setF s (Reg.DOR_JRN_TAIL_TAIL d) 0) (Reg.DOR_JRN_HEAD_HEAD d) 0
  setDoor s d { doorOf s d with jrnPhase := true, gap := none }

/-- RING_DISABLE (R131). -/
def disableRing (d : Nat) (k : RingKind) (r : Nat) (s : State) : State :=
  match k with
  | .request =>
    if getF s (Reg.DOR_RQ_CFG_EN d r) = 1 ∧ phaseAdmits s d (Reg.DOR_RQ_CFG_EN d r).addr true then
      disableRequestRing d r s else s
  | .completion =>
    if getF s (Reg.DOR_CQ_CFG_EN d r) = 1 ∧ phaseAdmits s d (Reg.DOR_CQ_CFG_EN d r).addr true then
      disableCompletionRing d r s else s
  | .journal =>
    if getF s (Reg.DOR_JRN_CFG_EN d) = 1 ∧ phaseAdmits s d (Reg.DOR_JRN_CFG_EN d).addr true then
      disableJournal d s else s

/-- COMPLETION_WRITE (R122): the door writes its oldest completion. -/
def nextCompletion (d : Nat) (s : State) : State :=
  match (doorOf s d).completions with
  | [] => s
  | x :: xs => writeCompletion d x (setDoor s d { doorOf s d with completions := xs })

/-- JOURNAL_WRITE (R127): the door writes its first held record in merge order, once its hold has passed. -/
def nextJournal (d : Nat) (s : State) : State :=
  match (doorOf s d).held with
  | [] => s
  | r :: rs =>
    if r.stamp + holdTreads ≤ s.now then journalWrite d r (setDoor s d { doorOf s d with held := rs }) else s

/-- A reset writes every held record at once, where the door's link is up (R126). -/
def flushJournal (d : Nat) (s : State) : State :=
  let rs := (doorOf s d).held
  let s := setDoor s d { doorOf s d with held := [] }
  if linkUp s d then rs.foldl (fun s r => journalWrite d r s) s else s

/-! ### Malformed accesses, snapshots, views (R13, R123, R129) -/

/-- MALFORMED_ACCESS (R129): counted, event 0x050 + d, captured by DOR. Assumption 18 (DEDUCED). -/
def malformedAccess (d : Nat) (s : State) : State :=
  let s := incF s (Reg.DOR_MALFORMED_COUNT d)
  raiseEvent (0x050 + d) (accessError .dor 0xF3 d s)

/-- What a read by door d returned, by words from its address. -/
def noteRead (d a : Nat) (ws : List Word) (s : State) : State :=
  setDoor s d { doorOf s d with lastRead := some (a, ws) }

/-- A read of unsupported size or alignment returns 0 (R12). -/
def malformedRead (d a : Nat) (s : State) : State := malformedAccess d (noteRead d a [0] s)

/-- Whether an access is aligned to its size (R12). -/
def accessAligned (size : AccessSize) (offset : Nat) : Bool :=
  match size with
  | .word => offset % 4 == 0
  | .dword => offset % 8 == 0

/-- VIEW_READ (R123): the view moves to the newest epoch, the retain buffer empties, and the new number is snapshot. -/
def moveView (d : Nat) (s : State) : State :=
  setDoor s d { doorOf s d with view := s.epoch.newest, retain := [] }

/-- The read of DOR_VIEW[d] at +0x10 by door d itself. -/
def viewRead (d : Nat) (s : State) : State :=
  let a := (Reg.DOR_VIEW_EPOCH_LO d).addr
  if !phaseAdmits s d a false then noteRead d a [0] s
  else
    let s := moveView d s
    noteRead d a [currentWord s d a] (takeSnapshot s d a 2)

/-- A read of the lowest word of a wide quantity: the snapshot, and for TIM_NOW the nanoseconds (R9, R13). -/
def snapshotAt (d base words : Nat) (s : State) : State :=
  let s := takeSnapshot s d base words
  if base = 0x600048 then setDoor s d { doorOf s d with nowNs := nsOf (treadsOf s.now) } else s

/-- Whether an address is in another door's MSI-X table or pending-bit array (R103). -/
def msixHidden (s : State) (d a : Nat) : Bool :=
  decide (0x508000 ≤ a) && decide (a < 0x528400) && (findWord a).any fun w => !guardAdmits s d w.1.guard w.2

/-- A read by door d of one word in BAR0 (R13, R456); where the word is a wide quantity's lowest, the snapshot of it all. -/
def readOne (d a : Nat) (s : State) : State :=
  let s := noteRead d a [readWord s d a] s
  if !phaseAdmits s d a false then s
  else if !reaches s d a && !idOrWorld a then worldFault d a false s
  else if msixHidden s d a then partitionError .dor d s
  else if instanceDoor a = some d ∧ a = (Reg.DOR_VIEW_EPOCH_LO d).addr then viewRead d s
  else match wideQuantity a with
    | some (base, words) => if a = base then snapshotAt d base words s else s
    | none => s

/-- What door d's last read returned. -/
def lastWords (s : State) (d : Nat) : List Word := ((doorOf s d).lastRead.map (·.2)).getD []

/-- SNAPSHOT_READ (R12, R13): a 64-bit read acts as two of 32 bits, the lower offset first; a misaligned one returns 0 and is
malformed. -/
def snapshotRead (d a : Nat) (size : AccessSize) (s : State) : State :=
  if !accessAligned size a then malformedRead d a s
  else match size with
    | .word => readOne d a s
    | .dword =>
      let s := readOne d a s
      let lo := lastWords s d
      let s := readOne d (a + 4) s
      noteRead d a (lo ++ lastWords s d) s

/-! ### READ_VIEW (R114) -/

/-- Words whose reads have side effects: copied as 0 (R114). -/
def sideEffectRead (d a : Nat) : Bool :=
  (match wideQuantity a with | some (base, _) => a == base | none => false) || a == (Reg.DOR_VIEW_EPOCH_LO d).addr

/-- One word as READ_VIEW copies it, and whether it was withheld by world: the newest committed or live value.
Assumption 29 (DEDUCED). -/
def copiedWord (s : State) (d a : Nat) : Word × Bool :=
  if !reaches s d a && !idOrWorld a then (0, true)
  else if sideEffectRead d a then (0, false)
  else match findWord a with
    | none => (0, false)
    | some (w, is) =>
      if 0x508000 ≤ a ∧ a < 0x528400 ∧ !guardAdmits s d w.guard is then (0, false) else (currentWord s d a, false)

/-- READ_VIEW executes: LEN bytes from SRC go to DEST; EPOCH is the newest epoch, RESULT the bytes copied. -/
def doReadView (d : Nat) (r : Req) (a : List Byte) (s : State) : State :=
  let src := argAt a 16 4
  let len := argAt a 20 4
  let ws := (List.range (len / 4)).map fun i => copiedWord s d (src + 4 * i)
  let bytes := ws.foldr (fun w bs => leBytes 4 w.1.toNat ++ bs) []
  let st := if ws.any (·.2) then stWorld else stOk
  complete d r s.epoch.newest st len (hostWrite d (argAt a 24 8) bytes s)

/-- Split off the first request of a list with an opcode. -/
def takeOpcode (op : Nat) : List (Req × Treads) → Option ((Req × Treads) × List (Req × Treads))
  | [] => none
  | x :: xs =>
    match x.1.body with
    | .entry o _ _ =>
      if o = op then some (x, xs) else (takeOpcode op xs).map fun y => (y.1, x :: y.2)
    | _ => (takeOpcode op xs).map fun y => (y.1, x :: y.2)

/-- The oldest immediate request of door d with an opcode executes: f gets the request and its arguments. -/
def runImmediate (d op : Nat) (f : Req → List Byte → List Byte → State → State) (s : State) : State :=
  match takeOpcode op (doorOf s d).immediate with
  | none => s
  | some ((r, _), rest) =>
    match r.body with
    | .entry _ a data => f r a data (setDoor s d { doorOf s d with immediate := rest })
    | _ => s

/-- READ_VIEW (R114). -/
def readViewNext (d : Nat) (s : State) : State := runImmediate d 0x0002 (fun r a _ s => doReadView d r a s) s

/-- The speeds and widths to which a door's link trains (R101, Table 1; DOR_STAT). -/
def linkListed (speed width : Nat) : Bool := decide (1 ≤ speed) && decide (speed ≤ 5) && [1, 2, 4, 8].contains width

/-- DOOR_LINK_CHANGE (R101, Table 7): the link state, speed and width; event 0x05F. A link comes up at no speed or width but those of
Table 1. -/
def doorLinkChange (d : Nat) (up : Bool) (speed width : Nat) (s : State) : State :=
  if up && !linkListed speed width then s
  else
  let s := setF s (Reg.DOR_STAT_LINK d) up.toNat
  let s := setF s (Reg.DOR_STAT_SPEED d) (if up then speed else 0)
  let s := setF s (Reg.DOR_STAT_WIDTH d) (if up then width else 0)
  raiseEvent 0x05F s

end Sys2Proof.Machine
end

