-- ==== Sys2Proof/Machine/Parse.lean ====
section
/-! DEFINITION. The header parsers of the ports: Ethernet with one 802.1Q tag, IPv4 and IPv6, UDP, membership queries, RTP
and compound RTCP (R132, R134, R147). A frame's bytes are those without FCS. -/

namespace Sys2Proof.Machine

/-- The 16-bit number at a place. -/
def be16At (bs : List Byte) (i : Nat) : Nat := beNat ((bs.drop i).take 2)

/-- The 32-bit number at a place. -/
def be32At (bs : List Byte) (i : Nat) : Nat := beNat ((bs.drop i).take 4)

/-! ### Ethernet -/

/-- Whether a frame carries an 802.1Q tag. -/
def frameTagged (f : List Byte) : Bool := be16At f 12 == 0x8100

/-- Where its network layer begins: after one tag where there is one. -/
def frameNet (f : List Byte) : Nat := if frameTagged f then 18 else 14

/-- Its EtherType. -/
def etherType (f : List Byte) : Nat := be16At f (frameNet f - 2)

/-- The VLAN ID of a tagged frame. -/
def frameVlan (f : List Byte) : Option Nat := if frameTagged f then some (be16At f 14 % 4096) else none

/-- Whether it is a pause or PFC frame (IEEE 802.3 Annex 31B and 31D). -/
def framePause (f : List Byte) : Bool := be16At f 12 == 0x8808 && (be16At f 14 == 1 || be16At f 14 == 0x0101)

/-! ### IP and UDP -/

/-- A packet of the network layer: its version, addresses, the protocol of its payload and the payload. -/
structure IpPacket where
  v4    : Bool
  src   : List Byte
  dst   : List Byte
  proto : Nat
  body  : List Byte
  deriving DecidableEq, Repr

/-- The IPv4 packet of a frame, its options skipped; none for a fragment or lengths that do not fit. -/
def ipv4Of (f : List Byte) : Option IpPacket :=
  let ip := f.drop (frameNet f)
  let n := byteAt ip 0 % 16 * 4
  let total := be16At ip 2
  if byteAt ip 0 / 16 ≠ 4 ∨ n < 20 ∨ total < n ∨ ip.length < total ∨ be16At ip 6 % 16384 ≠ 0 then none
  else some ⟨true, (ip.drop 12).take 4, (ip.drop 16).take 4, byteAt ip 9, (ip.take total).drop n⟩

/-- The IPv6 packet of a frame; a packet with extension headers has the number of the first one for its protocol. -/
def ipv6Of (f : List Byte) : Option IpPacket :=
  let ip := f.drop (frameNet f)
  let total := 40 + be16At ip 4
  if byteAt ip 0 / 16 ≠ 6 ∨ ip.length < total then none
  else some ⟨false, (ip.drop 8).take 16, (ip.drop 24).take 16, byteAt ip 6, (ip.take total).drop 40⟩

/-- The network packet of a frame. -/
def ipOf (f : List Byte) : Option IpPacket :=
  if etherType f = 0x0800 then ipv4Of f else if etherType f = 0x86DD then ipv6Of f else none

/-- An address in the match key's form: an IPv4 address is ::ffff:a.b.c.d (R134). -/
def keyAddress (v4 : Bool) (a : List Byte) : List Byte := if v4 then List.replicate 10 0 ++ [0xFF, 0xFF] ++ a else a

/-- Whether a UDP datagram's checksum is right: absent on IPv4, or with the pseudo-header summing to 0 (R132). -/
def udpSumOk (p : IpPacket) (udp : List Byte) : Bool :=
  (p.v4 && be16At udp 6 == 0) ||
  (be16At udp 6 != 0 && inetChecksum (p.src ++ p.dst ++ beBytes 4 17 ++ beBytes 4 udp.length ++ udp) == 0)

/-- A UDP datagram with its addresses in the match key's form. -/
structure Datagram where
  src     : List Byte
  dst     : List Byte
  dport   : Nat
  payload : List Byte
  deriving DecidableEq, Repr

/-- The datagram of a frame whose network and transport layers use supported options only (R132). Assumption 164 (DEDUCED). -/
def datagramOf (f : List Byte) : Option Datagram :=
  match ipOf f with
  | none => none
  | some p =>
    let n := be16At p.body 4
    let udp := p.body.take n
    if p.proto ≠ 17 ∨ n < 8 ∨ p.body.length < n ∨ !udpSumOk p udp then none
    else some ⟨keyAddress p.v4 p.src, keyAddress p.v4 p.dst, be16At udp 2, udp.drop 8⟩

/-- The group that a membership query asks for, in the match key's form, zero for a general query: an IGMP query, or an MLD
query behind its hop-by-hop header (R132, R150). -/
def queryOf (f : List Byte) : Option (List Byte) :=
  match ipOf f with
  | none => none
  | some p =>
    if p.v4 then
      if p.proto = 2 ∧ byteAt p.body 0 = 0x11 ∧ 8 ≤ p.body.length then
        let g := (p.body.drop 4).take 4
        some (if g.all (· == 0) then List.replicate 16 0 else keyAddress true g)
      else none
    else
      let icmp := p.body.drop ((byteAt p.body 1 + 1) * 8)
      if p.proto = 0 ∧ byteAt p.body 0 = 58 ∧ byteAt icmp 0 = 130 ∧ 24 ≤ icmp.length then some ((icmp.drop 8).take 16) else none

/-! ### RTP -/

/-- Bytes of an RTP header with its CSRC list and header extension. -/
def rtpHeaderLen (u : List Byte) : Nat :=
  let n := 12 + 4 * (byteAt u 0 % 16)
  if byteAt u 0 / 16 % 2 = 1 then n + 4 + 4 * be16At u (n + 2) else n

/-- The header of an RTP packet; none where it does not fit. -/
def rtpOf (u : List Byte) : Option RtpHead :=
  if u.length < 12 ∨ u.length < rtpHeaderLen u then none
  else some ⟨byteAt u 0 / 64, byteAt u 1 % 128, be16At u 2, be32At u 4, be32At u 8, decide (128 ≤ byteAt u 1)⟩

/-- The header of an RTCP packet as classification reads it: its SSRC is that of its sender; it has no RTP sequence, and the
one under which it merges is open. Assumption 165 (DESIGN CHOICE). -/
def rtcpHeadOf (u : List Byte) : Option RtpHead :=
  if u.length < 8 then none
  else some ⟨byteAt u 0 / 64, byteAt u 1 % 128, Config.rtcpSeq u % 65536, 0, be32At u 4, false⟩

/-- A payload without the padding that its header's P bit declares; none where the count does not fit. -/
def unpad (padded : Bool) (payload : List Byte) : Option (List Byte) :=
  if !padded then some payload
  else
    let n := (payload.getLastD 0).toNat
    if n = 0 ∨ payload.length < n then none else some (payload.take (payload.length - n))

/-- Whether an RTP header declares padding. -/
def rtpPadded (header : List Byte) : Bool := byteAt header 0 / 32 % 2 == 1

/-! ### Compound RTCP (R147) -/

/-- The metric blocks of n sequences from a first one (RFC 8888 §3.1): the R bit and the arrival time offset. -/
def metricBlocks (first n : Nat) (bs : List Byte) : List (Nat × Bool × Nat) :=
  (List.range n).map fun i =>
    let w := be16At bs (2 * i)
    ((first + i) % 65536, decide (32768 ≤ w), w % 8192)

/-- The report blocks of RFC 8888 feedback, each with its SSRC, first sequence, count and padded metric blocks; the report
timestamp follows the last. The first argument bounds their number. -/
def ccfbBlocks : Nat → List Byte → List (Nat × Bool × Nat)
  | 0, _ => []
  | fuel + 1, bs =>
    let n := be16At bs 6
    let size := 8 + 2 * n + n % 2 * 2
    if bs.length < size + 4 then [] else metricBlocks (be16At bs 4) n (bs.drop 8) ++ ccfbBlocks fuel (bs.drop size)

/-- One packet of a compound packet, its header and its length included. -/
def rtcpPacket (p : List Byte) : RtcpItem :=
  let fmt := byteAt p 0 % 32
  match byteAt p 1 with
  | 200 => .sr (be32At p 4) (be32At p 10)
  | 203 => .bye
  | 205 => if fmt = 11 then .ccfb (ccfbBlocks p.length (p.drop 8)) else .other
  | 206 => if fmt = 1 then .pli else if fmt = 4 then .fir else .other
  | _ => .other

/-- The packets of a compound packet, as far as their lengths fit; the first argument bounds their number. -/
def rtcpPackets : Nat → List Byte → List RtcpItem
  | 0, _ => []
  | fuel + 1, bs =>
    let n := 4 * (be16At bs 2 + 1)
    if bs.length < n ∨ bs.length < 4 then [] else rtcpPacket (bs.take n) :: rtcpPackets fuel (bs.drop n)

/-- The packets of a compound packet. -/
def rtcpParse (bs : List Byte) : List RtcpItem := rtcpPackets bs.length bs

end Sys2Proof.Machine
end

