-- ==== Sys2Proof/Machine/Dram.lean ====
section
/-! DEFINITION. The DRAM controller: address mapping, the memory by bytes with its poisoned lines, requests, picks,
acknowledgements, refresh, trim, retraining and scrub (DRAM controller and DMA). -/

namespace Sys2Proof.Machine

/-! ### Memory -/

/-- A byte of DRAM; start-up training writes every line with zero (R361). Assumption 108 (DEDUCED). -/
def memByte (s : State) (a : Nat) : Byte := sgetC 0 s.drm.mem a

/-- Bytes of DRAM. -/
def memBytes (s : State) (a n : Nat) : List Byte := (List.range n).map fun i => memByte s (a + i)

/-- Whether the line that holds an address is poisoned. -/
def linePoisoned (s : State) (a : Nat) : Bool := sgetC false s.drm.poisoned (a / 64)

/-- Whether any line of a byte range is poisoned. -/
def rangePoisoned (s : State) (a n : Nat) : Bool :=
  n != 0 && (List.range ((a + n - 1) / 64 + 1 - a / 64)).any fun i => linePoisoned s (a + 64 * i)

/-- The canonical form of a memory (R361: an unlisted byte reads 0): addresses strictly rising, no entry equal to 0. -/
def Memory.wf (m : List Host.Cell) : Bool := swf (fun _ => 0) m

/-- Write bytes from an address. -/
def putBytes : List Byte → Nat → Sparse Byte → Sparse Byte
  | [], _, m => m
  | b :: bs, a, m => putBytes bs (a + 1) (ssetC 0 m a b)

/-- Replace the controller's state. -/
def setDram (x : DramUnit) (s : State) : State := { s with drm := x }

/-- Bytes of a block of a resynchronisation (R428). -/
def blockBytes : Nat := 65536

/-- Blocks that resynchronisation staging holds (AREA of KIND 7, in 2 MiB units). -/
def stagingBlocks (s : State) : Nat := ((s.cht.loaded.areas.find? fun a => a.kind == 7).map fun a => a.size * 32).getD 0

/-- Replace a byte run within a block's saved copy. -/
def patchBytes (old : List Byte) (i : Nat) (bs : List Byte) : List Byte :=
  old.take i ++ bs ++ old.drop (i + bs.length)

/-- A block of DRAM with the lines in it that are poisoned. -/
def blockImage (s : State) (b : Nat) : List Byte × List Nat :=
  (memBytes s (b * blockBytes) blockBytes, (List.range (blockBytes / 64)).filter fun i => linePoisoned s (b * blockBytes + 64 * i))

/-- A write of one line into a block's saved copy. -/
def patchBlock (x : List Byte × List Nat) (a : Nat) (bs : List Byte) (poison : Bool) : List Byte × List Nat :=
  let l := a % blockBytes / 64
  let keep := if 64 ≤ bs.length then poison else poison || x.2.contains l
  (patchBytes x.1 (a % blockBytes) bs, if keep then (if x.2.contains l then x.2 else x.2 ++ [l]) else x.2.filter (· != l))

/-- A write while a block's saved copy stands for the image at J: an earlier release's write goes to both, a later one
saves the block first (R429). -/
def saveBlock (a : Nat) (bs : List Byte) (poison : Bool) (j : Treads) (s : State) : State :=
  let r := s.twin.resync
  let b := a / blockBytes
  let early := match s.drm.issuer with | some i => decide (i < j) | none => decide (s.now < j)
  match r.saved.find? (fun e => e.1 == b) with
  | some e =>
    if early then setTwin { s.twin with resync := { r with saved := sput b (patchBlock e.2 a bs poison) true r.saved } } s else s
  | none =>
    if early then s
    else if stagingBlocks s ≤ r.saved.length then setTwin { s.twin with resync := { r with overflow := true } } s
    else setTwin { s.twin with resync := { r with saved := sput b (blockImage s b) true r.saved } } s

/-- The source of a resynchronisation marks the block of a write (R428, R429). -/
def noteWrite (a : Nat) (bs : List Byte) (poison : Bool) (s : State) : State :=
  let r := s.twin.resync
  if !r.active ∨ !r.source ∨ r.done then s
  else
    let b := a / blockBytes
    let s := match r.joinFlight with
      | some n => saveBlock a bs poison (n * flightLen s) s
      | none => s
    let r := s.twin.resync
    if r.dirty.contains b then s else setTwin { s.twin with resync := { r with dirty := r.dirty ++ [b] } } s

/-- Write one line's bytes: a full line stores POISON from the tag, a shorter write keeps the line's poison (R368). -/
def writeLine (a : Nat) (bs : List Byte) (poison : Bool) (s : State) : State :=
  let full := decide (64 ≤ bs.length)
  let keep := if full then poison else (poison || linePoisoned s a)
  let s := noteWrite a bs poison s
  setDram { s.drm with mem := putBytes bs a s.drm.mem, poisoned := ssetC false s.drm.poisoned (a / 64) keep } s

/-! ### The units of the image at J (R429) -/

/-- The words and the units as they stand. -/
def imageUnits (s : State) : ImageUnits :=
  ⟨s.regs, s.stw, s.epoch.carried, s.epoch.deferred, s.lnd, s.gal, s.dec, s.hal, s.enc, s.cip, s.queues, s.shp, s.modem, s.ports⟩

/-- A state with the words and the units of an image. -/
def withUnits (x : ImageUnits) (s : State) : State :=
  { s with
    regs := x.regs, lnd := x.lnd, gal := x.gal, dec := x.dec, hal := x.hal, enc := x.enc, cip := x.cip, queues := x.queues, shp := x.shp
    modem := x.modem, ports := x.ports }

/-- The image at J that a source keeps, with the start of J. -/
def imageAt (s : State) : Option (Treads × ImageUnits) :=
  match s.twin.resync.joinFlight, s.twin.resync.kept with
  | some n, some x => some (n * flightLen s, x)
  | _, _ => none

/-- Flight J starts on the source of a resynchronisation: what stands after its commit begins the image at J (R429). -/
def keepImage (s : State) : State :=
  let r := s.twin.resync
  if r.active ∧ r.source ∧ !r.done ∧ r.joinFlight.any (fun n => n * flightLen s == s.now) then
    setTwin { s.twin with resync := { r with kept := some (imageUnits s) } } s
  else s

/-- Work of a release of an instant. While a source keeps the image at J, the work of a release before J changes the image's units as
it changes its own (R429). Assumption 128 (DESIGN CHOICE). -/
def atInstant (i : Treads) (f : State → State) (s : State) : State :=
  match imageAt s with
  | none => f s
  | some (j, x) =>
    if j ≤ i then f s
    else
      let y := { imageUnits (f (withUnits x s)) with stw := x.stw, carried := x.carried, deferred := x.deferred }
      let s := f s
      if s.twin.resync.kept.isNone then s else setTwin { s.twin with resync := { s.twin.resync with kept := some y } } s

/-- An operand that a release before J delivers to one at or after J belongs to the image. -/
def keepGiven (g : LinkGiven) (instant : Treads) (s : State) : State :=
  match imageAt s with
  | none => s
  | some (j, _) =>
    if g.src < j ∧ j ≤ instant then setTwin { s.twin with resync := { s.twin.resync with given := s.twin.resync.given ++ [g] } } s
    else s

/-- Split a byte range at 64-byte lines: address and length of each part. -/
def lineParts (a : Nat) : Nat → Nat → List (Nat × Nat)
  | 0, _ => []
  | fuel + 1, n =>
    if n = 0 then []
    else
      let k := min n (64 - a % 64)
      (a, k) :: lineParts (a + k) fuel (n - k)

/-- An engine's write that is served within its command (Table 3's media ports): every line of the range.
Assumption 109 (DESIGN CHOICE). -/
def memStore (a : Nat) (bs : List Byte) (poison : Bool) (s : State) : State :=
  (lineParts a bs.length bs.length).foldl (fun s p => writeLine p.1 ((bs.drop (p.1 - a)).take p.2) poison s) s

/-! ### Regions and address mapping (R350 to R353) -/

/-- A region's base and size in bytes (DRM_REGION). -/
def regionOf (s : State) (r : Nat) : Nat × Nat :=
  (getF s (Reg.DRM_REGION_BASE r) * 2097152, getF s (Reg.DRM_REGION_SIZE r) * 2097152)

/-- Whether a byte range lies in its region (R352). -/
def inRegion (s : State) (r a n : Nat) : Bool :=
  let (b, z) := regionOf s r
  decide (b ≤ a) && decide (a + n ≤ b + z)

/-- Whether a region is a HOST region (R351). -/
def regionHost (s : State) (r : Nat) : Bool := getF s (Reg.DRM_REGION_HOST r) == 1

/-- Controller cycles in one second (R350): one per four DRAM clocks. -/
def ctrlHz (s : State) : Nat :=
  match getF s Reg.DRM_CFG_SPEED with | 0 => 800000000 | 1 => 900000000 | _ => 1000000000

/-- The controller cycle of an instant. -/
def cycleOf (s : State) (t : Treads) : Nat := t * ctrlHz s / treadsPerSecond

/-- Interleave shift g (R353). -/
def granShift (s : State) : Nat := 8 + 2 * getF s Reg.DRM_CFG_GRAN

/-- Subchannel of a device address (Table 2). -/
def subOf (s : State) (a : Nat) : Nat :=
  let g := granShift s
  (a / 2 ^ g % 16) ^^^ (a / 2 ^ (g + 4) % 16)

/-- Local address within the subchannel (Table 2). -/
def localOf (s : State) (a : Nat) : Nat :=
  let g := granShift s
  a / 2 ^ (g + 4) * 2 ^ g + a % 2 ^ g

/-- Local line λ. -/
def lineOf (s : State) (a : Nat) : Nat := localOf s a / 64

/-- Row of a local line. -/
def rowOf (s : State) (l : Nat) : Nat := l / 2 ^ (11 + getF s Reg.DRM_CFG_RANKS)

/-- Rank of a local line. -/
def rankOf (s : State) (l : Nat) : Nat := if getF s Reg.DRM_CFG_RANKS = 1 then l / 2048 % 2 else 0

/-- Bank group of a local line: λ[10:8] XOR row[2:0]. -/
def groupOf (s : State) (l : Nat) : Nat := (l / 256 % 8) ^^^ (rowOf s l % 8)

/-- The bank of a local line, numbered over rank, bank group and bank. -/
def bankOf (s : State) (l : Nat) : Nat := (rankOf s l * 8 + groupOf s l) * 4 + l / 64 % 4

/-- The address tag of a line's side band (Table 4): CRC-16 of its 5-byte local line address. -/
def addrTag (s : State) (a : Nat) : Nat := (crc16 (leBytes 5 (lineOf s a))).toNat

/-! ### Subchannels -/

/-- A subchannel after reset. -/
def subInit : SubState := ⟨[], false, [], [], [], [], [], [], false, 0, [], [], 0, 0, 0, false, false⟩

/-- Subchannel c. -/
def subAt (s : State) (c : Nat) : SubState := sgetC subInit s.drm.subs c

/-- Replace subchannel c. -/
def setSub (c : Nat) (x : SubState) (s : State) : State :=
  setDram { s.drm with subs := ssetC subInit s.drm.subs c x } s

/-- Record an error of the controller: DRM_ERR_LAST and the error log (R366, Table 10). -/
def dramError (code port addr sub : Nat) (s : State) : State :=
  let s := setF s Reg.DRM_ERR_LAST_ADDR_LO addr
  let s := setF s Reg.DRM_ERR_LAST_ADDR_HI (addr / 4294967296)
  let s := setF (setF (setF s Reg.DRM_ERR_LAST_PORT port) Reg.DRM_ERR_LAST_CODE code) Reg.DRM_ERR_LAST_SUB sub
  captureError .drm code (if code = 1 then 1 else 2) (code == 6) sub port none s

/-- A request outside its region (R352): event 0x1C3 and code 0x04; nothing is touched. -/
def regionFault (port addr : Nat) (s : State) : State := raiseEvent 0x1C3 (dramError 4 port addr (subOf s addr) s)

/-- Whether a subchannel has room for a request: it holds 64 reads and 64 writes (R355). -/
def hasRoom (x : SubState) (write : Bool) : Bool := decide (x.queue.countP (fun q => q.write == write) < 64)

/-- Whether request q stands behind request r of its own cycle: two reads of one line, of which the lower port counts as the earlier
(Table 5). -/
def behindTie (r q : DramReq) : Bool := q.line == r.line && q.arrival == r.arrival && !q.write && !r.write && decide (r.port < q.port)

/-- A queue with one request more: at its end, or before the reads of its line that a tie puts behind it. -/
def queueIn (r : DramReq) : List DramReq → List DramReq
  | [] => [r]
  | q :: qs =>
    if behindTie r q && qs.all (fun p => p.line != r.line || behindTie r p) then r :: q :: qs else q :: queueIn r qs

/-- Take a waiting request into its subchannel's queue, where the controller accepts requests, the queue has room and no earlier
request of its port is held (R355, R360); else it is held. -/
def admitStep (x : List DramReq × State) (r : DramReq) : List DramReq × State :=
  let c := subOf x.2 r.line
  if x.2.drm.accepting && !(x.1.any fun q => q.port == r.port) && hasRoom (subAt x.2 c) r.write then
    let r := { r with arrival := cycleOf x.2 x.2.now }
    (x.1, setSub c { subAt x.2 c with queue := queueIn r (subAt x.2 c).queue } x.2)
  else (x.1 ++ [r], x.2)

/-- The requests held at their ports go to the controller as far as it takes them; their ages count from there (R354). -/
def admitWaiting (s : State) : State :=
  let x := s.drm.waiting.foldl admitStep ([], s)
  setDram { x.2.drm with waiting := x.1 } x.2

/-- A port issues one request; the number it takes. -/
def enqueue (port : Nat) (write : Bool) (a : Nat) (ofs : Nat) (bs : List Byte) (poison : Bool) (s : State) : Nat × State :=
  let r : DramReq := ⟨s.drm.nextId, port, write, a / 64 * 64, ofs, bs, poison, cycleOf s s.now, false⟩
  (r.id, admitWaiting (setDram { s.drm with nextId := s.drm.nextId + 1, waiting := s.drm.waiting ++ [r] } s))

/-- Queue the requests of a write of bytes, line by line; their numbers. -/
def requestWrite (port a : Nat) (bs : List Byte) (poison : Bool) (s : State) : List Nat × State :=
  (lineParts a bs.length bs.length).foldl (fun (x : List Nat × State) p =>
    let (id, s) := enqueue port true p.1 (p.1 % 64) ((bs.drop (p.1 - a)).take p.2) poison x.2
    (x.1 ++ [id], s)) ([], s)

/-- Queue the requests of a read, line by line; their numbers. -/
def requestRead (port a n : Nat) (s : State) : List Nat × State :=
  (lineParts a n n).foldl (fun (x : List Nat × State) p =>
    let (id, s) := enqueue port false p.1 (p.1 % 64) (List.replicate p.2 0) false x.2
    (x.1 ++ [id], s)) ([], s)

/-! ### Choosing (R354 to R356) -/

/-- The urgency of a request (R354). -/
def urgency (s : State) (r : DramReq) (cyc : Nat) : Nat :=
  min 3 (4 * (cyc - r.arrival) / getF s (Reg.DRM_PORT_CFG_TARGET r.port))

/-- Whether a request is aged. -/
def agedReq (s : State) (r : DramReq) (cyc : Nat) : Bool := decide (getF s Reg.DRM_SCHED_CFG_AGE_LIMIT ≤ cyc - r.arrival)

/-- The row that a bank holds open. -/
def openRow (x : SubState) (b : Nat) : Option Nat := (sgetC none x.rows b).map (·.1)

/-- Whether every earlier request to a request's line has been served, but for reads ahead of a read (R354). -/
def lineFirst (x : SubState) (r : DramReq) : Bool :=
  (x.queue.takeWhile (fun q => q.id != r.id)).all (fun q => q.line != r.line) &&
  x.reading.all (fun q => q.line != r.line || (!q.write && !r.write))

/-- Whether a write takes part in the choice: while writes drain, once aged, or where a queued read names its line. -/
def writeTakesPart (s : State) (x : SubState) (r : DramReq) (cyc : Nat) : Bool :=
  x.draining || agedReq s r cyc || x.queue.any fun q => !q.write && q.line == r.line

/-- The key by which pick compares requests: aged, effective class, row miss, arrival, port. -/
def pickKey (s : State) (x : SubState) (r : DramReq) (cyc : Nat) : List Nat :=
  let l := lineOf s r.line
  let e := getF s (Reg.DRM_PORT_CFG_CLASS r.port) - urgency s r cyc
  [if agedReq s r cyc then 0 else 1, e, if openRow x (bankOf s l) == some (rowOf s l) then 0 else 1, r.arrival, r.port]

/-- Lexicographic order of keys. -/
def keyLess : List Nat → List Nat → Bool
  | a :: as, b :: bs => decide (a < b) || (a == b && keyLess as bs)
  | _, _ => false

/-- The request that subchannel c advances next; `blocked` are the requests whose next command may not issue now. -/
def pick (s : State) (c : Nat) (blocked : List Nat) : Option DramReq :=
  let x := subAt s c
  let cyc := cycleOf s s.now
  let ok := x.queue.filter fun r =>
    !blocked.contains r.id && lineFirst x r && (!r.write || writeTakesPart s x r cyc)
  ok.foldl (fun best r => match best with
    | none => some r
    | some b => if keyLess (pickKey s x r cyc) (pickKey s x b cyc) then some r else best) none

/-- Count the requests that have reached urgency 3 and those aged (R354; event 0x1C8 once per audio flight). -/
def noteUrgency (c : Nat) (s : State) : State :=
  let x := subAt s c
  let cyc := cycleOf s s.now
  let due := x.queue.filter fun r => !r.urgent && urgency s r cyc == 3
  let s := setSub c { x with queue := x.queue.map fun r => if urgency s r cyc == 3 then { r with urgent := true } else r } s
  let s := due.foldl (fun s r => incSatF (incF s (Reg.DRM_CNT_COUNT 4)) (Reg.DRM_PORT_LAT_URGENT r.port)) s
  if due.isEmpty || s.drm.urgentTold then s
  else raiseEvent 0x1C8 (setDram { s.drm with urgentTold := true } s)

/-- The write queue starts to drain at WRQ_HI entries and stops at WRQ_LO (R355). -/
def noteDrain (c : Nat) (s : State) : State :=
  let x := subAt s c
  let n := x.queue.countP (·.write)
  let d := if getF s Reg.DRM_SCHED_CFG_WRQ_HI ≤ n then true
    else if n ≤ getF s Reg.DRM_SCHED_CFG_WRQ_LO then false else x.draining
  setSub c { x with draining := d } s

/-! ### Acknowledgements and fences (R357, R358) -/

/-- A request has been served: its answer is held, and its latency kept in the port's peak. -/
def answer (r : DramReq) (data : List Byte) (bad : Bool) (s : State) : State :=
  let lat := min 65535 (cycleOf s s.now - r.arrival)
  let s := setF s (Reg.DRM_PORT_LAT_PEAK r.port) (max lat (getF s (Reg.DRM_PORT_LAT_PEAK r.port)))
  if r.port = 20 then s else setDram { s.drm with acks := s.drm.acks ++ [⟨r, data, bad⟩] } s

/-- Whether some request of a port numbered below n has not been served. -/
def portOwes (s : State) (port n : Nat) : Bool :=
  (s.drm.waiting.any fun r => r.port == port && decide (r.id < n)) ||
  s.drm.subs.any fun e => (e.2.queue ++ e.2.reading).any fun r => r.port == port && decide (r.id < n)

/-- Whether a request's answer has been returned to its port: served, with every earlier one of the port (R357). -/
def returned (s : State) (id : Nat) : Option DramAck :=
  (s.drm.acks.find? fun a => a.req.id == id).filter fun a => !portOwes s a.req.port id

/-- Drop answers that their requester has taken, or that nobody waits for (writes of the trace and the scrub). -/
def takeAnswers (ids : List Nat) (s : State) : State :=
  setDram { s.drm with acks := s.drm.acks.filter fun a => !ids.contains a.req.id } s

/-- Fences whose earlier requests are all acknowledged complete (R358). -/
def settleFences (s : State) : State :=
  let done := s.drm.fences.filter fun f => !portOwes s f.1 f.2
  let m := done.foldl (fun m f => ssetC 0 m f.1 (sgetC 0 m f.1 + 1)) s.drm.fenced
  setDram { s.drm with fences := s.drm.fences.filter (fun f => portOwes s f.1 f.2), fenced := m } s

/-- FENCE (R358): a fence of a port follows every request that the port has issued. -/
def fencePort (port : Nat) (s : State) : State :=
  settleFences (setDram { s.drm with fences := s.drm.fences ++ [(port, s.drm.nextId)] } s)

/-! ### Commands (R354, R356) -/

/-- Remove a request from a subchannel's queue. -/
def dropReq (x : SubState) (id : Nat) : SubState := { x with queue := x.queue.filter fun q => q.id != id }

/-- A write is done: the line is written; a partial write of a poisoned line keeps the poison and answers with an error (R368). -/
def serveWrite (c : Nat) (r : DramReq) (s : State) : State :=
  let bad := decide (r.bytes.length < 64) && linePoisoned s r.line
  let s := writeLine (r.line + r.ofs) r.bytes r.poison s
  settleFences (answer r [] bad (setSub c (dropReq (subAt s c) r.id) s))

/-- The column command of a read, or of the read of a partial write (R368): the data follows (DRAM_READ_DATA). -/
def serveRead (c : Nat) (r : DramReq) (s : State) : State :=
  let x := dropReq (subAt s c) r.id
  setSub c { x with reading := x.reading ++ [r] } s

/-- Advance the chosen request by one command: precharge a bank that holds another row, activate its row, or its column
command. -/
def advance (c : Nat) (r : DramReq) (s : State) : State :=
  let x := subAt s c
  let l := lineOf s r.line
  let b := bankOf s l
  match openRow x b with
  | none => setSub c { x with rows := ssetC none x.rows b (some (rowOf s l, cycleOf s s.now)) } s
  | some row =>
    if row = rowOf s l then
      let s := setSub c { x with rows := ssetC none x.rows b (some (row, cycleOf s s.now)) } s
      let s := if agedReq s r (cycleOf s s.now) then incF s (Reg.DRM_CNT_COUNT 3) else s
      if r.write && r.bytes.length == 64 then serveWrite c r s else serveRead c r s
    else setSub c { x with rows := ssetC none x.rows b none } s

/-- Whether the controller has its clock: from the loss of PLL_DRAM until that PLL carries its domain again nothing is issued (R438).
Assumption 182 (DEDUCED). -/
def dramClocked (s : State) : Bool := getF s (Reg.CLK_SW_STAT_CUR 3) == 0 && getF s (Reg.CLK_SW_STAT_BUSY 3) == 0

/-- Whether a subchannel serves requests (DRM_SUB_STAT.STATE). -/
def subRunning (s : State) (c : Nat) : Bool :=
  (getF s (Reg.DRM_SUB_STAT_STATE c) == 1 || getF s (Reg.DRM_SUB_STAT_STATE c) == 3) && dramClocked s

/-- DRAM_COMMAND (R354). Assumption 110 (DESIGN CHOICE). -/
def dramCommand (c : Nat) (blocked : List Nat) (s : State) : State :=
  if !subRunning s c then s
  else
    let s := noteDrain c (noteUrgency c s)
    match pick s c blocked with
    | none => s
    | some r => admitWaiting (advance c r s)

/-- ROW_IDLE_TIMEOUT (R356): a row that no queued request hits, IDLE cycles after its last use, is closed. -/
def rowIdle (c b : Nat) (s : State) : State :=
  let x := subAt s c
  match sgetC none x.rows b with
  | none => s
  | some (row, last) =>
    let hit := x.queue.any fun r => bankOf s (lineOf s r.line) == b && rowOf s (lineOf s r.line) == row
    if !hit ∧ last + getF s Reg.DRM_PAGE_CFG_IDLE ≤ cycleOf s s.now then
      setSub c { x with rows := ssetC none x.rows b none } s
    else s

/-! ### Read data and its errors (R365 to R367) -/

/-- A corrected error (R365): the line is written back, the error counted. -/
def correctable (c : Nat) (r : DramReq) (s : State) : State :=
  let s := incSatF (incF s (Reg.DRM_CNT_COUNT 0)) (Reg.DRM_SUB_ECC_CORRECTED c)
  let x := subAt s c
  let s := setSub c { x with corrected := x.corrected + 1 } s
  let s := if getF s Reg.DRM_TRIM_CFG_RETRAIN_THR < x.corrected + 1 then setSub c { subAt s c with retrain := true } s else s
  raiseEvent 0x1C0 (dramError 1 r.port r.line c s)

/-- The 64 bytes of a line as a read finds it: those of its lost words are open (R366). Assumption 176 (DESIGN CHOICE). -/
def lineRead (s : State) (r : DramReq) (lost : List (Fin 8)) : List Byte :=
  (List.range 64).map fun i =>
    if lost.any (fun w => w.val == i / 8) then Config.lostByte r.line r.id i else memByte s (r.line + i)

/-- An uncorrectable word (R364, R366): the line as it was read is written back with POISON; on a DEGRADED subchannel also code
0x06. -/
def uncorrectable (c : Nat) (r : DramReq) (lost : List (Fin 8)) (s : State) : State :=
  let s := incSatF (incF s (Reg.DRM_CNT_COUNT 1)) (Reg.DRM_SUB_ECC_UNCORRECTED c)
  let s := writeLine r.line (lineRead s r lost) true s
  let s := raiseEvent 0x1C1 (dramError 2 r.port r.line c s)
  if (subAt s c).degraded then dramError 6 r.port r.line c s else s

/-- A command error that repeats (R367). -/
def commandError (c port line : Nat) (s : State) : State := raiseEvent 0x1C2 (dramError 3 port line c s)

/-- What the read of a line returns: its 64 bytes and its poison tag, with what the read's outcome does. A line that was poisoned
already captures nothing more (R366). -/
def readLine (c : Nat) (r : DramReq) (o : ReadOutcome) (s : State) : List Byte × Bool × State :=
  let want := addrTag s r.line
  let s := if o.tag ≠ want then incF s (Reg.DRM_CNT_COUNT 2) else s
  if o.tag ≠ want ∧ o.retryTag ≠ want then
    (lineRead s r [0, 1, 2, 3, 4, 5, 6, 7], true, commandError c r.port r.line s)
  else if linePoisoned s r.line then (lineRead s r o.lost, true, s)
  else
    let back := !o.lost.isEmpty || o.corrected
    let bytes := lineRead s r o.lost
    let s := if !o.lost.isEmpty then uncorrectable c r o.lost s else if o.corrected then correctable c r s else s
    (bytes, !o.lost.isEmpty, if back && r.port == 23 then incF s (Reg.DRM_CNT_COUNT 7) else s)

/-- The read of a line ends its request: a read takes its bytes; a partial write merges its own into the line, which is stored with
POISON where the read came back poisoned, and then answers with an error (R368). -/
def readOutcome (c : Nat) (r : DramReq) (o : ReadOutcome) (s : State) : State :=
  let (bytes, bad, s) := readLine c r o s
  if !r.write then answer r ((bytes.drop r.ofs).take r.bytes.length) bad s
  else if bad then answer r [] true (writeLine r.line (patchBytes bytes r.ofs r.bytes) true s)
  else answer r [] false (writeLine (r.line + r.ofs) r.bytes r.poison s)

/-- DRAM_READ_DATA (R365 to R368): the data of the oldest read whose column command has issued. -/
def readData (c : Nat) (o : ReadOutcome) (s : State) : State :=
  match (subAt s c).reading with
  | [] => s
  | r :: rest =>
    let s := readOutcome c r o (setSub c { subAt s c with reading := rest } s)
    let s := if r.port = 23 then takeAnswers [r.id] s else s
    settleFences s

/-- DDR5_CA_PARITY_ALERT (R367): the commands of the alerted window are replayed once; where the alert repeats the reads
of the window return poison and its writes an error response. -/
def caParityAlert (c : Nat) (window : List Nat) (repeats : Bool) (s : State) : State :=
  let s := incF s (Reg.DRM_CNT_COUNT 2)
  if !repeats then s
  else
    let x := subAt s c
    let hit := (x.queue ++ x.reading).filter fun r => window.contains r.id
    let s := setSub c { x with queue := x.queue.filter (fun r => !window.contains r.id)
                               reading := x.reading.filter fun r => !window.contains r.id } s
    let all : List (Fin 8) := [0, 1, 2, 3, 4, 5, 6, 7]
    let s := hit.foldl (fun s r =>
      answer r (if r.write then [] else ((lineRead s r all).drop r.ofs).take r.bytes.length) true s) (admitWaiting s)
    settleFences (commandError c (match hit with | [] => 0 | r :: _ => r.port) (match hit with | [] => 0 | r :: _ => r.line) s)

/-! ### Refresh and temperature (R359) -/

/-- tREFI in controller cycles: 3.9 µs, or 1.95 µs above 85 °C. -/
def refreshInterval (s : State) (c : Nat) : Nat :=
  (if getF s (Reg.DRM_SUB_STAT_HOT c) = 1 then 1950 else 3900) * (ctrlHz s / 100000) / 10000

/-- Issue one same-bank refresh of a rank: the rows of its bank close in every group. A retraining that is due starts after it and takes
the subchannel out of service (R363). -/
def issueRefresh (c rank : Nat) (s : State) : State :=
  let x := subAt s c
  let b := sgetC 0 x.nextBank rank
  let rows := (List.range 8).foldl (fun m g => ssetC none m ((rank * 8 + g) * 4 + b) none) x.rows
  let s := setSub c { x with rows := rows, nextBank := ssetC 0 x.nextBank rank ((b + 1) % 4) } s
  if x.retrain then setF s (Reg.DRM_SUB_STAT_STATE c) 2 else s

/-- DRAM_REFRESH (R359): one falls due and is issued, postponed, or met by one pulled in; or one is pulled in while the
subchannel is idle. -/
def dramRefresh (c rank : Nat) (s : State) : State :=
  if !subRunning s c then s
  else
    let x := subAt s c
    let cyc := cycleOf s s.now
    let post := sgetC 0 x.postponed rank
    let pull := sgetC 0 x.pulled rank
    if sgetC 0 x.refDue rank ≤ cyc then
      let due := sgetC 0 x.refDue rank
      let x := { x with refDue := ssetC 0 x.refDue rank ((if due = 0 then cyc else due) + refreshInterval s c) }
      let s := setSub c x s
      if 0 < pull then setSub c { x with pulled := ssetC 0 x.pulled rank (pull - 1) } s
      else if x.queue.any (fun r => urgency s r cyc == 3) ∧ post < getF s Reg.DRM_REFRESH_CFG_POSTPONE then
        incF (setSub c { x with postponed := ssetC 0 x.postponed rank (post + 1) } s) (Reg.DRM_CNT_COUNT 5)
      else issueRefresh c rank s
    else if 0 < post then issueRefresh c rank (setSub c { x with postponed := ssetC 0 x.postponed rank (post - 1) } s)
    else if x.queue.isEmpty ∧ x.reading.isEmpty ∧ pull < 4 then
      issueRefresh c rank (setSub c { x with pulled := ssetC 0 x.pulled rank (pull + 1) } s)
    else s

/-- Subchannels of the device. -/
def allSubs : List Nat := List.range 16

/-- MR4_READ (R359): the refresh rate follows the devices' temperature; event 0x1C7 when it changes. -/
def mr4Read (c : Nat) (hot : Bool) (s : State) : State :=
  let changed := getF s (Reg.DRM_SUB_STAT_HOT c) ≠ hot.toNat
  let s := setF s (Reg.DRM_SUB_STAT_HOT c) hot.toNat
  let s := setF s Reg.DRM_REFRESH_CFG_HOT (allSubs.any fun i => getF s (Reg.DRM_SUB_STAT_HOT i) == 1).toNat
  raiseIf (decide changed) 0x1C7 s

/-! ### Trim and retraining (R362 to R364) -/

/-- One lane's move at the end of a trim period. -/
def trimLane (s : State) (x : Lane) (m : LaneTrim) : Lane :=
  let thr := getF s Reg.DRM_TRIM_CFG_THR
  if m.late + thr < m.early then ⟨x.pos + 1, m.atEnd⟩
  else if m.early + thr < m.late then ⟨x.pos - 1, m.atEnd⟩
  else ⟨x.pos, m.atEnd⟩

/-- The lanes of a subchannel after a period's moves, from lane i on, with the moves counted. -/
def trimLanes (s : State) (i : Nat) : List LaneTrim → Sparse Lane → Sparse Lane × Nat
  | [], m => (m, 0)
  | l :: ls, m =>
    let old := sgetC ⟨0, false⟩ m i
    let new := trimLane s old l
    let (m, n) := trimLanes s (i + 1) ls (ssetC ⟨0, false⟩ m i new)
    (m, n + (new.pos != old.pos).toNat)

/-- Add to a field that saturates. -/
def addSatF (s : State) (f : Fld) (n : Nat) : State := setF s f (min (fieldMax f) (getF s f + n))

/-- One device's write timing at the end of a trim period: it follows the count of the device's interval oscillator by at most one step
(R362). -/
def writeStep (old : Option (Nat × Int)) (n : Nat) : Nat × Int :=
  match old with
  | none => (n, 0)
  | some (m, p) => (n, if m < n then p + 1 else if n < m then p - 1 else p)

/-- The write timing of a subchannel's devices after a period, from device i on, with the moves counted. -/
def writeSteps (i : Nat) : List Nat → Sparse (Option (Nat × Int)) → Sparse (Option (Nat × Int)) × Nat
  | [], m => (m, 0)
  | n :: ns, m =>
    let old := sgetC none m i
    let new := writeStep old n
    let (m, k) := writeSteps (i + 1) ns (ssetC none m i (some new))
    (m, k + (old.any fun e => e.2 != new.2).toNat)

/-- TRIM_PERIOD (R362, R363): at the end of a trim period each lane, and each device's write timing, moves by at most one step; none moves
while live trim is off or the subchannel retrains, and the counts restart. `osc` holds the interval oscillators' counts. Assumption
175 (DEDUCED). -/
def trimPeriod (c : Nat) (lanes : List LaneTrim) (osc : List Nat) (s : State) : State :=
  let x := subAt s c
  if s.now < x.trimAt + getF s Reg.DRM_TRIM_PERIOD_PERIOD then s
  else if getF s Reg.DRM_TRIM_CFG_EN = 0 ∨ !subRunning s c then setSub c { x with corrected := 0, trimAt := s.now } s
  else
    let (m, n) := trimLanes s 0 lanes x.lanes
    let (w, k) := writeSteps 0 osc x.writeTrim
    let edge := lanes.any (·.atEnd)
    let thr := getF s Reg.DRM_TRIM_CFG_RETRAIN_THR
    let both := lanes.any fun l => decide (thr < l.early) && decide (thr < l.late)
    let s := setSub c { x with lanes := m, writeTrim := w, corrected := 0, trimAt := s.now, retrain := x.retrain || edge || both } s
    let s := addSatF s (Reg.DRM_SUB_TRIM_MOVES c) (n + k)
    raiseIf edge 0x1C6 (setF s (Reg.DRM_SUB_STAT_TRIM_EDGE c) edge.toNat)

/-- A subchannel runs with no working setting found: on its last good one, DEGRADED (R364). -/
def degrade (c : Nat) (s : State) : State :=
  raiseEvent 0x1C5 (dramError 5 0 0 c (setF (setSub c { subAt s c with degraded := true } s) (Reg.DRM_SUB_STAT_STATE c) 3))

/-- RETRAIN (R363, R364): the retraining that a refresh has let start ends with a working setting, or leaves the subchannel DEGRADED,
which only a reset ends. -/
def retrainSub (c : Nat) (ok : Bool) (s : State) : State :=
  let x := subAt s c
  if getF s (Reg.DRM_SUB_STAT_STATE c) ≠ 2 then s
  else
    let s := setSub c { x with retrain := false, corrected := 0, rows := [], lanes := if ok then [] else x.lanes
                               writeTrim := if ok then [] else x.writeTrim } s
    let s := incSatF (incF s (Reg.DRM_CNT_COUNT 6)) (Reg.DRM_SUB_TRIM_RETRAINS c)
    let s := setIf ok (Reg.DRM_SUB_STAT_TRIM_EDGE c) 0 s
    let s := raiseEvent 0x1C4 s
    if ok then setF s (Reg.DRM_SUB_STAT_STATE c) (if x.degraded then 3 else 1) else degrade c s

/-! ### Patrol scrub (R369) -/

/-- Lines of one subchannel. -/
def subLines (s : State) : Nat := getF s Reg.DRM_CFG_SIZE * 1073741824 / 64 / 16

/-- The device address of a subchannel's local line, the inverse of Table 2's mapping. -/
def addrOfLine (s : State) (c l : Nat) : Nat :=
  let g := granShift s
  let loc := l * 64
  let hi := loc / 2 ^ g
  hi * 2 ^ (g + 4) + ((hi % 16) ^^^ c) * 2 ^ g + loc % 2 ^ g

/-- The time of one patrol pass: SCRUB_HOURS, an eighth of it while the subchannel is DEGRADED, and in the pass after a reference has
returned (R364, R369, R440). -/
def passTreads (s : State) (c : Nat) : Nat :=
  getF s Reg.DRM_SCRUB_CFG_HOURS * 3600 * treadsPerSecond / (if (subAt s c).degraded || (subAt s c).quick then 8 else 1)

/-- Treads from line l of a pass to the next, which spread the lines over the pass. -/
def lineGap (s : State) (c l : Nat) : Nat :=
  passTreads s c * (l + 1) / subLines s - passTreads s c * l / subLines s

/-- A reference has returned: each subchannel is scrubbed once at 8 times the normal rate, from its first line (R440). -/
def quickScrub (s : State) : State :=
  allSubs.foldl (fun s c => setSub c { subAt s c with scrubLine := 0, scrubDue := s.now, quick := true } s) s

/-- PATROL_SCRUB (R369): the scrub reads its next line, once it is due, as a request of port 23; after the last line the pass is counted
with the largest on-die error code. Assumption 177 (DEDUCED). -/
def patrolScrub (c ecs : Nat) (s : State) : State :=
  let x := subAt s c
  if !subRunning s c ∨ s.now < x.scrubDue then s
  else
    let gap := lineGap s c x.scrubLine
    let (_, s) := enqueue 23 false (addrOfLine s c x.scrubLine) 0 (List.replicate 64 0) false s
    let next := if x.scrubLine + 1 < subLines s then x.scrubLine + 1 else 0
    let s := setSub c { subAt s c with scrubLine := next, scrubDue := x.scrubDue + gap, quick := x.quick && next != 0 } s
    if next = 0 then setF (incSatF s (Reg.DRM_SUB_SCRUB_PASSES c)) (Reg.DRM_SUB_SCRUB_ECS_MAX c) ecs else s

/-! ### Self-refresh (R360) -/

/-- Whether a subchannel has completed what it has accepted, a retraining included (R360, Table 5). -/
def subQuiet (s : State) (c : Nat) : Bool :=
  (subAt s c).queue.isEmpty && (subAt s c).reading.isEmpty && getF s (Reg.DRM_SUB_STAT_STATE c) != 2

/-- One subchannel enters self-refresh: all its banks close. -/
def subSleeps (s : State) (c : Nat) : State :=
  setF (setSub c { subAt s c with rows := [], postponed := [], pulled := [], refDue := [] } s) (Reg.DRM_SUB_STAT_STATE c) 4

/-- Refreshes that have fallen due and were not issued are counted (R438). -/
def countMissed (s : State) : State :=
  allSubs.foldl (fun s c => (subAt s c).refDue.foldl (fun s e =>
    let cyc := cycleOf s s.now
    if e.2 = 0 ∨ cyc < e.2 then s else addF s (Reg.DRM_CNT_COUNT 5) ((cyc - e.2) / max 1 (refreshInterval s c) + 1)) s) s

/-- SELF_REFRESH_ENTRY (R360): no new request is accepted; once every queued one has completed, all banks close and self-refresh
begins. -/
def selfRefreshEntry (s : State) : State :=
  let s := setDram { s.drm with accepting := false } s
  if allSubs.any (fun c => !subQuiet s c) then s else allSubs.foldl subSleeps s

/-- SELF_REFRESH_EXIT (R360): ZQ calibration, the kept settings and a retraining, then requests again; a subchannel that
finds no working setting runs DEGRADED on its last good one (R364). -/
def selfRefreshExit (failed : List Nat) (s : State) : State :=
  let s := allSubs.foldl (fun s c =>
    if getF s (Reg.DRM_SUB_STAT_STATE c) ≠ 4 then s
    else if failed.contains c then degrade c s
    else setF s (Reg.DRM_SUB_STAT_STATE c) (if (subAt s c).degraded then 3 else 1)) s
  admitWaiting (setDram { s.drm with accepting := true } s)

/-- The training of a reset ends DEGRADED where it succeeds (R364). -/
def selfRefreshReset (failed : List Nat) (s : State) : State :=
  selfRefreshExit failed (allSubs.foldl (fun s c => setSub c { subAt s c with degraded := false, retrain := false } s) s)

/-- Step 6 of start-up (R361): every subchannel trained, every line zero; the subchannels that fail. -/
def trainDram (failed : List Nat) (s : State) : State :=
  let s := setDram { dramInit with accepting := true, nextId := s.drm.nextId } s
  allSubs.foldl (fun s c =>
    setF (setSub c { subInit with scrubDue := s.now, trimAt := s.now } s) (Reg.DRM_SUB_STAT_STATE c) (if failed.contains c then 0 else 1)) s

/-- After a step of the count the trim periods and the patrol's pace count from it (R47). -/
def dramStep (s : State) : State :=
  setDram { s.drm with subs := s.drm.subs.map fun e => (e.1, { e.2 with trimAt := s.now, scrubDue := s.now }) } s

end Sys2Proof.Machine
end

