-- ==== Sys2Proof/Machine/Stairwell.lean ====
section
/-! DEFINITION. The Stairwell: task descriptors, releases, operands and matching, the ready lists and slots, completion,
misses and the trace (Stairwell: tasks and dispatch). -/

namespace Sys2Proof.Machine

/-! ### Task descriptors (R328 to R331) -/

/-- Replace the Stairwell's state. -/
def setStair (x : StairUnit) (s : State) : State := { s with stw := x }

/-- Whether the object of a task up to 22,307 is enabled; the device and plan tasks have no such object (R328). An object that a commit
disables releases no task from that commit on, a generator in mid-frame included, since R74 speaks of enables and reconfigurations
only. Assumption 145 (DEDUCED). -/
def taskObjectOn (s : State) (t : Nat) : Bool :=
  if t < 10240 then getF s (Reg.LEG_IN_FMT t) != 0
  else if t < 20480 then
    decide (3 ≤ getF s (Reg.LEG_OUT_FMT (t - 10240))) && decide (getF s (Reg.LEG_OUT_FMT (t - 10240)) ≤ 6)
  else if t < 20544 then getF s (Reg.TCM_DEC_CFG_EN (t - 20480)) == 1
  else if t < 20608 then getF s (Reg.TCM_GEN_CFG_EN (t - 20544)) == 1
  else if t < 21632 then getF s (Reg.TCM_TONE_CFG_EN (t - 20608)) == 1
  else if t < 21704 then true
  else if t < 21960 then getF s (Reg.STR_EN (t - 21704)) == 1
  else if t < 22024 then getF s (Reg.COMP_EN (t - 21960)) == 1
  else if t < 22040 then getF s (Reg.INC_EN (t - 22024)) == 1
  else if t < 22048 then getF s (Reg.OUTC_EN (t - 22040)) == 1
  else if t < 22240 then getF s (Reg.PRG_EN ((t - 22048) / 3)) == 1 &&
    decide ((t - 22048) % 3 < getF s (Reg.PRG_SPATIAL ((t - 22048) / 3)))
  else if t < 22304 then getF s (Reg.PRG_EN (t - 22240)) == 1
  else if t < 22308 then getF s (Reg.ETH_PORT_CFG_EN (t - 22304)) == 1
  else true

/-- Whether a task is valid and its object enabled (R328). -/
def taskOn (s : State) (t : Nat) : Bool := getF s (Reg.TASK_VALID t) == 1 && taskObjectOn s t

/-- Whether an uncorrectable word of a task's descriptor has taken the task out until the next reset (R347). -/
def taskLost (s : State) (t : Nat) : Bool := s.stw.lostTasks.contains t

/-- Whether a task is valid, its object enabled and its descriptor readable (R328, R347). -/
def taskLive (s : State) (t : Nat) : Bool := taskOn s t && !taskLost s t

/-- The period of a task's rate; 0 on demand (R331). -/
def taskPeriod (s : State) (t : Nat) : Nat :=
  match getF s (Reg.TASK_RATE t) with
  | 13 => flightLen s
  | 14 => 0
  | r => if r ≤ 12 then ratePeriod r else 0

/-- Open releases that a task may have (DEPTH). -/
def taskDepth (s : State) (t : Nat) : Nat := getF s (Reg.TASK_DEPTH t) + 1

/-- The kind of a task's operand n (Table 3). -/
def opKind (s : State) (t n : Nat) : Nat :=
  (getF s (Reg.TASK_OPK t) + 4294967296 * getF s (Reg.TASK_OPK_HI t)) / 2 ^ (3 * n) % 8

/-- The engine that a task's descriptor binds, none where unbound. -/
def taskEngine (s : State) (t : Nat) : Option Nat :=
  if getF s (Reg.TASK_ENGINE t) = 0x1FF then none else some (getF s (Reg.TASK_ENGINE t))

/-- Engines of each class (Table 2). -/
def classEngines (c : Nat) : Nat := engineCount c

/-- The open releases of a task, oldest first. -/
def openOf (s : State) (t : Nat) : List Release := s.stw.releases.filter fun r => r.task == t

/-! ### Trace (R345, R346) -/

/-- Entries that the trace ring holds. -/
def traceSize (s : State) : Nat := 2 ^ getF s Reg.STW_TRACE_CFG_LOG2SIZE

/-- Whether the trace ring is full. -/
def traceFull (s : State) : Bool :=
  (getF s Reg.STW_TRACE_TAIL_TAIL + 1) % traceSize s == getF s Reg.STW_TRACE_HEAD_HEAD % traceSize s

/-- Write one 16-byte record at TAIL, as a request of port 20. -/
def tracePut (bs : List Byte) (s : State) : State :=
  let r := getF s Reg.STW_TRACE_BASE_REGION
  let a := (regionOf s r).1 + getF s Reg.STW_TRACE_BASE_OFS * 4096 + 16 * getF s Reg.STW_TRACE_TAIL_TAIL
  let s := if inRegion s r a 16 then (requestWrite 20 a bs false s).2 else regionFault 20 a s
  setF s Reg.STW_TRACE_TAIL_TAIL ((getF s Reg.STW_TRACE_TAIL_TAIL + 1) % traceSize s)

/-- A sync record (R346). -/
def syncBytes (t : Treads) : List Byte :=
  leBytes 4 (treadsOf t) ++ leBytes 2 (secondsOf t) ++ leBytes 1 15 ++ leBytes 1 0 ++ leBytes 6 (secondsOf t) ++ leBytes 2 0

/-- A trace record (Table 5). -/
def traceBytes (t : Treads) (kind byte7 task engine flight detail : Nat) : List Byte :=
  leBytes 4 (treadsOf t) ++ leBytes 2 (secondsOf t) ++ leBytes 1 kind ++ leBytes 1 byte7 ++
  leBytes 4 (task + 131072 * engine) ++ leBytes 3 flight ++ leBytes 1 detail

/-- A record that finds the ring full is dropped; `t` is its stamp (R346). -/
def traceDrop (t : Treads) (s : State) : State :=
  let s := incF s Reg.STW_TRACE_DROP_COUNT
  match s.stw.traceGap with
  | some (t0, n) => setStair { s.stw with traceGap := some (t0, n + 1) } s
  | none => raiseEvent 0x1A4 (setStair { s.stw with traceGap := some (t, 1) } s)

/-- The gap record that stands for the dropped ones, once a slot is free. -/
def traceGapOut (s : State) : State :=
  match s.stw.traceGap with
  | some (t, n) =>
    if traceFull s then s
    else setStair { s.stw with traceGap := none } (tracePut (traceBytes t 14 0 0 0x1FF 0 (min 255 n)) s)
  | none => s

/-- A sync record at an instant. -/
def tracePutSync (t : Treads) (s : State) : State :=
  let s := setStair { s.stw with traceSec := some (secondsOf t) } s
  if traceFull s then traceDrop t s else tracePut (syncBytes t) s

/-- The sync record before the first record of a second whose seconds [15:0] are 0. -/
def traceSync (t : Treads) (s : State) : State :=
  if secondsOf t % 65536 = 0 ∧ s.stw.traceSec ≠ some (secondsOf t) then tracePutSync t s else s

/-- The trace has been enabled: a sync record comes first. -/
def traceEnable (s : State) : State := tracePutSync s.now s

/-- One record goes to the ring, after what stands before it. -/
def traceOut (t : Treads) (s : State) (bs : List Byte) : State :=
  let s := traceGapOut (traceSync t s)
  if traceFull s then traceDrop t s else tracePut bs s

/-- The records of a tread that has passed are written, in the order of their kinds (R345). -/
def traceFlush (s : State) : State :=
  if s.stw.traceHeld.isEmpty ∨ s.now ≤ s.stw.traceAt then s
  else
    let t := s.stw.traceAt
    let held := s.stw.traceHeld
    held.foldl (fun s r => traceOut t s r.2) (setStair { s.stw with traceHeld := [] } s)

/-- Insert a record behind those of its kind and of lower kinds. -/
def traceInsert (kind : Nat) (bs : List Byte) : List (Nat × List Byte) → List (Nat × List Byte)
  | [] => [(kind, bs)]
  | r :: rs => if kind < r.1 then (kind, bs) :: r :: rs else r :: traceInsert kind bs rs

/-- Whether the trace takes a decision of a kind about a task. -/
def traceTakes (s : State) (kind task : Nat) : Bool :=
  getF s Reg.STW_TRACE_CFG_EN == 1 && getF s Reg.STW_TRACE_CFG_KINDS / 2 ^ (kind - 1) % 2 == 1 &&
  getF s Reg.STW_TRACE_CLASS_CLASSES / 2 ^ getF s (Reg.TASK_CLASS task) % 2 == 1 && getF s (Reg.TASK_TRACE task) == 1

/-- Record a decision about a release: it goes to the ring once its tread has passed, among the records of its stamp by kind (R345). -/
def trace (kind : Nat) (r : Release) (late : Bool) (detail : Nat) (s : State) : State :=
  if !traceTakes s kind r.task then s
  else
    let absent := r.ops.any (· == .absent)
    let poison := r.ops.any fun o => match o with | .present p _ => p | _ => false
    let eng := match r.stage with | .staged e => e | .running e => e | _ => 0x1FF
    let b7 := getF s (Reg.TASK_CLASS r.task) + 16 * late.toNat + 32 * absent.toNat + 64 * poison.toNat
    let s := traceFlush s
    let bs := traceBytes s.now kind b7 r.task eng r.flight detail
    setStair { s.stw with traceHeld := traceInsert kind bs s.stw.traceHeld, traceAt := s.now } s

/-! ### Opening releases (R331, R332) -/

/-- The lowest free matching entry. -/
def freeEntry (s : State) : Nat :=
  ((List.range (s.stw.releases.length + 1)).find? fun e => !(s.stw.releases.any fun r => r.entry == e)).getD 0

/-- The operands of a task as its release opens: kind 0 is present, every other kind waits. -/
def freshOps (s : State) (t : Nat) : List Operand :=
  (List.range 15).map fun n => if opKind s t n = 0 then .present false false else .waiting

/-- A release of a task at an instant, with the deadline and time-out that the committed offsets give and the engine that its
descriptor binds. -/
def freshRelease (s : State) (t flight : Nat) (instant : Treads) : Release :=
  ⟨freeEntry s, t, flight, instant, instant + getF s (Reg.TASK_DL_OFS t),
   if getF s (Reg.TASK_TO_OFS t) = 0 then none else some (instant + getF s (Reg.TASK_TO_OFS t)),
   freshOps s t, [], .opened, none, [], false, 0, taskEngine s t, []⟩

/-- A task's OPEN follows its open releases. -/
def noteOpen (t : Nat) (s : State) : State := setL s (Reg.TASK_OPEN t) (openOf s t).length

/-- Open a release. -/
def openRelease (r : Release) (s : State) : State :=
  let s := noteOpen r.task (setStair { s.stw with releases := s.stw.releases ++ [r] } s)
  let s := incF s (Reg.STW_CNT_COUNT 0)
  let s := setF s Reg.STW_STORE_PEAK_PEAK (max (getF s Reg.STW_STORE_PEAK_PEAK) s.stw.releases.length)
  trace 1 r false 0 s

/-- Replace the release that holds a matching entry. -/
def putRelease (r : Release) (s : State) : State :=
  setStair { s.stw with releases := s.stw.releases.map fun q => if q.entry = r.entry then r else q } s

/-- Remove the release that holds a matching entry. -/
def closeRelease (r : Release) (s : State) : State :=
  noteOpen r.task (setStair { s.stw with releases := s.stw.releases.filter fun q => q.entry != r.entry } s)

/-- An overrun is counted and captured (R332). -/
def noteOverrun (r : Release) (s : State) : State :=
  let s := if taskPeriod s r.task = 0 then s else setStair { s.stw with overran := s.stw.overran ++ [(r.task, r.instant)] } s
  let s := incF s (Reg.STW_CNT_COUNT 5)
  let s := setF (setF s Reg.STW_ERR_LAST_TASK r.task) Reg.STW_ERR_LAST_CAUSE 2
  raiseEvent 0x1A3 (captureError .stw 0x02 2 false r.task 0 none (trace 8 r false 0 s))

/-! ### Deliveries (R333 to R335) -/

/-- A late operand is counted (R335). Assumption 104 (DEDUCED). -/
def lateOperand (r : Release) (op : Nat) (s : State) : State :=
  raiseEvent 0x1A2 (trace 9 r false op (incF s (Reg.STW_CNT_COUNT 4)))

/-- Whether operand op of an open release still takes a delivery: it waits, or its wait has timed out in this very tread and the
release has not been staged (Table 4). Assumption 174 (DEDUCED). -/
def operandTakes (s : State) (r : Release) (op : Nat) : Bool :=
  r.ops.getD op .absent == .waiting ||
  (r.timed.contains op && r.timeout == some s.now && (match r.stage with | .staged _ => false | .running _ => false | _ => true))

/-- Decide operand op of an open release, where it still takes a delivery. -/
def decideOperand (r : Release) (op : Nat) (v : Operand) (bytes : List Byte) (s : State) : State :=
  if operandTakes s r op then
    putRelease { r with
      ops := r.ops.set op v
      data := if bytes.isEmpty then r.data else r.data ++ [(op, bytes)]
      timed := r.timed.filter (· != op) } s
  else lateOperand r op s

/-- The release instant that a delivery from an instant matches, for a periodic task (R334). -/
def matchInstant (s : State) (t : Nat) (src : Treads) (next : Bool) : Treads :=
  nextBoundary src (taskPeriod s t) + (if next then taskPeriod s t else 0)

/-- What a delivery meets: a release that it matches, a new one to open, one whose operands are decided, or one that
overran. -/
inductive Match where
  | found (r : Release) | fresh (r : Release) | past (r : Release) | lost
  deriving DecidableEq, Repr

/-- The release that a delivery to operand op of task t matches (R334). -/
def matchDelivery (s : State) (t op : Nat) (src : Treads) (next : Bool) : Match :=
  if taskPeriod s t = 0 then
    match (openOf s t).find? (fun r => r.ops.getD op .absent == .waiting) with
    | some r => .found r
    | none => .fresh (freshRelease s t (sgetC 0 s.stw.opened t) s.now)
  else
    let i := matchInstant s t src next
    match (openOf s t).find? (fun r => r.instant == i) with
    | some r => .found r
    | none =>
      let f := freshRelease s t (i / taskPeriod s t) i
      if s.stw.overran.contains (t, i) then .lost
      else if (sgetC none s.stw.reached t).any fun x => decide (i ≤ x) then .past f else .fresh f

/-- The next release number of an on-demand task has been used. -/
def countDemand (t : Nat) (s : State) : State :=
  if taskPeriod s t = 0 then setStair { s.stw with opened := ssetC 0 s.stw.opened t (sgetC 0 s.stw.opened t + 1) } s else s

/-- The enabled links of a task. -/
def linksOf (s : State) (t : Nat) : List Nat := (List.range 16).filter fun j => getF s (Reg.TASK_LINK_EN t j) == 1

/-- Deliver a value to operand op of task t from a release instant; `owe` delivers absent on the links of a release that
overruns. The first argument bounds how long a chain of overruns is followed. -/
def deliver : Nat → Nat → Nat → Treads → Bool → Operand → List Byte → State → State
  | 0, _, _, _, _, _, _, s => s
  | fuel + 1, t, op, src, next, v, bytes, s =>
    if !taskOn s t then raiseEvent 0x1A8 s
    else if taskLost s t then s
    else match matchDelivery s t op src next with
      | .found r => decideOperand r op v bytes s
      | .past r => lateOperand r op s
      | .lost => s
      | .fresh r =>
        if taskDepth s t ≤ (openOf s t).length then
          (linksOf s t).foldl (fun s j =>
            deliver fuel (getF s (Reg.TASK_LINK_TASK t j)) (getF s (Reg.TASK_LINK_OP t j)) r.instant
              (getF s (Reg.TASK_NEXT t j) == 1) .absent [] s) (noteOverrun r (countDemand t s))
        else decideOperand r op v bytes (openRelease r (countDemand t s))

/-- How long a chain of overruns is followed: each needs a further task. -/
def deliverFuel : Nat := 64

/-- Deliver on link j of a release. -/
def deliverLink (r : Release) (j : Nat) (v : Operand) (bytes : List Byte) (s : State) : State :=
  let t := getF s (Reg.TASK_LINK_TASK r.task j)
  let op := getF s (Reg.TASK_LINK_OP r.task j)
  let next := getF s (Reg.TASK_NEXT r.task j) == 1
  keepGiven ⟨t, op, r.instant, next, v, bytes⟩ (matchInstant s t r.instant next) (deliver deliverFuel t op r.instant next v bytes s)

/-- The links of a release that ends with an exit code (R335): DATA 0 links deliver present for 0x00 to 0xFD, DATA 1 links
that issued no PUTO deliver absent. -/
def deliverLinks (r : Release) (exit : Nat) (s : State) : State :=
  (linksOf s r.task).foldl (fun s j =>
    if getF s (Reg.TASK_DATA r.task j) = 1 then
      if r.sent.contains j then s else deliverLink r j .absent [] s
    else deliverLink r j (if exit ≤ 0xFD then .present false false else .absent) [] s) s

/-- The links of a release that owes every operand as absent (R332, R344, R347). -/
def deliverAbsent (r : Release) (s : State) : State :=
  (linksOf s r.task).foldl (fun s j => if r.sent.contains j then s else deliverLink r j .absent [] s) s

/-! ### Operands that the device's state decides (R333, R336, R337) -/

/-- The owner of the arrival sets of a task's SET operand (Table 1). -/
def setOwnerOf (t : Nat) : SetOwner :=
  if 21704 ≤ t ∧ t < 21960 then .stream (t - 21704)
  else if 22024 ≤ t ∧ t < 22040 then .input (t - 22024)
  else .audio

/-- Whether a record belongs to the object of a task. -/
def recOfTask (t : Nat) (r : ArrRec) : Bool :=
  if t < 10240 then r.kind == 1 && decide (r.object ≤ t) && decide (t < r.object + r.chans) else true

/-- Whether a record's trust is not yet final (R170). -/
def trustOpen (r : ArrRec) : Bool :=
  match r.trust with | .waiting => true | .pending _ => true | _ => false

/-- A SET operand: present once the set of the release's flight is final, PENDING while the trust of a record of the
task's object is not. -/
def setOperand (s : State) (r : Release) : Operand :=
  match s.ports.sets.find? (fun x => x.owner == setOwnerOf r.task && x.flight == r.flight && x.final) with
  | some x => .present false (x.recs.any fun a => recOfTask r.task a && trustOpen a)
  | none => .waiting

/-- The tasks of a range. -/
def rangeTasks (s : State) (n : Nat) : List Nat :=
  let a := getF s (Reg.RNG_FIRST n)
  (List.range (getF s (Reg.RNG_LAST n) + 1 - a)).map (a + ·)

/-- Whether task t has completed the releases that map to an instant of a consumer with a period (R334, R337); an instant beyond the
count is one from before a step back, whose releases have all opened. -/
def rangeTaskDone (s : State) (t : Nat) (instant period : Treads) : Bool :=
  !taskLive s t ||
  ((taskPeriod s t == 0 || decide (s.now < instant) ||
      (sgetC none s.stw.reached t).any fun x => decide (instant < x + taskPeriod s t)) &&
    (openOf s t).all fun r => decide (instant < r.instant) || decide (r.instant + period ≤ instant))

/-- A RANGE operand: present once every task of its range has completed its release. -/
def rangeOperand (s : State) (r : Release) (n : Nat) : Operand :=
  let first := (List.range n).all fun i => opKind s r.task i != 3
  let rng := getF s (if first then Reg.TASK_RANGE_A r.task else Reg.TASK_RANGE_B r.task)
  if (rangeTasks s rng).all fun t => rangeTaskDone s t r.instant (taskPeriod s r.task) then .present false false else .waiting

/-- A METER operand: present once the Gallery has published the audio flight before the one that contains the tread
before the release instant (R256). -/
def meterOperand (s : State) (r : Release) : Operand :=
  let m := flightNumber s (r.instant - 1)
  if s.gal.metersAt.any fun f => decide (m ≤ f + 1) then .present false false else .waiting

/-- Operand n of a release as the device's state now decides it; SET operands follow the trust of their records. -/
def settledOp (s : State) (r : Release) (n : Nat) (o : Operand) : Operand :=
  match opKind s r.task n, o with
  | 1, .waiting => setOperand s r
  | 1, .present p true => match setOperand s r with | .present _ q => .present p q | _ => o
  | 3, .waiting => rangeOperand s r n
  | 4, .waiting => meterOperand s r
  | _, _ => o

/-- The operands of a release with those that the state decides. -/
def settleOps (s : State) (r : Release) : Release :=
  { r with ops := (List.range 15).map fun n => settledOp s r n (r.ops.getD n .absent) }

/-! ### Ready releases (R338) -/

/-- The tasks whose releases feed a Hall or encode release (R255), by the configuration of its own flight (R31). -/
def sourceTasks (s : State) (r : Release) : List Nat :=
  let t := r.task
  let at_ := fun f => cfgF s r.instant f
  if 21960 ≤ t ∧ t < 22024 then
    ((List.range 1024).filter fun i => at_ (Reg.TILE_EN i) == 1 && at_ (Reg.TILE_COMP i) == t - 21960).filterMap
      fun i => match at_ (Reg.TILE_SRC_KIND i) with
        | 1 => some (21704 + at_ (Reg.TILE_SRC_ID i))
        | 2 => some (22024 + at_ (Reg.TILE_SRC_ID i))
        | 3 => some (21960 + at_ (Reg.TILE_SRC_ID i))
        | _ => none
  else if 22040 ≤ t ∧ t < 22048 then [21960 + at_ (Reg.OUTC_COMP (t - 22040))]
  else if 22048 ≤ t ∧ t < 22240 then [21960 + at_ (Reg.PRG_COMP ((t - 22048) / 3))]
  else []

/-- Whether every source release with a deadline at or before a release instant has completed (R255, R338). -/
def sourcesDone (s : State) (r : Release) : Bool :=
  (sourceTasks s r).all fun t => (openOf s t).all fun q => q.entry == r.entry || decide (r.instant < q.deadline)

/-- Whether the previous release of the task has completed. -/
def firstOfTask (s : State) (r : Release) : Bool :=
  (openOf s r.task).all fun q => decide (r.flight ≤ q.flight)

/-- The stage that a release reaches before it is staged. -/
def settledStage (s : State) (r : Release) : Stage :=
  if r.ops.any (· == .waiting) then .opened
  else if r.instant ≤ s.now && firstOfTask s r && sourcesDone s r then .ready
  else .waiting

/-- A release with its operands and its stage brought up to date; one that is staged or running keeps its stage. -/
def settleOne (s : State) (r : Release) : Release :=
  let r := settleOps s r
  match r.stage with
  | .staged _ => r
  | .running _ => r
  | _ => { r with stage := settledStage s r }

/-- Whether a release is bound to a fenced engine of its class (R203). -/
def boundFenced (s : State) (r : Release) : Bool :=
  match r.bound with
  | some e => s.stw.fenced.contains (getF s (Reg.TASK_CLASS r.task), e)
  | none => false

/-- Smallest slack of a class in this audio flight. Assumption 106 (DEDUCED). -/
def noteSlack (c : Nat) (v : Int) (s : State) : State :=
  let old := sgetC none s.stw.slack c
  setStair { s.stw with slack := ssetC none s.stw.slack c (some (match old with | some o => min o v | none => v)) } s

/-- The second that contains the present instant began here. -/
def secondStart (s : State) : Treads := s.now / treadsPerSecond * treadsPerSecond

/-- Treads of this second for which a release has run. -/
def ranFor (s : State) (r : Release) : Nat := s.now - max r.started (secondStart s)

/-- A decode or encode engine has ended a task (DEC_ENGINE_LOAD, DEC_ENGINE_MISS and their like). -/
def engineDone (r : Release) (s : State) : State :=
  match r.stage with
  | .running e =>
    let late := r.deadline < s.now
    match getF s (Reg.TASK_CLASS r.task) with
    | 2 =>
      let s := { s with dec := { s.dec with busy := ssetC 0 s.dec.busy e (sgetC 0 s.dec.busy e + ranFor s r) } }
      if late then incF s (Reg.DEC_ENGINE_MISS_COUNT e) else s
    | 3 => if late then incF s (Reg.HAL_CNT_COUNT 6) else s
    | 4 =>
      let s := { s with enc := { s.enc with busy := ssetC 0 s.enc.busy e (sgetC 0 s.enc.busy e + ranFor s r) } }
      if late then incF s (Reg.ENC_ENGINE_MISS_COUNT e) else s
    | _ => s
  | _ => s

/-- A release completes with an exit code (R341): its registers, its trace record, its links. -/
def finishRelease (r : Release) (exit : Nat) (s : State) : State :=
  let s := setL (engineDone r s) (Reg.TASK_LAST_EXIT r.task) exit
  let s := setL (setL s (Reg.TASK_LAST_FLIGHT r.task) r.flight) (Reg.TASK_LAST_FLIGHT_HI r.task) (r.flight / 4294967296)
  let s := noteSlack (getF s (Reg.TASK_CLASS r.task)) ((r.deadline : Int) - s.now) s
  let s := if exit = 0xFE then incF s (Reg.STW_CNT_COUNT 6) else s
  let s := trace 5 r (decide (r.deadline < s.now)) exit s
  if taskLost s r.task then deliverAbsent r (closeRelease r s) else deliverLinks r exit (closeRelease r s)

/-- Write the ready records of the releases that have become ready since a list. -/
def traceReady (old : List Release) (s : State) : State :=
  s.stw.releases.foldl (fun s r =>
    if r.stage = .ready ∧ (old.find? fun q => q.entry == r.entry).any (fun q => q.stage != .ready) then trace 2 r false 0 s
    else s) s

/-- Bring every release up to date; ready releases bound to fenced engines complete at once with 0xFE (R338). -/
def settleFuel : Nat → State → State
  | 0, s => s
  | n + 1, s =>
    let old := s.stw.releases
    let s := traceReady old (setStair { s.stw with releases := old.map (settleOne s) } s)
    match s.stw.releases.find? (fun r => r.stage == .ready && boundFenced s r) with
    | some r => settleFuel n (finishRelease r 0xFE s)
    | none => s

/-- Bring the Stairwell up to date. -/
def settle (s : State) : State := settleFuel (2 * s.stw.releases.length + 16) s

/-! ### The Stairwell's commands -/

/-- OPERAND_DELIVERY (R334): a link, range, meter or notice delivers operand op of task t. -/
def operandDelivery (t op : Nat) (src : Treads) (next present poison : Bool) (s : State) : State :=
  settle (deliver deliverFuel t op src next (if present then .present poison false else .absent) [] s)

/-- The release instant of a task has come (R331, R332): its release opens, has been opened by a delivery, or overruns; a lost task
releases nothing and delivers absent (R347). -/
def releaseAt (t : Nat) (s : State) : State :=
  let p := taskPeriod s t
  if p = 0 ∨ s.now % p ≠ 0 ∨ !taskOn s t ∨ sgetC none s.stw.reached t = some s.now then s
  else
    let f := freshRelease s t (s.now / p) s.now
    let s := setStair { s.stw with reached := ssetC none s.stw.reached t (some s.now) } s
    if taskLost s t then deliverAbsent f s
    else match (openOf s t).find? (fun r => r.instant == s.now) with
    | some r => putRelease { r with deadline := f.deadline, timeout := f.timeout, bound := f.bound } s
    | none =>
      if s.stw.overran.contains (t, s.now) then
        setStair { s.stw with overran := s.stw.overran.filter fun o => o != (t, s.now) } s
      else if taskDepth s t ≤ (openOf s t).length then deliverAbsent f (noteOverrun f s)
      else openRelease f s

/-- RELEASE_INSTANT (R331), while flights run and no restart or Hold has taken the boundary (R47, R448). -/
def releaseInstant (t : Nat) (s : State) : State :=
  if s.tim.flights = .running ∧ !boundaryTaken s s.now then settle (releaseAt t s) else s

/-- A commit of offsets: the releases whose instant is at or after the commit take them, one that opened in this very tread too
(R331, R344, Table 4). -/
def stairCommit (s : State) : State :=
  setStair { s.stw with releases := s.stw.releases.map fun r =>
    if r.instant < s.now then r
    else
      let f := freshRelease s r.task r.flight r.instant
      { r with
        deadline := f.deadline
        timeout := f.timeout
        bound := match r.stage with | .staged _ => r.bound | .running _ => r.bound | _ => f.bound } } s

/-- After a step of the count no release instant lies ahead of it: what the count has yet to reach again opens again (R47). -/
def stairStep (s : State) : State :=
  setStair { s.stw with
    reached := s.stw.reached.filter fun e => e.2.any fun x => decide (x < s.now)
    overran := s.stw.overran.filter fun o => decide (o.2 < s.now) } s

/-- Every valid task, from the descriptors that the charter listed. -/
def validTasks (s : State) : List Nat :=
  s.regs.filterMap fun e =>
    if 0x84000000 ≤ e.1 ∧ e.1 < 0x85000000 ∧ e.1 % 128 = 0 ∧ e.2.getLsbD 0 then some ((e.1 - 0x84000000) / 128) else none

/-- The release instants of the tasks of a rate (R53, R331). -/
def releaseRate (rate : Nat) (s : State) : State :=
  settle (((validTasks s).filter fun t => getF s (Reg.TASK_RATE t) == rate).foldl (fun s t => releaseAt t s) s)

/-- OPERAND_TIMEOUT (R336): at its time-out the waiting operands of kinds 2 to 5 of a release become absent. -/
def operandTimeout (t flight : Nat) (s : State) : State :=
  let s := settle s
  match (openOf s t).find? (fun r => r.flight == flight) with
  | none => s
  | some r =>
    let due := (List.range 15).filter fun n => r.ops.getD n .absent == .waiting && decide (2 ≤ opKind s t n)
    if r.timeout.any (fun x => decide (x ≤ s.now)) ∧ !due.isEmpty then
      let r' := { r with ops := due.foldl (fun ops n => ops.set n .absent) r.ops, timed := due }
      let s := incF (incL (putRelease r' s) (Reg.TASK_TIMEOUTS t)) (Reg.STW_CNT_COUNT 3)
      let s := incF s (Reg.STW_CLASS_TIMEOUT_COUNT (getF s (Reg.TASK_CLASS t)))
      settle (raiseEvent 0x1A1 (trace 6 r' false due.length s))
    else s

/-- Whether an engine's staged slot is empty. -/
def stagedEmpty (s : State) (c e : Nat) : Bool :=
  !(s.stw.releases.any fun r => r.stage == .staged e && getF s (Reg.TASK_CLASS r.task) == c)

/-- The release that an engine's running slot holds. -/
def runningOn (s : State) (c e : Nat) : Option Release :=
  s.stw.releases.find? fun r => r.stage == .running e && getF s (Reg.TASK_CLASS r.task) == c

/-- Whether release a comes before release b in the ready list of a class (R339). -/
def readyBefore (a b : Release) : Bool :=
  if a.deadline ≠ b.deadline then decide (a.deadline < b.deadline)
  else if a.task ≠ b.task then decide (a.task < b.task)
  else decide (a.flight < b.flight)

/-- The lowest-numbered engine of a class that may take a release into its empty staged slot. -/
def engineFor (s : State) (c : Nat) (r : Release) : Option Nat :=
  match r.bound with
  | some e => if stagedEmpty s c e then some e else none
  | none => (List.range (classEngines c)).find? fun e => stagedEmpty s c e && !s.stw.fenced.contains (c, e)

/-- An uncorrectable SRAM word of the Stairwell is recorded (R347). -/
def stairFault (code task : Nat) (takeover : Bool) (s : State) : State :=
  let s := setF (setF s Reg.STW_ERR_LAST_TASK task) Reg.STW_ERR_LAST_CAUSE code
  raiseEvent 0x1A7 (captureError .stw code 2 takeover task 0 none s)

/-- A present operand carries POISON. -/
def poisonOp (o : Operand) : Operand :=
  match o with
  | .present _ q => .present true q
  | o => o

/-- A task's descriptor is lost (R347): it releases nothing from then on, and its open releases that do not run end as absent. -/
def loseTask (t : Nat) (s : State) : State :=
  let s := stairFault 4 t true (setStair { s.stw with lostTasks := s.stw.lostTasks ++ [t] } s)
  let hit := (openOf s t).filter fun r => match r.stage with | .running _ => false | _ => true
  hit.foldl (fun s r => deliverAbsent r (closeRelease r s)) s

/-- A release is staged on an engine. -/
def stageOn (e : Nat) (r : Release) (s : State) : State :=
  let r := { r with stage := .staged e }
  trace 3 r false 0 (incF (putRelease r s) (Reg.STW_CNT_COUNT 1))

/-- A release is staged; `x` is what its SRAM words met (R347). Assumption 146 (DESIGN CHOICE). -/
def stageRead (e : Nat) (r : Release) (x : StairError) (s : State) : State :=
  match x with
  | .none => stageOn e r s
  | .corrected => stageOn e r (raiseEvent 0x1A6 (captureError .stw 0x01 1 false r.task 0 none (incF s (Reg.STW_CNT_COUNT 7))))
  | .entry => stageOn e { r with ops := r.ops.map poisonOp } (stairFault 3 r.task false s)
  | .descriptor => settle (loseTask r.task s)

/-- RELEASE_STAGE (R339): the first release of the class's ready list that an engine with an empty staged slot may take.
Assumption 107 (DEDUCED). -/
def releaseStage (c : Nat) (x : StairError) (s : State) : State :=
  let s := settle s
  let ok := s.stw.releases.filter fun r => r.stage == .ready && getF s (Reg.TASK_CLASS r.task) == c && (engineFor s c r).isSome
  let best := ok.foldl (fun b r => match b with | none => some r | some x => if readyBefore r x then some r else some x) none
  match best with
  | none => s
  | some r =>
    match engineFor s c r with
    | none => s
    | some e => stageRead e r x s

/-- RELEASE_START (R340): the staged release of an engine moves to its empty running slot. -/
def releaseStart (c e : Nat) (s : State) : State :=
  match runningOn s c e, s.stw.releases.find? (fun r => r.stage == .staged e && getF s (Reg.TASK_CLASS r.task) == c) with
  | none, some r =>
    let r := { r with stage := .running e, started := s.now }
    trace 4 r false 0 (putRelease r s)
  | _, _ => s

/-- The running release of a task. -/
def runningOf (s : State) (t : Nat) : Option Release :=
  s.stw.releases.find? fun r => r.task == t && (match r.stage with | .running _ => true | _ => false)

/-- The work of a running release gives its exit code. -/
def setExit (t exit : Nat) (s : State) : State :=
  match runningOf s t with
  | some r => putRelease { r with exit := some exit } s
  | none => s

/-- RELEASE_COMPLETE (R341): the engine reports the exit code that the release's work gave, or `exit` where none did. -/
def releaseComplete (t exit : Nat) (s : State) : State :=
  match runningOf s t with
  | none => s
  | some r => settle (finishRelease r (r.exit.getD exit) s)

/-- A miss of a class in this audio flight (R343). -/
def noteMissClass (c : Nat) (s : State) : State :=
  if s.stw.missClass.contains c then s else setStair { s.stw with missClass := s.stw.missClass ++ [c] } s

/-- DEADLINE_MISS (R343): a release has not completed by the end of its deadline tread. -/
def deadlineMiss (t flight : Nat) (s : State) : State :=
  match (openOf s t).find? (fun r => r.flight == flight) with
  | none => s
  | some r =>
    if r.missed ∨ s.now ≤ r.deadline then s
    else
      let c := getF s (Reg.TASK_CLASS t)
      let s := putRelease { r with missed := true } s
      let s := incF (incF (incL s (Reg.TASK_MISSES t)) (Reg.STW_CLASS_MISS_COUNT c)) (Reg.STW_CNT_COUNT 2)
      let s := setF (setF s Reg.STW_MISS_LAST_TASK t) Reg.STW_MISS_LAST_CLASS c
      let s := setF s Reg.STW_MISS_LAST_TREADS (treadsOf r.deadline)
      let s := setF s Reg.STW_MISS_LAST_SEC_LO (secondsOf r.deadline)
      let s := setF s Reg.STW_MISS_LAST_SEC_HI (secondsOf r.deadline / 4294967296)
      let s := noteMissClass c (trace 7 r false 0 s)
      let s := if c = 8 then raiseEvent 0x208 s else s
      if s.stw.missEvent then s else raiseEvent 0x1A0 (setStair { s.stw with missEvent := true } s)

/-- An audio flight begins: the runs of flights with misses and the slack of the flight that ended (R343,
STW_CLASS_SLACK). -/
def stairFlight (s : State) : State :=
  let s := (List.range 12).foldl (fun s c =>
    let run := if s.stw.missClass.contains c then sgetC 0 s.stw.missRun c + 1 else 0
    let s := setStair { s.stw with missRun := ssetC 0 s.stw.missRun c run } s
    let s := if run = 16 then raiseEvent 0x1A5 s else s
    setF s (Reg.STW_CLASS_SLACK_SLACK c)
      (match sgetC none s.stw.slack c with | some v => ofSigned 32 v | none => 0x7FFFFFFF)) s
  setStair { s.stw with missClass := [], missEvent := false, slack := [] } s

/-- An engine is fenced (R203): its running and staged releases complete with 0xFE, and so does every later one. -/
def fenceEngine (c e : Nat) (s : State) : State :=
  let s := setStair { s.stw with fenced := s.stw.fenced ++ [(c, e)] } s
  let hit := s.stw.releases.filter fun r =>
    (r.stage == .staged e || r.stage == .running e) && getF s (Reg.TASK_CLASS r.task) == c
  settle (hit.foldl (fun s r => finishRelease r 0xFE s) s)

/-- The commit of a Door reset discards the open releases of the door's tasks that are neither staged nor running
(R344). -/
def discardDoor (d : Nat) (s : State) : State :=
  let hit := s.stw.releases.filter fun r =>
    getF s (Reg.TASK_OWNED r.task) == 1 && getF s (Reg.TASK_DOOR r.task) == d &&
    (match r.stage with | .staged _ => false | .running _ => false | _ => true)
  settle (hit.foldl (fun s r => deliverAbsent r (closeRelease r s)) s)

/-- The second boundary: what each decode and encode engine was busy in the second that ends (DEC_ENGINE_LOAD,
ENC_ENGINE_LOAD); the instant is the boundary's. -/
def engineSecond (s : State) : State :=
  let start := s.now - treadsPerSecond
  let still := fun c e => match runningOn s c e with | some r => s.now - max r.started start | none => 0
  let s := (List.range 8).foldl (fun s e =>
    let s := setF s (Reg.DEC_ENGINE_LOAD_BUSY e) (sgetC 0 s.dec.busy e + still 2 e)
    setF s (Reg.ENC_ENGINE_LOAD_BUSY e) (sgetC 0 s.enc.busy e + still 4 e)) s
  { s with dec := { s.dec with busy := [] }, enc := { s.enc with busy := [] } }

/-- The operand of a task that a queue notice decides: the first NOTICE operand that an open release still waits for, else the first.
Assumption 147 (DEDUCED). -/
def noticeOperand (s : State) (t : Nat) : Option Nat :=
  let ops := (List.range 15).filter fun n => opKind s t n == 5
  (ops.find? fun n => (openOf s t).any fun r => r.ops.getD n .absent == .waiting) <|> ops.head?

/-- A notice of a queue gives the task that it names one operand, with the packet's poison (R155, R157). -/
def deliverNotice (t : Nat) (poison : Bool) (s : State) : State :=
  match noticeOperand s t with
  | some n => settle (deliver deliverFuel t n s.now false (.present poison false) [] s)
  | none => s

end Sys2Proof.Machine
end

