-- ==== Sys2Proof/Machine/Queues.lean ====
section
/-! DEFINITION. The leg queues: words accepted, spill pages, back-pressure, sequences and indexes, notices, flushes and
the output digest (R151 to R157, R165, R167, R418, R419). -/

namespace Sys2Proof.Machine

/-- Queue q beyond its descriptor. -/
def queueOf (s : State) (q : Nat) : LegQueue := sgetC queueInit s.queues q

/-- Replace it. -/
def setQueue (q : Nat) (x : LegQueue) (s : State) : State := { s with queues := ssetC queueInit s.queues q x }

/-- Words that a queue holds. -/
def queueLevel (x : LegQueue) : Nat := x.pkts.foldl (fun n p => n + p.words) 0

/-- Complete packets that a queue holds. -/
def queuePkts (x : LegQueue) : Nat := x.pkts.countP (·.complete)

/-- Spill pages of 64 words that a level needs beyond the eight on-chip words (R154). Assumption 69 (DEDUCED). -/
def spillPages (level : Nat) : Nat := (level - 8 + 63) / 64

/-- A transmit context without a key. -/
def txInit : TxCtx := ⟨none, 0, 0, 0, false, false⟩

/-- The transmit context of queue q. -/
def txOf (s : State) (q : Nat) : TxCtx := sgetC txInit s.cip.tx q

/-- A transmit context changes; its status entry follows (Table 8 of Cipher engine). -/
def setTx (q : Nat) (x : TxCtx) (s : State) : State :=
  let s := { s with cip := { s.cip with tx := ssetC txInit s.cip.tx q x } }
  let s := setF s (Reg.TXC_KEYED q) x.key.isSome.toNat
  let s := setF s (Reg.TXC_PROFILE q) (match x.key with | some k => k.profile | none => 0)
  let s := setF s (Reg.TXC_SSRC q) (match x.key with | some k => leNat (beBytes 4 k.ssrc) | none => 0)
  let s := setF s (Reg.TXC_ROC q) x.roc
  let s := setF s (Reg.TXC_SEQ q) (getF s (Reg.QUEUE_SEQ q))
  let s := set64 s (Reg.TXC_PACKETS q).addr x.packets
  setF s (Reg.TXC_SRTCP_INDEX q) x.srtcp

/-- The RO words of a queue's descriptor follow its state (Table 9 of Media ports and leg queues, R325). -/
def showQueue (q : Nat) (s : State) : State :=
  let x := queueOf s q
  let level := queueLevel x
  let off := getF s (Reg.QUEUE_EN q) == 0
  let s := setF s (Reg.QUEUE_LEVEL q) level
  let s := setF s (Reg.QUEUE_DISCARD q) (off || !x.dropping.isEmpty).toNat
  let s := setF s (Reg.QUEUE_STALL q) (!x.backlog.isEmpty).toNat
  let s := setF s (Reg.QUEUE_PKTS q) (queuePkts x)
  setF s (Reg.QUEUE_DEPTH_PEAK q) (max (getF s (Reg.QUEUE_DEPTH_PEAK q)) level)

/-- Replace a queue; its pages come from and return to its door's pool (R154, R156). -/
def putQueue (q : Nat) (x : LegQueue) (s : State) : State :=
  let before := spillPages (queueLevel (queueOf s q))
  let after := spillPages (queueLevel x)
  let s := setQueue q x s
  let s := match ownerOf s 6 q with
    | some d => setF s (Reg.SHP_POOL_STAT_FREE d) (getF s (Reg.SHP_POOL_STAT_FREE d) + before - after)
    | none => s
  showQueue q s

/-! ### Lists (R315, R316) -/

/-- The list of a port and class. -/
def listOf (s : State) (p c : Nat) : List Nat := sgetC [] s.shp.lists (8 * p + c)

/-- Replace it. -/
def setList (p c : Nat) (l : List Nat) (s : State) : State :=
  { s with shp := { s.shp with lists := ssetC [] s.shp.lists (8 * p + c) l } }

/-- The list of a service's queues. -/
def svcList (s : State) (v : Nat) : List Nat := sgetC [] s.shp.svcLists v

/-- Replace it. -/
def setSvcList (v : Nat) (l : List Nat) (s : State) : State := { s with shp := { s.shp with svcLists := ssetC [] s.shp.svcLists v l } }

/-- The numbers under which a port's control and host queues stand in its lists. -/
def controlId (p : Nat) : Nat := 0x10000 + p
def hostId (p : Nat) : Nat := 0x10010 + p

/-- A queue or service joins: deficit 0, turn 0, its calendar not in the past (R315, R318). -/
def joinSched (q : Nat) (s : State) : State :=
  setSched q { schedOf s q with deficit := 0, turn := false, lim := limWake s.now (schedOf s q).lim } s

/-- It leaves with deficit 0 and turn 0. -/
def leaveSched (q : Nat) (s : State) : State := setSched q { schedOf s q with deficit := 0, turn := false } s

/-- A queue that has become non-empty joins the tail of its list; in tiered mode its service does too, where it was
empty (R315, R316). -/
def wakeQueue (q : Nat) (s : State) : State :=
  let p := getF s (Reg.QUEUE_PORT q)
  if tiered s then
    let v := getF s (Reg.QUEUE_SERVICE q)
    let c := getF s (Reg.SVC_CLASS v)
    let s := if (svcList s v).contains q then s else setSvcList v (svcList s v ++ [q]) (joinSched q s)
    if (listOf s p c).contains (serviceId v) then s
    else setList p c (listOf s p c ++ [serviceId v]) (joinSched (serviceId v) s)
  else
    let c := getF s (Reg.QUEUE_CLASS q)
    if (listOf s p c).contains q then s else setList p c (listOf s p c ++ [q]) (joinSched q s)

/-- A number leaves every list of a table. -/
def dropFromLists (out : Nat → Bool) (m : Sparse (List Nat)) : Sparse (List Nat) :=
  (m.map fun e => (e.1, e.2.filter fun i => !out i)).filter fun e => !e.2.isEmpty

/-- A queue that has become empty leaves its list, wherever it stands, and so does a service without a queue (R315,
R316). -/
def leaveLists (q : Nat) (s : State) : State :=
  let svc := dropFromLists (· == q) s.shp.svcLists
  let empty := fun (i : Nat) => decide (serviceId 0 ≤ i) && (sgetC [] svc (i - serviceId 0)).isEmpty
  let gone := (s.shp.lists.flatMap fun (e : Nat × List Nat) => e.2).filter empty
  let s := { s with shp := { s.shp with
    svcLists := svc, lists := dropFromLists (fun i => i == q || gone.contains i) s.shp.lists } }
  gone.foldl (fun s i => leaveSched i s) (leaveSched q s)

/-! ### The output digest (R418, R419) -/

/-- The bytes over which a packet's contribution is computed. -/
def digestBytes (q : Nat) (p : QPkt) : List Byte :=
  leBytes 2 q ++ leBytes 2 p.seq ++ leBytes 4 (treadsOf p.head.slot) ++ leBytes 6 (secondsOf p.head.slot) ++
  leBytes 2 p.head.len ++ p.payload

/-- A packet contributes to the group of its slot, once. Assumption 131 (DEDUCED). -/
def contribute (q : Nat) (p : QPkt) (s : State) : State :=
  if p.counted then s
  else
    let m := flightNumber s p.head.slot
    let (n, v) := sgetC (0, 0) s.twin.groups m
    { s with twin := { s.twin with
      groups := ssetC (0, 0) s.twin.groups m (n + 1, (v + (crc64 (digestBytes q p)).toNat) % 18446744073709551616) } }

/-! ### Flush (R156) -/

/-- The producers whose words wait at a queue, in the order of their first words. -/
def waitingSrcs (x : LegQueue) : List Nat := (x.backlog.map (·.src)).eraseDups

/-- The queue empties: packets contribute to the digest and count in FLUSHED. Where a packet was open, its words are dropped
up to its last, and so is the packet whose first word another held producer presents (Table 10). Assumption 75 (DEDUCED). -/
def flushQueue (q : Nat) (s : State) : State :=
  let x := queueOf s q
  let s := (x.pkts.filter (·.complete)).foldl (fun s p => contribute q p s) s
  let s := addF s (Reg.QUEUE_FLUSHED q) x.pkts.length
  let more := match x.producer with
    | none => []
    | some p => (p, Drop.rest) :: ((waitingSrcs x).filter fun w => w != p && !(x.dropping.any fun d => d.1 == w)).map fun w => (w, Drop.whole)
  leaveLists q (putQueue q { x with pkts := [], producer := none, dropping := x.dropping ++ more } s)

/-! ### Accepting words (R153 to R157, R165, R167) -/

/-- What a poisoned word records (R157). -/
def notePoison (q : Nat) (c : PoisonCause) (s : State) : State :=
  let last := fun (n : Nat) (s : State) => setF (setF s Reg.SHP_Q_ERR_LAST_QUEUE q) Reg.SHP_Q_ERR_LAST_CAUSE n
  match c with
  | .none => s
  | .parity => raiseEvent 0x0C1 (captureError .shp 0x03 2 false q 0 none (last 1 s))
  | .dram => captureError .shp 0x04 2 false q 0 none (last 2 s)
  | .written => last 3 s

/-- Index 2⁴⁸ − 1, from which a transmit context is exhausted, and the index from which it is near that (R167). -/
def indexEnd : Nat := 281474976710655
def indexNear : Nat := 281474976710656 - 1048576

/-- The next index of a keyed context has changed: near its end it is told once per key (R167). -/
def checkNear (q : Nat) (s : State) : State :=
  let c := txOf s q
  let near := c.key.isSome && !c.nearTold && decide (indexNear ≤ c.roc * 65536 + getF s (Reg.QUEUE_SEQ q))
  if near then raiseEvent 0x0E6 (setTx q { c with nearTold := true } s) else s

/-- SEQ and the SRTP index pass on to the next packet (R153, R165, R167). -/
def takeSeq (q : Nat) (s : State) : State :=
  let seq := getF s (Reg.QUEUE_SEQ q)
  let c := txOf s q
  let s := setF s (Reg.QUEUE_SEQ q) ((seq + 1) % 65536)
  checkNear q (setTx q { c with roc := if seq = 65535 then (c.roc + 1) % 4294967296 else c.roc } s)

/-- A transmit context has no index left, until a KEY_LOAD with SET_ROC (R167). -/
def spendTx (q : Nat) (s : State) : State := setTx q { txOf s q with spent := true } s

/-- The release that a notice's operand enters: its task and flight (R155). -/
def noticeHolder (s : State) (t : Nat) : Option (Nat × Nat) :=
  match noticeOperand s t with
  | none => none
  | some n =>
    if !taskOn s t || taskLost s t then none
    else match matchDelivery s t n s.now false with
      | .found r => some (t, r.flight)
      | .fresh r => if taskDepth s t ≤ (openOf s t).length then none else some (t, r.flight)
      | _ => none

/-- Whether a complete packet of a queue with NOTIFY 1 has been consumed: no release holds it any more. -/
def consumedPkt (s : State) (p : QPkt) : Bool :=
  p.complete && match p.holder with
    | some h => (openOf s h.1).all fun r => r.flight != h.2
    | none => true

/-- The packets that a task has consumed leave a queue. Assumption 166 (DESIGN CHOICE). -/
def dropConsumed (q : Nat) (s : State) : State :=
  let x := queueOf s q
  if getF s (Reg.QUEUE_NOTIFY q) = 0 ∨ !(x.pkts.any (consumedPkt s)) then s
  else putQueue q { x with pkts := x.pkts.filter fun p => !consumedPkt s p } s

/-- The notice of packet p, the last of the queue, whose last word has been accepted (R155). Assumption 63 (DEDUCED). -/
def noticeQueue (q : Nat) (p : QPkt) (s : State) : State :=
  if getF s (Reg.QUEUE_NOTIFY q) = 1 then
    let t := getF s (Reg.QUEUE_TASK q)
    let x := queueOf s q
    let s := setQueue q { x with pkts := x.pkts.dropLast ++ [{ p with holder := noticeHolder s t }] } s
    dropConsumed q (deliverNotice t p.poison (raiseIf p.poison 0x0C0 s))
  else wakeQueue q s

/-- A packet's last word has been accepted. -/
def completePkt (q : Nat) (s : State) : State :=
  let x := queueOf s q
  match x.pkts.getLast? with
  | none => s
  | some p =>
    let p := { p with complete := true, at_ := s.now }
    let x := { x with pkts := x.pkts.dropLast ++ [p], enqueued := (x.enqueued + 1) % 4294967296,
                      octets := (x.octets + p.payload.length) % 4294967296, lastSlot := p.head.slot, lastTs := p.head.rtpTs, producer := none }
    noticeQueue q p (putQueue q x s)

/-- A word that the queue drops: its packet's last word counts it (R156, R167). -/
def dropWord (q : Nat) (w : QWord) (why : Drop) (s : State) : State :=
  let x := queueOf s q
  let others := x.dropping.filter fun d => d.1 != w.src
  if !w.last then putQueue q { x with dropping := others ++ [(w.src, why)] } s
  else
    let s := match why with
      | .whole => incF s (Reg.QUEUE_FLUSHED q)
      | .exhausted => incF s (Reg.CIP_CNT_COUNT 5)
      | .rest => s
    putQueue q { x with dropping := others } s

/-- A packet's first word enters. -/
def firstWord (q : Nat) (w : QWord) (h : PktPrefix) (x : LegQueue) (s : State) : State :=
  let c := txOf s q
  let seq := getF s (Reg.QUEUE_SEQ q)
  if c.key.isSome ∧ (c.spent ∨ indexEnd ≤ c.roc * 65536 + seq) then dropWord q w .exhausted (spendTx q s)
  else
    let p : QPkt := ⟨h, seq, c.roc * 65536 + seq, c.key, w.bytes.take h.len, 1, false, w.poison != .none, false, 0, none⟩
    let s := takeSeq q s
    let s := putQueue q { x with pkts := x.pkts ++ [p], producer := some w.src } s
    if w.last then completePkt q s else s

/-- A later word of the open packet enters. -/
def nextWord (q : Nat) (w : QWord) (x : LegQueue) (s : State) : State :=
  match x.pkts.getLast? with
  | none => s
  | some p =>
    let p := { p with payload := (p.payload ++ w.bytes).take p.head.len, words := p.words + 1,
                      poison := p.poison || w.poison != .none }
    let s := putQueue q { x with pkts := x.pkts.dropLast ++ [p] } s
    if w.last then completePkt q s else s

/-- What a queue does with a word of a producer: drops it with the packet that it belongs to, or takes it. -/
def dropOf (s : State) (q src : Nat) : Option Drop :=
  match (queueOf s q).dropping.find? (·.1 == src) with
  | some d => some d.2
  | none => if getF s (Reg.QUEUE_EN q) = 0 then some .whole else none

/-- A word is accepted. Assumption 67 (DEDUCED). -/
def acceptWord (q : Nat) (w : QWord) (s : State) : State :=
  match dropOf s q w.src with
  | some why => dropWord q w why s
  | none =>
    let x := queueOf s q
    let s := notePoison q w.poison s
    match w.first with
    | some h => if x.producer.isSome then s else firstWord q w h x s
    | none => if x.producer = some w.src then nextWord q w x s else s

/-- What holds a word: nothing, the packet that another producer has open (R152), the queue's capacity, or the want of a
spill page (R154). -/
inductive Hold where
  | free | busy | full | noPage
  deriving DecidableEq, Repr

/-- What holds the next word of a producer at a queue; a word that is dropped is never held (R156). -/
def wordHold (s : State) (q src : Nat) : Hold :=
  let x := queueOf s q
  if (dropOf s q src).isSome then .free
  else if x.producer.any (· != src) then .busy
  else
    let level := queueLevel x
    if getF s (Reg.QUEUE_DEPTH_MAX q) ≤ level then .full
    else if spillPages level < spillPages (level + 1) ∧
        (ownerOf s 6 q).all (fun d => getF s (Reg.SHP_POOL_STAT_FREE d) == 0) then .noPage
    else .free

/-- The first word of each producer that waits at a queue. -/
def frontWords (x : LegQueue) : List QWord := (waitingSrcs x).filterMap fun p => x.backlog.find? (·.src == p)

/-- A spill page is wanting for a wait: told once per wait (R154). -/
def wantPage (q : Nat) (s : State) : State :=
  raiseEvent 0x0C3 (match ownerOf s 6 q with | some d => setF s (Reg.SHP_POOL_STAT_EXHAUST d) 1 | none => s)

/-- A producer's wait as its front word now stands: it begins, or it comes to want a page. -/
def noteWait (q src : Nat) (s : State) : State :=
  let x := queueOf s q
  let page := wordHold s q src == .noPage
  let old := x.waits.find? (·.src == src)
  let w := old.getD ⟨src, s.now, false, false⟩
  let s := setQueue q { x with waits := x.waits.filter (·.src != src) ++ [{ w with paged := w.paged || page }] } s
  if page && !w.paged then wantPage q s else s

/-- Take the words that wait, as many as fit; the first argument bounds their number. -/
def pumpFuel (q : Nat) : Nat → State → State
  | 0, s => s
  | n + 1, s =>
    let x := queueOf s q
    match (frontWords x).find? fun w => wordHold s q w.src == .free with
    | none => s
    | some w =>
      pumpFuel q n (acceptWord q w (setQueue q { x with backlog := x.backlog.erase w, waits := x.waits.filter (·.src != w.src) } s))

/-- Take the words that wait at queue q; the producers that are still held wait. -/
def pumpQueue (q : Nat) (s : State) : State :=
  let s := pumpFuel q ((queueOf s q).backlog.length + 1) s
  showQueue q ((waitingSrcs (queueOf s q)).foldl (fun s p => noteWait q p s) s)

/-- Queues of a door at which words wait: one may wait for a page. -/
def pumpDoor (d : Nat) (s : State) : State :=
  ((s.queues.filter fun e => !e.2.backlog.isEmpty && ownerOf s 6 e.1 == some d).map (·.1)).foldl (fun s q => pumpQueue q s) s

/-- Room at a queue, and pages of its door, go to the words that wait. -/
def pumpAround (q : Nat) (s : State) : State :=
  let s := pumpQueue q s
  match ownerOf s 6 q with
  | some d => pumpDoor d s
  | none => s

/-- The packets that tasks have consumed leave their queues (R155). -/
def sweepNotified (s : State) : State :=
  ((s.queues.filter fun e => e.2.pkts.any (consumedPkt s) && getF s (Reg.QUEUE_NOTIFY e.1) == 1).map (·.1)).foldl
    (fun s q => pumpAround q (dropConsumed q s)) s

/-- A producer presents words to a queue. Assumption 68 (DEDUCED). -/
def presentWords (q : Nat) (ws : List QWord) (s : State) : State :=
  pumpQueue q (setQueue q { queueOf s q with backlog := (queueOf s q).backlog ++ ws } s)

/-- Whether a word of a producer waits at a queue: the producing engine waits with it (R154). -/
def producerHeld (s : State) (src : Nat) : Bool := s.queues.any fun e => e.2.backlog.any (·.src == src)

/-- QUEUE_WORD_ACCEPT (R154): a producer presents one word, which the queue accepts at once or holds. -/
def queueWordAccept (q : Nat) (w : QWord) (s : State) : State := presentWords q [w] s

/-- The words of a packet beyond its first. -/
def tailWords (src : Nat) (poison : Bool) : Nat → List Byte → List QWord
  | 0, _ => []
  | n + 1, bs =>
    ⟨src, none, bs.take 64, decide (bs.length ≤ 64), if poison then .written else .none⟩ ::
      (if bs.length ≤ 64 then [] else tailWords src poison n (bs.drop 64))

/-- The words of a packet: the prefix with 32 payload bytes, then 64 bytes a word (Table 8). -/
def packetWords (src : Nat) (h : PktPrefix) (payload : List Byte) (poison : Bool) : List QWord :=
  let one := decide (payload.length ≤ 32)
  ⟨src, some h, payload.take 32, one, if poison then .written else .none⟩ ::
    (if one then [] else tailWords src poison payload.length (payload.drop 32))

/-- An engine writes a whole packet into a queue. -/
def emitPacket (q src : Nat) (h : PktPrefix) (payload : List Byte) (poison : Bool) (s : State) : State :=
  presentWords q (packetWords src h payload poison) s

/-- A release completes once no queue holds a word of its task; the packets that it had consumed leave (R154, R155, R341). -/
def completeRelease (t exit : Nat) (s : State) : State :=
  if producerHeld s t then s else sweepNotified (releaseComplete t exit s)

/-- STALL_LIMIT_EXPIRY (R154): once per wait longer than STALL_LIMIT. -/
def stallLimitExpiry (q : Nat) (s : State) : State :=
  let x := queueOf s q
  let outlasted := fun (w : QWait) => decide (w.since + getF s Reg.SHP_Q_CFG_STALL_LIMIT < s.now) && !w.told
  (x.waits.filter outlasted).foldl (fun s _ => raiseEvent 0x0C2 s)
    (setQueue q { x with waits := x.waits.map fun w => if outlasted w then { w with told := true } else w } s)

/-- A flush releases a held producer (R156). -/
def flushAndPump (q : Nat) (s : State) : State := pumpAround q (flushQueue q s)

end Sys2Proof.Machine
end

