-- ==== Sys2Proof/Machine/Sets.lean ====
section
/-! DEFINITION. Arrival sets: the flight that a stamp joins, the sets and their records, when a set is consumed, and what
received RTCP does (R28, R55, R144, R145, R147). -/

namespace Sys2Proof.Machine

/-- The key of an object of a match entry's kind: 1 audio, 2 stream, 3 and 4 inputs, 6 video leg. -/
def objKey (kind object : Nat) : Nat := kind * 65536 + object

/-- The key under which the copies of an entry's object merge and its paths stand: an RTCP source is an object of its own for each
type of object that it serves (R141, R142). -/
def mergeKey (kind otype object : Nat) : Nat := objKey (if kind = 5 then 16 + otype else kind) object

/-- The period of the flights that an owner's sets belong to (R144). -/
def setPeriod (s : State) (o : SetOwner) : Nat :=
  match o with
  | .audio => flightLen s
  | .stream n => ratePeriod (getF s (Reg.STR_RATE n))
  | .input n => ratePeriod (getF s (Reg.INC_RATE n))

/-- The start of a set's flight. -/
def setStart (s : State) (o : SetOwner) (flight : Nat) : Treads := flight * setPeriod s o

/-- The charter's arrival margin (R55). -/
def arrMargin (s : State) : Nat := s.cht.loaded.arrMargin

/-- The flight of an owner that a stamp joins: the earliest whose cut-off is later (R28, R55). Assumption 33 (DEDUCED). -/
def joinFlight (s : State) (o : SetOwner) (stamp : Treads) : Nat := (stamp + arrMargin s) / setPeriod s o + 1

/-- The owner of the sets that a record of a kind and object joins (R144). -/
def recOwner (kind object : Nat) : SetOwner :=
  match kind with
  | 2 => .stream object
  | 3 => .input object
  | 4 => .input object
  | _ => .audio

/-- The set of an owner and flight. -/
def setOf (s : State) (o : SetOwner) (flight : Nat) : Option ArrSet :=
  s.ports.sets.find? fun x => x.owner == o && x.flight == flight

/-- Replace a set, or add it. -/
def putSet (x : ArrSet) (s : State) : State :=
  let has := s.ports.sets.any fun y => y.owner == x.owner && y.flight == x.flight
  let sets := if has then s.ports.sets.map fun y => if y.owner == x.owner && y.flight == x.flight then x else y
    else s.ports.sets ++ [x]
  { s with ports := { s.ports with sets := sets } }

/-- The set of an owner and flight, empty where no record has joined it. -/
def setOrNew (s : State) (o : SetOwner) (flight : Nat) : ArrSet :=
  (setOf s o flight).getD ⟨o, flight, [], false, false, false, false⟩

/-- Records that the arrival store can hold. -/
def storeSize : Nat := 262144

/-- Whether a task takes an owner's sets as an operand. -/
def takesSet (s : State) (o : SetOwner) (t : Nat) : Bool :=
  setOwnerOf t == o && (List.range 15).any fun n => opKind s t n == 1

/-- Whether every task that takes a set has completed, and its record release has stored it or no archive is mounted
(R145). -/
def setConsumed (s : State) (x : ArrSet) : Bool :=
  let at_ := setStart s x.owner x.flight
  x.final && (x.stored || getF s Reg.UCR_STAT_MOUNT != 2) && !(x.recs.any trustOpen) && decide (at_ < s.now) &&
  (validTasks s).all fun t => !takesSet s x.owner t || !taskLive s t ||
    ((sgetC none s.stw.reached t).any (fun i => decide (at_ ≤ i)) && (openOf s t).all fun r => r.flight != x.flight)

/-- Records that the arrival store holds: those of sets that are open or not yet consumed (R145). -/
def storeCount (s : State) : Nat := s.ports.sets.foldl (fun n x => if setConsumed s x then n else n + x.recs.length) 0

/-- Whether a unit may use a record: a plain one, or one that the cipher engine trusts (R170, R196, R238). -/
def recUsable (r : ArrRec) : Bool :=
  match r.trust with | .plain => true | .trusted => true | _ => false

/-- Consumed sets leave the store. -/
def retireSets (s : State) : State :=
  { s with ports := { s.ports with sets := s.ports.sets.filter fun x => !setConsumed s x } }

/-- The key of the object whose RTCP a record carries (Table 3 of Media ports and leg queues, OTYPE). -/
def rtcpObject (r : ArrRec) : Nat := objKey (match r.otype with | 0 => 1 | 1 => 2 | _ => 6) r.object

/-- One RTCP packet of a record in the set of an audio flight (R147). -/
def rtcpItem (r : ArrRec) (flight : Nat) (i : RtcpItem) (s : State) : State :=
  match i with
  | .ccfb reports =>
    if r.otype = 2 then { s with ports := { s.ports with reports := s.ports.reports ++ [⟨r.object, reports⟩] } } else s
  | .pli => if r.otype = 2 then { s with ports := { s.ports with keyReqs := s.ports.keyReqs ++ [(r.object, flight)] } } else s
  | .fir => if r.otype = 2 then { s with ports := { s.ports with keyReqs := s.ports.keyReqs ++ [(r.object, flight)] } } else s
  | .sr _ mid =>
    { s with ports := { s.ports with senderSr := ssetC none s.ports.senderSr (rtcpObject r) (some (mid, r.stamp)) } }
  | .bye => raiseEvent 0x0AB s
  | .other => if r.port < 4 then incF s (Reg.ETH_CNT_COUNT r.port 10) else s

/-- The RTCP of a record that may be used. -/
def rtcpRecord (r : ArrRec) (flight : Nat) (s : State) : State :=
  if r.kind = 5 then (rtcpParse r.payload).foldl (fun s i => rtcpItem r flight i s) s else s

end Sys2Proof.Machine
end

