-- ==== Sys2Proof/Machine/Gallery.lean ====
section
/-! DEFINITION. The Gallery: the input table, buses, recipes, the limiter, output packets, side-tone, ramps and meters. -/

namespace Sys2Proof.Machine

/-- Replace the Gallery's state. -/
def setGal (x : GalUnit) (s : State) : State := { s with gal := x }

/-- Samples of an audio flight. -/
def flightSamples (s : State) : Nat := flightLen s / 2940

/-- Start of an audio flight. -/
def flightStart (s : State) (f : Nat) : Treads := f * flightLen s

/-! ### Input table (R213, R198, R199) -/

/-- The key of a flight and leg. -/
def galKey (f leg : Nat) : Nat := f * 16384 + leg

/-- The input slots of a leg in a flight; a list shorter than the flight ends in absent slots. -/
def slotsOf (s : State) (f leg : Nat) : List InSlot := sgetC [] s.gal.inputs (galKey f leg)

/-- Write element i of a list padded with d. -/
def setPad {α : Type} (d : α) (l : List α) (i : Nat) (v : α) : List α :=
  (l ++ List.replicate (i + 1 - l.length) d).set i v

/-- A PUT reaches an input slot; a slot that a generator has written keeps the generator's sample (R199). -/
def galPut (f leg i : Nat) (v : InSlot) (gen : Bool) (s : State) : State :=
  let k := galKey f leg
  let marks := sgetC [] s.gal.genSlots k
  if leg ≥ 10240 ∨ flightSamples s ≤ i ∨ (marks.getD i false && !gen) then s
  else setGal { s.gal with
    inputs := ssetC [] s.gal.inputs k (setPad .absent (slotsOf s f leg) i v)
    genSlots := if gen then ssetC [] s.gal.genSlots k (setPad false marks i true) else s.gal.genSlots } s

/-- The input value of a slot (R213). -/
def slotValue : InSlot → Int
  | .present x => x
  | .concealed x => x
  | _ => 0

/-- Input value of a leg at sample i of a flight. -/
def inputAt (s : State) (f leg i : Nat) : Int := slotValue ((slotsOf s f leg).getD i .absent)

/-! ### Gains and ramps (R218, R227, R228) -/

/-- The gain segment that holds at media sample τ. -/
def segAt (τ : Nat) (rs : List Ramp) : Option Ramp := rs.find? fun r => decide (r.start ≤ τ)

/-- The gain of a segment at media sample τ. -/
def rampGain (r : Ramp) (τ : Nat) : Int :=
  if τ < r.start + r.len then r.g0 + ((r.g1 - r.g0) * ((τ - r.start + 1 : Nat) : Int)).tdiv r.len else r.g1

/-- Whether a segment's crosspoint is active at media sample τ: a ramp out is, until its ramp ends. -/
def rampOn (r : Ramp) (τ : Nat) : Bool := r.on || decide (τ < r.start + r.len)

/-- Samples of a RAMP field. -/
def rampLen : Nat → Nat
  | 0 => 0 | 1 => 16 | 2 => 32 | _ => 64

/-- The segment of crosspoint e as its committed words give it without any ramp. -/
def xpStored (s : State) (e start : Nat) : Ramp :=
  let g := toSigned 20 (getF s (Reg.XP_GAIN e))
  ⟨getF s (Reg.XP_LEG e), getF s (Reg.XP_BUS e), getF s (Reg.XP_VALID e) == 1, g, g, start, 0⟩

/-- The segment of crosspoint e at media sample τ. -/
def xpAt (s : State) (e τ : Nat) : Ramp := (segAt τ (sgetC [] s.gal.gains e)).getD (xpStored s e 0)

/-- The crosspoints that may be active. -/
def xpEntries (s : State) : List Nat :=
  let live := s.regs.filterMap fun w =>
    if 0x82000000 ≤ w.1 ∧ w.1 < 0x82200000 ∧ w.1 % 8 = 0 ∧ w.2.getLsbD 26 then some ((w.1 - 0x82000000) / 8) else none
  live ++ ((s.gal.gains.map (·.1)).filter fun e => !live.contains e)

/-- The active crosspoints at media sample τ. -/
def activeXps (s : State) (τ : Nat) : List (Nat × Ramp) :=
  ((xpEntries s).map fun e => (e, xpAt s e τ)).filter fun x => rampOn x.2 τ

/-- A signed gain field as committed for a flight's start. -/
def gainF (s : State) (t : Treads) (f : Fld) : Int := cfgS s t 20 f

/-- The valid crosspoint that carries a leg into a bus, as committed. -/
def xpOf (s : State) (leg bus : Nat) : Option Nat :=
  (xpEntries s).find? fun e => getF s (Reg.XP_VALID e) == 1 && getF s (Reg.XP_LEG e) == leg && getF s (Reg.XP_BUS e) == bus

/-- The automatic gain of R218 for an excluded leg of a recipe, over the committed configuration. -/
def autoFormula (s : State) (leg v : Nat) : Int :=
  satTo 20 (((List.range 8).filter fun j => getF s (Reg.RCP_TERM_EN leg j) == 1).foldl (fun h j =>
    let b := getF s (Reg.RCP_TERM_BUS leg j)
    match xpOf s v b with
    | some e => h + shrI (toSigned 20 (getF s (Reg.RCP_TERM_GAIN leg j)) * toSigned 20 (getF s (Reg.GAL_BUS_GAIN_GAIN b)) *
        toSigned 20 (getF s (Reg.XP_GAIN e)) + 2 ^ 35) 36
    | none => h) 0)

/-- The leg that exclusion m of a recipe takes away (4 is the leg itself), where its gain is automatic and it is on. -/
def autoLeg (s : State) (leg m : Nat) : Option Nat :=
  if m = 4 then
    if getF s (Reg.RCP_SELF_EN leg) = 1 ∧ getF s (Reg.RCP_SELF_AUTO leg) = 1 then some leg else none
  else if getF s (Reg.RCP_EXCL_EN leg m) = 1 ∧ getF s (Reg.RCP_EXCL_AUTO leg m) = 1 then some (getF s (Reg.RCP_EXCL_LEG leg m))
  else none

/-- The automatic gain of exclusion m of a leg at media sample τ. -/
def autoAt (s : State) (leg m τ : Nat) : Int :=
  match segAt τ (sgetC [] s.gal.autos (leg * 8 + m)) with
  | some r => rampGain r τ
  | none => match autoLeg s leg m with
    | some v => autoFormula s leg v
    | none => 0

/-- Add a segment; the old ones stay for the work of earlier flights. -/
def pushSeg (base r : Ramp) (rs : List Ramp) : List Ramp := r :: (if rs.isEmpty then [base] else rs)

/-- A commit at media sample τ changes crosspoint e (R227, R228); `old` is the state before it. Assumption 93 (DEDUCED). -/
def xpCommit (old : State) (τ e : Nat) (s : State) : State :=
  let a := xpStored old e 0
  let b := xpStored s e τ
  let now := xpAt old e (τ - 1)
  let on := rampOn now (τ - 1)
  let n := rampLen (getF s (Reg.XP_RAMP e))
  let put := fun r => setGal { s.gal with gains := ssetC [] s.gal.gains e (pushSeg a r (sgetC [] s.gal.gains e)) } s
  if a.on = b.on ∧ (!b.on ∨ (a.leg = b.leg ∧ a.bus = b.bus ∧ a.g1 = b.g1)) then s
  else if b.on then
    let same := on && now.leg == b.leg && now.bus == b.bus
    put { b with g0 := if same then rampGain now (τ - 1) else 0, len := n }
  else put { now with on := false, g0 := rampGain now (τ - 1), g1 := 0, start := τ, len := n }

/-- Whether a commit changed the target of the crosspoint of a leg and a bus, and over which ramp. -/
def xpChange (old s : State) (leg bus : Nat) : Nat :=
  let new := (xpOf s leg bus).filter fun e =>
    xpOf old leg bus != some e || getF old (Reg.XP_GAIN e) != getF s (Reg.XP_GAIN e)
  let gone := (xpOf old leg bus).filter fun e => xpOf s leg bus != some e
  max ((new.map fun e => rampLen (getF s (Reg.XP_RAMP e))).getD 0) ((gone.map fun e => rampLen (getF s (Reg.XP_RAMP e))).getD 0)

/-- A constant automatic gain from a media sample on; without a leg it is 0. -/
def autoSeg (s : State) (leg : Nat) (v : Option Nat) (start : Nat) : Ramp :=
  let h := (v.map (autoFormula s leg)).getD 0
  ⟨v.getD 0, 0, v.isSome, h, h, start, 0⟩

/-- A commit at media sample τ recomputes the automatic gain of exclusion m of a leg (R218): a new or another excluded leg steps,
the same one follows the ramp of the crosspoint that changed. The flights before it keep their gain. -/
def autoCommit (old : State) (τ leg m : Nat) (s : State) : State :=
  let a := autoLeg old leg m
  let b := autoLeg s leg m
  let put := fun (r : Ramp) =>
    setGal { s.gal with autos := ssetC [] s.gal.autos (leg * 8 + m) (pushSeg (autoSeg old leg a 0) r (sgetC [] s.gal.autos (leg * 8 + m))) } s
  if a ≠ b then put (autoSeg s leg b τ)
  else match b with
    | none => s
    | some v =>
      let h := autoFormula s leg v
      let buses := ((List.range 8).filter fun j => getF s (Reg.RCP_TERM_EN leg j) == 1).map fun j => getF s (Reg.RCP_TERM_BUS leg j)
      if h = autoFormula old leg v then s
      else put ⟨v, 0, true, autoAt old leg m (τ - 1), h, τ, buses.foldl (fun n b => max n (xpChange old s v b)) 0⟩

/-- Legs whose recipe words are not all zero. -/
def recipeLegs (s : State) : List Nat :=
  ((s.regs.filter fun w => decide (0x82400000 ≤ w.1) && decide (w.1 < 0x82540000)).map fun w => (w.1 - 0x82400000) / 128).eraseDups

/-- An SRAM word that a table word's address names. -/
def galWordOf (a : Nat) : Option GalWord :=
  if 0x82000000 ≤ a ∧ a < 0x82200000 then some (.xpoint ((a - 0x82000000) / 8))
  else if 0x82400000 ≤ a ∧ a < 0x82540000 then some (.recipe ((a - 0x82400000) / 128))
  else if 0x1801000 ≤ a ∧ a < 0x1802000 then some (.busGain ((a - 0x1801000) / 4))
  else none

/-- What a commit at the start of a flight does in the Gallery (R218, R219, R226 to R228, R232): `old` is the state before
its words changed, `addrs` the words that it wrote. -/
def galCommit (old : State) (addrs : List Nat) (s : State) : State :=
  let τ := s.now / 2940
  let words := addrs.filterMap galWordOf
  let s := setGal { s.gal with badWords := s.gal.badWords.filter (fun w => !words.contains w) } s
  let xps := (words.filterMap fun w => match w with | .xpoint e => some e | _ => none).eraseDups
  let s := xps.foldl (fun s e => xpCommit old τ e s) s
  if words.isEmpty then s
  else (recipeLegs old ++ recipeLegs s).eraseDups.foldl (fun s leg => (List.range 5).foldl (fun s m => autoCommit old τ leg m s) s) s

/-! ### SRAM faults (R232) -/

/-- Table and index of a word (GAL_ERR_LAST), and whether it is a table or bus gain word. -/
def galWordIndex : GalWord → Nat × Nat × Bool
  | .xpoint e => (0, e, true) | .recipe l => (1, l, true) | .busGain b => (3, b, true)
  | .busStore b => (2, b, false) | .delayLine l => (2, l, false)

/-- A word fails its check as a task reads it. -/
def galUncorrected (w : GalWord) (s : State) : State :=
  let (tab, ix, isTab) := galWordIndex w
  let s := incF s (Reg.GAL_CNT_COUNT 7)
  let s := setF (setF s Reg.GAL_ERR_LAST_TABLE tab) Reg.GAL_ERR_LAST_INDEX ix
  raiseEvent 0x125 (captureError .gal (if isTab then 0x02 else 0x03) 2 false ix 0 none s)

/-- A single-bit error is corrected. -/
def galCorrected (w : GalWord) (s : State) : State :=
  raiseEvent 0x124 (captureError .gal 0x01 1 false (galWordIndex w).2.1 0 none (incF s (Reg.GAL_CNT_COUNT 6)))

/-- The errors that a task's reads met, corrected or not, and the words that still fail: what the task reads that fails.
Assumption 90 (DEDUCED). -/
def galFaults (faults : List (GalWord × Bool)) (reads : GalWord → Bool) (s : State) : List GalWord × State :=
  let s := faults.foldl (fun s f => if f.2 then s else galCorrected f.1 s) s
  let new := (faults.filter (·.2)).map (·.1)
  let bad := (s.gal.badWords.filter reads) ++ new.filter fun w => !(s.gal.badWords.contains w)
  let s := bad.foldl (fun s w => galUncorrected w s) s
  let keep := new.filter fun w => (galWordIndex w).2.2 && !s.gal.badWords.contains w
  (bad, setGal { s.gal with badWords := s.gal.badWords ++ keep } s)

/-- A happening whose event is due at the end of the flight (R233). -/
def galDue (e : Nat) (s : State) : State :=
  if s.gal.due.contains e then s else setGal { s.gal with due := s.gal.due ++ [e] } s

/-! ### Buses (R212, R215) -/

/-- The bus value before saturation at sample i of a flight. -/
def busSum (s : State) (f i : Nat) (xs : List (Nat × Ramp)) (gain : Int) : Int :=
  let τ := f * flightSamples s + i
  let S := xs.foldl (fun a x => a + shrI (inputAt s f x.2.leg i * rampGain x.2 τ + 131072) 18) (0 : Int)
  shrI (S * gain + 131072) 18

/-- Bus values and whether they are poisoned (the key is flight and bus). -/
def busOf (s : State) (f b : Nat) : List Int × Bool := sgetC ([], false) s.gal.buses (f * 1024 + b)

/-- n open samples of a task in a flight, from sample i on. -/
def openSamples (task f i n : Nat) : List Int := (List.range n).map fun j => Config.openSample task f (i + j)

/-- One bus of a bus task. -/
def runBus (f b : Nat) (bad : List GalWord) (s : State) : State :=
  let n := flightSamples s
  let τ0 := f * n
  let on := fun i => (activeXps s (τ0 + i)).filter fun x => x.2.bus == b
  let gain := gainF s (flightStart s f) (Reg.GAL_BUS_GAIN_GAIN b)
  let raw := (List.range n).map fun i => busSum s f i (on i) gain
  let hit := bad.any fun w => match w with
    | .xpoint e => (List.range n).any fun i => (on i).any fun x => x.1 == e
    | .busGain g => g == b
    | .busStore g => g == b
    | _ => false
  let clips := raw.countP fun v => satTo 32 v != v
  let vals := (if hit then openSamples (21632 + b / 32) f (64 * (b % 32)) n else raw).map (satTo 32)
  let s := setGal { s.gal with buses := ssetC ([], false) s.gal.buses (f * 1024 + b) (vals, hit) } s
  let s := setF s (Reg.BST_PEAK b) (vals.foldl (fun m v => max m v.natAbs) 0)
  let s := setL s (Reg.BST_XPOINTS b) (on (n - 1)).length
  if clips = 0 then s
  else galDue 0x120 (addF (addF s (Reg.BST_CLIP b) clips) (Reg.GAL_CNT_COUNT 2) clips)

/-- The bus that a failing word matters to is one of a bus task's. -/
def busTaskReads (s : State) (n f : Nat) (w : GalWord) : Bool :=
  let τ := f * flightSamples s
  let mine := fun b => b / 32 == n
  match w with
  | .xpoint e => (rampOn (xpAt s e τ) τ && mine (xpAt s e τ).bus)
  | .busGain b => mine b
  | .busStore b => mine b
  | _ => false

/-- BUS_TASK: bus task n of the flight of its running release (R212, R215). -/
def busTask (n : Nat) (faults : List (GalWord × Bool)) (s : State) : State :=
  match runningOf s (21632 + n) with
  | none => s
  | some r =>
    if s.gal.busDone.contains (r.flight, n) then s
    else
      let (bad, s) := galFaults faults (busTaskReads s n r.flight) s
      let s := (List.range 32).foldl (fun s i => runBus r.flight (32 * n + i) bad s) s
      let s := setL s Reg.GAL_STAT_ACTIVE_XP (activeXps s ((r.flight + 1) * flightSamples s - 1)).length
      setExit (21632 + n) 0 (setGal { s.gal with busDone := s.gal.busDone ++ [(r.flight, n)] } s)

/-! ### Recipes and the limiter (R217, R219) -/

/-- The gain of exclusion m of a leg in force at media sample τ (m = 4: the leg itself). -/
def exclGain (s : State) (t : Treads) (leg m τ : Nat) : Int :=
  if cfgF s t (if m = 4 then Reg.RCP_SELF_AUTO leg else Reg.RCP_EXCL_AUTO leg m) = 1 then autoAt s leg m τ
  else gainF s t (if m = 4 then Reg.RCP_SELF_GAIN leg else Reg.RCP_EXCL_GAIN leg m)

/-- The enabled terms of a leg's recipe. -/
def termsOf (s : State) (t : Treads) (leg : Nat) : List Nat := (List.range 8).filter fun j => cfgF s t (Reg.RCP_TERM_EN leg j) == 1

/-- The exclusions of a leg's recipe that are on, with the legs that they take away, its own first. -/
def exclsOf (s : State) (t : Treads) (leg : Nat) : List (Nat × Nat) :=
  (if cfgF s t (Reg.RCP_SELF_EN leg) = 1 then [(4, leg)] else []) ++
  ((List.range 4).filter fun m => cfgF s t (Reg.RCP_EXCL_EN leg m) == 1).map fun m => (m, cfgF s t (Reg.RCP_EXCL_LEG leg m))

/-- The recipe sum R of a leg at sample i of a flight (R217). -/
def recipeSum (s : State) (f leg i : Nat) : Int :=
  let t := flightStart s f
  let τ := f * flightSamples s + i
  let a := (termsOf s t leg).foldl (fun R j =>
    R + shrI ((busOf s f (cfgF s t (Reg.RCP_TERM_BUS leg j))).1.getD i 0 * gainF s t (Reg.RCP_TERM_GAIN leg j) + 131072) 18)
    (0 : Int)
  (exclsOf s t leg).foldl (fun R e => R - shrI (inputAt s f e.2 i * exclGain s t leg e.1 τ + 131072) 18) a

/-- A limiter at enable: sixteen zero samples whose q is unity, G unity. -/
def limInit : LimState := ⟨List.replicate 16 0, List.replicate 31 262144, 0x40000⟩

/-- Leg l's limiter. -/
def limOf (s : State) (leg : Nat) : LimState := sgetC limInit s.gal.limiters leg

/-- The smallest number of a list. -/
def minList (d : Nat) (l : List Nat) : Nat := l.foldl min d

/-- One sample of the limiter up to G (R219): the new state, and the sum and gain of the output. -/
def limStep (x : LimState) (thr rel : Nat) (R : Int) : LimState × Int × Nat :=
  let q := if R.natAbs ≤ thr then 262144 else thr * 262144 / R.natAbs
  let qs := q :: x.qs
  let ws := (List.range 16).map fun j => minList 262144 ((qs.drop j).take 17)
  let a := ws.foldl (· + ·) 0 / 16
  let g := min a (x.gain + rel)
  (⟨(R :: x.rs).take 16, qs.take 31, g⟩, x.rs.getD 15 0, g)

/-- The limiter over the sums of a flight, oldest first. -/
def limRun (thr rel : Nat) : LimState → List Int → LimState × List (Int × Nat)
  | x, [] => (x, [])
  | x, R :: Rs =>
    let y := limStep x thr rel R
    let z := limRun thr rel y.1 Rs
    (z.1, y.2 :: z.2)

/-- The output y before its side-tone is bounded: v of R219. -/
def outV (o : OutSample) (st : Int) : Int := shrI ((o.r + st) * o.gain + 131072) 18

/-- The output samples of a leg in a flight. -/
def outputsOf (s : State) (f leg : Nat) : List OutSample := sgetC [] s.gal.outputs (galKey f leg)

/-- An output sample that no recipe has given: silence. -/
def outSilent : OutSample := ⟨0, 0x40000, false⟩

/-- The output of a leg at an output time. Assumption 92 (DEDUCED). -/
def outAt (s : State) (leg : Nat) (t : Treads) : Option OutSample :=
  (outputsOf s (flightNumber s t) leg)[t % flightLen s / 2940]?

/-! ### Side-tone (R224) -/

/-- The number nearest `near` that equals ts modulo 2³²: a timestamp unwrapped. -/
def unwrapTs (near : Int) (ts : Nat) : Int :=
  let d := ((ts : Int) - near) % 4294967296
  near + (if d ≤ 2147483648 then d else d - 4294967296)

/-- The value of a PCM sample's bytes on the 24-bit scale: L24, or L16 times 256 (Table 4, IN_FMT). -/
def pcmSample (fmt : Nat) (bs : List Byte) : Int :=
  if fmt = 2 then toSigned 16 (beNat (bs.take 2)) * 256 else toSigned 24 (beNat (bs.take 3))

/-- Bytes of a PCM sample of a format. -/
def pcmBytes (fmt : Nat) : Nat := if fmt = 2 then 2 else 3

/-- Sample j of a record's channel for a leg. -/
def recSample (r : ArrRec) (fmt leg j : Nat) : Option Int :=
  let n := pcmBytes fmt
  let at_ := (j * r.chans + (leg - r.object)) * n
  if at_ + n ≤ r.payload.length then some (pcmSample fmt (r.payload.drop at_)) else none

/-- The slot of an output packet (R139). -/
def audioSlot (t0 p L : Treads) : Treads :=
  let e := nextBoundary (t0 + p) L
  if e < t0 + L then t0 + L else e

/-- Whether a leg takes PCM at 48 kHz in 125 µs packets in the flight that starts at c (R223). -/
def pcmPlain (s : State) (c : Treads) (leg : Nat) : Bool :=
  let fmt := cfgF s c (Reg.LEG_IN_FMT leg)
  (fmt == 1 || fmt == 2) && cfgF s c (Reg.LEG_IN_RATE leg) == 0 && cfgF s c (Reg.LEG_IN_PTIME leg) == 0

/-- The side-tone sample of a leg for output time t, from the records stamped before a cut-off. -/
def sideSample (s : State) (leg : Nat) (t cut : Treads) : Option Int :=
  let c := flightStart s (flightNumber s t)
  let want : Int := ((t / 2940 : Nat) : Int) - cfgF s c (Reg.RCP_ST_DELAY leg)
  let fmt := cfgF s c (Reg.LEG_IN_FMT leg)
  s.gal.stRecs.findSome? fun r =>
    if r.stamp < cut ∧ r.object ≤ leg ∧ leg < r.object + r.chans ∧ pcmPlain s c leg then
      let j := want - unwrapTs want r.rtpTs
      if 0 ≤ j then recSample r fmt leg j.toNat else none
    else none

/-- Whether a leg's recipe has side-tone at an output time. -/
def sideOn (s : State) (leg : Nat) (t : Treads) : Bool :=
  let c := flightStart s (flightNumber s t)
  cfgF s c (Reg.RCP_ST_EN leg) == 1 && cfgF s c (Reg.RCP_EN leg) == 1

/-- ST(t) of a leg, and whether its sample is missing. -/
def sideTone (s : State) (leg : Nat) (t cut : Treads) : Int × Bool :=
  if !sideOn s leg t then (0, false)
  else match sideSample s leg t cut with
    | some x => (shrI (x * gainF s (flightStart s (flightNumber s t)) (Reg.RCP_ST_GAIN leg) + 131072) 18, false)
    | none => (0, true)

/-- The side-tone cut-off that a record precedes: the slots of side-tone packets lie at multiples of 17,640 treads, and
their cut-offs 8,820 treads before them. -/
def sideCutoff (stamp : Treads) : Treads := (stamp + 8820) / 17640 * 17640 + 8820

/-- A record of a side-tone leg goes to the partner as it arrives (R225, R416). -/
def forwardSide (r : ArrRec) (s : State) : State :=
  if s.twin.unionFrom.isSome ∧ (List.range r.chans).any (fun c => getF s (Reg.RCP_ST_EN (r.object + c)) == 1) then
    sendNewel (.copy (sideCutoff r.stamp) r) (incF s (Reg.NWL_CNT_COUNT 3))
  else s

/-- Whether two records are the same packet (R414). -/
def samePacket (a b : ArrRec) : Bool :=
  a.kind == b.kind && a.object == b.object && a.seq == b.seq && a.rtpTs == b.rtpTs && a.pcrc == b.pcrc

/-- Whether one record comes before another in the order in which a side-tone set is searched, on both devices of a pair alike. -/
def sideBefore (a b : ArrRec) : Bool :=
  if a.rtpTs ≠ b.rtpTs then decide (a.rtpTs < b.rtpTs) else if a.seq ≠ b.seq then decide (a.seq < b.seq)
  else if a.object ≠ b.object then decide (a.object < b.object) else decide (a.pcrc.toNat < b.pcrc.toNat)

/-- Insert a record in that order; of one packet the earlier stamp stands. -/
def sideInsert (r : ArrRec) : List ArrRec → List ArrRec
  | [] => [r]
  | x :: xs =>
    if samePacket r x then (if r.stamp < x.stamp then r else x) :: xs
    else if sideBefore r x then r :: x :: xs else x :: sideInsert r xs

/-- An audio record that is not protected may serve as side-tone (R224, R225). -/
def keepSide (r : ArrRec) (s : State) : State :=
  if r.kind = 1 ∧ r.trust = .plain then setGal { s.gal with stRecs := sideInsert r s.gal.stRecs } s else s

/-- Records that a union loses are no side-tone either (R415). -/
def dropSide (lost : ArrRec → Bool) (s : State) : State := setGal { s.gal with stRecs := s.gal.stRecs.filter fun r => !lost r } s

/-- A record that the merge accepted may serve as side-tone. -/
def sideRecord (r : ArrRec) (s : State) : State :=
  if r.kind = 1 ∧ r.trust = .plain then forwardSide r (keepSide r s) else s

/-! ### Meters (R230, R231) -/

/-- The mean square after one sample. -/
def msStep (shift ms : Nat) (v : Int) : Nat := ((ms : Int) + shrI (v * v - ms) shift).toNat

/-- The peak magnitude of a flight's samples. -/
def peakOf (vs : List Int) : Nat := vs.foldl (fun m v => max m (min 8388607 v.natAbs)) 0

/-- The hold and its age after a flight. -/
def holdStep (s : State) (t : Treads) (n peak hold age : Nat) : Nat × Nat :=
  if hold ≤ peak then (peak, 0)
  else if age < cfgF s t Reg.GAL_METER_CFG_HOLD_MS * 48 then (hold, age + n)
  else (max peak (hold - hold * s.cht.loaded.k / 2 ^ (cfgF s t Reg.GAL_METER_CFG_DECAY_SHIFT + 3)), age)

/-- A leg's meter memory. Assumption 94 (DEDUCED). -/
def meterOf (s : State) (leg : Nat) : MeterState := sgetC ⟨0, 0, 0, 0, 0, 0⟩ s.gal.meters leg

/-- The cut-off of the side-tone set of the 125 µs packet that carries an output time. -/
def sideCut (s : State) (t : Treads) : Treads := audioSlot (t / 17640 * 17640) 17640 (flightLen s) - 8820

/-- The outputs of a leg in a flight with their side-tone, before they are bounded, and whether each misses it. -/
def meterOutputs (s : State) (f leg : Nat) : List (Int × Bool) :=
  ((List.range (flightSamples s)).zip (outputsOf s f leg)).map fun o =>
    let t := flightStart s f + 2940 * o.1
    let st := sideTone s leg t (sideCut s t)
    (outV o.2 st.1, st.2)

/-- Meter a leg's flight (R230): inputs, outputs, the smallest G and the flags. -/
def meterLeg (x : MeterPart) (s : State) : State :=
  let f := x.flight
  let leg := x.leg
  let t := flightStart s f
  let n := flightSamples s
  let m := meterOf s leg
  let sh := cfgF s t Reg.GAL_METER_CFG_RMS_SHIFT
  let out := meterOutputs s f leg
  let ys := out.map fun v => satTo 24 v.1
  let inMs := x.inputs.foldl (fun a v => msStep sh a v) m.inMs
  let outMs := ys.foldl (fun a v => msStep sh a v) m.outMs
  let ih := holdStep s t n (peakOf x.inputs) m.inHold m.inAge
  let oh := holdStep s t n (peakOf ys) m.outHold m.outAge
  let flag := fun (b : Bool) k => if b then 2 ^ k else 0
  let flags := x.flags + flag (out.any fun v => satTo 24 v.1 != v.1) 3 + flag (out.any (·.2)) 4
  let limMin := minList 0x40000 ((outputsOf s f leg).map (·.gain))
  let words := [f, f / 4294967296, peakOf x.inputs, Nat.sqrt inMs, ih.1, peakOf ys, Nat.sqrt outMs, oh.1, limMin, flags]
  let s := ((List.range 10).zip words).foldl (fun s w => rset s (0x82600000 + 64 * leg + 4 * w.1) (BitVec.ofNat 32 w.2)) s
  setGal { s.gal with
    meters := ssetC ⟨0, 0, 0, 0, 0, 0⟩ s.gal.meters leg ⟨inMs, outMs, ih.1, ih.2, oh.1, oh.2⟩
    shown := ⟨leg, f, words⟩ :: s.gal.shown
    metered := if s.gal.metered.contains leg then s.gal.metered else s.gal.metered ++ [leg] } s

/-- Publish a flight's meters at once (R231). -/
def publishMeters (f : Nat) (s : State) : State :=
  let mine := s.gal.fresh.filter fun m => m.flight == f
  let s := mine.foldl (fun s m => meterLeg m s) s
  let s := setGal { s.gal with
    fresh := s.gal.fresh.filter (fun m => m.flight != f)
    meterDue := s.gal.meterDue.filter (· != f)
    metersAt := some f
    shown := s.gal.shown.filter (fun m => decide (f ≤ m.flight + 1024)) } s
  settle (set64 s Reg.GAL_FLIGHT_DONE_N_LO.addr f)

/-- Whether the meters of a flight whose recipes are done can be worked out: R230 takes the outputs with their side-tone, whose last set
is final when its packet is written (R224). Assumption 170 (DESIGN CHOICE). -/
def metersReady (s : State) (f : Nat) : Bool :=
  let side := s.gal.fresh.any fun m => m.flight == f && sideOn s m.leg (flightStart s f)
  !side || decide (sideCut s (flightStart s (f + 1) - 2940) + 7350 ≤ s.now)

/-- Publish the flights whose meters are due and ready, the oldest first. -/
def publishDue : Nat → State → State
  | 0, s => s
  | k + 1, s =>
    match s.gal.meterDue with
    | [] => s
    | f :: fs =>
      let f := fs.foldl min f
      if metersReady s f then publishDue k (publishMeters f s) else s

/-- Publish what can be published. -/
def publishAll (s : State) : State := publishDue s.gal.meterDue.length s

/-! ### Output packets (R220, R221) -/

/-- The octets of one output sample (R220). -/
def pcmOut (fmt : Nat) (y : Int) : List Byte :=
  if fmt = 2 then beBytes 2 (ofSigned 16 (satTo 16 (shrI (y + 128) 8))) else beBytes 3 (ofSigned 24 y)

/-- Treads of a packet time (Table 4, PTIME). -/
def ptimeTreads : Nat → Nat
  | 0 => 17640 | 1 => 35280 | 2 => 47040 | 3 => 141120 | 4 => 564480 | 5 => 1411200 | _ => 2822400

/-- The channel legs of a packet. -/
def pktLegs (p : OutPkt) : List Nat := (List.range (p.chans + 1)).map (p.leg + ·)

/-- The output times of a packet. -/
def pktTimes (p : OutPkt) : List Treads := (List.range (p.ptime / 2940)).map fun i => p.t0 + 2940 * i

/-- Whether a leg has its output of an output time: a sample, or silence where its recipe task is done and gave none (R220). -/
def outGiven (s : State) (l : Nat) (t : Treads) : Bool :=
  (outAt s l t).isSome || s.gal.recDone.contains (flightNumber s t, l / 256) || !taskLive s (21664 + l / 256)

/-- Whether every output sample of a packet has been given. -/
def pktReady (s : State) (p : OutPkt) : Bool := (pktLegs p).all fun l => l ≥ 10240 || (pktTimes p).all (outGiven s l)

/-- The output y of a leg at an output time, with its side-tone, and the side-tone's miss; each sample that saturates or
misses its side-tone counts, for a leg with side-tone (R219, R224). -/
def finishSample (leg : Nat) (t cut : Treads) (s : State) : Int × State :=
  let o := (outAt s leg t).getD outSilent
  let st := sideTone s leg t cut
  let v := outV o st.1
  let s := if st.2 then galDue 0x122 (incL (incF s (Reg.GAL_CNT_COUNT 4)) (Reg.RCP_ST_MISS leg)) else s
  let s := if sideOn s leg t && satTo 24 v != v then galDue 0x121 (incL (incF s (Reg.GAL_CNT_COUNT 3)) (Reg.RCP_OUT_CLIP leg)) else s
  (satTo 24 v, s)

/-- Write a packet into its queues. -/
def writePacket (p : OutPkt) (s : State) : State :=
  let L := flightLen s
  let slot := audioSlot p.t0 p.ptime L
  let cells := (pktTimes p).flatMap fun t => (pktLegs p).map fun l => (l, t)
  let r := cells.foldl (fun (a : List Byte × State) c =>
    let y := finishSample c.1 c.2 (slot - 8820) a.2
    (a.1 ++ pcmOut p.fmt y.1, y.2)) ([], s)
  let poison := cells.any fun c => ((outAt s c.1 c.2).getD outSilent).bad
  let h : PktPrefix := ⟨slot, r.1.length, (p.t0 / 2940 + p.tsOfs) % 4294967296, false, false⟩
  let s := setGal { r.2.gal with packets := r.2.gal.packets.filter (· != p) } r.2
  p.queues.foldl (fun s q => emitPacket q (21664 + p.leg / 256) h r.1 poison s) s

/-- The packets of a leg whose first output time lies in a flight. -/
def beginPackets (f leg : Nat) (s : State) : State :=
  let t := flightStart s f
  let fmt := cfgF s t (Reg.LEG_OUT_FMT leg)
  let p := ptimeTreads (cfgF s t (Reg.LEG_OUT_PTIME leg))
  let chans := cfgF s t (Reg.LEG_OUT_CHANNELS leg)
  let queues := (if cfgF s t (Reg.LEG_A_EN leg) = 1 then [cfgF s t (Reg.LEG_QUEUE_A leg)] else []) ++
    (if cfgF s t (Reg.LEG_B_EN leg) = 1 then [cfgF s t (Reg.LEG_QUEUE_B leg)] else [])
  let starts := ((List.range (flightSamples s)).map fun i => t + 2940 * i).filter fun t0 => treadsOf t0 % p == 0
  let side := (List.range (chans + 1)).any fun c => cfgF s t (Reg.RCP_ST_EN (leg + c)) == 1
  if fmt = 1 ∨ fmt = 2 then
    let new := starts.map fun t0 => (⟨leg, t0, p, chans, fmt, cfgF s t (Reg.LEG_TS_OFS leg), queues, side⟩ : OutPkt)
    setGal { s.gal with packets := s.gal.packets ++ new } s
  else s

/-- Packets that a recipe task completes leave, those without side-tone at once. -/
def writeReady (s : State) : State :=
  (s.gal.packets.filter fun p => !p.side && pktReady s p).foldl (fun s p => writePacket p s) s

/-- SIDETONE_PACKET_WRITE (R224): the oldest packet of a leg with side-tone whose slot minus 1,470 treads has come. -/
def sidetonePacketWrite (leg : Nat) (s : State) : State :=
  match s.gal.packets.find? (fun p => p.side && p.leg == leg) with
  | some p =>
    if audioSlot p.t0 p.ptime (flightLen s) ≤ s.now + 1470 ∧ pktReady s p then publishAll (writePacket p s) else s
  | none => s

/-! ### Recipe tasks -/

/-- Legs that a recipe task works through one by one: every other leg of its range has no input, an output of zeros and a
meter entry that stands for that. -/
def recipeWork (s : State) (n f : Nat) : List Nat :=
  let t := flightStart s f
  (List.range 256).map (256 * n + ·) |>.filter fun l =>
    s.gal.metered.contains l || !(slotsOf s f l).isEmpty || cfgF s t (Reg.RCP_EN l) == 1 ||
    cfgF s t (Reg.LEG_OUT_FMT l) != 0

/-- Whether a recipe reads a failing word: its own, or that of a bus of its terms (R232). -/
def recipeBad (s : State) (f leg : Nat) (bad : List GalWord) : Bool :=
  bad.contains (.recipe leg) ||
  (termsOf s (flightStart s f) leg).any fun j =>
    let b := cfgF s (flightStart s f) (Reg.RCP_TERM_BUS leg j)
    (busOf s f b).2 || bad.contains (.busStore b)

/-- One leg of a recipe task. -/
def runRecipe (f leg : Nat) (bad : List GalWord) (s : State) : State :=
  let t := flightStart s f
  let n := flightSamples s
  let en := cfgF s t (Reg.RCP_EN leg) = 1
  let slots := (List.range n).map fun i => (slotsOf s f leg).getD i .absent
  let poisonedIn := slots.countP (· == .poisoned)
  let s := addF s (Reg.GAL_CNT_COUNT 1) poisonedIn
  let s := if poisonedIn = 0 then s else galDue 0x123 s
  let badSum := decide en && recipeBad s f leg bad
  let badLine := decide en && bad.contains (.delayLine leg)
  let task := 21664 + leg / 256
  let sums := if badSum then openSamples task f (64 * (leg % 256)) n else (List.range n).map (recipeSum s f leg)
  let thr := if cfgF s t (Reg.RCP_LIM_EN leg) = 1 then cfgF s t (Reg.RCP_LIM_THR leg) else 2 ^ 40
  let z := limRun thr (cfgF s t Reg.GAL_LIM_CFG_REL) (limOf s leg) sums
  let line := if badLine then openSamples task f (16384 + 64 * (leg % 256)) n else z.2.map (·.1)
  let outs := if en then (line.zip (z.2.map (·.2))).map fun o => (⟨o.1, o.2, badSum || badLine⟩ : OutSample)
    else List.replicate n outSilent
  let flag := fun (b : Bool) k => if b then 2 ^ k else 0
  let flags := flag (slots.any fun x => match x with | .concealed _ => true | _ => false) 0 + flag (slots.contains .absent) 1 +
    flag (poisonedIn != 0) 2
  let s := setGal { s.gal with
    limiters := ssetC limInit s.gal.limiters leg (if en then z.1 else limInit)
    outputs := ssetC [] s.gal.outputs (galKey f leg) outs
    fresh := s.gal.fresh ++ [⟨leg, f, slots.map slotValue, flags⟩] } s
  let clips := if cfgF s t (Reg.RCP_ST_EN leg) = 0 then outs.countP fun o => satTo 24 (outV o 0) != outV o 0 else 0
  let s := if clips = 0 then s else galDue 0x121 (addL (addF s (Reg.GAL_CNT_COUNT 3) clips) (Reg.RCP_OUT_CLIP leg) clips)
  let s := addF s (Reg.GAL_CNT_COUNT 5) (outs.countP fun o => o.gain < 0x40000)
  let s := setL s (Reg.RCP_LIM_GAIN leg) ((outs.getLast?.map (·.gain)).getD 0x40000)
  setL s (Reg.RCP_H_SELF leg) (ofSigned 20 (exclGain s t leg 4 ((f + 1) * n - 1)))

/-- Absent samples of a recipe task's legs in a flight. Assumption 91 (DEDUCED). -/
def absentCount (s : State) (n f : Nat) : Nat :=
  let spf := flightSamples s
  256 * spf - (s.gal.inputs.filter fun e => e.1 / 16384 == f && e.1 % 16384 / 256 == n).foldl
    (fun a e => a + (e.2.take spf).countP (· != .absent)) 0

/-- Whether every valid recipe task of a flight is done. -/
def recipesDone (s : State) (f : Nat) : Bool :=
  (List.range 40).all fun n => s.gal.recDone.contains (f, n) || !taskLive s (21664 + n)

/-- Whether a recipe task reads a failing word. -/
def recipeTaskReads (n : Nat) (w : GalWord) : Bool :=
  match w with
  | .recipe l => l / 256 == n
  | .delayLine l => l / 256 == n
  | _ => false

/-- RECIPE_TASK: recipe task n of the flight of its running release (R212, R217 to R222, R230, R231). -/
def recipeTask (n : Nat) (faults : List (GalWord × Bool)) (s : State) : State :=
  match runningOf s (21664 + n) with
  | none => s
  | some r =>
    if s.gal.recDone.contains (r.flight, n) then s
    else
      let f := r.flight
      let (bad, s) := galFaults faults (recipeTaskReads n) s
      let s := addF s (Reg.GAL_CNT_COUNT 0) (absentCount s n f)
      let work := recipeWork s n f
      let s := work.foldl (fun s l => runRecipe f l bad s) s
      let s := work.foldl (fun s l => beginPackets f l s) s
      let s := writeReady (setGal { s.gal with recDone := s.gal.recDone ++ [(f, n)] } s)
      let s := setExit (21664 + n) 0 s
      if recipesDone s f then publishAll (setGal { s.gal with meterDue := s.gal.meterDue ++ [f] } s) else s

/-- The events that a flight's happenings owe at its end (R233). -/
def galEvents (s : State) : State := s.gal.due.foldl (fun s e => raiseEvent e s) (setGal { s.gal with due := [] } s)

/-- An audio flight ends in the Gallery: the events that are due; what no later task needs leaves. -/
def galFlight (s : State) : State :=
  let s := publishAll (galEvents s)
  let now := min (flightNumber s s.now) ((s.gal.meterDue.foldl min (flightNumber s s.now)))
  let done := fun f => decide (f + 4 < now) && recipesDone s f
  let first := s.gal.packets.foldl (fun m p => min m (flightNumber s p.t0)) now
  setGal { s.gal with
    inputs := sdrop (fun k => done (k / 16384)) s.gal.inputs
    genSlots := sdrop (fun k => done (k / 16384)) s.gal.genSlots
    buses := sdrop (fun k => done (k / 1024)) s.gal.buses
    outputs := sdrop (fun k => decide (k / 16384 < first) && decide (flightStart s (k / 16384 + 1) + 2822400 < s.now) && done (k / 16384)) s.gal.outputs
    busDone := s.gal.busDone.filter (fun e => !done e.1)
    recDone := s.gal.recDone.filter (fun e => decide (now ≤ e.1 + 64))
    stRecs := s.gal.stRecs.filter (fun r => decide (flightStart s (min first now) < r.stamp + 16 * flightLen s)) } s

end Sys2Proof.Machine
end

