-- ==== Sys2Proof/Machine/Aes.lean ====
section
/-! DEFINITION. AES-128 and AES-256 (FIPS 197), counter mode, GHASH (SP 800-38D), and the key unwrap of RFC 3394, which
the cipher engine's profiles and its key blobs use (R158, R161). A block is a list of 16 bytes, column by column. -/

namespace Sys2Proof.Machine

/-- The S-box. -/
def aesSbox : List Byte :=
  [0x63, 0x7C, 0x77, 0x7B, 0xF2, 0x6B, 0x6F, 0xC5, 0x30, 0x01, 0x67, 0x2B, 0xFE, 0xD7, 0xAB, 0x76,
   0xCA, 0x82, 0xC9, 0x7D, 0xFA, 0x59, 0x47, 0xF0, 0xAD, 0xD4, 0xA2, 0xAF, 0x9C, 0xA4, 0x72, 0xC0,
   0xB7, 0xFD, 0x93, 0x26, 0x36, 0x3F, 0xF7, 0xCC, 0x34, 0xA5, 0xE5, 0xF1, 0x71, 0xD8, 0x31, 0x15,
   0x04, 0xC7, 0x23, 0xC3, 0x18, 0x96, 0x05, 0x9A, 0x07, 0x12, 0x80, 0xE2, 0xEB, 0x27, 0xB2, 0x75] ++
  [0x09, 0x83, 0x2C, 0x1A, 0x1B, 0x6E, 0x5A, 0xA0, 0x52, 0x3B, 0xD6, 0xB3, 0x29, 0xE3, 0x2F, 0x84,
   0x53, 0xD1, 0x00, 0xED, 0x20, 0xFC, 0xB1, 0x5B, 0x6A, 0xCB, 0xBE, 0x39, 0x4A, 0x4C, 0x58, 0xCF,
   0xD0, 0xEF, 0xAA, 0xFB, 0x43, 0x4D, 0x33, 0x85, 0x45, 0xF9, 0x02, 0x7F, 0x50, 0x3C, 0x9F, 0xA8,
   0x51, 0xA3, 0x40, 0x8F, 0x92, 0x9D, 0x38, 0xF5, 0xBC, 0xB6, 0xDA, 0x21, 0x10, 0xFF, 0xF3, 0xD2] ++
  [0xCD, 0x0C, 0x13, 0xEC, 0x5F, 0x97, 0x44, 0x17, 0xC4, 0xA7, 0x7E, 0x3D, 0x64, 0x5D, 0x19, 0x73,
   0x60, 0x81, 0x4F, 0xDC, 0x22, 0x2A, 0x90, 0x88, 0x46, 0xEE, 0xB8, 0x14, 0xDE, 0x5E, 0x0B, 0xDB,
   0xE0, 0x32, 0x3A, 0x0A, 0x49, 0x06, 0x24, 0x5C, 0xC2, 0xD3, 0xAC, 0x62, 0x91, 0x95, 0xE4, 0x79,
   0xE7, 0xC8, 0x37, 0x6D, 0x8D, 0xD5, 0x4E, 0xA9, 0x6C, 0x56, 0xF4, 0xEA, 0x65, 0x7A, 0xAE, 0x08] ++
  [0xBA, 0x78, 0x25, 0x2E, 0x1C, 0xA6, 0xB4, 0xC6, 0xE8, 0xDD, 0x74, 0x1F, 0x4B, 0xBD, 0x8B, 0x8A,
   0x70, 0x3E, 0xB5, 0x66, 0x48, 0x03, 0xF6, 0x0E, 0x61, 0x35, 0x57, 0xB9, 0x86, 0xC1, 0x1D, 0x9E,
   0xE1, 0xF8, 0x98, 0x11, 0x69, 0xD9, 0x8E, 0x94, 0x9B, 0x1E, 0x87, 0xE9, 0xCE, 0x55, 0x28, 0xDF,
   0x8C, 0xA1, 0x89, 0x0D, 0xBF, 0xE6, 0x42, 0x68, 0x41, 0x99, 0x2D, 0x0F, 0xB0, 0x54, 0xBB, 0x16]

/-- A byte through the S-box, and back. -/
def subByte (b : Byte) : Byte := aesSbox.getD b.toNat 0
def invSubByte (b : Byte) : Byte := BitVec.ofNat 8 (aesSbox.idxOf b)

/-- A byte times x modulo x⁸ + x⁴ + x³ + x + 1. -/
def xtime (b : Byte) : Byte := if b.toNat < 128 then b <<< 1 else (b <<< 1) ^^^ 0x1B

/-- A byte times a constant of at most four bits. -/
def gfMul (k : Nat) (b : Byte) : Byte :=
  let b2 := xtime b
  let b4 := xtime b2
  let b8 := xtime b4
  (if k % 2 = 1 then b else 0) ^^^ (if k / 2 % 2 = 1 then b2 else 0) ^^^ (if k / 4 % 2 = 1 then b4 else 0) ^^^
    (if k / 8 = 1 then b8 else 0)

/-- Bytes exclusive-or bytes, to the shorter length. -/
def xorBytes (a b : List Byte) : List Byte := a.zipWith (· ^^^ ·) b

/-- One column times the circulant of four coefficients. -/
def mixColumn (k : List Nat) (c : List Byte) : List Byte :=
  (List.range 4).map fun i => (List.range 4).foldl (fun x j => x ^^^ gfMul (k.getD ((j + 4 - i) % 4) 0) (c.getD j 0)) 0

/-- The four columns mixed. -/
def mixColumns (k : List Nat) (b : List Byte) : List Byte := (List.range 4).flatMap fun c => mixColumn k ((b.drop (4 * c)).take 4)

/-- Row r of a block turned left by r columns, and right. -/
def shiftRows (b : List Byte) : List Byte := (List.range 16).map fun i => b.getD ((i + 4 * (i % 4)) % 16) 0
def invShiftRows (b : List Byte) : List Byte := (List.range 16).map fun i => b.getD ((i + 12 * (i % 4)) % 16) 0

/-- The round constant of key word i / nk. -/
def aesRcon : Nat → Byte
  | 0 => 1
  | n + 1 => xtime (aesRcon n)

/-- The next word of a key schedule of nk-word keys, from its words so far, newest first. -/
def nextKeyWord (nk : Nat) (w : List (List Byte)) : List Byte :=
  let i := w.length
  let last := w.headD []
  let t := if i % nk = 0 then xorBytes ((last.drop 1 ++ last.take 1).map subByte) [aesRcon (i / nk - 1), 0, 0, 0]
    else if 6 < nk ∧ i % nk = 4 then last.map subByte else last
  xorBytes (w.getD (nk - 1) []) t

/-- Extend a key schedule by n words, newest first. -/
def extendKey (nk : Nat) : Nat → List (List Byte) → List (List Byte)
  | 0, w => w
  | n + 1, w => extendKey nk n (nextKeyWord nk w :: w)

/-- The round keys of a 16-byte or 32-byte key, first round first. -/
def roundKeys (key : List Byte) : List (List Byte) :=
  let nk := key.length / 4
  let start := ((List.range nk).map fun i => (key.drop (4 * i)).take 4).reverse
  let bytes := (extendKey nk (4 * (nk + 7) - nk) start).reverse.flatten
  (List.range (nk + 7)).map fun r => (bytes.drop (16 * r)).take 16

/-- The rounds after the first key addition: the last has no column mixing. -/
def aesRounds : List (List Byte) → List Byte → List Byte
  | [], b => b
  | [k], b => xorBytes (shiftRows (b.map subByte)) k
  | k :: ks, b => aesRounds ks (xorBytes (mixColumns [2, 3, 1, 1] (shiftRows (b.map subByte))) k)

/-- One block enciphered under round keys. -/
def aesEncrypt (ks : List (List Byte)) (b : List Byte) : List Byte := aesRounds (ks.drop 1) (xorBytes b (ks.headD []))

/-- The inverse rounds, round keys last first. -/
def aesInvRounds : List (List Byte) → List Byte → List Byte
  | [], b => b
  | [k], b => xorBytes ((invShiftRows b).map invSubByte) k
  | k :: ks, b => aesInvRounds ks (mixColumns [14, 11, 13, 9] (xorBytes ((invShiftRows b).map invSubByte) k))

/-- One block deciphered under round keys. -/
def aesDecrypt (ks : List (List Byte)) (b : List Byte) : List Byte :=
  let r := ks.reverse
  aesInvRounds (r.drop 1) (xorBytes b (r.headD []))

/-- A number as n bytes, most significant first. -/
def numBytes (n v : Nat) : List Byte := (List.range n).reverse.map fun i => BitVec.ofNat 8 (v / 256 ^ i)

/-- The number that bytes spell, most significant first. -/
def bytesNum (bs : List Byte) : Nat := bs.foldl (fun n b => n * 256 + b.toNat) 0

/-- n blocks of key stream from a counter block, whose last `width` bytes count modulo their size. -/
def ctrStream (ks : List (List Byte)) (width : Nat) (iv : List Byte) (n : Nat) : List Byte :=
  let fixed := iv.take (16 - width)
  let from_ := bytesNum (iv.drop (16 - width))
  (List.range n).flatMap fun i => aesEncrypt ks (fixed ++ numBytes width (from_ + i))

/-- Bytes enciphered or deciphered in counter mode. -/
def ctrCrypt (ks : List (List Byte)) (width : Nat) (iv data : List Byte) : List Byte :=
  xorBytes data (ctrStream ks width iv ((data.length + 15) / 16))

/-- Product of two blocks in GHASH's field, bits of the first taken from the most significant down. -/
def ghashMul : Nat → BitVec 128 → BitVec 128 → BitVec 128 → BitVec 128
  | 0, _, _, z => z
  | n + 1, x, v, z =>
    ghashMul n x (if v.getLsbD 0 then (v >>> 1) ^^^ 0xE1000000000000000000000000000000 else v >>> 1)
      (if x.getLsbD n then z ^^^ v else z)

/-- GHASH over bytes, which fill whole blocks. -/
def ghash (h : BitVec 128) (bs : List Byte) : BitVec 128 :=
  (List.range (bs.length / 16)).foldl
    (fun y i => ghashMul 128 (y ^^^ BitVec.ofNat 128 (bytesNum ((bs.drop (16 * i)).take 16))) h 0) 0

/-- Bytes padded with zeros to whole blocks. -/
def padBlocks (bs : List Byte) : List Byte := bs ++ List.replicate ((16 - bs.length % 16) % 16) 0

/-- The GCM tag of a ciphertext with its associated data, under a 12-byte IV. -/
def gcmTag (ks : List (List Byte)) (iv aad text : List Byte) : List Byte :=
  let h := BitVec.ofNat 128 (bytesNum (aesEncrypt ks (List.replicate 16 0)))
  let y := ghash h (padBlocks aad ++ padBlocks text ++ numBytes 8 (8 * aad.length) ++ numBytes 8 (8 * text.length))
  xorBytes (aesEncrypt ks (iv ++ [0, 0, 0, 1])) (numBytes 16 y.toNat)

/-- GCM's counter mode on data. -/
def gcmCrypt (ks : List (List Byte)) (iv data : List Byte) : List Byte := ctrCrypt ks 4 (iv ++ [0, 0, 0, 2]) data

/-! ### Key unwrap (RFC 3394) -/

/-- The step of the unwrap with counter t, on register A and semiblock i − 1 of R. -/
def unwrapStep (ks : List (List Byte)) (x : List Byte × List (List Byte)) (t i : Nat) : List Byte × List (List Byte) :=
  let b := aesDecrypt ks (xorBytes x.1 (numBytes 8 t) ++ x.2.getD i [])
  (b.take 8, x.2.set i (b.drop 8))

/-- The payload of a wrapped blob under a key-encryption key; none where the integrity check fails. -/
def unwrapKey (kek blob : List Byte) : Option (List Byte) :=
  let ks := roundKeys kek
  let n := blob.length / 8 - 1
  let r := (List.range n).map fun i => (blob.drop (8 * (i + 1))).take 8
  let x := (List.range (6 * n)).foldl (fun x k =>
    let t := 6 * n - k
    unwrapStep ks x t ((t - 1) % n)) (blob.take 8, r)
  if x.1 = List.replicate 8 0xA6 then some x.2.flatten else none

end Sys2Proof.Machine
end

