-- ==== Sys2Proof/Machine/Srtp.lean ====
section
/-! DEFINITION. SHA-1 (FIPS 180-4), HMAC (RFC 2104), and the SRTP and SRTCP transforms of the cipher engine's profiles:
session keys, encryption and tags of RFC 3711, RFC 6188 and RFC 7714 (R158, Table 1). -/

namespace Sys2Proof.Machine

/-! ### SHA-1 and HMAC -/

/-- The five words of SHA-1. -/
structure Sha1State where
  a : BitVec 32
  b : BitVec 32
  c : BitVec 32
  d : BitVec 32
  e : BitVec 32
  deriving DecidableEq, Repr

/-- Round i with its schedule word. -/
def sha1Round (s : Sha1State) (iw : Nat × BitVec 32) : Sha1State :=
  let (f, k) : BitVec 32 × BitVec 32 :=
    if iw.1 < 20 then ((s.b &&& s.c) ||| (~~~s.b &&& s.d), 0x5A827999)
    else if iw.1 < 40 then (s.b ^^^ s.c ^^^ s.d, 0x6ED9EBA1)
    else if iw.1 < 60 then ((s.b &&& s.c) ||| (s.b &&& s.d) ||| (s.c &&& s.d), 0x8F1BBCDC)
    else (s.b ^^^ s.c ^^^ s.d, 0xCA62C1D6)
  ⟨s.a.rotateLeft 5 + f + s.e + k + iw.2, s.a, s.b.rotateLeft 30, s.c, s.d⟩

/-- Extend the message schedule by n words; the list holds the words so far, newest first. -/
def sha1Schedule : Nat → List (BitVec 32) → List (BitVec 32)
  | 0, w => w
  | n + 1, w => sha1Schedule n ((w.getD 2 0 ^^^ w.getD 7 0 ^^^ w.getD 13 0 ^^^ w.getD 15 0).rotateLeft 1 :: w)

/-- One block of 64 bytes. -/
def sha1Block (s : Sha1State) (block : List Byte) : Sha1State :=
  let first := ((List.range 16).map fun i => BitVec.ofNat 32 (bytesNum ((block.drop (4 * i)).take 4))).reverse
  let w := (sha1Schedule 64 first).reverse
  let r := ((List.range 80).zip w).foldl sha1Round s
  ⟨s.a + r.a, s.b + r.b, s.c + r.c, s.d + r.d, s.e + r.e⟩

/-- The 20 bytes of the SHA-1 digest of a message. -/
def sha1 (m : List Byte) : List Byte :=
  let p := m ++ [0x80] ++ List.replicate ((119 - m.length % 64) % 64) 0 ++ numBytes 8 (8 * m.length)
  let r := (List.range (p.length / 64)).foldl (fun s i => sha1Block s ((p.drop (64 * i)).take 64))
    ⟨0x67452301, 0xEFCDAB89, 0x98BADCFE, 0x10325476, 0xC3D2E1F0⟩
  [r.a, r.b, r.c, r.d, r.e].flatMap fun w => numBytes 4 w.toNat

/-- HMAC-SHA1 under a key of at most 64 bytes. -/
def hmacSha1 (key m : List Byte) : List Byte :=
  let k := key ++ List.replicate (64 - key.length) 0
  sha1 (k.map (· ^^^ 0x5C) ++ sha1 (k.map (· ^^^ 0x36) ++ m))

/-! ### Profiles (Table 1) -/

/-- Bytes of a profile's master key. -/
def keyLen (p : Nat) : Nat := if p = 1 ∨ p = 2 ∨ p = 5 then 16 else 32

/-- Bytes of a profile's master salt. -/
def saltLen (p : Nat) : Nat := if p ≤ 4 then 14 else 12

/-- Bytes of a profile's SRTP tag. -/
def tagLen (p : Nat) : Nat := if p = 2 ∨ p = 4 then 4 else if p ≤ 4 then 10 else 16

/-- Bytes of a profile's SRTCP tag. -/
def rtcpTagLen (p : Nat) : Nat := if p ≤ 4 then 10 else 16

/-! ### Session keys (RFC 3711 §4.3) -/

/-- The first n bytes of the key stream for a label, at key derivation rate 0: the label stands at byte 7 of the master salt,
which a 12-byte salt fills to 14 bytes with zeros. -/
def sessionKey (key salt : List Byte) (label n : Nat) : List Byte :=
  let x := salt ++ List.replicate (14 - salt.length) 0
  let iv := xorBytes x (List.replicate 7 0 ++ [BitVec.ofNat 8 label] ++ List.replicate 6 0) ++ [0, 0]
  (ctrStream (roundKeys key) 2 iv ((n + 15) / 16)).take n

/-- The session keys of a master key: encryption, authentication and salt, for SRTP or for SRTCP. -/
structure SessionKeys where
  enc  : List Byte
  auth : List Byte
  salt : List Byte
  deriving DecidableEq, Repr

/-- Derive them. -/
def sessionKeys (p : Nat) (key salt : List Byte) (rtcp : Bool) : SessionKeys :=
  let l := if rtcp then 3 else 0
  ⟨sessionKey key salt l (keyLen p), sessionKey key salt (l + 1) 20, sessionKey key salt (l + 2) (saltLen p)⟩

/-- The counter block of AES-CM for an SSRC and an index, and the IV of GCM. -/
def cmIv (salt : List Byte) (ssrc index : Nat) : List Byte :=
  xorBytes (salt ++ [0, 0]) (numBytes 16 (ssrc * 2 ^ 64 + index % 2 ^ 48 * 2 ^ 16))
def gcmIv (salt : List Byte) (ssrc index : Nat) (rtcp : Bool) : List Byte :=
  xorBytes salt ([0, 0] ++ numBytes 4 ssrc ++ (if rtcp then [0, 0] ++ numBytes 4 index else numBytes 6 index))

/-! ### SRTP -/

/-- The tag of an SRTP packet: over its header, its encrypted payload and, in the HMAC profiles, its ROC. -/
def srtpTag (p : Nat) (k : SessionKeys) (ssrc index : Nat) (header text : List Byte) : List Byte :=
  if p ≤ 4 then (hmacSha1 k.auth (header ++ text ++ numBytes 4 (index / 65536))).take (tagLen p)
  else gcmTag (roundKeys k.enc) (gcmIv k.salt ssrc index false) header text

/-- A payload enciphered, or deciphered. -/
def srtpCrypt (p : Nat) (k : SessionKeys) (ssrc index : Nat) (data : List Byte) : List Byte :=
  if p ≤ 4 then ctrCrypt (roundKeys k.enc) 2 (cmIv k.salt ssrc index) data
  else gcmCrypt (roundKeys k.enc) (gcmIv k.salt ssrc index false) data

/-- The protected payload of an RTP packet with its tag (R166). -/
def srtpSeal (p : Nat) (key salt : List Byte) (ssrc index : Nat) (header payload : List Byte) : List Byte :=
  let k := sessionKeys p key salt false
  let text := srtpCrypt p k ssrc index payload
  text ++ srtpTag p k ssrc index header text

/-- The plaintext of a protected payload, and whether its tag matches (R171). -/
def srtpOpen (p : Nat) (key salt : List Byte) (ssrc index : Nat) (header payload : List Byte) : List Byte × Bool :=
  let k := sessionKeys p key salt false
  let text := payload.take (payload.length - tagLen p)
  (srtpCrypt p k ssrc index text, decide (tagLen p ≤ payload.length) &&
    srtpTag p k ssrc index header text == payload.drop text.length)

/-! ### SRTCP (R172) -/

/-- The word that carries E and the SRTCP index. -/
def rtcpWord (e : Bool) (index : Nat) : List Byte := numBytes 4 (e.toNat * 2147483648 + index % 2147483648)

/-- The tag of an SRTCP packet of 8 clear bytes: the encrypted rest is authenticated with the trailer, and a rest that is
not encrypted is, in the GCM profiles, associated data. -/
def srtcpTag (p : Nat) (k : SessionKeys) (ssrc index : Nat) (e : Bool) (head text : List Byte) : List Byte :=
  let w := rtcpWord e index
  if p ≤ 4 then (hmacSha1 k.auth (head ++ text ++ w)).take (rtcpTagLen p)
  else
    let iv := gcmIv k.salt ssrc index true
    if e then gcmTag (roundKeys k.enc) iv (head ++ w) text else gcmTag (roundKeys k.enc) iv (head ++ text ++ w) []

/-- The rest of an SRTCP packet enciphered, or deciphered. -/
def srtcpCrypt (p : Nat) (k : SessionKeys) (ssrc index : Nat) (data : List Byte) : List Byte :=
  if p ≤ 4 then ctrCrypt (roundKeys k.enc) 2 (cmIv k.salt ssrc index) data
  else gcmCrypt (roundKeys k.enc) (gcmIv k.salt ssrc index true) data

/-- A protected SRTCP packet, E set: in the HMAC profiles the trailer stands before the tag, in the GCM profiles after it. -/
def srtcpSeal (p : Nat) (key salt : List Byte) (ssrc index : Nat) (packet : List Byte) : List Byte :=
  let k := sessionKeys p key salt true
  let head := packet.take 8
  let text := srtcpCrypt p k ssrc index (packet.drop 8)
  let tag := srtcpTag p k ssrc index true head text
  head ++ text ++ (if p ≤ 4 then rtcpWord true index ++ tag else tag ++ rtcpWord true index)

/-- The trailer word of a protected SRTCP packet. -/
def srtcpTrailer (p : Nat) (packet : List Byte) : Nat :=
  bytesNum ((packet.drop (packet.length - (if p ≤ 4 then 4 + rtcpTagLen p else 4))).take 4)

/-- The SRTCP index that a protected packet carries. -/
def rtcpIndex (p : Nat) (packet : List Byte) : Nat := srtcpTrailer p packet % 2147483648

/-- The RTCP packets of a protected SRTCP packet, and whether its tag matches. -/
def srtcpOpen (p : Nat) (key salt : List Byte) (ssrc : Nat) (packet : List Byte) : List Byte × Bool :=
  let k := sessionKeys p key salt true
  let n := packet.length - 4 - rtcpTagLen p
  let e := decide (2147483648 ≤ srtcpTrailer p packet)
  let index := rtcpIndex p packet
  let head := packet.take 8
  let text := (packet.take n).drop 8
  let tag := (packet.drop (if p ≤ 4 then n + 4 else n)).take (rtcpTagLen p)
  (head ++ (if e then srtcpCrypt p k ssrc index text else text), decide (12 + rtcpTagLen p ≤ packet.length) &&
    srtcpTag p k ssrc index e head text == tag)

end Sys2Proof.Machine
end

