-- ==== Sys2Proof/Machine/Cipher.lean ====
section
/-! DEFINITION. The cipher engine: contexts and their keys, indexes and replay windows, the receive pass and its verdicts,
lane faults and the entropy source (Cipher engine). -/

namespace Sys2Proof.Machine

/-! ### Receive contexts -/

/-- A receive context that holds nothing. -/
def rxInit : RxCtx := ⟨none, ⟨none, []⟩, []⟩

/-- Receive context c. -/
def rxOf (s : State) (c : Nat) : RxCtx := sgetC rxInit s.cip.rx c

/-- A receive context changes; its status entry follows (Table 7 of Cipher engine). -/
def setRx (c : Nat) (x : RxCtx) (s : State) : State :=
  let s := { s with cip := { s.cip with rx := ssetC rxInit s.cip.rx c x } }
  let s := setF s (Reg.RXC_KEYED c) x.hold.cur.isSome.toNat
  let s := setF s (Reg.RXC_DOOR c) (x.door.getD 0)
  let s := setF s (Reg.RXC_NEXT c) (!x.hold.nexts.isEmpty).toNat
  let s := set64 s (Reg.RXC_FROM_INDEX c).addr (match x.hold.nexts with | (_, i, _) :: _ => i | [] => 0)
  match x.hold.cur with
  | some k =>
    let s := setF (setF s (Reg.RXC_PROFILE c) k.profile) (Reg.RXC_SSRC c) (leNat (beBytes 4 k.ssrc))
    setF (setF (setF s (Reg.RXC_ROC c) k.roc) (Reg.RXC_S_L c) (k.sl.getD 0)) (Reg.RXC_S_L_SET c) k.sl.isSome.toNat
  | none =>
    let s := setF (setF s (Reg.RXC_PROFILE c) 0) (Reg.RXC_SSRC c) 0
    setF (setF (setF s (Reg.RXC_ROC c) 0) (Reg.RXC_S_L c) 0) (Reg.RXC_S_L_SET c) 0

/-- The content that serves the records of a flight that starts at f (R163, R164). -/
def rxHoldAt (x : RxCtx) (f : Treads) : RxHold :=
  match x.past.find? fun p => decide (f < p.1) with
  | some p => p.2
  | none => x.hold

/-- The key that serves them. -/
def rxKeyAt (x : RxCtx) (f : Treads) : Option RxKey := (rxHoldAt x f).cur

/-- The content that serves a flight changes. -/
def setHold (c : Nat) (f : Treads) (h : RxHold) (s : State) : State :=
  let x := rxOf s c
  match x.past.findIdx? fun p => decide (f < p.1) with
  | some i => setRx c { x with past := x.past.set i ((x.past.getD i (0, h)).1, h) } s
  | none => setRx c { x with hold := h } s

/-- Indexes of the replay window (CIP_CFG.REPLAY_WIN). -/
def replayWin (s : State) : Nat := 64 * 2 ^ getF s Reg.CIP_CFG_REPLAY_WIN

/-- The SRTP index estimate of RFC 3711 Appendix A; ROC × 65,536 + SEQ where s_l is unset (R169). -/
def estimateIndex (k : RxKey) (seq : Nat) : Nat :=
  let v := match k.sl with
    | none => k.roc
    | some l =>
      if l < 32768 then (if l + 32768 < seq then (k.roc + 4294967295) % 4294967296 else k.roc)
      else if seq + 32768 < l then (k.roc + 1) % 4294967296 else k.roc
  v * 65536 + seq

/-- Whether an index is marked in a window, or lies below it (R169). -/
def replayed (win : Nat) (top : Option Nat) (seen : List Nat) (low i : Nat) : Bool :=
  decide (i < low) || seen.contains i || top.any fun t => decide (i + win ≤ t)

/-- An authenticated index enters its window: the highest index, the marks within the window and the lowest unseen
index, which never falls (CIP_CFG). -/
def windowEnter (win : Nat) (top : Option Nat) (seen : List Nat) (low i : Nat) : Nat × List Nat × Nat :=
  let t := match top with | some x => max x i | none => i
  let low := max low (t + 1 - win)
  (t, (i :: seen).filter (fun x => decide (low ≤ x)), low)

/-- ROC and s_l after an authenticated index (RFC 3711 §3.3.1). -/
def advanceRoc (k : RxKey) (i : Nat) : RxKey :=
  let v := i / 65536
  let q := i % 65536
  match k.sl with
  | none => { k with roc := v, sl := some q }
  | some l =>
    if v = k.roc then { k with sl := some (max l q) }
    else if v = (k.roc + 1) % 4294967296 then { k with roc := v, sl := some q }
    else k

/-- An SRTP index authenticates (R171). -/
def authenticate (win i : Nat) (k : RxKey) : RxKey :=
  let (t, seen, low) := windowEnter win k.top k.seen k.low i
  { advanceRoc k i with top := some t, seen := seen, low := low }

/-- An SRTCP index authenticates in its own window (R172). -/
def authenticateRtcp (win i : Nat) (k : RxKey) : RxKey :=
  let (t, seen, low) := windowEnter win k.rtcpTop k.rtcpSeen k.rtcpLow i
  { k with rtcpTop := some t, rtcpSeen := seen, rtcpLow := low }

/-! ### Lane faults (R175 to R177) -/

/-- The lane of a mismatch, where it is in service: a fenced lane takes no work (R177). -/
def workingLane (s : State) (fault : Option (Fin 8)) : Option (Fin 8) :=
  fault.filter fun l => getF s (Reg.CIP_LANE_FENCED l.val) == 0

/-- A datapath mismatch on a lane (R176, R177): counted, captured, and the lane's second within a second fences it. -/
def laneMismatch (lane dir ctx code sev : Nat) (s : State) : State :=
  let s := incF s (Reg.CIP_CNT_COUNT 6)
  let s := setF (setF (setF s Reg.CIP_FAULT_LAST_LANE lane) Reg.CIP_FAULT_LAST_DIR dir) Reg.CIP_FAULT_LAST_CONTEXT ctx
  let s := incSatF s (Reg.CIP_LANE_MISMATCH lane)
  let s := raiseEvent 0x0E3 (captureError .cip code sev false ctx 0 none s)
  let recent := (sgetC [] s.cip.mismatches lane).filter fun t => decide (s.now < t + treadsPerSecond)
  let s := { s with cip := { s.cip with mismatches := ssetC [] s.cip.mismatches lane (recent ++ [s.now]) } }
  if recent.isEmpty ∨ getF s (Reg.CIP_LANE_FENCED lane) = 1 then s
  else
    let first := getF s Reg.CIP_STAT_LANE_OK == 255
    let s := setF s (Reg.CIP_LANE_FENCED lane) 1
    let s := setF s Reg.CIP_STAT_LANE_OK (getF s Reg.CIP_STAT_LANE_OK - 2 ^ lane)
    let s := raiseEvent 0x0E4 (captureError .cip 0x03 2 false lane 0 none s)
    if first then s else raiseEvent 0x0E5 (captureError .cip 0x04 3 true lane 0 none s)

/-! ### Key requests at commit (R161 to R164) -/

def stUnwrap : Nat := 0x120
def stBinding : Nat := 0x121
def stBadProfile : Nat := 0x122
def stNoNext : Nat := 0x123

/-- SSRC of a queue's header template: the last four bytes of its RTP header. -/
def templateSsrc (s : State) (q : Nat) : Nat :=
  let n := getF s (Reg.QUEUE_HLEN q)
  let byte := fun (i : Nat) => bitsOf (rget s ((Reg.QUEUE_HDR q).addr + i / 4 * 4)) (i % 4 * 8 + 7) (i % 4 * 8)
  ((byte (n - 4) * 256 + byte (n - 3)) * 256 + byte (n - 2)) * 256 + byte (n - 1)

/-- The door whose partition the objects of match entry i belong to lie in (R136). -/
def entryDoor (s : State) (i : Nat) : Option Nat :=
  let o := getF s (Reg.MATCH_OBJECT i)
  match getF s (Reg.MATCH_KIND i) with
  | 1 => ownerOf s 0 o
  | 2 => ownerOf s 1 o
  | 5 => ownerOf s (getF s (Reg.MATCH_SUB i) % 4) o
  | _ => some (devOwner s)

/-- The valid match entries with CIPHER that name receive context c. -/
def entriesOfContext (s : State) (c : Nat) : List Nat :=
  ((s.regs.filter fun e => decide (0x80000000 ≤ e.1) && decide (e.1 < 0x80200000)).map fun e => (e.1 - 0x80000000) / 64).eraseDups.filter
    fun i => getF s (Reg.MATCH_VALID i) == 1 && getF s (Reg.MATCH_CIPHER i) == 1 && getF s (Reg.MATCH_KIND i) != 6 &&
      getF s (Reg.MATCH_CIX i) == c

/-- Whether door d may load or clear a context (R159, R160): its own queue, or a receive context that no other door holds and
that no other door's entry names. -/
def mayKey (s : State) (d dir cix : Nat) : Bool :=
  if dir = 1 then owns s d 6 cix
  else (rxOf s cix).door.all (· == d) && (entriesOfContext s cix).all fun i => (entryDoor s i).all (· == d)

/-- Range, world and ownership of a key request (R162). -/
def keyRequestStatus (s : State) (d dir cix : Nat) : Nat :=
  if s.cht.sealed && !doorCloister s d then 5
  else if dir = 0 ∧ 16384 ≤ cix ∨ 32768 ≤ cix then 1
  else if !mayKey s d dir cix then 2 else 0

/-- The payload of a wrapped blob: none where its integrity check fails or no key-encryption key is provisioned (R161). -/
def unwrapBlob (s : State) (blob : List Byte) : Option (List Byte) :=
  match s.cht.fuses with
  | some f => match f.kek with
    | some kek => unwrapKey (beBytes 32 kek.toNat) (blob.take 64)
    | none => none
  | none => none

/-- The checks of an unwrapped payload (R162, Table 2). -/
def payloadStatus (s : State) (dir flags cix : Nat) (p : List Byte) : Nat :=
  let n := byteAt p 0
  if n = 0 ∨ 6 < n ∨ leAt p (8 + keyLen n) (32 - keyLen n) ≠ 0 ∨ leAt p (40 + saltLen n) (16 - saltLen n) ≠ 0 then stBadProfile
  else if byteAt p 1 ≠ dir ∨ leAt p 2 2 ≠ cix ∨ (dir = 1 ∧ beNat ((p.drop 4).take 4) ≠ templateSsrc s cix) then stBinding
  else if dir = 0 ∧ flags / 4 % 2 = 1 ∧ (rxOf s cix).hold.cur.isNone then stNoNext
  else 0

/-- A KEY_LOAD's status with the payload of its blob, unwrapped at the commit (R162); a mismatch of a lane while it unwraps
makes it DEVICE (R176). Assumption 73 (DEDUCED). -/
def keyLoadStatus (s : State) (d dir flags cix : Nat) (blob : List Byte) : Nat × List Byte :=
  let st := keyRequestStatus s d dir cix
  if st ≠ 0 then (st, [])
  else if s.cip.upset.isSome then (12, [])
  else match unwrapBlob s blob with
    | none => (stUnwrap, [])
    | some p => (payloadStatus s dir flags cix p, p)

/-- The receive key of a blob. -/
def blobRx (blob : List Byte) (roc : Nat) : RxKey :=
  let p := byteAt blob 0
  ⟨p, beNat ((blob.drop 4).take 4), (blob.drop 8).take (keyLen p), (blob.drop 40).take (saltLen p), roc, none, none, [], 0,
   none, [], 0⟩

/-- The transmit key of a blob. -/
def blobTx (blob : List Byte) : TxKey :=
  let p := byteAt blob 0
  ⟨p, beNat ((blob.drop 4).take 4), (blob.drop 8).take (keyLen p), (blob.drop 40).take (saltLen p)⟩

/-- A transmit key commits: RESULT is the ROC in force. SET_ROC ends the exhaustion of its indexes (R163, R167, R172).
Assumption 167 (DESIGN CHOICE). -/
def loadTx (cix flags roc : Nat) (p : List Byte) (s : State) : State × Nat :=
  let x := txOf s cix
  let set := decide (flags / 2 % 2 = 1)
  let x := { x with key := some (blobTx p), packets := 0, nearTold := false, roc := if set then roc else x.roc,
                    spent := x.spent && !set, srtcp := if set && decide (2147483648 ≤ x.srtcp) then 0 else x.srtcp }
  (checkNear cix (setTx cix x s), x.roc)

/-- A receive key commits, as the context's key or as its next (R163). -/
def loadRx (d cix flags roc fromIndex : Nat) (p : List Byte) (s : State) : State :=
  let x := rxOf s cix
  if flags / 4 % 2 = 1 then
    setRx cix { x with door := some d, hold := { x.hold with nexts := (blobRx p 0, fromIndex, s.now) :: x.hold.nexts } } s
  else setRx cix ⟨some d, ⟨some (blobRx p roc), []⟩, x.past ++ [(s.now, x.hold)]⟩ s

/-- KEY_LOAD at its commit: status, RESULT and the state after it. -/
def commitKeyLoad (d : Nat) (a blob : List Byte) (s : State) : Nat × Nat × State :=
  let cix := argAt a 16 2
  let flags := argAt a 18 1
  let dir := flags % 2
  let (st, p) := keyLoadStatus s d dir flags cix blob
  if st ≠ 0 then (st, 0, s)
  else if dir = 1 then
    let (s, roc) := loadTx cix flags (argAt a 20 4) p s
    (0, roc, s)
  else (0, 0, loadRx d cix flags (argAt a 20 4) (argAt a 32 6) p s)

/-- A receive context empties at a commit; earlier flights keep what it held (R164). -/
def clearRx (c : Nat) (s : State) : State :=
  let x := rxOf s c
  setRx c ⟨none, ⟨none, []⟩, x.past ++ [(s.now, x.hold)]⟩ s

/-- A transmit context empties at a commit (R164). -/
def clearTx (q : Nat) (s : State) : State := setTx q txInit s

/-- KEY_CLEAR at its commit. -/
def commitKeyClear (d : Nat) (a : List Byte) (s : State) : Nat × State :=
  let cix := argAt a 16 2
  let dir := argAt a 18 1 % 2
  let st := keyRequestStatus s d dir cix
  if st ≠ 0 then (st, s)
  else (0, if dir = 1 then clearTx cix s else clearRx cix s)

/-- A Door reset empties the contexts that the door holds and those of its queues (R164). -/
def clearDoorKeys (d : Nat) (s : State) : State :=
  let rxs := (s.cip.rx.filter fun e => e.2.door == some d).map (·.1)
  let txs := (s.cip.tx.filter fun e => owns s d 6 e.1).map (·.1)
  txs.foldl (fun s q => clearTx q s) (rxs.foldl (fun s c => clearRx c s) s)

/-! ### Receive (R168 to R172) -/

/-- The key that a record's index is checked under in a flight that starts at f, and the commit instant of the next key that
it is: the newest next key of a commit not after f serves from its FROM_INDEX on (R163). -/
def keyFor (x : RxCtx) (f : Treads) (index : Nat) : Option (RxKey × Option Treads) :=
  let h := rxHoldAt x f
  match h.nexts.find? fun n => decide (n.2.2 ≤ f) with
  | some (k, from_, at_) => if from_ ≤ index then some (k, some at_) else h.cur.map fun c => (c, none)
  | none => h.cur.map fun c => (c, none)

/-- A record's protected payload: as it arrived. -/
def protectedPart (r : ArrRec) : List Byte := if r.guarded.isEmpty then r.payload else r.guarded

/-- A record's index (R169, R172): the estimate, or the index that an SRTCP packet carries. -/
def recIndex (k : RxKey) (r : ArrRec) : Nat := if r.kind = 5 then rtcpIndex k.profile (protectedPart r) else estimateIndex k r.seq

/-- The plaintext of a record under a key and index, and whether its tag matches (R171, R172). -/
def openRecord (k : RxKey) (r : ArrRec) (i : Nat) : List Byte × Bool :=
  if r.kind = 5 then srtcpOpen k.profile k.key k.salt r.ssrc (protectedPart r)
  else srtpOpen k.profile k.key k.salt r.ssrc i r.header (protectedPart r)

/-- Whether an index of a record is a replay for a context's key. -/
def recReplayed (s : State) (k : RxKey) (r : ArrRec) (i : Nat) : Bool :=
  if r.kind = 5 then replayed (replayWin s) k.rtcpTop k.rtcpSeen k.rtcpLow i
  else replayed (replayWin s) k.top k.seen k.low i

/-- A record of a context without its key (R169). -/
def noKey (c : Nat) (s : State) : State := raiseEvent 0x0E7 (incF (incF s (Reg.RXC_REPLAY c)) (Reg.CIP_CNT_COUNT 3))

/-- A replayed record (R169). -/
def replayHit (c : Nat) (s : State) : State := raiseEvent 0x0E1 (incF (incF s (Reg.RXC_REPLAY c)) (Reg.CIP_CNT_COUNT 2))

/-- A record with the plaintext that the engine writes into its object's buffer while its tag is not checked: its words are
suspect (R170). Padding ends with the plaintext. -/
def pendingRecord (k : RxKey) (r : ArrRec) (i : Nat) : ArrRec :=
  let plain := (openRecord k r i).1
  { r with trust := .pending i, guarded := protectedPart r,
           payload := if r.kind = 5 then plain else (unpad (rtpPadded r.header) plain).getD [] }

/-- One record passes R169: PENDING with its index, or UNTRUSTED. -/
def passRecord (f : Treads) (r : ArrRec) (s : State) : ArrRec × State :=
  let x := rxOf s r.cix
  match rxKeyAt x f with
  | none => ({ r with trust := .untrusted }, noKey r.cix s)
  | some k =>
    let i := recIndex k r
    match keyFor x f i with
    | none => ({ r with trust := .untrusted }, noKey r.cix s)
    | some (use, _) =>
      if use.ssrc ≠ r.ssrc then ({ r with trust := .untrusted }, noKey r.cix s)
      else if recReplayed s k r i then ({ r with trust := .untrusted }, replayHit r.cix s)
      else (pendingRecord use r i, s)

/-- Order of the kinds in a pass (R168). -/
def passRank (kind : Nat) : Nat := match kind with | 1 => 0 | 5 => 1 | _ => 2

/-- Whether the engine takes record (i, r) before (j, q): by kind, then by estimated index within one context. -/
def passBefore (s : State) (f : Treads) (a b : Nat × ArrRec) : Bool :=
  let idx := fun (r : ArrRec) => match rxKeyAt (rxOf s r.cix) f with | some k => recIndex k r | none => 0
  if passRank a.2.kind ≠ passRank b.2.kind then decide (passRank a.2.kind < passRank b.2.kind)
  else a.2.cix == b.2.cix && decide (idx a.2 < idx b.2)

/-- Insert in the pass's order. -/
def passInsert (s : State) (f : Treads) (a : Nat × ArrRec) : List (Nat × ArrRec) → List (Nat × ArrRec)
  | [] => [a]
  | b :: bs => if passBefore s f a b then a :: b :: bs else b :: passInsert s f a bs

/-- The records of a set with their places. -/
def indexed {α : Type} : Nat → List α → List (Nat × α)
  | _, [] => []
  | i, x :: xs => (i, x) :: indexed (i + 1) xs

/-- Whether the engine still owes a pass over a set. -/
def passDue (x : ArrSet) : Bool := x.final && !x.passed && x.recs.any fun r => r.trust == .waiting

/-- Whether a final set of an earlier flight, or an audio set of the same instant, is to pass before an owner's (R168). -/
def passWaits (s : State) (o : SetOwner) (f : Treads) : Bool :=
  s.ports.sets.any fun x =>
    let g := setStart s x.owner x.flight
    passDue x && (decide (g < f) || (decide (g = f) && x.owner == .audio && o != .audio))

/-- CIPHER_RECEIVE_PASS (R168): once, when the set is final and its turn has come. -/
def cipherReceivePass (o : SetOwner) (flight : Nat) (s : State) : State :=
  match setOf s o flight with
  | none => s
  | some x =>
    let f := setStart s o flight
    if !x.final ∨ x.passed ∨ passWaits s o f ∨ s.twin.state = .copying then s
    else
      atInstant f (fun s =>
        let todo := ((indexed 0 x.recs).filter fun r => r.2.trust == .waiting).foldl (fun l r => passInsert s f r l) []
        let (recs, s) := todo.foldl (fun (acc : List ArrRec × State) r =>
          let (q, s) := passRecord f r.2 acc.2
          (acc.1.set r.1 q, s)) (x.recs, s)
        settle (putSet { x with recs := recs, passed := true } s)) s

/-- A record is TRUSTED: its window, ROC and s_l move, and a next key that authenticated it takes the context (R163,
R171). -/
def trustRecord (f : Treads) (r : ArrRec) (i : Nat) (s : State) : State :=
  let x := rxOf s r.cix
  let h := rxHoldAt x f
  let s := incF s (Reg.CIP_CNT_COUNT 0)
  let move := fun (k : RxKey) => if r.kind = 5 then authenticateRtcp (replayWin s) i k else authenticate (replayWin s) i k
  match h.cur, keyFor x f i with
  | some k, some (use, some at_) =>
    setHold r.cix f ⟨some { move k with profile := use.profile, ssrc := use.ssrc, key := use.key, salt := use.salt },
      h.nexts.filter fun n => decide (at_ < n.2.2)⟩ s
  | some k, _ => setHold r.cix f { h with cur := some (move k) } s
  | none, _ => s

/-- Replace record n of a set. -/
def putRecord (x : ArrSet) (n : Nat) (r : ArrRec) (s : State) : State := putSet { x with recs := x.recs.set n r } s

/-- A record's verdict: a mismatch of the lane (R176), an index that another record has marked meanwhile, a tag that
failed, or a tag that matched (R171). -/
def tagVerdict (x : ArrSet) (n : Nat) (r : ArrRec) (i : Nat) (fault : Option (Fin 8)) (s : State) : State :=
  let f := setStart s x.owner x.flight
  let bad := putRecord x n { r with trust := .untrusted }
  match workingLane s fault, rxKeyAt (rxOf s r.cix) f, keyFor (rxOf s r.cix) f i with
  | some l, _, _ => bad (laneMismatch l.val 0 r.cix 0x01 1 s)
  | none, some k, some (use, _) =>
    if recReplayed s k r i then bad (replayHit r.cix s)
    else if !(openRecord use r i).2 then
      bad (raiseEvent 0x0E0 (incF (incF s (Reg.RXC_AUTH_FAIL r.cix)) (Reg.CIP_CNT_COUNT 1)))
    else
      let r := { r with trust := .trusted }
      rtcpRecord r x.flight (putRecord x n r (trustRecord f r i s))
  | none, _, _ => bad (noKey r.cix s)

/-- Whether the check of record n of a set waits for another of its context: one of an earlier flight, of a kind that comes
first, or of a lower index (R168). -/
def tagWaits (s : State) (x : ArrSet) (n : Nat) (r : ArrRec) (i : Nat) : Bool :=
  let f := setStart s x.owner x.flight
  s.ports.sets.any fun y => (indexed 0 y.recs).any fun e =>
    match e.2.trust with
    | .pending j =>
      let g := setStart s y.owner y.flight
      e.2.cix == r.cix && (decide (g < f) || (decide (g = f) && (decide (passRank e.2.kind < passRank r.kind) ||
        (passRank e.2.kind == passRank r.kind && y.owner == x.owner && (decide (j < i) || (decide (j = i) && decide (e.1 < n)))))))
    | _ => false

/-- TAG_CHECK (R171): the verdict on a PENDING record whose turn has come; `fault` is a lane that mismatches.
Assumption 74 (DEDUCED). -/
def tagCheck (o : SetOwner) (flight n : Nat) (fault : Option (Fin 8)) (s : State) : State :=
  match setOf s o flight with
  | none => s
  | some x =>
    match x.recs[n]? with
    | none => s
    | some r =>
      match r.trust with
      | .pending i =>
        if tagWaits s x n r i then s else atInstant (setStart s o flight) (fun s => settle (tagVerdict x n r i fault s)) s
      | _ => s

/-! ### The entropy source (R174) -/

/-- ENTROPY_FAIL. -/
def entropyFail (s : State) : State :=
  raiseEvent 0x0E8 (captureError .cip 0x05 1 false 0 0 none (setF s Reg.CIP_STAT_ENTROPY_OK 0))

/-- ENTROPY_PASS. -/
def entropyPass (s : State) : State := setF s Reg.CIP_STAT_ENTROPY_OK 1

end Sys2Proof.Machine
end

