-- ==== Sys2Proof/Machine/Frames.lean ====
section
/-! DEFINITION. The frames that leave the ports: header templates, the fields that a port fills, and protection (R151,
R166, R313). -/

namespace Sys2Proof.Machine

/-- Byte i of a queue's header template. -/
def hdrByte (s : State) (q i : Nat) : Byte :=
  BitVec.ofNat 8 (bitsOf (rget s ((Reg.QUEUE_HDR q).addr + i / 4 * 4)) (i % 4 * 8 + 7) (i % 4 * 8))

/-- The first HLEN bytes of a queue's template. -/
def hdrBytes (s : State) (q : Nat) : List Byte := (List.range (getF s (Reg.QUEUE_HLEN q))).map fun i => hdrByte s q i

/-- Where the IP header of an Ethernet frame begins: after one 802.1Q tag where there is one. -/
def ipAt (h : List Byte) : Nat := if beNat ((h.drop 12).take 2) = 0x8100 then 18 else 14

/-- Whether the frame carries IPv4. -/
def isV4 (h : List Byte) : Bool := beNat ((h.drop (ipAt h - 2)).take 2) == 0x0800

/-- Length of the IP header (R151). -/
def ipLen (h : List Byte) : Nat := if isV4 h then 20 else 40

/-- Whether a template of 80 bytes with a length holds Ethernet II, IPv4 with IHL 5 or IPv6, UDP, and an RTP fixed header
with CC 0 and X 0, with nothing beyond it (R151). -/
def templateOk (h : List Byte) (hlen : Nat) : Bool :=
  let ip := ipAt h
  let ethertype := beNat ((h.drop (ip - 2)).take 2)
  let v4 := ethertype == 0x0800 && byteAt h ip == 0x45 && byteAt h (ip + 9) == 17
  let v6 := ethertype == 0x86DD && byteAt h ip / 16 == 6 && byteAt h (ip + 6) == 17
  let rtp := ip + ipLen h + 8
  (v4 || v6) && byteAt h rtp / 64 == 2 && byteAt h rtp % 32 == 0 && hlen == rtp + 12 && (h.drop hlen).all (· == 0)

/-- Whether queue q's template is valid. -/
def queueTemplateOk (s : State) (q : Nat) : Bool :=
  templateOk ((List.range 80).map fun i => hdrByte s q i) (getF s (Reg.QUEUE_HLEN q))

/-- Replace bytes from place i. -/
def putAt (h : List Byte) (i : Nat) (bs : List Byte) : List Byte := h.take i ++ bs ++ h.drop (i + bs.length)

/-- The RTP header of a packet: M, sequence and timestamp (R151). -/
def fillRtp (h : List Byte) (at_ : Nat) (marker : Bool) (seq ts : Nat) : List Byte :=
  let h := putAt h (at_ + 1) [BitVec.ofNat 8 (byteAt h (at_ + 1) % 128 + 128 * marker.toNat)]
  putAt (putAt h (at_ + 2) (beBytes 2 seq)) (at_ + 4) (beBytes 4 ts)

/-- IP length and IPv4 header checksum over a UDP datagram of n bytes. -/
def fillIp (h : List Byte) (n : Nat) : List Byte :=
  let ip := ipAt h
  if isV4 h then
    let h := putAt (putAt h (ip + 2) (beBytes 2 (20 + n))) (ip + 10) [0, 0]
    putAt h (ip + 10) (beBytes 2 (inetChecksum ((h.drop ip).take 20)))
  else putAt h (ip + 4) (beBytes 2 n)

/-- The pseudo-header of the UDP checksum. -/
def pseudoHeader (h : List Byte) (n : Nat) : List Byte :=
  let ip := ipAt h
  if isV4 h then (h.drop (ip + 12)).take 8 ++ [0, 17] ++ beBytes 2 n
  else (h.drop (ip + 8)).take 32 ++ beBytes 4 n ++ [0, 0, 0, 17]

/-- UDP length and checksum: a computed 0 is sent as 0xFFFF, and IPv4 without CSUM sends zero (R151, Table 9). -/
def fillUdp (h body : List Byte) (csum : Bool) : List Byte :=
  let udp := ipAt h + ipLen h
  let n := h.length - udp + body.length
  let h := putAt (putAt h (udp + 4) (beBytes 2 n)) (udp + 6) [0, 0]
  if isV4 h && !csum then h
  else
    let c := inetChecksum (pseudoHeader h n ++ h.drop udp ++ body)
    putAt h (udp + 6) (beBytes 2 (if c = 0 then 65535 else c))

/-- A frame of a header and the bytes after it, padded to 60 bytes: 64 with the FCS that the MAC generates. -/
def fillFrame (h body : List Byte) (csum : Bool) : List Byte :=
  let n := h.length - (ipAt h + ipLen h) + body.length
  let f := fillUdp (fillIp h n) body csum ++ body
  f ++ List.replicate (60 - f.length) 0

/-- The protected payload with its tag, under the RTP header that the port has filled (R166). -/
def protect (k : TxKey) (index : Nat) (header payload : List Byte) : List Byte :=
  srtpSeal k.profile k.key k.salt (beNat ((header.drop 8).take 4)) index header payload

/-- A protected compound packet: it begins with its sender's SSRC (R172). -/
def protectRtcp (k : TxKey) (index : Nat) (packet : List Byte) : List Byte :=
  srtcpSeal k.profile k.key k.salt (beNat ((packet.drop 4).take 4)) index packet

/-- Bytes of a leg queue's packet on the wire, without FCS, before padding. -/
def pktBytes (s : State) (q : Nat) (p : QPkt) : Nat :=
  getF s (Reg.QUEUE_HLEN q) + p.payload.length + (match p.key with | some k => tagLen k.profile | none => 0)

/-- Frame bytes from the destination address to the FCS (R313). -/
def frameLen (n : Nat) : Nat := max 64 (n + 4)

/-- The frame of a leg queue's packet (R151, R166). -/
def pktFrame (s : State) (q : Nat) (p : QPkt) : List Byte :=
  let h := hdrBytes s q
  let rtp := h.length - 12
  let h := fillRtp h rtp p.head.marker p.seq p.head.rtpTs
  let body := match p.key with
    | some k => protect k p.index (h.drop rtp) p.payload
    | none => p.payload
  fillFrame h body (getF s (Reg.QUEUE_CSUM q) == 1)

/-- Wire time of a frame (R313). -/
def wireTime (frame : Nat) : Nat := ((frame + 20) * 882 + 78124) / 78125

end Sys2Proof.Machine
end

