-- ==== Sys2Proof/Machine/Gates.lean ====
section
/-! DEFINITION. The gate lists of the ports: segments of a cycle, open intervals, and the start of a committed list (R322
to R324). -/

namespace Sys2Proof.Machine

/-- No list: every class is open. -/
def gateListInit : GateList := ⟨false, 1411200, 0, []⟩

/-- The gates of a port after reset. -/
def gatesInit : Gates := ⟨gateListInit, 0, none⟩

/-- The gates of port p. -/
def gatesOf (s : State) (p : Nat) : Gates := sgetC gatesInit s.shp.gates p

/-- Replace them. -/
def setGates (p : Nat) (g : Gates) (s : State) : State := { s with shp := { s.shp with gates := ssetC gatesInit s.shp.gates p g } }

/-- The segments of a cycle: entry, start, end and mask. An entry in progress at the cycle's end is cut there, and the
last entry runs on to it (R322). -/
def segments (cycle : Nat) : Nat → Nat → List (Nat × Nat) → List (Nat × Nat × Nat × Nat)
  | _, _, [] => []
  | e, off, [(_, m)] => if off < cycle then [(e, off, cycle, m)] else []
  | e, off, (d, m) :: rest =>
    if cycle ≤ off then []
    else (e, off, min cycle (off + d), m) :: segments cycle (e + 1) (off + d) rest

/-- A list's segments. -/
def gateSegs (g : GateList) : List (Nat × Nat × Nat × Nat) := segments g.cycle 0 0 g.entries

/-- Whether a mask opens a class. -/
def maskOpens (m c : Nat) : Bool := m / 2 ^ c % 2 == 1

/-- How long class c stays open from an offset in the cycle: none where it never closes. -/
def openFor (g : GateList) (c off : Nat) : Option Nat :=
  let segs := gateSegs g
  let after := (segs.filter fun x => decide (off < x.2.2.1)).map fun x => (x.2.2.1 - max off x.2.1, x.2.2.2)
  let before := (segs.filter fun x => decide (x.2.1 < off)).map fun x => (min off x.2.2.1 - x.2.1, x.2.2.2)
  let run := (after ++ before).takeWhile fun x => maskOpens x.2 c
  if run.length = (after ++ before).length then none else some (run.foldl (fun n x => n + x.1) 0)

/-- The offset of an instant in the cycle of the list in force. -/
def gateOffset (g : Gates) (t : Treads) : Nat := if g.cur.cycle = 0 then 0 else (t - g.start) % g.cur.cycle

/-- Whether an open interval of class c starts at an instant. -/
def opensAt (g : Gates) (c : Nat) (t : Treads) : Bool :=
  let off := gateOffset g t
  (gateSegs g.cur).any (fun x => x.2.1 == off && maskOpens x.2.2.2 c) &&
  (t == g.start || !((gateSegs g.cur).any fun x =>
    x.2.2.1 == (if off = 0 then g.cur.cycle else off) && maskOpens x.2.2.2 c))

/-- Whether a wire time exceeds every open interval of class c (R324). -/
def exceedsAll (g : GateList) (c wire : Nat) : Bool :=
  (gateSegs g).all fun x => !maskOpens x.2.2.2 c ||
    (match openFor g c x.2.1 with | some n => decide (n < wire) | none => false)

/-- Whether the gate of class c lets a packet of a wire time start now, and whether it overruns its gate (R313, R324). -/
def gateAllows (g : Gates) (c wire : Nat) (t : Treads) : Bool × Bool :=
  if !g.cur.en then (true, false)
  else
    match openFor g.cur c (gateOffset g t) with
    | none => (true, false)
    | some n =>
      if 0 < n ∧ wire ≤ n then (true, false)
      else if exceedsAll g.cur c wire ∧ opensAt g c t then (true, true)
      else (false, false)

/-- SHP_GATE_STAT and SHP_GATE_START of port p now (R323). -/
def showGates (p : Nat) (s : State) : State :=
  let g := gatesOf s p
  let seg := if g.cur.en then (gateSegs g.cur).find? (fun x => decide (x.2.1 ≤ gateOffset g s.now) &&
    decide (gateOffset g s.now < x.2.2.1)) else none
  let s := setF s (Reg.SHP_GATE_STAT_RUNNING p) g.cur.en.toNat
  let s := setF s (Reg.SHP_GATE_STAT_WAITING p) g.next.isSome.toNat
  let s := setF s (Reg.SHP_GATE_STAT_ENTRY p) (match seg with | some x => x.1 | none => 0)
  let s := setF s (Reg.SHP_GATE_STAT_OPEN p) (match seg with | some x => x.2.2.2 | none => 255)
  setStamp3 s (Reg.SHP_GATE_START_TREADS p).addr (match g.next with | some (t, _) => t | none => g.start)

/-- GATE_LIST_START (R323): the waiting list comes into force once its start has come. -/
def gateListStart (p : Nat) (s : State) : State :=
  match (gatesOf s p).next with
  | some (t, g) =>
    if t ≤ s.now then raiseEvent 0x0C6 (showGates p (setGates p ⟨g, t, none⟩ s)) else s
  | none => s

/-- GATE_ENTRY_CHANGE (R322): the entry in force now, with the classes that it opens. -/
def gateEntryChange (p : Nat) (s : State) : State := showGates p (gateListStart p s)

/-- The list that the committed registers of port p give. -/
def gateCommitted (s : State) (p : Nat) : GateList :=
  ⟨getF s (Reg.SHP_GATE_CFG_EN p) == 1, getF s (Reg.SHP_GATE_CYCLE_CYCLE p),
   (getF s (Reg.SHP_GATE_BASE_SEC_LO p) + 4294967296 * getF s (Reg.SHP_GATE_BASE_SEC_HI p)) * treadsPerSecond +
     getF s (Reg.SHP_GATE_BASE_TREADS p),
   (List.range (getF s (Reg.SHP_GATE_CFG_LEN p))).map fun e => (getF s (Reg.GATE_DURATION p e), getF s (Reg.GATE_GATES p e))⟩

/-- The first instant B + n × CYCLE at or after the commit instant plus 8,820 treads, with B read modulo 2⁴⁸ seconds
(R323). -/
def gateStart (s : State) (g : GateList) : Treads :=
  let turn := 281474976710656 * treadsPerSecond
  let first := s.now + holdTreads
  let b := s.now / turn * turn + g.base
  if first ≤ b then b else b + nextBoundary (first - b) g.cycle

/-- A committed change forms a new list, which replaces one that waits (R323). -/
def gateCommit (p : Nat) (s : State) : State :=
  let g := gateCommitted s p
  let s := raiseIf (gatesOf s p).next.isSome 0x0C8 s
  showGates p (setGates p { gatesOf s p with next := some (gateStart s g, g) } s)

end Sys2Proof.Machine
end

