-- ==== Sys2Proof/Machine/Time.lean ====
section
/-! DEFINITION. The time unit: the servo, captures, the transmit stamp queue and the trigger outputs (Treads, flights
and network time). -/

namespace Sys2Proof.Machine

/-! ### The servo (R41 to R47) -/

/-- Largest RATE, ±500 ppm (R37). -/
def rmax : Int := 140737488355

/-- Replace the servo's state. -/
def setServo (v : Servo) (s : State) : State := { s with tim := { s.tim with servo := v } }

/-- The servo enters a state, with the events that mark entering and leaving LOCKED and HOLDOVER (Table 6). -/
def enterServo (st : ServoState) (s : State) : State :=
  let old := s.tim.servo.state
  let s := setServo { s.tim.servo with state := st } s
  let s := raiseIf (old == .locked && st != .locked) 0x062 s
  let s := raiseIf (old == .holdover && st != .holdover) 0x064 s
  let s := raiseIf (st == .locked && old != .locked) 0x061 s
  raiseIf (st == .holdover && old != .holdover) 0x063 s

/-- The last n of a list. -/
def lastN {α : Type} (n : Nat) (l : List α) : List α := l.drop (l.length - n)

/-- Largest minus smallest of a list of samples. -/
def spread : List Int → Int
  | [] => 0
  | x :: xs => xs.foldl max x - xs.foldl min x

/-- A step of d treads at the first tread after its sample (R44): the count is now 1 − d treads later, and the servo
starts again in TRACKING. -/
def servoStep (d : Int) (s : State) : State :=
  let now := ((s.now : Int) - d + 1).toNat
  let v := s.tim.servo
  let s := { s with now := now, tim := { s.tim with firstDue := true } }
  let s := setServo { v with stepGen := (v.stepGen + 1) % 16, acc := 0, rate := 0, good := 0, bad := 0, window := [],
                             stepped := true, stepAt := now, stepSize := d } s
  raiseEvent 0x060 (enterServo .tracking s)

/-- A sample in UNSET, ACQUIRE or HALTED: rejected, collected, or the one that makes the step (R44). Assumption 30 (DEDUCED). -/
def servoAcquire (o : Int) (s : State) : State :=
  let s := enterServo .acquire s
  let d := o * 441 / (3125 * 65536)
  if (s.now : Int) - d < 0 then raiseEvent 0x06B (setServo { s.tim.servo with window := [] } s)
  else
    let n := getF s Reg.TIM_LOCK_CFG_STEP_COUNT
    let w := lastN n (s.tim.servo.window ++ [o])
    let s := setServo { s.tim.servo with window := w } s
    if w.length = n ∧ spread w ≤ (getF s Reg.TIM_SPREAD_CFG_STEP_SPREAD * 65536 : Nat) then servoStep d s else s

/-- A sample in LOCKED, TRACKING or HOLDOVER turns into RATE and the lock counters (R44). -/
def servoTrack (o : Int) (s : State) : State :=
  let s := if s.tim.servo.state = .holdover then enterServo .tracking s else s
  let v := s.tim.servo
  let e := -o
  let acc := clampI (-rmax) rmax (v.acc + e * getF s Reg.TIM_SERVO_CFG_KI / 256)
  let rate := clampI (-rmax) rmax (acc + e * getF s Reg.TIM_SERVO_CFG_KP / 16)
  let lim := rate == rmax || rate == -rmax
  let lock := getF s Reg.TIM_LOCK_CFG_LOCK_THR
  let unlock := max lock (getF s Reg.TIM_UNLOCK_CFG_UNLOCK_THR)
  let near := decide (o.natAbs ≤ lock * 65536)
  let far := !near && decide (unlock * 65536 < o.natAbs)
  let good := if near then v.good + 1 else 0
  let bad := if far then v.bad + 1 else 0
  let s := setServo { v with acc := acc, rate := rate, rateLim := lim, good := good, bad := bad } s
  let s := raiseIf (lim && rate != v.rate) 0x065 s
  let s := if v.state = .tracking ∧ getF s Reg.TIM_LOCK_CFG_LOCK_COUNT ≤ good then enterServo .locked s else s
  if s.tim.servo.state = .locked ∧ getF s Reg.TIM_LOCK_CFG_UNLOCK_COUNT ≤ bad then enterServo .tracking s else s

/-- Submit an offset sample with its generation (R43, R44). -/
def servoSample (o : Int) (gen : Nat) (s : State) : State :=
  let v := s.tim.servo
  if gen ≠ v.stepGen then raiseEvent 0x066 (setServo { v with discards := (v.discards + 1) % 4294967296 } s)
  else
    let s := setServo { v with last := s.now } s
    match v.state with
    | .unset | .halted | .acquire => servoAcquire o s
    | _ => servoTrack o s

/-- The sample that TIM_SERVO_OFS holds once its highest word is written. -/
def offsetOf (s : State) (hi : Word) : Int :=
  toSigned 92 (s.tim.servo.ofsLo.toNat + 4294967296 * s.tim.servo.ofsMid.toNat + 18446744073709551616 * (hi.toNat % 268435456))

/-- Whether door d may write a word of the time unit that only the time-owner door writes (R42); the record of one that
may not. -/
def timeOwnerWrite (d a : Nat) (f : State → State) (s : State) : State :=
  if !phaseAdmits s d a true then s
  else if !reaches s d a then worldFault d a true s
  else if d ≠ timeOwner s then partitionError .tim d s
  else f s

/-- OFFSET_SAMPLE (R43, R44): door d writes the highest word of TIM_SERVO_OFS. -/
def offsetSample (d : Nat) (hi : Word) (s : State) : State :=
  timeOwnerWrite d 0x600080 (fun s => servoSample (offsetOf s hi) (hi.toNat / 268435456) s) s

/-- The servo enters HOLDOVER: RATE freezes at the integrator (R44, R46). Assumption 31 (DEDUCED). -/
def enterHoldover (s : State) : State :=
  let s := enterServo .holdover s
  setServo { s.tim.servo with rate := s.tim.servo.acc } s

/-- HOLDOVER (R44): no sample for HOLD_TIMEOUT treads in LOCKED or TRACKING. -/
def holdover (s : State) : State :=
  let v := s.tim.servo
  if (v.state = .locked ∨ v.state = .tracking) ∧ v.last + getF s Reg.TIM_HOLD_CFG_HOLD_TIMEOUT ≤ s.now then
    enterHoldover s
  else s

/-- A time restart: the next audio flight boundary starts no flight (R47). -/
def beginRestart (s : State) : State :=
  if s.tim.haltAt.isSome then s else { s with tim := { s.tim with haltAt := some (boundaryAfter s s.now) } }

/-! ### Captures (R58, R59) -/

/-- Replace a capture FIFO. -/
def setCapture (ch : Nat) (q : List CapEntry) (s : State) : State :=
  { s with tim := { s.tim with captures := ssetC [] s.tim.captures ch q } }

/-- Whether EDGES of a channel selects a polarity. -/
def edgeSelected (s : State) (ch : Nat) (falling : Bool) : Bool :=
  getF s (Reg.TIM_CAP_CFG_EDGES ch) / (if falling then 2 else 1) % 2 == 1

/-- CAPTURE_EDGE (R58, R59): a new level since `stamp` has persisted for FILTER treads. -/
def captureEdge (ch stamp : Nat) (falling : Bool) (s : State) : State :=
  if !edgeSelected s ch falling ∨ s.now < stamp + getF s (Reg.TIM_CAP_CFG_FILTER ch) then s
  else if (captureFifo s ch).length < 8 then setCapture ch (captureFifo s ch ++ [⟨stamp, falling⟩]) s
  else raiseEvent (0x06D + ch) (incSatF (setF s (Reg.TIM_CAP_STAT_OVF ch) 1) (Reg.TIM_CAP_STAT_DROPS ch))

/-- CAPTURE_POP (R59): the head entry leaves; an empty FIFO stays empty. -/
def capturePop (ch : Nat) (s : State) : State := setCapture ch ((captureFifo s ch).drop 1) s

/-! ### The transmit stamp queue (R64, R65) -/

/-- TX_STAMP_APPEND. -/
def txStampAppend (stamp port ident : Nat) (s : State) : State :=
  if s.tim.txq.length < 64 then { s with tim := { s.tim with txq := s.tim.txq ++ [⟨stamp, port, ident⟩] } }
  else raiseEvent 0x06A (incF (setF s Reg.TIM_TXQ_STAT_OVF 1) Reg.TIM_TXQ_DROP_COUNT)

/-- TX_STAMP_POP. -/
def txStampPop (s : State) : State := { s with tim := { s.tim with txq := s.tim.txq.drop 1 } }

/-! ### Trigger outputs (R60 to R63) -/

/-- Replace trigger n. -/
def setTrig (n : Nat) (x : Trig) (s : State) : State :=
  { s with tim := { s.tim with trigs := ssetC trigInit s.tim.trigs n x } }

/-- The configuration that the committed registers of TRIG_OUT[n] give. -/
def trigCommitted (s : State) (n : Nat) : TrigCfg :=
  ⟨getF s (Reg.TIM_TOUT_CFG_MODE n), getF s (Reg.TIM_TOUT_CFG_RATE n), getF s (Reg.TIM_TOUT_WIDTH_WIDTH n),
   getF s (Reg.TIM_TOUT_PERIOD_PERIOD n), getF s (Reg.TIM_TOUT_PHASE_PHASE n),
   (getF s (Reg.TIM_TOUT_AT_SEC_LO n) + 4294967296 * getF s (Reg.TIM_TOUT_AT_SEC_HI n)) * treadsPerSecond +
     getF s (Reg.TIM_TOUT_AT_TREADS n), getF s (Reg.TIM_TOUT_CFG_POL n) == 1⟩

/-- A commit changed the registers of TRIG_OUT[n]: they take effect 8,820 treads later (R61). -/
def trigSchedule (n : Nat) (s : State) : State :=
  setTrig n { trigOf s n with next := some (s.now + holdTreads, trigCommitted s n) } s

/-- The period of a mode, 0 for the modes without one. -/
def trigPeriod (s : State) (c : TrigCfg) : Nat :=
  match c.mode with
  | 2 => c.period
  | 3 => flightLen s
  | 4 => ratePeriod c.rate
  | _ => 0

/-- Modes 2 to 4 with a width not less than the period (R62). Assumption 37 (DEDUCED). -/
def trigBad (s : State) (c : TrigCfg) : Bool :=
  decide (2 ≤ c.mode) && decide (c.mode ≤ 4) && decide (trigPeriod s c ≤ c.width)

/-- An instant as a one-shot stamp sees it: seconds modulo 2⁴⁸. -/
def instant48 (t : Treads) : Nat := t % (281474976710656 * treadsPerSecond)

/-- The waiting configuration of TRIG_OUT[n] takes effect once its instant has come (R61, R62). -/
def trigSettle (n : Nat) (s : State) : State :=
  match (trigOf s n).next with
  | none => s
  | some (at_, c) =>
    if s.now < at_ then s
    else
      let missed := c.mode = 1 ∧ c.oneAt < instant48 at_
      let s := setTrig n { trigOf s n with cfg := c, next := none, bad := trigBad s c, missed := missed } s
      let s := setIf missed (Reg.TIM_TOUT_STAT_MISSED n) 1 s
      raiseIf (decide missed || trigBad s c) (0x076 + n) s

/-- Whether this instant is an edge instant of a configuration (Table 5); a boundary that a restart, Hold or a withdrawal keeps from
starting a flight is none (R63). -/
def trigEdgeNow (s : State) (c : TrigCfg) : Bool :=
  match c.mode with
  | 1 => c.oneAt == instant48 s.now
  | 2 => decide (0 < c.period) && s.now % c.period == c.phase % c.period
  | 3 => s.tim.flights == .running && !boundaryTaken s s.now && pairFlies s && decide (0 < flightLen s) && s.now % flightLen s == 0
  | 4 => s.now % ratePeriod c.rate == 0
  | _ => false

/-- TRIGGER_EDGE (R60): the pin goes active for WIDTH treads. -/
def triggerEdge (n : Nat) (s : State) : State :=
  let s := trigSettle n s
  let x := trigOf s n
  if s.tim.servo.stepped && !inKeep s && trigEdgeNow s x.cfg && !x.bad && !x.missed then
    let s := setIf (x.cfg.mode = 1) (Reg.TIM_TOUT_STAT_FIRED n) 1 s
    setTrig n { x with pulseEnd := some (max (s.now + x.cfg.width) (x.pulseEnd.getD 0)) } s
  else s

/-- TRIGGER_PULSE_END (R60). -/
def triggerPulseEnd (n : Nat) (s : State) : State :=
  match (trigOf s n).pulseEnd with
  | some e => if e ≤ s.now then setTrig n { trigOf s n with pulseEnd := none } s else s
  | none => s

/-- Trigger outputs go inactive while STEPPED is 0 and in Keep (R63). -/
def triggersOff (s : State) : State :=
  [0, 1, 2, 3, 4, 5, 6, 7].foldl (fun s n => setTrig n { trigOf s n with pulseEnd := none } s) s

/-- The flight at an instant starts; the first one since a step leaves its stamp in TIM_FLIGHT_FIRST, and flights that start or
resume raise event 0x068. Assumption 35 (DEDUCED). -/
def noteFlight (t : Treads) (s : State) : State :=
  let s := raiseIf (s.tim.flights != .running) 0x068 s
  { s with tim := { s.tim with
    flights := .running, lastFlight := t, firstDue := false, flightFirst := if s.tim.firstDue then t else s.tim.flightFirst } }

/-- FLIGHTS_HALT (R47): at the boundary after a time restart flights stop, the state is HALTED and STEPPED reads 0. -/
def flightsHalt (s : State) : State :=
  match s.tim.haltAt with
  | none => s
  | some b =>
    if s.now < b then s
    else
      let s := { s with tim := { s.tim with flights := .stopped, haltAt := none } }
      let s := enterServo .halted s
      raiseEvent 0x067 (triggersOff (setServo { s.tim.servo with stepped := false } s))

end Sys2Proof.Machine
end

