-- ==== Sys2Proof/Machine/Shaper.lean ====
section
/-! DEFINITION. The egress scheduler: eligibility, deficit round robin, takes, the emission window and samples (R313 to
R321, R325). -/

namespace Sys2Proof.Machine

/-! ### Candidates -/

/-- Whether a number in a list is a leg queue. -/
def isQueue (i : Nat) : Bool := decide (i < 0x10000)

/-- Whether it is a service. -/
def isService (i : Nat) : Bool := decide (serviceId 0 ≤ i)

/-- The head packet of a leg queue, where it is complete (R155). -/
def headPkt (s : State) (q : Nat) : Option QPkt := ((queueOf s q).pkts.head?).filter (·.complete)

/-- The frames that wait in a port's control queue, and in its host queue. -/
def controlQ (s : State) (p : Nat) : List RawFrame := sgetC [] s.shp.control p
def hostQ (s : State) (p : Nat) : List RawFrame := sgetC [] s.shp.host p

/-- The head frame of a control or host queue. -/
def headRaw (s : State) (i : Nat) : Option RawFrame :=
  if i < hostId 0 then (controlQ s (i - controlId 0)).head? else (hostQ s (i - hostId 0)).head?

/-- Frame bytes of the head of a leg, control or host queue. -/
def headLen (s : State) (i : Nat) : Nat :=
  if isQueue i then (match headPkt s i with | some k => frameLen (pktBytes s i k) | none => 0)
  else match headRaw s i with | some f => frameLen f.bytes.length | none => 0

/-- The length that deficits and limiters count (R317). -/
def countedLen (frame ovh : Nat) : Nat := max 1 ((frame : Int) + toSigned 8 ovh).toNat

/-- The counted length of a queue's head. -/
def queueCount (s : State) (i : Nat) : Nat := countedLen (headLen s i) (if isQueue i then getF s (Reg.QUEUE_OVERHEAD i) else 0)

/-- A queue's or service's quantum (R313, R316). -/
def quantumOf (s : State) (i : Nat) : Nat :=
  if isQueue i then getF s (Reg.QUEUE_QUANTUM i)
  else if isService i then getF s (Reg.SVC_QUANTUM (i - serviceId 0)) else 2048

/-- Whether the gate of a class lets the head of a queue start now (R313, R324). -/
def gateOk (s : State) (p c i : Nat) : Bool := (gateAllows (gatesOf s p) c (wireTime (headLen s i)) s.now).1

/-- Whether the head packet of a leg queue of class c is eligible in a tier (R313, R314). -/
def queueEligible (s : State) (p c : Nat) (excess : Bool) (q : Nat) : Bool :=
  match headPkt s q with
  | none => false
  | some k => (k.head.noSlot || decide (k.head.slot ≤ s.now)) && gateOk s p c q && limAllows excess s.now (schedOf s q).lim

/-- Whether a list's entry is eligible in a tier: a service when its own limiter gives the tier and one of its queues is
eligible (R316); a control or host queue has no limiter. -/
def entryEligible (s : State) (p c : Nat) (excess : Bool) (i : Nat) : Bool :=
  if isQueue i then queueEligible s p c excess i
  else if isService i then
    limAllows excess s.now (schedOf s i).lim &&
      (svcList s (i - serviceId 0)).any fun q => queueEligible s p c false q || queueEligible s p c true q
  else !excess && (headRaw s i).isSome && gateOk s p c i

/-! ### Deficit round robin (R314) -/

/-- A turn begins: the quantum is added once. -/
def beginTurn (i : Nat) (s : State) : State :=
  let x := schedOf s i
  if x.turn then s else setSched i { x with deficit := x.deficit + quantumOf s i, turn := true } s

/-- An entry goes to the tail, its turn over. -/
def endTurn (i : Nat) (s : State) : State := setSched i { schedOf s i with turn := false } s

/-- drr_pick over a service's queues. -/
def drrService (p c v : Nat) (excess : Bool) : Nat → State → Option Nat × State
  | 0, s => (none, s)
  | n + 1, s =>
    match svcList s v with
    | [] => (none, s)
    | q :: rest =>
      let s := if queueEligible s p c excess q then beginTurn q s else s
      if queueEligible s p c excess q ∧ queueCount s q ≤ (schedOf s q).deficit then (some q, s)
      else drrService p c v excess n (setSvcList v (rest ++ [q]) (endTurn q s))

/-- The queue that a service would send from, committed queues first. -/
def pickService (p c v : Nat) (s : State) : Option Nat × State :=
  let n := (svcList s v).length
  match drrService p c v false n s with
  | (some q, s) => (some q, s)
  | (none, s) => drrService p c v true n s

/-- A choice of the scheduler: the queue, the service that it belongs to, and whether the tier was excess. -/
structure Pick where
  queue  : Nat
  svc    : Option Nat
  excess : Bool
  deriving DecidableEq, Repr

/-- Whether an entry whose turn it is can be chosen, and the queue that it sends from. -/
def tryEntry (p c : Nat) (excess : Bool) (i : Nat) (s : State) : Option Pick × State :=
  if isService i then
    let v := i - serviceId 0
    match pickService p c v s with
    | (some q, s) =>
      (if countedLen (headLen s q) (getF s (Reg.SVC_OVERHEAD v)) ≤ (schedOf s i).deficit then some ⟨q, some v, excess⟩ else none, s)
    | (none, s) => (none, s)
  else (if queueCount s i ≤ (schedOf s i).deficit then some ⟨i, none, excess⟩ else none, s)

/-- drr_pick over the list of port p and class c. -/
def drrList (p c : Nat) (excess : Bool) : Nat → State → Option Pick × State
  | 0, s => (none, s)
  | n + 1, s =>
    match listOf s p c with
    | [] => (none, s)
    | i :: rest =>
      if entryEligible s p c excess i then
        match tryEntry p c excess i (beginTurn i s) with
        | (some k, s) => (some k, s)
        | (none, s) => drrList p c excess n (setList p c (rest ++ [i]) (endTurn i s))
      else drrList p c excess n (setList p c (rest ++ [i]) (endTurn i s))

/-- pick(p, now): classes from 7 down, committed before excess (R314). -/
def pickPort (p : Nat) : List (Nat × Bool) → State → Option Pick × State
  | [], s => (none, s)
  | (c, e) :: rest, s =>
    match drrList p c e (listOf s p c).length s with
    | (some k, s) => (some k, s)
    | (none, s) => pickPort p rest s

/-- The order of classes and tiers. Assumption 71 (DEDUCED). -/
def tiers : List (Nat × Bool) := [7, 6, 5, 4, 3, 2, 1, 0].flatMap fun c => [(c, false), (c, true)]

/-! ### Takes (R315, R318, R319, R325) -/

/-- The head packet leaves its queue; room and pages go to the words that wait. -/
def removeHead (q : Nat) (s : State) : State :=
  let x := queueOf s q
  let s := putQueue q { x with pkts := x.pkts.drop 1 } s
  let s := if (headPkt s q).isSome then s else leaveLists q s
  pumpAround q s

/-- A queue or service pays for a take. -/
def chargeSched (i n : Nat) (s : State) : State :=
  let x := schedOf s i
  setSched i { x with deficit := x.deficit - n, lim := limCharge s.now n x.lim } s

/-- The port's own limiter allows a take (SHP_PORT_RATE). -/
def portAllows (s : State) (p : Nat) : Bool :=
  getF s (Reg.SHP_PORT_RATE_RATE p) == 0 || decide (sgetC 0 s.shp.portNext p ≤ s.now * 65536)

/-- The port's own limiter is charged. Assumption 72 (DEDUCED). -/
def chargePort (p n : Nat) (s : State) : State :=
  let r := getF s (Reg.SHP_PORT_RATE_RATE p)
  if r = 0 then s
  else { s with shp := { s.shp with portNext := ssetC 0 s.shp.portNext p (calendarTake s.now r (sgetC 0 s.shp.portNext p) n) } }

/-- A take of n counted bytes (R315, R316). -/
def chargeTake (p : Nat) (k : Pick) (s : State) : State :=
  let frame := headLen s k.queue
  let s := chargePort p (queueCount s k.queue) (chargeSched k.queue (queueCount s k.queue) s)
  match k.svc with
  | some v => chargeSched (serviceId v) (countedLen frame (getF s (Reg.SVC_OVERHEAD v))) s
  | none => s

/-- Counters of a take: TAKEN, EXCESS_TAKEN, and a gate overrun (R324). -/
def countTake (p : Nat) (k : Pick) (s : State) : State :=
  let c := match k.svc with
    | some v => getF s (Reg.SVC_CLASS v)
    | none =>
      if isQueue k.queue then getF s (Reg.QUEUE_CLASS k.queue)
      else if k.queue < hostId 0 then getF s (Reg.SHP_PORT_CFG_CTRL_CLASS p) else getF s (Reg.SHP_PORT_CFG_HOST_CLASS p)
  let overrun := (gateAllows (gatesOf s p) c (wireTime (headLen s k.queue)) s.now).2
  let s := incF s (Reg.SHP_CNT_COUNT 0)
  let s := if k.excess then incF s (Reg.SHP_CNT_COUNT 3) else s
  if overrun then raiseEvent 0x0C7 (incF s (Reg.SHP_CNT_COUNT 2)) else s

/-- What an error in the SRAM words that a pick reads does (R326): a corrected bit is counted; an uncorrectable word of a queue's
or service's state empties its limiter and deficit. -/
def pickError (e : ShpError) (s : State) : State :=
  let lost := fun (i n : Nat) =>
    let x := schedOf s i
    raiseEvent 0x0CD (captureError .shp 0x02 2 false n 0 none
      (setSched i { x with deficit := 0, lim := { x.lim with c := 0, p := 0, at_ := s.now, next := s.now * 65536 } } s))
  match e with
  | .corrected => raiseEvent 0x0CC (captureError .shp 0x01 1 false 0 0 none (incF s (Reg.SHP_CNT_COUNT 7)))
  | .queue q => lost q.val q.val
  | .service v => lost (serviceId v.val) v.val

/-- The egress stamp of a frame whose first bit crosses the balls `delay` treads from now (R133). -/
def egressStamp (s : State) (p delay : Nat) : Treads :=
  ((s.now + delay : Nat) + toSigned 16 (getF s (Reg.ETH_STAMP_ADJ_TX p)) : Int).toNat

/-- The port is held for a frame's wire time (R313). -/
def holdPort (p frame : Nat) (s : State) : State :=
  { s with shp := { s.shp with portBusy := ssetC 0 s.shp.portBusy p (s.now + wireTime frame) } }

/-- A frame leaves, unless the device does not emit media and control packets (R424). -/
def sendFrame (p delay : Nat) (bytes : List Byte) (hostFrame : Bool) (s : State) : State :=
  if !hostFrame && !s.twin.emitting then s
  else
    let s := incF s (Reg.ETH_CNT_COUNT p 12)
    { s with out := { s.out with frames := s.out.frames ++ [⟨p, egressStamp s p delay, bytes⟩] } }

/-- SENT, DELAY_LAST and DELAY_PEAK of a take (R325). -/
def noteDelay (p q delay : Nat) (k : QPkt) (s : State) : State :=
  let since : Int := if k.head.noSlot then k.at_ else k.head.slot
  let d := (egressStamp s p delay : Int) - since
  let s := setF (incF s (Reg.QUEUE_SENT q)) (Reg.QUEUE_DELAY_LAST q) (ofSigned 32 d)
  setF s (Reg.QUEUE_DELAY_PEAK q) (max (getF s (Reg.QUEUE_DELAY_PEAK q)) d.toNat)

/-- A protected packet counts for its context. -/
def countProtected (q : Nat) (k : QPkt) (s : State) : State :=
  if k.key.isNone then s
  else
    let s := incF s (Reg.CIP_CNT_COUNT 4)
    let x := txOf s q
    if x.key = k.key then setTx q { x with packets := x.packets + 1 } s else s

/-- A media packet that has been taken is protected and sent, or dropped: a mismatch (R176), a group before E (R430), or a
protected frame beyond MAX_FRAME (R166). -/
def emitTaken (p q delay : Nat) (k : QPkt) (fault : Option (Fin 8)) (s : State) : State :=
  let frame := frameLen (pktBytes s q k)
  match workingLane s fault, k.key with
  | some l, some _ => laneMismatch l.val 1 q 0x01 1 s
  | _, _ =>
    let s := contribute q k s
    if !k.head.noSlot ∧ k.head.slot < s.twin.emitFrom then s
    else if k.key.isSome ∧ getF s (Reg.ETH_PORT_CFG_MAX_FRAME p) < frame then incF s (Reg.CIP_CNT_COUNT 7)
    else sendFrame p delay (pktFrame s q k) false (holdPort p frame (countProtected q k s))

/-- Replace a port's control queue, and its host queue; one that becomes empty leaves its list. -/
def setControl (p : Nat) (l : List RawFrame) (s : State) : State :=
  let s := { s with shp := { s.shp with control := ssetC [] s.shp.control p l } }
  if l.isEmpty then leaveLists (controlId p) s else s
def setHost (p : Nat) (l : List RawFrame) (s : State) : State :=
  let s := { s with shp := { s.shp with host := ssetC [] s.shp.host p l } }
  if l.isEmpty then leaveLists (hostId p) s else s

/-- A raw frame leaves; a protected one that meets a mismatch of a lane is not sent (R176). -/
def emitRaw (p delay : Nat) (isHost : Bool) (f : RawFrame) (fault : Option (Fin 8)) (s : State) : State :=
  match workingLane s fault, f.guard with
  | some l, some q => laneMismatch l.val 1 q 0x01 1 s
  | _, _ =>
    sendFrame p delay (f.bytes ++ List.replicate (60 - f.bytes.length) 0) isHost (holdPort p (frameLen f.bytes.length) s)

/-- A frame of a control or host queue is taken: a host frame completes its request, and its stamp falls due (R148,
R150). -/
def takeRaw (p delay : Nat) (k : Pick) (f : RawFrame) (fault : Option (Fin 8)) (s : State) : State :=
  let isHost := decide (hostId 0 ≤ k.queue)
  let s := countTake p k s
  let s := chargeTake p k s
  let s := emitRaw p delay isHost f fault s
  let s := match f.req with
    | some (d, r) => complete d r 0 stOk 0 s
    | none => s
  let s := match f.stamp with
    | some i => { s with ports := { s.ports with stampsDue := s.ports.stampsDue ++ [⟨egressStamp s p delay, p, i⟩] } }
    | none => s
  if isHost then setHost p ((hostQ s p).drop 1) s else setControl p ((controlQ s p).drop 1) s

/-- A leg queue's head packet is taken. -/
def takePkt (p delay : Nat) (k : Pick) (x : QPkt) (fault : Option (Fin 8)) (s : State) : State :=
  let s := countTake p k s
  let s := chargeTake p k s
  let s := noteDelay p k.queue delay x s
  removeHead k.queue (emitTaken p k.queue delay x fault s)

/-- A poisoned packet is dropped and its take undone (R157). -/
def dropPoison (p q : Nat) (s : State) : State := raiseEvent 0x0C4 (incF (removeHead q s) (Reg.ETH_CNT_COUNT p 13))

/-! ### The emission window (R321) -/

/-- Whether a leg queue's head packet is beyond its window. -/
def windowPast (s : State) (q : Nat) : Bool :=
  match headPkt s q with
  | none => false
  | some k =>
    let w := getF s (Reg.QUEUE_DROP_AFTER q)
    w != 0 && !k.head.noSlot && decide (k.head.slot + w * holdTreads < s.now)

/-- Discard the head packets beyond their window; the first argument bounds their number. -/
def expireFuel (q : Nat) : Nat → State → State
  | 0, s => s
  | n + 1, s =>
    match headPkt s q with
    | none => s
    | some k =>
      if !windowPast s q then s
      else
        let s := removeHead q (contribute q k s)
        let s := incF (incF s (Reg.QUEUE_LATE_DROPS q)) (Reg.SHP_CNT_COUNT 1)
        let s := raiseIf (!s.shp.lateEvent) 0x0C5 s
        expireFuel q n { s with shp := { s.shp with lateEvent := true } }

/-- EMISSION_WINDOW_EXPIRY (R321). -/
def emissionWindowExpiry (q : Nat) (s : State) : State :=
  if getF s (Reg.QUEUE_NOTIFY q) = 1 then s else expireFuel q ((queueOf s q).pkts.length) s

/-- The leg queues that stand in a port's lists. -/
def portQueues (s : State) (p : Nat) : List Nat :=
  let ids := (List.range 8).flatMap fun c => listOf s p c
  ids.filter isQueue ++ (ids.filter isService).flatMap fun i => svcList s (i - serviceId 0)

/-! ### SCHEDULER_PICK -/

/-- Pick until a packet leaves or none is eligible: poisoned packets are dropped and the pick repeated. `word` is what a word of
the first packet that the port takes meets as it leaves the queue's storage (R157). -/
def pickFuel (p delay : Nat) (fault : Option (Fin 8)) : Nat → PoisonCause → State → State
  | 0, _, s => s
  | n + 1, word, s =>
    match pickPort p tiers s with
    | (none, s) => s
    | (some k, s) =>
      if isQueue k.queue then
        match headPkt s k.queue with
        | none => s
        | some x =>
          let s := notePoison k.queue word s
          if x.poison || word != .none then pickFuel p delay fault n .none (dropPoison p k.queue s)
          else takePkt p delay k x fault s
      else match headRaw s k.queue with
        | none => s
        | some f => takeRaw p delay k f fault s

/-- SCHEDULER_PICK (R314): an idle, enabled port whose own limiter allows it picks; packets beyond their window are
discarded first (Table 5). `delay` is the treads from the pick to the balls, `fault` a lane that mismatches, `word` what the
words of the packet meet, `errors` what the scheduler's own SRAM words meet. Assumption 70 (DEDUCED). -/
def schedulerPick (p delay : Nat) (fault : Option (Fin 8)) (word : PoisonCause) (errors : List ShpError) (s : State) : State :=
  let s := gateListStart p s
  if getF s (Reg.ETH_PORT_CFG_EN p) = 0 ∨ s.now < sgetC 0 s.shp.portBusy p ∨ !portAllows s p then s
  else
    let s := errors.foldl (fun s e => pickError e s) s
    let s := (portQueues s p).foldl (fun s q => emissionWindowExpiry q s) s
    pickFuel p delay fault (((portQueues s p).map fun q => (queueOf s q).pkts.length).foldl (· + ·) 1) word s

/-! ### Control and host frames -/

/-- A frame enters a port's control queue, whose class CTRL_CLASS gives. -/
def pushControl (p : Nat) (f : RawFrame) (s : State) : State :=
  let c := getF s (Reg.SHP_PORT_CFG_CTRL_CLASS p)
  let s := if (controlQ s p).isEmpty then setList p c (listOf s p c ++ [controlId p]) (joinSched (controlId p) s) else s
  setControl p (controlQ s p ++ [f]) s

/-- A frame enters a port's host queue. -/
def pushHost (p : Nat) (f : RawFrame) (s : State) : State :=
  let c := getF s (Reg.SHP_PORT_CFG_HOST_CLASS p)
  let s := if (hostQ s p).isEmpty then setList p c (listOf s p c ++ [hostId p]) (joinSched (hostId p) s) else s
  setHost p (hostQ s p ++ [f]) s

/-- TX_FRAME executes (R148): the frame enters the host queue of its port, whence it completes when it leaves.
Assumption 62 (DEDUCED). -/
def doTxFrame (d : Nat) (r : Req) (a data : List Byte) (s : State) : State :=
  let p := argAt a 16 1
  if 4 ≤ p then complete d r 0 stRange 0 s
  else
    let stamp := if argAt a 17 1 % 2 = 1 then some (argAt a 18 2) else none
    pushHost p ⟨data.take (argAt a 20 2), s.now, some (d, r), stamp, none⟩ s

/-- TX_FRAME (R148): the oldest TX_FRAME of a door executes. -/
def txFrame (d : Nat) (s : State) : State := runImmediate d 0x0100 (fun r a data s => doTxFrame d r a data s) s

/-- The stamp that falls due first. -/
def earliestStamp (l : List TxStamp) : Option TxStamp :=
  l.foldl (fun m x => if m.any (fun y => decide (y.stamp ≤ x.stamp)) then m else some x) none

/-- TX_STAMP_APPEND (R64, R150): the stamp of the first frame whose stamp point has left enters the transmit stamp queue. -/
def txStampNext (s : State) : State :=
  match earliestStamp s.ports.stampsDue with
  | none => s
  | some x =>
    if s.now < x.stamp then s
    else txStampAppend x.stamp x.port x.ident { s with ports := { s.ports with stampsDue := s.ports.stampsDue.erase x } }

/-! ### Samples (R325) -/

/-- At the start of every SAMPLE_FLIGHTS-th audio flight each queue samples its depth and restarts its peaks. -/
def sampleQueues (n : Nat) (s : State) : State :=
  let f := getF s Reg.SHP_SAMPLE_CFG_FLIGHTS
  if f = 0 ∨ n % f ≠ 0 then s
  else
    let s := { s with shp := { s.shp with sampleAt := s.now } }
    (s.queues.map (·.1)).foldl (fun s q =>
      let l := getF s (Reg.QUEUE_LEVEL q)
      setF (setF (setF s (Reg.QUEUE_DEPTH_SAMPLE q) l) (Reg.QUEUE_DEPTH_PEAK q) l) (Reg.QUEUE_DELAY_PEAK q) 0) s

end Sys2Proof.Machine
end

