-- ==== Sys2Proof/Machine/Ports.lean ====
section
/-! DEFINITION. The media ports: classification, merge, arrival sets, paths, the host path and memberships (R132 to R150). -/

namespace Sys2Proof.Machine

/-! ### Counters of a port (ETH_CNT) -/

/-- Count c of port p. -/
def ethCount (p c : Nat) (s : State) : State := incF s (Reg.ETH_CNT_COUNT p c)

/-! ### The match table (R134, Table 3) -/

/-- The VLAN of a frame: its tag's, or its port's PVID. -/
def frameVid (s : State) (f : RxFrame) : Nat := (frameVlan f.raw).getD (getF s (Reg.ETH_PORT_CFG_PVID f.port.val))

/-- The 40 key bytes of a frame that carries a datagram, with a source. -/
def matchKey (s : State) (f : RxFrame) (u : Datagram) (src : List Byte) : List Byte :=
  u.dst ++ src ++ leBytes 2 u.dport ++ leBytes 2 (frameVid s f) ++ leBytes 1 f.port.val ++ [0, 0, 0]

/-- The 40 key bytes of a match entry. -/
def entryKey (s : State) (i : Nat) : List Byte :=
  (List.range 10).flatMap fun k => leBytes 4 (rget s ((Reg.MATCH_DST i).addr + 4 * k)).toNat

/-- The bucket of a key. -/
def keyBucket (k : List Byte) : Nat := (crc32c k).toNat % 8192

/-- The first valid entry of a key's bucket that carries the key. -/
def probe (s : State) (k : List Byte) : Option Nat :=
  (List.range 4).map (fun w => 4 * keyBucket k + w) |>.find? fun i => getF s (Reg.MATCH_VALID i) == 1 && entryKey s i == k

/-- The lookup: first with the frame's source, then with zero (R134). -/
def matchLookup (s : State) (f : RxFrame) (u : Datagram) : Option Nat :=
  match probe s (matchKey s f u u.src) with
  | some i => some i
  | none => probe s (matchKey s f u (List.replicate 16 0))

/-! ### Paths (R141) -/

/-- Treads without a frame after which a path goes down. -/
def pathTimeout (s : State) : Nat := getF s Reg.ETH_MERGE_CFG_PATH_TIMEOUT * holdTreads

/-- The state of a path: the stamp of its last frame while it is up. -/
def pathOf (s : State) (key path : Nat) : Option Treads := sgetC none s.ports.pathSeen (2 * key + path)

/-- The audio legs that an object of a kind covers. -/
def legsOf (kind object chans : Nat) : List Nat :=
  if kind = 1 then ((List.range chans).map (object + ·)).filter fun l => decide (l < 10240) else []

/-- A path changes state: the event, ETH_PATH_LAST, and the legs' PATH bits. -/
def pathChange (kind object path chans : Nat) (up : Bool) (s : State) : State :=
  let s := setF (setF s Reg.ETH_PATH_LAST_KIND kind) Reg.ETH_PATH_LAST_OBJECT object
  let s := setF (setF s Reg.ETH_PATH_LAST_PATH path) Reg.ETH_PATH_LAST_UP up.toNat
  let s := (legsOf kind object chans).foldl (fun s l =>
    setF s (if path = 0 then Reg.LEG_PATH_A l else Reg.LEG_PATH_B l) up.toNat) s
  raiseEvent (if up then 0x0A9 else 0x0A8) s

/-- A frame has matched an entry on a path. -/
def pathFrame (kind otype object path chans : Nat) (stamp : Treads) (s : State) : State :=
  let key := mergeKey kind otype object
  let was := (pathOf s key path).isSome
  let s := { s with ports := { s.ports with pathSeen := ssetC none s.ports.pathSeen (2 * key + path) (some stamp) } }
  if was then s else pathChange kind object path chans true s

/-- Channels of the first valid entry that names an object; 1 where none does. -/
def objectChans (s : State) (kind object : Nat) : Nat :=
  let hit := (s.regs.filterMap fun e =>
    if e.1 < 0x80200000 ∧ 0x80000000 ≤ e.1 ∧ e.1 % 64 = 0x28 then some ((e.1 - 0x80000000) / 64) else none).find? fun i =>
      getF s (Reg.MATCH_VALID i) == 1 && getF s (Reg.MATCH_KIND i) == kind && getF s (Reg.MATCH_OBJECT i) == object
  match hit with
  | some i => getF s (Reg.MATCH_SUB i) % 8 + 1
  | none => 1

/-- PATH_TIMEOUT (R141). -/
def pathTimeoutAt (kind otype object path : Nat) (s : State) : State :=
  let key := mergeKey kind otype object
  match pathOf s key path with
  | some t =>
    if t + pathTimeout s ≤ s.now then
      pathChange kind object path (objectChans s kind object) false
        { s with ports := { s.ports with pathSeen := ssetC none s.ports.pathSeen (2 * key + path) none } }
    else s
  | none => s

/-! ### Merge (R142) -/

/-- A fresh merge state (R143). -/
def mergeInit : Merge := ⟨true, 0, [], 0⟩

/-- What becomes of a copy. -/
inductive Copy where
  | accept | duplicate | old
  deriving DecidableEq, Repr

/-- How far seq lies after top, from −32,768 to 32,767. -/
def seqDistance (seq top : Nat) : Int := (((seq : Int) - top + 98304) % 65536) - 32768

/-- merge(o, seq) with a window. -/
def mergeCopy (window : Nat) (m : Merge) (seq : Nat) : Copy × Merge :=
  if m.fresh then (.accept, ⟨false, seq, [seq], 0⟩)
  else
    let d := seqDistance seq m.top
    if 0 < d then
      (.accept, ⟨false, seq, (m.seen.filter fun x => decide (seqDistance seq x < window)) ++ [seq], 0⟩)
    else if -(window : Int) < d then
      if m.seen.contains seq then (.duplicate, { m with old := 0 }) else (.accept, { m with old := 0, seen := m.seen ++ [seq] })
    else (.old, { m with old := m.old + 1, fresh := m.old + 1 == 16 })

/-- The merge state of an object changes. -/
def setMerge (key : Nat) (m : Merge) (s : State) : State :=
  { s with ports := { s.ports with merges := ssetC mergeInit s.ports.merges key m } }

/-- One copy passes its object's merge; a restart after 16 old copies raises its event (R142). -/
def mergeNext (key seq : Nat) (s : State) : Copy × State :=
  let m := sgetC mergeInit s.ports.merges key
  let (c, m') := mergeCopy (getF s Reg.ETH_MERGE_CFG_WINDOW) m seq
  (c, raiseIf (m.fresh && m.old == 16) 0x0AC (setMerge key m' s))

/-! ### Reception statistics (R146, RFC 3550) -/

/-- The RTP clock of an object (R404). -/
def rtpClock (s : State) (kind object : Nat) : Nat :=
  if kind = 1 then
    match getF s (Reg.LEG_IN_FMT object) with
    | 1 => if getF s (Reg.LEG_IN_RATE object) = 1 then 96000 else 48000
    | 2 => if getF s (Reg.LEG_IN_RATE object) = 1 then 96000 else 48000
    | 3 => 48000
    | _ => 8000
  else 90000

/-- Jitter in sixteenths after a packet whose transit differs by d from the last one's (RFC 3550 A.8). -/
def jitterStep (j : Nat) (d : Int) : Nat := j + d.natAbs - (j + 8) / 16

/-- A merged packet counts in its object's statistics. -/
def countReceived (key kind object : Nat) (stamp : Treads) (h : ArrRec) (s : State) : State :=
  let transit := ((stamp * rtpClock s kind object / treadsPerSecond : Nat) : Int) - h.rtpTs
  let x := match sgetC none s.ports.rxStats key with
    | none => ⟨h.ssrc, h.seq, h.seq, 1, 0, 0, 0, some transit⟩
    | some x =>
      let top := ((x.top : Int) + max 0 (seqDistance h.seq (x.top % 65536))).toNat
      let j := match x.transit with
        | some t => jitterStep x.jitter (toSigned 32 (ofSigned 32 (transit - t)))
        | none => x.jitter
      { x with ssrc := h.ssrc, top := top, received := x.received + 1, jitter := j, transit := some transit }
  { s with ports := { s.ports with rxStats := ssetC none s.ports.rxStats key (some x) } }

/-! ### Arrival (R144, R145) -/

/-- A packet as a match entry's kind reads it: its header, the header's bytes, and the payload after it, without the padding of a
packet that is not protected; none where these do not fit. RTCP is all payload. -/
def packetOf (kind : Nat) (cipher : Bool) (u : List Byte) : Option (RtpHead × List Byte × List Byte) :=
  if kind = 5 then (rtcpHeadOf u).map fun h => (h, [], u)
  else
    let n := rtpHeaderLen u
    match rtpOf u, unpad (rtpPadded u && !cipher) (u.drop n) with
    | some h, some p => some (h, u.take n, p)
    | _, _ => none

/-- The arrival record of an accepted copy of entry i (Table 5). -/
def arrivalRecord (s : State) (f : RxFrame) (u : Datagram) (i : Nat) (h : RtpHead) (header payload : List Byte)
    (stamp : Treads) : ArrRec :=
  let sub := getF s (Reg.MATCH_SUB i)
  let kind := getF s (Reg.MATCH_KIND i)
  ⟨stamp, kind, getF s (Reg.MATCH_PATH i), h.seq, getF s (Reg.MATCH_OBJECT i), h.ts, crc32c u.payload, payload,
   h.marker, f.port.val, h.ssrc, h.pt, getF s (Reg.MATCH_CIX i), if kind = 1 then sub % 8 + 1 else 1,
   if kind = 5 then sub % 4 else 0, header, [], if getF s (Reg.MATCH_CIPHER i) = 1 then .waiting else .plain, false⟩

/-- A record joins the set of the flight that its stamp names. -/
def joinSet (r : ArrRec) (s : State) : State :=
  let o := recOwner r.kind r.object
  let n := joinFlight s o r.stamp
  let x := setOrNew s o n
  sideRecord r (putSet { x with recs := x.recs ++ [r] } s)

/-- A record that finds the store full (R145). -/
def storeFull (p : Nat) (s : State) : State := raiseEvent 0x0AA (setF (ethCount p 9 s) Reg.ETH_ARR_STAT_FULL 1)

/-! ### The host path (R149, R150) -/

/-- Bytes of a frame that one posted buffer takes. -/
def bufferBytes : Nat := 2032

/-- The 16-byte prefix of a filled buffer (R149). -/
def bufferPrefix (stamp : Treads) (p len : Nat) (cont more : Bool) : List Byte :=
  leBytes 4 (treadsOf stamp) ++ leBytes 6 (secondsOf stamp) ++ leBytes 1 p ++ leBytes 1 (cont.toNat + 2 * more.toNat) ++
  leBytes 2 len ++ leBytes 2 0

/-- Buffers posted by door d. -/
def postedOf (s : State) (d : Nat) : List Posted := sgetC [] s.ports.posted d

/-- Replace them. -/
def setPosted (d : Nat) (l : List Posted) (s : State) : State :=
  setF { s with ports := { s.ports with posted := ssetC [] s.ports.posted d l } } (Reg.ETH_HOST_STAT_POSTED d) l.length

/-- Part i of a frame fills the oldest buffer. -/
def fillBuffer (d p len : Nat) (stamp : Treads) (bytes : List Byte) (i : Nat) (s : State) : State :=
  match postedOf s d with
  | [] => s
  | b :: rest =>
    let part := bytes.take bufferBytes
    let pre := bufferPrefix stamp p len (decide (0 < i)) (decide (bufferBytes < bytes.length))
    complete d b.req 0 stOk part.length (hostWrite d b.addr (pre ++ part) (setPosted d rest s))

/-- Fill buffers with a frame's parts in order. -/
def fillBuffers (d p len : Nat) (stamp : Treads) (raw : List Byte) (n : Nat) (s : State) : State :=
  (List.range n).foldl (fun s i => fillBuffer d p len stamp (raw.drop (i * bufferBytes)) i s) s

/-- A host-path frame of door d: its buffers are filled, or it is dropped whole (R149). -/
def hostPath (d p : Nat) (stamp : Treads) (raw : List Byte) (s : State) : State :=
  let n := (raw.length + bufferBytes - 1) / bufferBytes
  if (postedOf s d).length < n then
    raiseIf (getF s (Reg.ETH_HOST_STAT_HOST_DROPS d) == 0) 0x0AD (incSatF s (Reg.ETH_HOST_STAT_HOST_DROPS d))
  else fillBuffers d p raw.length stamp raw n s

/-- RX_POST executes (R149). -/
def doRxPost (d : Nat) (r : Req) (a : List Byte) (s : State) : State :=
  if 256 ≤ (postedOf s d).length then complete d r 0 0x103 0 s
  else setPosted d (postedOf s d ++ [⟨r, argAt a 24 8⟩]) s

/-- RX_POST (R149): the oldest RX_POST of a door executes. -/
def rxPost (d : Nat) (s : State) : State := runImmediate d 0x0101 (fun r a _ s => doRxPost d r a s) s

/-! ### Memberships (R150) -/

/-- What a report tells: a join, a leave, or the current state in answer to a query. -/
def reportJoin : Nat := 0
def reportLeave : Nat := 1
def reportQuery : Nat := 2

/-- Whether a group is an IPv4 group, in the form ::ffff:a.b.c.d. -/
def groupV4 (g : List Byte) : Bool := g.take 12 == [0, 0, 0, 0, 0, 0, 0, 0, 0, 0, 255, 255]

/-- Bytes of a report of one group record: Ethernet, a tag unless the VLAN is the port's PVID (R150 does not say whether that VLAN's reports
are tagged), IP with router alert, and the IGMPv3 or MLDv2 report with one source unless any source is meant. Assumption 64
(DESIGN CHOICE). -/
def reportLength (s : State) (m : Membership) : Nat :=
  let tag := if m.vlan = getF s (Reg.ETH_PORT_CFG_PVID m.port) then 0 else 4
  let srcs := if m.source.all (· == 0) then 0 else 1
  14 + tag + (if groupV4 m.group then 24 + 16 + 4 * srcs else 48 + 28 + 16 * srcs)

/-- A report of a membership leaves through its port's control queue. -/
def sendReport (what : Nat) (m : Membership) (s : State) : State :=
  let mac := getF s (Reg.ETH_MAC_MAC_LO m.port) + 4294967296 * getF s (Reg.ETH_MAC_MAC_HI m.port)
  let bytes := (List.range (reportLength s m)).map fun i => Config.reportByte mac m.vlan m.group m.source what i
  pushControl m.port ⟨bytes, s.now, none, none, none⟩ s

/-- JOIN at its commit: status and state (R150). -/
def commitJoin (a : List Byte) (s : State) : Nat × State :=
  let m : Membership := ⟨argAt a 16 1, argAt a 18 2 % 4096, (a.drop 4).take 16, (a.drop 20).take 16⟩
  if 4 ≤ m.port ∨ 4096 ≤ argAt a 18 2 then (stRange, s)
  else if s.ports.memberships.contains m then (stOk, s)
  else if 8192 ≤ s.ports.memberships.length then (0x104, s)
  else
    let s := { s with ports := { s.ports with memberships := s.ports.memberships ++ [m] } }
    (stOk, sendReport reportJoin m (sendReport reportJoin m s))

/-- LEAVE at its commit. -/
def commitLeave (a : List Byte) (s : State) : Nat × State :=
  let m : Membership := ⟨argAt a 16 1, argAt a 18 2 % 4096, (a.drop 4).take 16, (a.drop 20).take 16⟩
  if 4 ≤ m.port ∨ 4096 ≤ argAt a 18 2 then (stRange, s)
  else if !s.ports.memberships.contains m then (stOk, s)
  else
    let s := { s with ports := { s.ports with memberships := s.ports.memberships.filter (· != m) } }
    (stOk, sendReport reportLeave m (sendReport reportLeave m s))

/-- A membership query is answered for every group held on its port and VLAN, or for the group that it names. -/
def answerQuery (f : RxFrame) (group : List Byte) (s : State) : State :=
  (s.ports.memberships.filter fun m => m.port == f.port.val && m.vlan == frameVid s f &&
    (group.all (· == 0) || m.group == group)).foldl (fun s m => sendReport reportQuery m s) s

/-! ### Ingress (R132, Table 2) -/

/-- The unit of payload bytes that an audio format's sample time takes for c channels (R135): 1 for Opus, whose packets hold no
sample times. -/
def sampleUnit (fmt c : Nat) : Nat :=
  match fmt with
  | 1 => 3 * c
  | 2 => 2 * c
  | 4 => c
  | 5 => c
  | 6 => c
  | _ => 1

/-- Bytes of a payload without a protected packet's tag; none where its padding is still protected. -/
def mediaLen (s : State) (i : Nat) (header payload : List Byte) : Option Nat :=
  if getF s (Reg.MATCH_CIPHER i) = 1 then
    match (rxOf s (getF s (Reg.MATCH_CIX i))).hold.cur with
    | some k => if rtpPadded header then none else some (payload.length - tagLen k.profile)
    | none => none
  else some payload.length

/-- Whether a KIND 1 payload is a whole number of sample times of entry i's channels (R135). -/
def lengthOk (s : State) (i : Nat) (header payload : List Byte) : Bool :=
  (mediaLen s i header payload).all fun n =>
    n % sampleUnit (getF s (Reg.LEG_IN_FMT (getF s (Reg.MATCH_OBJECT i)))) (getF s (Reg.MATCH_SUB i) % 8 + 1) == 0

/-- The PT and SSRC checks that entry i asks for. -/
def headOk (s : State) (i : Nat) (h : RtpHead) : Bool :=
  (getF s (Reg.MATCH_PT_CHK i) == 0 || h.pt == getF s (Reg.MATCH_PT i)) &&
  (getF s (Reg.MATCH_SSRC_CHK i) == 0 || h.ssrc == getF s (Reg.MATCH_SSRC i))

/-- Step 5 of Table 2 for an entry of KIND 1 to 5. -/
def rtpOk (s : State) (i : Nat) (x : RtpHead × List Byte × List Byte) : Bool :=
  x.1.version == 2 && headOk s i x.1 && (getF s (Reg.MATCH_KIND i) != 1 || lengthOk s i x.2.1 x.2.2)

/-- Step 5 for an entry of KIND 6: the checks that it asks for. -/
def hostOk (s : State) (i : Nat) (u : List Byte) : Bool :=
  match rtpOf u with
  | some h => headOk s i h
  | none => getF s (Reg.MATCH_PT_CHK i) == 0 && getF s (Reg.MATCH_SSRC_CHK i) == 0

/-- Whether a replay plays into the object of a record: kind 1 an audio leg, 2 a stream (R405). -/
def replayInto (s : State) (kind object chans : Nat) : Bool :=
  s.ucr.replays.any fun e => match e.2 with
    | some r => (r.kind == kind) && decide (object ≤ r.dest) && decide (r.dest < object + chans)
    | none => false

/-- Steps 7 to 9 for the record of a copy: the merge, the store, the set. Assumption 65 (DEDUCED). -/
def acceptCopy (r : ArrRec) (s : State) : State :=
  if replayInto s r.kind r.object r.chans then incF s (Reg.UCR_CNT_COUNT 11)
  else
    let (c, s) := mergeNext (mergeKey r.kind r.otype r.object) r.seq s
    match c with
    | .duplicate => ethCount r.port 7 s
    | .old => ethCount r.port 8 s
    | .accept =>
      if storeSize ≤ storeCount s then storeFull r.port s
      else joinSet r ((legsOf r.kind r.object r.chans).foldl (fun s l => setF s (Reg.LEG_LAST_SEQ l) r.seq) s)

/-- Step 6: a frame stamped while flights are stopped (R48). -/
def stoppedFrame (p : Nat) (s : State) : State :=
  let first := !s.ports.stoppedSeen
  raiseIf first 0x0AE { ethCount p 6 s with ports := { s.ports with stoppedSeen := true } }

/-- Whether a joiner whose flights have not started yet collects a record's flight: one that starts at or after J (R430). -/
def joining (s : State) (kind object : Nat) (stamp : Treads) : Bool :=
  s.twin.unionFrom.any fun t =>
    let o := recOwner kind object
    kind != 6 && s.twin.state != .lockstep && decide (t ≤ setStart s o (joinFlight s o stamp))

/-- A matched frame of KIND 1 to 5: its path lives, and steps 5 to 9. -/
def mediaFrame (f : RxFrame) (u : Datagram) (i : Nat) (stamp : Treads) (s : State) : State :=
  let p := f.port.val
  let kind := getF s (Reg.MATCH_KIND i)
  let object := getF s (Reg.MATCH_OBJECT i)
  let sub := getF s (Reg.MATCH_SUB i)
  let s := pathFrame kind (sub % 4) object (getF s (Reg.MATCH_PATH i)) (if kind = 1 then sub % 8 + 1 else 1) stamp s
  match (packetOf kind (getF s (Reg.MATCH_CIPHER i) == 1) u.payload).filter (rtpOk s i) with
  | none => ethCount p 5 s
  | some x =>
    if s.tim.flights = .stopped ∧ !joining s kind object stamp then stoppedFrame p s
    else acceptCopy (arrivalRecord s f u i x.1 x.2.1 x.2.2 stamp) s

/-- A matched frame of KIND 6: steps 5 and 6, and the host path. -/
def hostFrame (f : RxFrame) (u : Datagram) (i : Nat) (stamp : Treads) (s : State) : State :=
  let p := f.port.val
  if !hostOk s i u.payload then ethCount p 5 s
  else if s.tim.flights = .stopped then stoppedFrame p s
  else hostPath (getF s (Reg.MATCH_SUB i) % 4) p stamp f.raw s

/-- The steps from a matched entry on. -/
def matchedFrame (f : RxFrame) (u : Datagram) (i : Nat) (stamp : Treads) (s : State) : State :=
  let s := incF s (Reg.MATCH_HITS i)
  if getF s (Reg.MATCH_KIND i) = 6 then hostFrame f u i stamp s else mediaFrame f u i stamp s

/-- The ingress stamp of a frame whose first bit crosses the balls now (R133). -/
def ingressStamp (s : State) (p : Nat) : Treads := ((s.now : Int) + toSigned 16 (getF s (Reg.ETH_STAMP_ADJ_RX p))).toNat

/-- Steps 2 to 9 of Table 2: a frame that carries no UDP datagram in the supported options is a membership query or is dropped. -/
def ingressParsed (f : RxFrame) (stamp : Treads) (s : State) : State :=
  let p := f.port.val
  match queryOf f.raw, datagramOf f.raw with
  | some g, _ => answerQuery f g s
  | none, none => ethCount p 3 s
  | none, some u =>
    if u.dport = 319 ∨ u.dport = 320 then hostPath (timeOwner s) p stamp f.raw s
    else match matchLookup s f u with
      | none => ethCount p 4 s
      | some i => matchedFrame f u i stamp s

/-- The steps of Table 2 from step 1; the length counts the FCS. -/
def ingress (f : RxFrame) (s : State) : State :=
  let p := f.port.val
  if !f.fcsOk then ethCount p 1 s
  else if f.raw.length + 4 < 64 ∨ getF s (Reg.ETH_PORT_CFG_MAX_FRAME p) < f.raw.length + 4 then ethCount p 2 s
  else if framePause f.raw then ethCount p 11 s
  else ingressParsed f (ingressStamp s p) s

/-- FRAME_RECEIVE (R132, R133): nothing on a disabled port. Assumption 66 (DESIGN CHOICE). -/
def frameReceive (f : RxFrame) (s : State) : State :=
  if getF s (Reg.ETH_PORT_CFG_EN f.port.val) = 0 then s
  else ingress f (ethCount f.port.val 0 (addF s (Reg.ETH_CNT_COUNT f.port.val 14) f.corrected))

/-! ### Closing sets (R144, R168) -/

/-- Whether a set is completed by a union with a partner's (R414, R430). -/
def needsUnion (s : State) (x : ArrSet) : Bool :=
  s.twin.unionFrom.any fun t => decide (t ≤ setStart s x.owner x.flight)

/-- The feedback that a stream's final set owes, once per video flight (R146). -/
def noteFeedback (x : ArrSet) (s : State) : State :=
  match x.owner with
  | .stream n =>
    if getF s (Reg.STR_CCFB n) = 1 then
      let ssrc := match sgetC none s.ports.rxStats (objKey 2 n) with | some y => y.ssrc | none => 0
      { s with ports := { s.ports with feedback := s.ports.feedback ++
        [⟨n, setStart s x.owner x.flight, ssrc, (x.recs.filter fun r => r.kind == 2).map fun r => (r.seq, r.stamp)⟩] } }
    else s
  | _ => s

/-- Whether one record of a final set comes before another, on every device that holds them (R36). -/
def recordBefore (a b : ArrRec) : Bool :=
  if a.kind ≠ b.kind then decide (a.kind < b.kind)
  else if a.object ≠ b.object then decide (a.object < b.object)
  else if a.rtpTs ≠ b.rtpTs then decide (a.rtpTs < b.rtpTs)
  else if a.seq ≠ b.seq then decide (a.seq < b.seq)
  else decide (a.pcrc.toNat < b.pcrc.toNat)

/-- Insert a record in that order. -/
def recordInsert (r : ArrRec) : List ArrRec → List ArrRec
  | [] => [r]
  | x :: xs => if recordBefore r x then r :: x :: xs else x :: recordInsert r xs

/-- The records of a set in that order. -/
def inOrder (rs : List ArrRec) : List ArrRec := rs.foldl (fun l r => recordInsert r l) []

/-- What a record of a final set tells the ports: it counts in its object's statistics, and plain RTCP acts (R36, R146, R147). -/
def recordEffects (flight : Nat) (r : ArrRec) (s : State) : State :=
  if r.kind = 5 then (if r.trust = .plain then rtcpRecord r flight s else s)
  else countReceived (objKey r.kind r.object) r.kind r.object r.stamp r s

/-- A set becomes final: what its records tell is a function of the set alone. -/
def finalSet (x : ArrSet) (s : State) : State :=
  let x := { x with recs := inOrder x.recs }
  noteFeedback x (x.recs.foldl (fun s r => recordEffects x.flight r s) (putSet { x with final := true } s))

/-- On a device that completes no union, closed sets are final from their flight's start (R168). -/
def finalizeSets (s : State) : State :=
  (s.ports.sets.filter fun x => x.closed && !x.final && !needsUnion s x && decide (setStart s x.owner x.flight ≤ s.now)).foldl
    (fun s x => finalSet x s) s

/-- A set closes at its cut-off plus 705 treads, from start-up's step 10 on. -/
def closeSet (o : SetOwner) (flight : Nat) (s : State) : State :=
  if s.cht.step < 10 ∨ s.now + arrMargin s < setStart s o flight + 705 then s
  else
    let x := setOrNew s o flight
    if x.closed then s
    else
      let s := putSet { x with closed := true } s
      if o = .audio then setF s Reg.ETH_ARR_STAT_LAST x.recs.length else s

/-! ### Links (R132, Table 11) -/

/-- PORT_LINK_CHANGE; `hiSer` is the symbol error detector's output. -/
def portLinkChange (p : Nat) (up hiSer : Bool) (s : State) : State :=
  let s := setF s (Reg.ETH_PORT_STAT_HI_SER p) hiSer.toNat
  let s := setF (setF s (Reg.ETH_PORT_STAT_LINK p) up.toNat) (Reg.ETH_PORT_STAT_ALIGN p) up.toNat
  raiseEvent (0x0A0 + p) (setF s (Reg.ETH_PORT_STAT_FEC_LOCK p) up.toNat)

/-- FEC_UNCORRECTABLE_CODEWORD; `hiSer` is the symbol error detector's output. -/
def fecUncorrectable (p : Nat) (hiSer : Bool) (s : State) : State :=
  let s := setF s (Reg.ETH_PORT_STAT_HI_SER p) hiSer.toNat
  raiseEvent (0x0A4 + p) (if getF s (Reg.ETH_PORT_CFG_EN p) = 1 then ethCount p 15 s else s)

/-- A committed change of match entry i makes the merge state of the object that it names in a state fresh (R143). -/
def freshMerge (s : State) (i : Nat) : State → State :=
  setMerge (mergeKey (getF s (Reg.MATCH_KIND i)) (getF s (Reg.MATCH_SUB i) % 4) (getF s (Reg.MATCH_OBJECT i))) mergeInit

end Sys2Proof.Machine
end

