-- ==== Sys2Proof/Machine/UcrLines.lean ====
section
/-! DEFINITION. The Undercroft's packages: geometry, address translation, programs and reads of lines, wear levelling,
sparing, and the channel commands (Undercroft: the archive, R378 to R395, R406). -/

namespace Sys2Proof.Machine

/-! ### Packages -/

/-- Replace the Undercroft's state. -/
def setUcr (x : UcrUnit) (s : State) : State := { s with ucr := x }

/-- Replace package k. -/
def setPkg (k : Nat) (x : UcrPkg) (s : State) : State := setUcr { s.ucr with pkgs := ssetC pkgInit s.ucr.pkgs k x } s

/-- Take a free spare line. -/
def takeSpare (s : State) (x : UcrPkg) : Option (Nat × UcrPkg) :=
  match x.freed with
  | p :: ps => some (p, { x with freed := ps })
  | [] =>
    let p := max (poolFirst s) x.nextFree
    if p < poolEnd s x then some (p, { x with nextFree := p + 1 }) else none

/-! ### Address translation (R384) -/

/-- The line of slot x of logical region q. -/
def slotLine (s : State) (k : UcrPkg) (q x : Nat) : Nat :=
  if x = regionLines then sget (fun q => dataRegions s * regionLines + q) k.gapLine q
  else sget (fun q => q) k.region q * regionLines + x

/-- A physical line after its SPARE entry; none where it is DEAD. -/
def redirect (k : UcrPkg) (p : Nat) : Option Nat :=
  match sgetC none k.spare p with
  | none => some p
  | some t => t

/-- Package-logical line m to its physical line; none where it is DEAD. -/
def physLine (s : State) (k : UcrPkg) (m : Nat) : Option Nat :=
  match sgetC none k.hot m with
  | some p => if sgetC none k.spare p = some none then none else some p
  | none =>
    let q := m / regionLines
    let x := (m % regionLines + sgetC 0 k.start q) % regionLines
    let x := if sgetC regionLines k.gap q ≤ x then x + 1 else x
    redirect k (slotLine s k q x)

/-- Channel, package and package-logical line of a global logical line (R383): the package number, and m. -/
def globalLine (l : Nat) : Nat × Nat := (2 * (l % 8) + l / 8 % 2, l / 16)

/-! ### Frames (R379, R381) -/

/-- Beat i of a value's bits, for the parity of a frame. -/
def parityOf (bs : List Byte) : Nat := (bs.foldl (fun n b => n + (List.range 8).countP fun i => b.getLsbD i) 0) % 2

/-- The six CA beats of a command: OP, ADDR from its least significant byte on, and ARG with the bit that makes the parity of all 48
bits even. -/
def caBeats (op addr arg : Nat) : List Byte :=
  let bs := leBytes 1 op ++ leBytes 4 addr ++ leBytes 1 (arg % 128)
  leBytes 1 op ++ leBytes 4 addr ++ leBytes 1 (arg % 128 + 128 * parityOf bs)

/-- A frame goes to package k. -/
def issueFrame (k op addr arg : Nat) (data : List Byte) (s : State) : State :=
  { s with out := { s.out with ucrFrames := s.out.ucrFrames ++ [⟨k, caBeats op addr arg, data⟩] } }

/-- The 288 bytes of a line: its data and the metadata of Table 5. -/
def lineImage (l : UcrLine) : List Byte :=
  let head := l.data ++ leBytes 4 (l.tag % 1073741824 + 1073741824 * l.isMap.toNat + 2147483648 * l.poison.toNat) ++ leBytes 2 l.ptime
  let body := head ++ leBytes 2 (crc16 head).toNat
  body ++ (List.range 24).map (Config.bchByte body)

/-- The data that a read returns with poison where nothing decodes: it is open. Assumption 178 (DESIGN CHOICE). -/
def lostLine (s : State) (k p : Nat) : List Byte := (List.range 256).map (Config.lostLineByte (p * 16 + k) s.now)

/-! ### Programs (R380, R385 to R388) -/

/-- Hours since a package's format (Table 5). -/
def pkgHours (s : State) (x : UcrPkg) : Nat := (s.now - x.formatAt) / treadsPerSecond / 3600 % 65536

/-- Count a program against its region, and raise the wear alarm once (R388). -/
def countWear (k p : Nat) (s : State) : State :=
  let x := pkgOf s k
  let r := p / regionLines
  let n := sgetC 0 x.wear r + 1
  let avg := n / regionLines
  let s := setPkg k { x with wear := ssetC 0 x.wear r n } s
  let s := setF s (Reg.UCR_PKG_WEAR_MAX_AVG k) (max avg (getF s (Reg.UCR_PKG_WEAR_MAX_AVG k)))
  if !x.wearTold ∧ getF s Reg.UCR_WEAR_CFG_WEAR_ALARM * 1000000 ≤ avg then
    raiseEvent 0x207 (setPkg k { pkgOf s k with wearTold := true } s)
  else s

/-- Program a physical line of package k: its content, its wear, and the frame that waits for its bank. -/
def programLine (k p : Nat) (l : UcrLine) (s : State) : State :=
  let x := pkgOf s k
  let l := { l with ptime := pkgHours s x }
  countWear k p (setPkg k { x with lines := ssetC none x.lines p (some l), queue := x.queue ++ [⟨p, false⟩] } s)

/-- A line never programmed since the format reads as zero bytes (the model's choice). Assumption 114 (DESIGN CHOICE). -/
def blankLine (tag : Nat) : UcrLine := ⟨List.replicate 256 0, tag, false, false, 0⟩

/-- The content of a physical line. -/
def lineAt (x : UcrPkg) (p : Nat) : UcrLine := (sgetC none x.lines p).getD (blankLine p)

/-- Copy the line of one slot of region q to another. -/
def copySlot (k q src dst : Nat) (s : State) : State :=
  let x := pkgOf s k
  match redirect x (slotLine s x q src), redirect x (slotLine s x q dst) with
  | some a, some b => programLine k b (lineAt x a) s
  | _, _ => s

/-- One gap move of region q (R385). -/
def moveGap (k q : Nat) (s : State) : State :=
  let x := pkgOf s k
  let g := sgetC regionLines x.gap q
  let s := incF s (Reg.UCR_CNT_COUNT 7)
  if g = 0 then
    let s := copySlot k q regionLines 0 s
    let x := pkgOf s k
    setPkg k { x with gap := ssetC regionLines x.gap q regionLines, sinceGap := ssetC 0 x.sinceGap q 0,
                      start := ssetC 0 x.start q ((sgetC 0 x.start q + 1) % regionLines) } s
  else
    let s := copySlot k q (g - 1) g s
    let x := pkgOf s k
    setPkg k { x with gap := ssetC regionLines x.gap q (g - 1), sinceGap := ssetC 0 x.sinceGap q 0 } s

/-- Whether region q's gap move is due: GAP_INTERVAL programs since the last. -/
def gapDue (s : State) (k q : Nat) : Bool :=
  let g := getF s Reg.UCR_WEAR_CFG_GAP_INTERVAL
  g != 0 && decide (g ≤ sgetC 0 (pkgOf s k).sinceGap q)

/-- HOT_THR programs; 0 stands for 65,536. -/
def hotThreshold (s : State) : Nat :=
  if getF s Reg.UCR_WEAR_CFG_HOT_THR = 0 then 65536 else getF s Reg.UCR_WEAR_CFG_HOT_THR

/-- Whether line m's count has reached HOT_THR. -/
def hotDue (s : State) (k m : Nat) : Bool :=
  sgetC (0, 0) (pkgOf s k).hotTable (m % 64) == (m, hotThreshold s)

/-- A hot move of line m (R386): its data goes to a free spare line under HOT, and an earlier HOT line returns to the
pool. -/
def moveHot (k m : Nat) (s : State) : State :=
  let x := pkgOf s k
  let x := { x with hotTable := ssetC (0, 0) x.hotTable (m % 64) (m, 0) }
  match takeSpare s x, physLine s x m with
  | some (p, x'), some old =>
    let back := match sgetC none x.hot m with | some h => [h] | none => []
    let s := setPkg k { x' with hot := ssetC none x'.hot m (some p), freed := x'.freed ++ back } s
    incF (programLine k p (lineAt x old) s) (Reg.UCR_CNT_COUNT 8)
  | _, _ => setPkg k x s

/-- Count a program to m in the hot table (R386). -/
def countHot (k m : Nat) (s : State) : State :=
  let x := pkgOf s k
  let (t, n) := sgetC (0, 0) x.hotTable (m % 64)
  setPkg k { x with hotTable := ssetC (0, 0) x.hotTable (m % 64) (if t = m ∧ n ≠ 0 then (m, n + 1) else (m, 1)) } s

/-- A program to package-logical line m of package k: due moves first, then the counts, then the line (R384 to R386); a
faulted package's programs are held (R406). -/
def programLogical (k m : Nat) (data : List Byte) (poison : Bool) (s : State) : State :=
  let q := m / regionLines
  if (pkgOf s k).faulted then setUcr { s.ucr with held := s.ucr.held ++ [⟨k, m, data, poison⟩] } s
  else
  let s := if gapDue s k q then moveGap k q s else s
  let s := if hotDue s k m then moveHot k m s else s
  let s := countHot k m s
  let x := pkgOf s k
  let s := setPkg k { x with sinceGap := ssetC 0 x.sinceGap q (sgetC 0 x.sinceGap q + 1) } s
  match physLine s (pkgOf s k) m with
  | none => s
  | some p => programLine k p ⟨data, m, false, poison, 0⟩ s

/-- Program global logical lines from l on, 256 bytes each. -/
def programGlobal : Nat → Nat → List Byte → Bool → State → State
  | 0, _, _, _, s => s
  | n + 1, l, bs, poison, s =>
    let (k, m) := globalLine l
    programGlobal n (l + 1) (bs.drop 256) poison (programLogical k m (bs.take 256) poison s)

/-! ### Reads (R382, R394) -/

/-- The step of the ladder at which a read decodes, with its corrected bits: the code corrects up to 16 (R381), and the ladder has five
steps. -/
def ladderStep : Ladder → Nat → Option (Nat × Nat)
  | [], _ => none
  | none :: rest, i => ladderStep rest (i + 1)
  | some n :: rest, i => if 5 ≤ i then none else if n ≤ 16 then some (i, n) else ladderStep rest (i + 1)

/-- The reference offsets of the ladder (R382). -/
def ladderOffset : Nat → Int
  | 0 => 0 | 1 => 1 | 2 => -1 | 3 => 2 | _ => -2

/-- The READ frames of a ladder that ends at a step. -/
def ladderFrames (k p last : Nat) (s : State) : State :=
  (List.range (min last 4 + 1)).foldl (fun s i => issueFrame k 1 p (ofSigned 7 (ladderOffset i)) [] s) s

/-- A read without errors: decoded at offset 0 with no corrected bit. Assumption 113 (DESIGN CHOICE). -/
def cleanLadder : Ladder := [some 0]

/-- UCR_ERR_LAST and the error log (R382). -/
def ucrError (code pkg line : Nat) (s : State) : State :=
  let s := setF s Reg.UCR_ERR_LAST_LINE line
  let s := setF (setF s Reg.UCR_ERR_LAST_PKG pkg) Reg.UCR_ERR_LAST_CODE code
  captureError .ucr code (if code = 1 then 1 else 2) (code == 5 || code == 6) pkg 0 none s

/-- The corrected bits of one step of a ladder; a step that does not decode has no count, and an open value stands for
it. -/
def stepBits (s : State) (k : Nat) (l : Ladder) (i : Nat) : Nat :=
  (l.getD i none).getD (Config.openNat (131072 + k) s.now i)

/-- A test read for calibration: every CAL_EVERY-th line read for scrub, export or replay is read again at REF − 1 and at REF + 1
(R394). -/
def testRead (k p : Nat) (l : Ladder) (s : State) : State :=
  let every := getF s Reg.UCR_CAL_CFG_CAL_EVERY
  let x := pkgOf s k
  if every = 0 then s
  else if x.calReads + 1 < every then setPkg k { x with calReads := x.calReads + 1 } s
  else
    let bits := stepBits s k l
    setPkg k { x with calReads := 0, eMinus := x.eMinus + bits 2, eZero := x.eZero + bits 0, ePlus := x.ePlus + bits 1 }
      (issueFrame k 1 p (ofSigned 7 1) [] (issueFrame k 1 p (ofSigned 7 (-1)) [] s))

/-- Read a physical line through the ladder: its data and whether it is poisoned, and its corrected bits (R382); every
read of a faulted package returns poison (R406). -/
def readPhys (k p : Nat) (l : Ladder) (s : State) : (List Byte × Bool × Nat) × State :=
  let x := pkgOf s k
  let line := lineAt x p
  if x.faulted then ((lostLine s k p, true, 0), s)
  else match ladderStep l 0 with
    | some (i, n) =>
      let s := ladderFrames k p i s
      let s := if i = 0 then addF s (Reg.UCR_CNT_COUNT 2) n else incF s (Reg.UCR_CNT_COUNT 3)
      ((line.data, line.poison, n), s)
    | none => ((lostLine s k p, true, 0), raiseEvent 0x203 (ucrError 2 k p (incF (ladderFrames k p 4 s) (Reg.UCR_CNT_COUNT 4))))

/-- Read a global logical line; a DEAD line returns poison (R384). -/
def readGlobal (l : Nat) (lad : Ladder) (test : Bool) (s : State) : (List Byte × Bool) × State :=
  let (k, m) := globalLine l
  match physLine s (pkgOf s k) m with
  | none => ((lostLine s k m, true), s)
  | some p =>
    let ((d, bad, _), s) := readPhys k p lad s
    ((d, bad), if test then testRead k p lad s else s)

/-- Read n global logical lines from l on; the bytes with, for each line, whether it is poisoned. -/
def readLines : Nat → Nat → List Ladder → Bool → State → (List Byte × List Bool) × State
  | 0, _, _, _, s => (([], []), s)
  | n + 1, l, lads, test, s =>
    let ((d, bad), s) := readGlobal l (lads.headD cleanLadder) test s
    let ((ds, bads), s) := readLines n (l + 1) (lads.drop 1) test s
    ((d ++ ds, bad :: bads), s)

/-- First global logical line of a partition. -/
def partLine (s : State) (n : Nat) : Nat := getF s (Reg.PART_BASE n) * 4194304

/-- Bytes of a partition. -/
def partSize (s : State) (n : Nat) : Nat := getF s (Reg.PART_SIZE n) * 1073741824

/-- Bytes of a partition from an offset: whole lines are read. -/
def readPart (n ofs len : Nat) (lads : List Ladder) (test : Bool) (s : State) : (List Byte × List Bool) × State :=
  let first := ofs / 256
  let lines := (ofs + len + 255) / 256 - first
  let ((bs, bads), s) := readLines lines (partLine s n + first) lads test s
  (((bs.drop (ofs % 256)).take len, bads), s)

/-- Write bytes of a partition from an offset: the lines are read, merged and programmed. -/
def writePart (n ofs : Nat) (bs : List Byte) (poison : Bool) (s : State) : State :=
  let first := ofs / 256
  let lines := (ofs + bs.length + 255) / 256 - first
  let ((old, _), s) := readLines lines (partLine s n + first) [] false s
  let new := old.take (ofs % 256) ++ bs ++ old.drop (ofs % 256 + bs.length)
  programGlobal lines (partLine s n + first) new poison s

/-! ### Sparing and retirement (R387) -/

/-- Whether the next spare region below the map area is wholly free. -/
def spareRegionFree (s : State) (x : UcrPkg) : Option Nat :=
  let r := pkgRegions s - 2 - x.retired.length
  if dataRegions s ≤ r ∧ x.nextFree ≤ r * regionLines ∧ poolFirst s ≤ r * regionLines ∧
      !(x.freed.any fun p => p / regionLines == r) then some r else none

/-- Retire physical region r: its lines are copied to a spare region, which the region table then names. -/
def retireRegion (k r new : Nat) (s : State) : State :=
  let x := pkgOf s k
  let q := ((List.range (dataRegions s)).find? fun q => sget (fun q => q) x.region q == r).getD r
  let s := (List.range regionLines).foldl (fun s i =>
    match redirect x (r * regionLines + i) with
    | some p => programLine k (new * regionLines + i) (lineAt x p) s
    | none => s) s
  let x := pkgOf s k
  let back := x.spare.filterMap fun e => if e.1 / regionLines = r then e.2.getD none else none
  raiseEvent 0x205 (setPkg k { x with
    region := sset (fun q => q) x.region q new
    spare := sdrop (fun p => p / regionLines == r) x.spare
    freed := x.freed ++ back
    retired := x.retired ++ [(r, new)] } s)

/-- The logical line whose HOT entry names a physical line. -/
def hotOf (x : UcrPkg) (p : Nat) : Option Nat := (x.hot.find? fun e => e.2 == some p).map (·.1)

/-- The line whose SPARE entry a failure of line p concerns: the one that p stands in for, or p itself. -/
def sparedLine (x : UcrPkg) (p : Nat) : Nat := ((x.spare.find? fun e => e.2 == some (some p)).map (·.1)).getD p

/-- A program of line p has failed twice (R387): its data goes to a spare line, or it is DEAD. -/
def spareLine (k p : Nat) (s : State) : State :=
  let x := pkgOf s k
  let l := lineAt x p
  let at_ := sparedLine x p
  match takeSpare s x with
  | none =>
    let s := setPkg k { x with spare := ssetC none x.spare at_ (some none) } s
    raiseEvent 0x206 (ucrError 5 k p (setF s (Reg.UCR_PKG_STAT_STATE k) 2))
  | some (t, x') =>
    let s := match hotOf x p with
      | some m => setPkg k { x' with hot := ssetC none x'.hot m (some t) } s
      | none => setPkg k { x' with spare := ssetC none x'.spare at_ (some (some t)) } s
    let s := programLine k t l s
    let s := raiseEvent 0x204 (ucrError 1 k p (incF s (Reg.UCR_CNT_COUNT 5)))
    let r := at_ / regionLines
    match spareRegionFree s (pkgOf s k) with
    | some new => if 1024 ≤ spareEntries (pkgOf s k) r then retireRegion k r new s else s
    | none => s

/-! ### Channel commands (R379 to R382) -/

/-- What a command returned from a package. -/
def note (k : Nat) (bs : List Byte) (s : State) : State := setUcr { s.ucr with answer := some (k, bs) } s

/-- READ (R381, R382): a line through the retry ladder, where its bank is idle; the 288 bytes that come back, with POISON where
nothing decodes. -/
def ucrRead (k p : Nat) (l : Ladder) (s : State) : State :=
  if (sgetC none (pkgOf s k).busy (p % 16)).isSome then s
  else
    let line := lineAt (pkgOf s k) p
    let ((d, bad, _), s) := readPhys k p l s
    note k (lineImage { line with data := d, poison := bad }) s

/-- PROG (R380): the oldest program whose bank is idle takes its bank. -/
def ucrProg (k : Nat) (s : State) : State :=
  let x := pkgOf s k
  if x.faulted then s
  else match x.queue.find? (fun g => (sgetC none x.busy (g.line % 16)).isNone) with
    | none => s
    | some g =>
      setPkg k { x with queue := x.queue.erase g, busy := ssetC none x.busy (g.line % 16) (some g) }
        (issueFrame k 2 g.line 0 (lineImage (lineAt x g.line)) s)

/-- A failed program: retried once, then spared, or pended in Keep (R387, R393). -/
def programFailed (k : Nat) (g : UcrProg) (s : State) : State :=
  let x := pkgOf s k
  if !g.retried then setPkg k { x with queue := ⟨g.line, true⟩ :: x.queue } s
  else if inKeep s then (if x.pending.length < 256 then setPkg k { x with pending := x.pending ++ [g.line] } s else s)
  else spareLine k g.line s

/-- STATUS (R380, R387): a bank answers BUSY and FAIL. -/
def ucrStatus (k bank : Nat) (busy fail : Bool) (s : State) : State :=
  let s := issueFrame k 3 bank 0 [] s
  let x := pkgOf s k
  match sgetC none x.busy bank with
  | none => note k (leBytes 8 0) s
  | some g =>
    let s := note k (leBytes 4 (busy.toNat + 2 * fail.toNat) ++ leBytes 4 (if fail then g.line else 0)) s
    if busy then s
    else
      let s := setPkg k { x with busy := ssetC none x.busy bank none } s
      if fail then programFailed k g s else s

/-- MRW: write a mode register. -/
def ucrMrw (k reg : Nat) (v : Byte) (s : State) : State :=
  let x := pkgOf s k
  setPkg k { x with modes := ssetC 0 x.modes reg v } (issueFrame k 4 (reg + 256 * v.toNat) 0 [] s)

/-- MRR: read a mode register, in 8 bytes. -/
def ucrMrr (k reg : Nat) (s : State) : State := 
  note k (leBytes 8 (sgetC 0 (pkgOf s k).modes reg).toNat) (issueFrame k 5 reg 0 [] s)

/-- ID (R378): capacity, banks and profile; the other bytes of the 64 are not stated. -/
def ucrId (k : Nat) (rest : List Byte) (s : State) : State :=
  note k (leBytes 4 (getF s Reg.UCR_GEOM_PKG_GIB) ++ leBytes 2 16 ++ leBytes 2 s.cht.loaded.profile ++ rest) (issueFrame k 6 0 0 [] s)

/-- A channel or package fault (R406): code 0x06, event 0x20F; the package's reads return poison. -/
def faultPackage (k : Nat) (s : State) : State :=
  let s := setPkg k { pkgOf s k with faulted := true } s
  let s := setF s (Reg.UCR_PKG_STAT_STATE k) 3
  let s := setF s Reg.UCR_STAT_PKG_FAIL (getF s Reg.UCR_STAT_PKG_FAIL ||| 2 ^ k)
  raiseEvent 0x20F (ucrError 6 k 0 s)

/-- The last frame sent to package k goes out again. -/
def replayFrame (k : Nat) (s : State) : State :=
  { s with out := { s.out with ucrFrames := s.out.ucrFrames ++
    ((s.out.ucrFrames.filter fun f => f.pkg == k).getLast?).toList } }

/-- CA_PARITY_ALERT (R379): the frame is replayed once; where the error repeats the command has failed. -/
def ucrParityAlert (k : Nat) (repeats : Bool) (s : State) : State :=
  let s := setUcr { s.ucr with alerted := ssetC 0 s.ucr.alerted (k / 2) (sgetC 0 s.ucr.alerted (k / 2) + 1) } (replayFrame k s)
  if repeats then faultPackage k s else s

/-- PACKAGE_TIMEOUT (R406): no STATUS for 1 ms. -/
def packageTimeout (k : Nat) (s : State) : State := if (pkgOf s k).faulted then s else faultPackage k s

/-- GAP_MOVE (R385), where the move is due. -/
def gapMove (k q : Nat) (s : State) : State := if gapDue s k q then moveGap k q s else s

/-- HOT_MOVE (R386), where the count has reached HOT_THR. -/
def hotMove (k m : Nat) (s : State) : State := if hotDue s k m then moveHot k m s else s

/-! ### Upkeep (R389, R392 to R395) -/

/-- A checkpoint: every region's wear count is kept on the medium. -/
def checkpoint (k : Nat) (s : State) : State :=
  let x := pkgOf s k
  setPkg k { x with saved := x.wear, savedAt := s.now } s

/-- Before self-refresh for Hold or Keep every package writes a checkpoint (R389). -/
def checkpointAll (s : State) : State := (List.range 16).foldl (fun s k => checkpoint k s) s

/-- CHECKPOINT (R389): one second after the last one. -/
def checkpointDue (k : Nat) (s : State) : State :=
  if s.now < (pkgOf s k).savedAt + treadsPerSecond then s else checkpoint k s

/-- Scrub of a programmed line: programmed back when aged, weak or uncorrectable (R382, R392). -/
def scrubLineNow (k p : Nat) (line : UcrLine) (l : Ladder) (s : State) : State :=
  let x := pkgOf s k
  let age := (pkgHours s x + 65536 - line.ptime) % 65536
  let s := raiseIf (decide (2160 < age)) 0x20D s
  let ((d, bad, bits), s) := readPhys k p l s
  let s := testRead k p l s
  if bad && !line.poison && !x.faulted then programLine k p { line with data := d, poison := true } s
  else if getF s Reg.UCR_SCRUB_CFG_REFRESH_AGE ≤ age ∨ getF s Reg.UCR_SCRUB_CFG_REFRESH_BITS ≤ bits then
    incF (programLine k p { line with data := d } s) (Reg.UCR_CNT_COUNT 6)
  else s

/-- Treads from line p of a scrub pass to the next: a pass takes REFRESH_AGE / 4 hours (R392). -/
def scrubGap (s : State) (p : Nat) : Nat :=
  let pass := getF s Reg.UCR_SCRUB_CFG_REFRESH_AGE * 900 * treadsPerSecond
  let n := pkgRegions s * regionLines
  pass * (p + 1) / n - pass * p / n

/-- REFRESH_SCRUB (R392): the scrubber takes the package's next physical line, once it is due. Assumption 177 (DEDUCED). -/
def refreshScrub (k : Nat) (l : Ladder) (s : State) : State :=
  let x := pkgOf s k
  let p := x.scrubAt
  if s.now < x.scrubDue then s
  else
    let s := setPkg k { x with
      scrubAt := if p + 1 < pkgRegions s * regionLines then p + 1 else 0
      scrubDue := x.scrubDue + scrubGap s p } s
    if x.faulted then s else scrubLineNow k p (lineAt x p) l s

/-- REF moves by a step, is held at its bound, or stays (R394, R395). -/
def moveRef (k : Nat) (d : Int) (s : State) : State :=
  let x := pkgOf s k
  let lo := toSigned 7 (getF s (Reg.UCR_PKG_BOUND_REF_MIN k))
  let hi := toSigned 7 (getF s (Reg.UCR_PKG_BOUND_REF_MAX k))
  let held := (d < 0 ∧ x.ref + d < lo) ∨ (0 < d ∧ hi < x.ref + d)
  let run := if held then x.heldRun + 1 else 0
  let s := setPkg k { x with ref := if held then x.ref else x.ref + d, heldRun := run, eMinus := 0, eZero := 0, ePlus := 0 } s
  let s := setF s (Reg.UCR_PKG_STAT_HELD k) (decide held).toNat
  let s := setF s (Reg.UCR_PKG_STAT_REF k) (ofSigned 7 (pkgOf s k).ref)
  raiseIf (run == 3) 0x20A s

/-- CALIBRATION_PERIOD (R394): the end of CAL_PERIOD. -/
def calibrationPeriod (k : Nat) (s : State) : State :=
  let x := pkgOf s k
  if s.now < x.calAt + getF s Reg.UCR_CAL_PERIOD_PERIOD then s
  else
  let s := setPkg k { x with calAt := s.now } s
  let thr := getF s Reg.UCR_CAL_CFG_CAL_THR
  if x.eMinus + thr < x.eZero ∧ x.eMinus ≤ x.ePlus then moveRef k (-1) s
  else if x.ePlus + thr < x.eZero then moveRef k 1 s
  else moveRef k 0 s

/-- The lines that failed in Keep are spared at the next entry to Run (R393). -/
def sparePending (s : State) : State :=
  (List.range 16).foldl (fun s k =>
    let x := pkgOf s k
    x.pending.foldl (fun s p => spareLine k p s) (setPkg k { x with pending := [] } s)) s

/-- After a step of the count the scrub, the calibration periods and the checkpoints count from it (R47). -/
def ucrStep (s : State) : State :=
  setUcr { s.ucr with pkgs := s.ucr.pkgs.map fun e => (e.1, { e.2 with scrubDue := s.now, calAt := s.now, savedAt := s.now }) } s

end Sys2Proof.Machine
end

