-- ==== Sys2Proof/Machine/Archive.lean ====
section
/-! DEFINITION. The archive: mount and format, record releases, export and replay (Undercroft: the archive). -/

namespace Sys2Proof.Machine

/-! ### Places (R396) -/

/-- Chunk slots of partition 0. -/
def chunkSlots (s : State) : Nat := partSize s 0 / 16416 / 8 * 8

/-- Bytes of the index area. -/
def indexBytes (s : State) : Nat := (chunkSlots s * 32 + 16383) / 16384 * 16384

/-- Offset of a chunk in partition 0. -/
def chunkOfs (s : State) (c : Nat) : Nat := indexBytes s + c % chunkSlots s * 16384

/-- Offset of its index entry. -/
def entryOfs (s : State) (c : Nat) : Nat := c % chunkSlots s * 32

/-- The FORMAT_ID of the archive: package 0's. Assumption 116 (DEDUCED). -/
def formatId (s : State) : Nat := ((pkgOf s 0).formatId).getD 0

/-- Whether the archive is mounted (UCR_STAT.MOUNT 2). -/
def archiveUp (s : State) : Bool := getF s Reg.UCR_STAT_MOUNT == 2

/-- The content of a global logical line as the controller holds it; none where it is not trustworthy. -/
def rawLine (s : State) (l : Nat) : Option (List Byte) :=
  let (k, m) := globalLine l
  let x := pkgOf s k
  match physLine s x m with
  | none => none
  | some p => if x.faulted ∨ (lineAt x p).poison then none else some (lineAt x p).data

/-- The index entry of chunk c where it is valid: MIN_T, MAX_T, LEN_UNITS and RECORDS (R398, Table 7). -/
def indexEntry (s : State) (c : Nat) : Option (Nat × Nat × Nat × Nat) :=
  let o := entryOfs s c
  match rawLine s (partLine s 0 + o / 256) with
  | none => none
  | some bs =>
    let e := (bs.drop (o % 256)).take 32
    let crc := crc32c (e.take 28 ++ leBytes 4 (formatId s))
    if chunkSlots s ≠ 0 ∧ c ≠ 0 ∧ leAt e 0 8 = c ∧ leAt e 28 4 = crc.toNat then
      some (leAt e 8 8, leAt e 16 8, leAt e 24 2, leAt e 26 2) else none

/-- Oldest chunk of the window (R400). -/
def oldestChunk (s : State) : Nat := max 1 (s.ucr.head + 1 - chunkSlots s)

/-- UCR_HEAD and UCR_OLDEST follow the head. -/
def showArchive (s : State) : State :=
  let s := set64 s Reg.UCR_HEAD_CHUNK_LO.addr s.ucr.head
  let o := if s.ucr.head = 0 then 0 else oldestChunk s
  let t := match indexEntry s o with | some e => e.1 | none => 0
  set64 (set64 s Reg.UCR_OLDEST_CHUNK_LO.addr o) Reg.UCR_OLDEST_T_LO.addr t

/-! ### Mount and format (R390, R391) -/

/-- The lines of the index area read as never programmed. -/
def clearIndex (s : State) : State :=
  let first := partLine s 0
  let past := first + indexBytes s / 256
  (List.range 16).foldl (fun s k =>
    let x := pkgOf s k
    setPkg k { x with lines := x.lines.filter fun e =>
      match e.2 with
      | some l => let g := l.tag * 16 + k / 2 + 8 * (k % 2); !(decide (first ≤ g) && decide (g < past))
      | none => true } s) s

/-- Format package k: a new FORMAT_ID, which is open, an empty remap and no wear. -/
def formatPkg (k : Nat) (s : State) : State :=
  let r := drawFree s
  let x := pkgOf s k
  let y := { pkgInit with lines := x.lines, ref := x.ref, modes := x.modes, formatId := some (r.1 % 4294967296), formatAt := s.now,
                          digest := s.cht.loaded.mediaDigest, scrubDue := s.now, calAt := s.now, savedAt := s.now }
  raiseEvent 0x202 (setF (setF (clearIndex (setPkg k y r.2)) Reg.UCR_STAT_FORMATTED 1) (Reg.UCR_PKG_WEAR_MAX_AVG k) 0)

/-- Mount package k: its channel trains or not, its superblock is read, and it is formatted where the MEDIA section allows. -/
def mountPkg (k : Nat) (trained : Bool) (s : State) : State :=
  let x := pkgOf s k
  let valid := x.formatId.isSome && x.digest == s.cht.loaded.mediaDigest
  let fail := fun (s : State) => setF (setF s (Reg.UCR_PKG_STAT_STATE k) 3) Reg.UCR_STAT_PKG_FAIL (getF s Reg.UCR_STAT_PKG_FAIL ||| 2 ^ k)
  let good := fun (s : State) =>
    let worn := (pkgOf s k).spare.any fun e => e.2 == some none
    setF (setF s (Reg.UCR_PKG_STAT_STATE k) (if worn then 2 else 1)) (Reg.UCR_PKG_STAT_REF k) (ofSigned 7 (pkgOf s k).ref)
  if !trained then fail s
  else if valid then good (setPkg k { x with busy := [], queue := [], faulted := false } s)
  else if s.cht.loaded.formatFlag then good (formatPkg k s)
  else fail s

/-- The highest chunk at or below c whose index entry is valid. -/
def findHead (s : State) : Nat → Nat → Nat
  | 0, _ => 0
  | fuel + 1, c => if c = 0 then 0 else if (indexEntry s c).isSome then c else findHead s fuel (c - 1)

/-! ### Records (R397 to R399, Table 8) -/

/-- RATE of an owner's sets. -/
def archiveRate (s : State) (o : SetOwner) : Nat :=
  match o with
  | .audio => 13 + Nat.log2 s.cht.loaded.k
  | .stream n => getF s (Reg.STR_RATE n)
  | .input i => getF s (Reg.INC_RATE i)

/-- Period of a RATE of an archive record. -/
def archivePeriod (rate : Nat) : Nat := if rate < 13 then ratePeriod rate else 17640 * 2 ^ (rate - 13)

/-- The arrival record's 32 bytes (Table 5 of Media ports and leg queues); the buffer handle is open. -/
def arrivalBytes (r : ArrRec) (buf : Nat) : List Byte :=
  leBytes 4 (treadsOf r.stamp) ++ leBytes 6 (secondsOf r.stamp) ++ leBytes 1 r.kind ++ leBytes 1 r.path ++ leBytes 2 r.seq ++
  leBytes 2 r.object ++ leBytes 4 r.rtpTs ++ leBytes 4 buf ++ leBytes 2 r.payload.length ++ leBytes 2 0 ++ leBytes 4 r.pcrc.toNat

/-- The archive record of a record of a set; the buffer handle of its arrival record is open. -/
def archiveBytes (s : State) (o : SetOwner) (flight : Nat) (r : ArrRec) : List Byte :=
  let untrusted := r.trust == .untrusted
  let bare := untrusted || r.kind == 3
  let payload := if bare then [] else r.payload
  let flags := (r.trust == .trusted).toNat + 2 * untrusted.toNat + 4 * bare.toNat + 8 * (r.path == 3).toNat + 16 * r.poison.toNat
  let head := leBytes 8 flight ++ leBytes 1 (archiveRate s o) ++ leBytes 1 flags ++ leBytes 2 payload.length
  let arr := arrivalBytes r (Config.openNat r.stamp (r.object * 65536 + r.seq) r.kind)
  head ++ leBytes 4 (crc32c (head ++ arr ++ payload)).toNat ++ arr ++ payload ++
    List.replicate ((payload.length + 15) / 16 * 16 - payload.length) 0

/-- Whether record a is stored before record b: by set start, KIND and OBJECT (R397). -/
def storedBefore (a b : StagedRec) : Bool :=
  if a.setT ≠ b.setT then decide (a.setT < b.setT)
  else if a.kind ≠ b.kind then decide (a.kind < b.kind)
  else decide (a.object < b.object)

/-- Insert a record behind those that it does not precede. -/
def insertStaged (a : StagedRec) : List StagedRec → List StagedRec
  | [] => [a]
  | b :: bs => if storedBefore a b then a :: b :: bs else b :: insertStaged a bs

/-- The records of sets, as they are staged: in the order of R397. -/
def stageSets (s : State) (sets : List ArrSet) : List StagedRec :=
  sets.foldl (fun a x => x.recs.foldl (fun a r =>
    insertStaged ⟨setStart s x.owner x.flight, r.kind, r.object, archiveBytes s x.owner x.flight r⟩ a) a) []

/-- Bytes of the staging area of the MEMORY section (AREA of KIND 5). -/
def stagingSize (s : State) : Nat := ((s.cht.loaded.areas.find? fun a => a.kind == 5).map fun a => a.size * 2097152).getD 0

/-- Bytes that staging holds. -/
def stagingUsed (s : State) : Nat :=
  s.ucr.staging.foldl (fun n r => n + r.bytes.length) 0 + 288 * s.ucr.held.length

/-- Records enter the staging area, as many as fit (R399). -/
def stageRecs (l : List StagedRec) (s : State) : State :=
  let r := l.foldl (fun (a : List StagedRec × Nat × Nat) x =>
    let (keep, used, lost) := a
    if used + x.bytes.length ≤ stagingSize s then (keep ++ [x], used + x.bytes.length, lost) else (keep, used, lost + 1))
    ([], stagingUsed s, 0)
  let s := setUcr { s.ucr with staging := s.ucr.staging ++ r.1 } s
  if r.2.2 = 0 then s
  else raiseEvent 0x209 (ucrError 3 0 0 (addF s (Reg.UCR_CNT_COUNT 1) r.2.2))

/-- Program bytes at an offset of partition 0 that starts a line. -/
def programPart (ofs : Nat) (bs : List Byte) (s : State) : State :=
  let lines := (bs.length + 255) / 256
  programGlobal lines (partLine s 0 + ofs / 256) (bs ++ List.replicate (256 * lines - bs.length) 0) false s

/-- One chunk with its records: its lines first, then its index entry (R398, Table 7). -/
def writeChunk (stage : Nat) (rs : List StagedRec) (s : State) : State :=
  match rs.head?, rs.getLast? with
  | some a, some b =>
    let c := s.ucr.head + 1
    let body := rs.foldr (fun r bs => r.bytes ++ bs) []
    let units := (64 + body.length) / 16
    let head := leBytes 4 0x5241465A ++ leBytes 4 (formatId s) ++ leBytes 8 c ++ leBytes 8 stage ++ leBytes 8 a.setT ++ leBytes 8 b.setT ++
      leBytes 2 units ++ leBytes 2 rs.length ++ List.replicate 16 0
    let head := head ++ leBytes 4 (crc32c head).toNat
    let entry := leBytes 8 c ++ leBytes 8 a.setT ++ leBytes 8 b.setT ++ leBytes 2 units ++ leBytes 2 rs.length
    let entry := entry ++ leBytes 4 (crc32c (entry ++ leBytes 4 (formatId s))).toNat
    let s := programPart (chunkOfs s c) (head ++ body) s
    let s := writePart 0 (entryOfs s c) entry false s
    addF (setUcr { s.ucr with head := c } s) (Reg.UCR_CNT_COUNT 0) rs.length
  | _, _ => s

/-- Cut records into chunks of 16,384 bytes, header included. -/
def cutChunks : List StagedRec → List StagedRec → Nat → List (List StagedRec)
  | [], cur, _ => if cur.isEmpty then [] else [cur]
  | r :: rs, cur, n =>
    if !cur.isEmpty && decide (16384 < n + r.bytes.length) then cur :: cutChunks rs [r] (64 + r.bytes.length)
    else cutChunks rs (cur ++ [r]) (n + r.bytes.length)

/-- Store everything staged, as chunks of one release; without an archive the records are counted NOT_STORED (R399). -/
def storeStaged (stage : Nat) (s : State) : State :=
  let rs := s.ucr.staging
  let s := setUcr { s.ucr with staging := [] } s
  if !archiveUp s ∨ chunkSlots s = 0 then addF s (Reg.UCR_CNT_COUNT 1) rs.length
  else showArchive ((cutChunks rs [] 64).foldl (fun s c => writeChunk stage c s) s)

/-- UNDERCROFT_MOUNT (R390, R391): every package mounts, or the mount fails; staged records that a Warm reset kept and programs
that staging held are stored. -/
def mountArchive (trained : List Bool) (s : State) : State :=
  let s := setF (setF (setF s Reg.UCR_STAT_FORMATTED 0) Reg.UCR_STAT_PKG_FAIL 0) Reg.UCR_STAT_MOUNT 1
  let s := (List.range 16).foldl (fun s k => mountPkg k (trained.getD k true) s) s
  if getF s Reg.UCR_STAT_PKG_FAIL ≠ 0 then
    raiseEvent 0x201 (ucrError 4 ((List.range 16).find? (fun k => getF s Reg.UCR_STAT_PKG_FAIL / 2 ^ k % 2 == 1) |>.getD 0) 0
      (setF s Reg.UCR_STAT_MOUNT 3))
  else
    let s := setF s Reg.UCR_STAT_MOUNT 2
    let s := setUcr { s.ucr with head := findHead s (chunkSlots s) s.ucr.head } s
    let held := s.ucr.held
    let s := held.foldl (fun s h => programLogical h.pkg h.line h.data h.poison s) (setUcr { s.ucr with held := [] } s)
    raiseEvent 0x200 (showArchive (storeStaged 0 s))

/-- Number of record task n. -/
def recordTaskNo (n : Nat) : Nat := 22340 + n

/-- Whether every other record task of a flight has done its work. -/
def otherRecordsDone (s : State) (n flight : Nat) : Bool :=
  (List.range 8).all fun m => m == n || (openOf s (recordTaskNo m)).all fun r => r.flight != flight || r.exit.isSome

/-- The sets that a record release stores: those whose start lies in the audio flight before its own. -/
def setsToStore (s : State) (F : Treads) : List ArrSet :=
  s.ports.sets.filter fun x => x.final && !x.stored &&
    (let t := setStart s x.owner x.flight; decide (t < F) && decide (F ≤ t + flightLen s))

/-- Sets are marked stored. -/
def markStored (l : List ArrSet) (s : State) : State :=
  { s with ports := { s.ports with sets := s.ports.sets.map fun x =>
      if (l.any fun y => y.owner == x.owner && y.flight == x.flight) then { x with stored := true } else x } }

/-- RECORD_RELEASE (R397): record task n of channel n, for its running release. The lines of a chunk lie on all eight channels:
the last of a flight's eight tasks completes its chunks and writes their index entries. Assumption 117 (DEDUCED). -/
def recordRelease (n : Nat) (s : State) : State :=
  match runningOf s (recordTaskNo n) with
  | none => s
  | some r =>
    let sets := setsToStore s r.instant
    if r.exit.isSome ∨ (sets.any fun x => x.recs.any trustOpen) then s
    else if !otherRecordsDone s n r.flight then setExit (recordTaskNo n) 0 s
    else
      let st := stageSets s sets
      let s := if archiveUp s then storeStaged r.flight (stageRecs st s) else addF s (Reg.UCR_CNT_COUNT 1) st.length
      retireSets (setExit (recordTaskNo n) 0 (markStored sets s))

/-- A Warm reset keeps the staging area: the records of closed sets that no release has stored stay there (R399). -/
def keepStaging (s : State) : State :=
  let sets := s.ports.sets.filter fun x => x.final && !x.stored
  let st := stageSets s sets
  if archiveUp s then stageRecs st s else addF s (Reg.UCR_CNT_COUNT 1) st.length

/-! ### Reading chunks -/

/-- A record read from a chunk: its number in the chunk, its bytes, and whether one of its lines could not be read. -/
structure ReadRec where
  num  : Nat
  data : List Byte
  bad  : Bool
  deriving DecidableEq, Repr

/-- Bytes of a record, from its fixed part. -/
def recordLen (bs : List Byte) : Nat := 48 + (leAt bs 10 2 + 15) / 16 * 16

/-- The records of a chunk's bytes from an offset on; `bad` says which lines failed. -/
def parseRecords (bad : List Bool) : Nat → Nat → Nat → List Byte → List ReadRec
  | 0, _, _, _ => []
  | n + 1, num, ofs, bs =>
    if bs.length < 48 then []
    else
      let k := recordLen bs
      let lines := (List.range ((ofs + k - 1) / 256 + 1 - ofs / 256)).map (ofs / 256 + ·)
      ⟨num, bs.take k, lines.any fun i => bad.getD i false⟩ :: parseRecords bad n (num + 1) (ofs + k) (bs.drop k)

/-- Read chunk c; none where it has been overwritten or cannot be read. The ladders that its lines used are passed on. -/
def readChunk (c : Nat) (lads : List Ladder) (s : State) : Option (List ReadRec) × List Ladder × State :=
  match indexEntry s c with
  | none => (none, lads, s)
  | some (_, _, units, recs) =>
    let n := (units * 16 + 255) / 256
    let r := readPart 0 (chunkOfs s c) (units * 16) lads true s
    let head := r.1.1.take 64
    let ok := !(r.1.2.getD 0 false) && leAt head 0 4 == 0x5241465A && leAt head 8 8 == c && leAt head 60 4 == (crc32c (head.take 60)).toNat
    (if ok then some (parseRecords r.1.2 recs 0 64 (r.1.1.drop 64)) else none, lads.drop n, r.2)

/-- Set start of a stored record (R399). -/
def storedT (bs : List Byte) : Nat := leAt bs 0 8 * archivePeriod (byteAt bs 8)

/-! ### Export (R401, R402) -/

/-- An export as it scans. -/
structure ExportScan where
  bytes : List Byte
  recs  : Nat
  lost  : Nat
  first : Option Nat
  last  : Nat
  next  : Option (Nat × Nat)
  deriving DecidableEq, Repr

/-- What an EXPORT asks for. -/
structure ExportArgs where
  kind     : Nat
  object   : Nat
  maxBytes : Nat
  host     : Nat
  tStart   : Nat
  tEnd     : Nat
  chunk    : Nat
  recNo    : Nat
  deriving DecidableEq, Repr

/-- The arguments of an EXPORT entry (Table 9 of Undercroft: the archive). -/
def exportArgs (a : List Byte) : ExportArgs :=
  ⟨argAt a 16 1, argAt a 18 2, argAt a 20 4, argAt a 24 8, argAt a 32 8, argAt a 40 8, argAt a 48 8, argAt a 56 4⟩

/-- One record of chunk c. -/
def exportRec (x : ExportArgs) (c : Nat) (e : ExportScan) (r : ReadRec) : ExportScan :=
  let t := storedT r.data
  if e.next.isSome ∨ (c = x.chunk ∧ r.num < x.recNo) ∨ byteAt r.data 26 ≠ x.kind ∨ leAt r.data 30 2 ≠ x.object ∨ t < x.tStart ∨ x.tEnd < t
  then e
  else if x.maxBytes < 64 + e.bytes.length + r.data.length then { e with next := some (c, r.num) }
  else
    let data := if r.bad then putAt r.data 9 [BitVec.ofNat 8 (byteAt r.data 9 ||| 16)] else r.data
    { e with bytes := e.bytes ++ data, recs := e.recs + 1, first := some (e.first.getD t), last := t }

/-- Scan chunks from c on, in number order. -/
def exportScan (x : ExportArgs) : Nat → Nat → List Ladder → ExportScan → State → ExportScan × State
  | 0, _, _, e, s => (e, s)
  | fuel + 1, c, lads, e, s =>
    if s.ucr.head < c ∨ e.next.isSome ∨ ((indexEntry s c).any fun i => decide (x.tEnd < i.1)) then (e, s)
    else match readChunk c lads s with
      | (none, lads, s) => exportScan x fuel (c + 1) lads { e with lost := e.lost + 1 } s
      | (some rs, lads, s) => exportScan x fuel (c + 1) lads (rs.foldl (exportRec x c) e) s

/-- The oldest chunk of the window whose MAX_T is at or above T_START. -/
def firstChunk (s : State) (t : Nat) : Nat :=
  let o := oldestChunk s
  (((List.range (s.ucr.head + 1 - o)).map (o + ·)).find? fun c => (indexEntry s c).any fun e => decide (t ≤ e.2.1)).getD (s.ucr.head + 1)

/-- The owner check of an export: its object belongs to the door (R401). -/
def exportOwned (s : State) (d : Nat) (x : ExportArgs) : Bool :=
  match x.kind with
  | 1 => owns s d 0 x.object
  | 2 => owns s d 1 x.object
  | 3 => d == devOwner s
  | _ => owns s d 0 x.object || owns s d 1 x.object || owns s d 2 x.object

/-- The completion of an export. -/
def exportDone (d : Nat) (r : Req) (x : ExportArgs) (e : ExportScan) (s : State) : State :=
  let n := 64 + e.bytes.length
  let t := e.first.getD (Config.openNat (22364 + d) s.now x.host)
  let nx := e.next.getD (0, 0)
  let head := leBytes 8 nx.1 ++ leBytes 4 nx.2 ++ leBytes 4 e.recs ++ leBytes 4 n ++ leBytes 4 e.lost ++ leBytes 8 t ++
    leBytes 8 (if e.first.isSome then e.last else t) ++ List.replicate 24 0
  let s := hostWrite d x.host (head ++ e.bytes) s
  let s := addF s (Reg.UCR_CNT_COUNT 9) e.recs
  let s := raiseIf (e.lost != 0) 0x20B s
  complete d r 0 (if e.next.isSome then 0x1C0 else if e.lost ≠ 0 then 0x1C1 else stOk) n s

/-- An EXPORT executes (R401, R402). Assumption 118 (DESIGN CHOICE). -/
def doExport (d : Nat) (lads : List Ladder) (r : Req) (a : List Byte) (s : State) : State :=
  let x := exportArgs a
  if !exportOwned s d x then complete d r 0 stPartition 0 s
  else if x.tEnd < x.tStart then complete d r 0 0x1C5 0 s
  else if !archiveUp s then complete d r 0 0x1C2 0 s
  else
    let gone := if x.chunk = 0 then 0 else oldestChunk s - x.chunk
    let c := if x.chunk = 0 then firstChunk s x.tStart else max x.chunk (oldestChunk s)
    let e := exportScan x (s.ucr.head + 1 - c) c lads ⟨[], 0, gone, none, 0, none⟩ s
    exportDone d r x e.1 e.2

/-- EXPORT (R401): the oldest EXPORT request of door d executes. -/
def exportNext (d : Nat) (lads : List Ladder) (s : State) : State :=
  runImmediate d 0x0400 (fun r a _ s => doExport d lads r a s) s

/-! ### Replay (R403 to R405) -/

/-- The replay in slot k. -/
def replayOf (s : State) (k : Nat) : Option Replay := sgetC none s.ucr.replays k

/-- Replace it; its status words follow. -/
def setReplay (k : Nat) (x : Option Replay) (s : State) : State :=
  let s := setUcr { s.ucr with replays := ssetC none s.ucr.replays k x } s
  match x with
  | none => setF s (Reg.UCR_REPLAY_STAT_STATE k) 0
  | some r =>
    let s := setF s (Reg.UCR_REPLAY_STAT_STATE k) (if r.start ≤ s.now then 2 else 1)
    setF (setF s (Reg.UCR_REPLAY_STAT_KIND k) (r.kind - 1)) (Reg.UCR_REPLAY_STAT_DEST k) r.dest

/-- The replays whose START has come play (UCR_REPLAY_STAT.STATE 2). -/
def replayClock (s : State) : State :=
  s.ucr.replays.foldl (fun s e =>
    match e.2 with
    | some r => setF s (Reg.UCR_REPLAY_STAT_STATE e.1) (if r.start ≤ s.now then 2 else 1)
    | none => s) s

/-- REPLAY at its commit: the status, in the order of the refusals (R403). -/
def commitReplay (d : Nat) (a : List Byte) (at_ : Treads) (s : State) : Nat × State :=
  let kind := argAt a 16 1
  let k := 4 * d + argAt a 17 1
  let src := argAt a 18 2
  let dst := argAt a 20 2
  let t0 := argAt a 24 8
  let t1 := argAt a 32 8
  let start := argAt a 40 8
  if kindLast (kind - 1) < src ∨ kindLast (kind - 1) < dst then (stRange, s)
  else if !owns s d (kind - 1) src ∨ !owns s d (kind - 1) dst then (stPartition, s)
  else if t1 < t0 then (0x1C5, s)
  else if start < t0 + 705600 ∨ start < at_ + 282240 then (0x1C3, s)
  else if (replayOf s k).isSome then (0x1C4, s)
  else if !archiveUp s then (0x1C2, s)
  else
    let s := setF s (Reg.UCR_REPLAY_CNT_PLACED k) 0
    (stOk, setReplay k (some ⟨d, kind, src, dst, t0, t1, start⟩) s)

/-- A replay ends (R405). -/
def endReplay (k : Nat) (s : State) : State :=
  if (replayOf s k).isSome then raiseEvent 0x20E (setReplay k none s) else s

/-- The owner of a replay's destination sets. -/
def replayOwner (r : Replay) : SetOwner := if r.kind = 1 then .audio else .stream r.dest

/-- The first flight of the destination whose start is at or after an instant. -/
def replayFlight (s : State) (r : Replay) (t : Treads) : Nat :=
  let p := setPeriod s (replayOwner r)
  if p = 0 then 0 else (t + p - 1) / p

/-- The record that a stored record plays as (R404); the archive record does not hold the RTP marker, which is open.
Assumption 119 (DEDUCED). -/
def replayRec (s : State) (r : Replay) (bs : List Byte) : ArrRec × State :=
  let D := r.start - r.tStart
  let dt := D * rtpClock s r.kind r.dest / treadsPerSecond
  let stamp := leAt bs 16 4 + leAt bs 20 6 * treadsPerSecond
  (⟨stamp, r.kind, 3, leAt bs 28 2, r.dest, (leAt bs 32 4 + dt) % 4294967296, BitVec.ofNat 32 (leAt bs 44 4), (bs.drop 48).take (leAt bs 10 2),
    Config.freeNat (leNat (bs.take 48)) % 2 == 1, 4, 0, 0, 0, objectChans s r.kind r.dest, 0, [], [], .plain, false⟩, s)

/-- One record of a chunk, for a replay release whose destination sets start in [from_, from_ + L). -/
def placeRec (k : Nat) (r : Replay) (from_ : Treads) (x : ReadRec) (s : State) : State :=
  let t := storedT x.data
  let o := replayOwner r
  let n := replayFlight s r (t + (r.start - r.tStart))
  let at_ := setStart s o n
  let flags := byteAt x.data 9
  if byteAt x.data 26 ≠ r.kind ∨ leAt x.data 30 2 ≠ r.source ∨ t < r.tStart ∨ r.tEnd < t ∨ at_ < from_ ∨ from_ + flightLen s ≤ at_ then s
  else if x.bad ∨ flags / 2 % 2 = 1 ∨ flags / 4 % 2 = 1 ∨ flags / 16 % 2 = 1 then s
  else
    let set := setOrNew s o n
    if set.closed then raiseEvent 0x20C (incF s (Reg.UCR_CNT_COUNT 10))
    else
      let y := replayRec s r x.data
      incF (putSet { set with recs := set.recs ++ [y.1] } y.2) (Reg.UCR_REPLAY_CNT_PLACED k)

/-- The chunks of the window that may hold a record of a range of set starts. -/
def chunksFor (s : State) (t0 t1 : Treads) : List Nat :=
  let o := oldestChunk s
  ((List.range (s.ucr.head + 1 - o)).map (o + ·)).filter fun c =>
    (indexEntry s c).any fun e => decide (e.1 ≤ t1) && decide (t0 ≤ e.2.1)

/-- A replay release reads ahead and places its records. -/
def replayWork (k : Nat) (r : Replay) (from_ : Treads) (lads : List Ladder) (s : State) : State :=
  let D := r.start - r.tStart
  let p := setPeriod s (replayOwner r)
  let t0 := max r.tStart (from_ - p - D)
  let t1 := min r.tEnd (from_ + flightLen s - D)
  let s := ((chunksFor s t0 t1).foldl (fun (a : List Ladder × State) c =>
    match readChunk c a.1 a.2 with
    | (some rs, lads, s) => (lads, rs.foldl (fun s x => placeRec k r from_ x s) s)
    | (none, lads, s) => (lads, s)) (lads, s)).2
  if setStart s (replayOwner r) (replayFlight s r (r.tEnd + D)) < from_ + flightLen s then endReplay k s else s

/-- REPLAY_TASK (R405): the replay task of slot k, for its running release. -/
def replayTask (k : Nat) (lads : List Ladder) (s : State) : State :=
  match runningOf s (22348 + k) with
  | none => s
  | some r =>
    if r.exit.isSome then s
    else
      let s := replayClock s
      let s := match replayOf s k with
        | some x => replayWork k x (r.instant + flightLen s) lads s
        | none => s
      setExit (22348 + k) 0 s

/-- A Door reset of the owning door: its replays stop, and its exports that have not executed complete with ABORTED in the
journal (Table 10 of Undercroft: the archive). -/
def stopReplays (d : Nat) (s : State) : State := [0, 1, 2, 3].foldl (fun s j => endReplay (4 * d + j) s) s

end Sys2Proof.Machine
end

