-- ==== Sys2Proof/Machine/Decode.lean ====
section
/-! DEFINITION. Video decode: access units, reference pictures, episodes, key-frame requests, publication and the decode engines. What
the headers of an access unit say is given with the command; the samples that a codec's standard makes of it are Config.codecSample. -/

namespace Sys2Proof.Machine

/-- A stream that has decoded nothing. -/
def streamInit : DecStream := ⟨[], 0, [], none, none, [], [], none, false, [], none, [], [], 0⟩

/-- Stream n. -/
def streamOf (s : State) (n : Nat) : DecStream := sgetC streamInit s.dec.streams n

/-- Replace stream n's state. -/
def setStream (n : Nat) (x : DecStream) (s : State) : State :=
  { s with dec := { s.dec with streams := ssetC streamInit s.dec.streams n x } }

/-! ### Formats (R235, R242, R243) -/

/-- n divided by d, rounded up. -/
def ceilDiv (n d : Nat) : Nat := (n + d - 1) / d

/-- Pixels per second of a width, height and rate (R235): W × H × f with f = 141,120,000 / P, rounded up. -/
def declRate (w h rate : Nat) : Nat := ceilDiv (w * h * treadsPerSecond) (ratePeriod rate)

/-- The layout of a picture slot: pitch, rows of luma, slot bytes (R242). -/
def slotLayout (w h : Nat) (ten : Bool) : Nat × Nat × Nat :=
  let b := if ten then 2 else 1
  let cw := ceilDiv w 16 * 16
  let ch := ceilDiv h 16 * 16
  let pitch := ceilDiv (cw * b) 256 * 256
  (pitch, ch, ceilDiv (pitch * ch * 3 / 2 + ceilDiv cw 8 * ceilDiv ch 8 * 8) 4096 * 4096)

/-- Two frames at the longest period (R243). -/
def reuseTreads : Nat := 11771760

/-- The layout of stream n's slots for a flight that starts at an instant. -/
def streamLayout (s : State) (t : Treads) (n : Nat) : Nat × Nat × Nat :=
  slotLayout (cfgF s t (Reg.STR_MAX_W n)) (cfgF s t (Reg.STR_MAX_H n)) (cfgF s t (Reg.STR_DEPTH10 n) == 1)

/-- Address of stream n's slot i. -/
def streamSlot (s : State) (t : Treads) (n i : Nat) : Nat :=
  (regionOf s (cfgF s t (Reg.STR_POOL_REGION n))).1 + cfgF s t (Reg.STR_POOL_OFS n) * 4096 + i * (streamLayout s t n).2.2

/-- References that a stream's pool leaves room for (R243). -/
def refRoom (s : State) (t : Treads) (n : Nat) : Nat :=
  cfgF s t (Reg.STR_NPIC n) - 2 - ceilDiv reuseTreads (ratePeriod (cfgF s t (Reg.STR_RATE n)))

/-- Whether headers lie within Table 1 (R234): film grain is parsed and ignored, layers above 0 of an HEVC stream are ignored. -/
def inTableOne (codec : Nat) (h : UnitHeader) : Bool :=
  let tools := h.tools.all (· == .filmGrain)
  match codec with
  | 0 => h.profile == 0 && decide (h.level ≤ 51) && (h.sampling == .s420 || h.sampling == .mono) && (h.depth == 8 || h.depth == 10) && tools
  | 1 => (h.profile == 1 || h.profile == 2) && !h.highTier && decide (h.level ≤ 51) && h.sampling == .s420 &&
      (h.depth == 8 || (h.depth == 10 && h.profile == 2)) && tools
  | _ => (h.profile == 66 || h.profile == 77 || h.profile == 100) && decide (h.level ≤ 52) && h.sampling == .s420 && h.depth == 8 && tools

/-- Whether headers name a key frame of a codec (R234). -/
def isKey (codec : Nat) (h : UnitHeader) : Bool :=
  match codec, h.frame with
  | 0, .av1Key shown => shown
  | 1, .irap => true
  | 2, .idr => true
  | _, _ => false

/-- Whether an access unit lies within Table 1 and stream n's declared format and pool (R242, R243, R248). -/
def withinFormat (s : State) (t : Treads) (n : Nat) (h : UnitHeader) : Bool :=
  inTableOne (cfgF s t (Reg.STR_CODEC n)) h && decide (h.width ≤ cfgF s t (Reg.STR_MAX_W n)) &&
  decide (h.height ≤ cfgF s t (Reg.STR_MAX_H n)) && (h.depth == 8 || cfgF s t (Reg.STR_DEPTH10 n) == 1) &&
  decide (h.refNeed ≤ refRoom s t n)

/-! ### Access units (R239, R240) -/

/-- Records in order of RTP sequence, counted from a base. -/
def insertBySeq (base : Nat) (r : ArrRec) : List ArrRec → List ArrRec
  | [] => [r]
  | x :: xs => if (r.seq + 65536 - base) % 65536 < (x.seq + 65536 - base) % 65536 then r :: x :: xs else x :: insertBySeq base r xs

/-- Sort records by RTP sequence: a sequence lies at most half the range before the first one listed. -/
def sortBySeq (rs : List ArrRec) : List ArrRec :=
  let base := ((rs.head?.map (·.seq)).getD 0 + 32768) % 65536
  rs.foldl (fun l r => insertBySeq base r l) []

/-- Add a record to the access unit of its timestamp, among the waiting ones in order of timestamp. -/
def addToUnit (ts : Int) (r : ArrRec) (flight : Nat) : List AccessUnit → List AccessUnit
  | [] => [⟨ts, [r], flight⟩]
  | a :: as =>
    if ts = a.ts then { a with recs := sortBySeq (a.recs ++ [r]), newest := flight } :: as
    else if ts < a.ts then ⟨ts, [r], flight⟩ :: a :: as else a :: addToUnit ts r flight as

/-- A record of a stream's set: late, or into its access unit. The answer counts late records. -/
def addRecord (flight : Nat) (x : DecStream × Nat) (r : ArrRec) : DecStream × Nat :=
  let d := x.1
  let near := match d.lastTs with
    | some t => t
    | none => ((d.waiting.head?).map (·.ts)).getD r.rtpTs
  let ts := unwrapTs near r.rtpTs
  if d.lastTs.any fun t => decide (ts ≤ t) then (d, x.2 + 1)
  else ({ d with waiting := addToUnit ts r flight d.waiting }, x.2)

/-- Whether records form an unbroken run of RTP sequences. -/
def unbroken : List ArrRec → Bool
  | a :: b :: rest => (a.seq + 1) % 65536 == b.seq && unbroken (b :: rest)
  | _ => true

/-- Whether an access unit is complete (R239); `starts` lists the sequences that their payload format marks as a start. -/
def unitComplete (d : DecStream) (starts : List Nat) (a : AccessUnit) : Bool :=
  unbroken a.recs && (a.recs.getLast?.any (·.marker)) &&
  (match d.nextSeq, a.recs.head? with
    | some q, some r => r.seq == q
    | none, some r => starts.contains r.seq
    | _, none => false)

/-- The sequence after an access unit's marker. -/
def afterUnit (d : DecStream) (a : AccessUnit) : Option Nat :=
  match a.recs.find? (·.marker) with
  | some r => some ((r.seq + 1) % 65536)
  | none => match d.nextSeq with | some q => some q | none => some 65536

/-! ### Decoding one access unit (R244 to R249) -/

/-- What a decode task gathers: the stream, the counters that move (decoded, concealed, syntax, unsupported), what is raised
once, whether an episode opened while none was open, the references that the bitstream needs, the pictures output, the slots taken,
and the memory's state. -/
structure DecWork where
  d        : DecStream
  decoded  : Nat
  conceal  : Nat
  syntaxes : Nat
  unsup    : Nat
  events   : List Nat
  opened   : Bool
  refNeed  : Option Nat
  pics     : List HeldPic
  taken    : Nat
  s        : State

/-- Note an event once per task. -/
def DecWork.note (e : Nat) (w : DecWork) : DecWork := if w.events.contains e then w else { w with events := w.events ++ [e] }

/-- Open an episode in a flight (R245, R247). -/
def openEpisode (flight : Nat) (w : DecWork) : DecWork :=
  if w.d.episode.isSome then w
  else { w with d := { w.d with episode := some (flight, false) }, opened := w.opened || !w.d.unsupported }

/-- An access unit that is outside Table 1, its format or its pool is not decoded (R248). -/
def unsupportedUnit (w : DecWork) : DecWork :=
  let w := { w with unsup := w.unsup + 1 }
  if w.d.unsupported then w else { w with d := { w.d with unsupported := true }, events := w.events ++ [0x144] }

/-! ### Pictures (R242 to R245) -/

/-- The latest decoded picture of a spatial layer. -/
def latestOf (d : DecStream) (layer : Nat) : Option HeldPic := sgetC none d.latest layer

/-- A reference as the engine gives it to the decoder: the picture, or where it is missing or poisoned the latest of its layer
(R245, R249); whether it was missing, and whether it was poisoned. -/
def resolveRef (s : State) (t : Treads) (n : Nat) (d : DecStream) (id : PicId) : Option HeldPic × Bool × Bool :=
  match d.held.find? (fun h => h.id == id) with
  | some h =>
    if rangePoisoned s (streamSlot s t n h.slot) (streamLayout s t n).2.2 then (latestOf d id.layer, true, true) else (some h, false, false)
  | none => (latestOf d id.layer, true, false)

/-- Whether two byte ranges overlap. -/
def overlaps (a la b lb : Nat) : Bool := decide (a < b + lb) && decide (b < a + la)

/-- Whether a slot's bytes may be written in the flight that starts at an instant: no picture published stands there, or one replaced
too recently (R243). -/
def mayWrite (t : Treads) (shown : Option (Nat × Nat)) (busy : List (Nat × Nat × Treads)) (a len : Nat) : Bool :=
  !(shown.any fun p => overlaps a len p.1 p.2) && busy.all fun p => decide (p.2.2 ≤ t) || !overlaps a len p.1 p.2.1

/-- The slots in use once a flight publishes another: the one shown until then stays so for two frames (R243). -/
def slotsBusy (start : Treads) (shown : Option (Nat × Nat)) (busy : List (Nat × Nat × Treads)) : List (Nat × Nat × Treads) :=
  (shown.toList.map fun q => (q.1, q.2, start + reuseTreads)) ++ busy.filter fun q => decide (start < q.2.2)

/-- A slot for a decoded picture, away from the latest of each layer where that can be: which of several is open, none where no slot
may be written. Assumption 96 (DESIGN CHOICE). -/
def streamPick (s : State) (t : Treads) (n flight k : Nat) (d : DecStream) : Option Nat :=
  let ok := (List.range (cfgF s t (Reg.STR_NPIC n))).filter fun i =>
    mayWrite t d.shown d.busy (streamSlot s t n i) (streamLayout s t n).2.2 && !d.held.any fun h => h.slot == i
  let best := ok.filter fun i => !d.latest.any fun e => e.2.any fun h => h.slot == i
  let l := if best.isEmpty then ok else best
  l[Config.openNat (21704 + n) flight k % l.length]?

/-- Mid-grey of a context (R242). -/
def midGrey (ten : Bool) : Nat := if ten then 512 else 128

/-- A sample as a slot holds it: value × 4 for 8-bit content in a 10-bit context (R242). -/
def slotSample (ten : Bool) (depth v : Nat) : Nat := if ten ∧ depth = 8 then v % 256 * 4 else v % 2 ^ depth

/-- Whether a position lies in one of some rectangles. -/
def inRects (rs : List Rect) (x y : Nat) : Bool :=
  rs.any fun r => decide (r.x ≤ x) && decide (x < r.x + r.w) && decide (r.y ≤ y) && decide (y < r.y + r.h)

/-- The sample of a slot at an address. -/
def storedSample (s : State) (ten : Bool) (a : Nat) : Nat := if ten then leAt (memBytes s a 2) 0 2 else leAt (memBytes s a 1) 0 1

/-- What one picture is written from: its codec, payloads and references, the layout, base and context of its slot, and the base of the
latest picture of its layer, by which absent parts are filled. -/
structure PicSource where
  codec    : Nat
  payloads : List (List Byte)
  refs     : List (List Byte)
  layer    : Nat
  index    : Nat
  ten      : Bool
  header   : UnitHeader
  missing  : List Rect
  latest   : Option Nat
  lay      : Nat × Nat × Nat

/-- A luma sample of a picture: decoded, or where its block is absent the co-located one of the latest picture, or mid-grey (R244). -/
def lumaAt (s : State) (p : PicSource) (x y : Nat) : Nat :=
  if inRects p.missing x y then
    match p.latest with
    | some b => storedSample s p.ten (b + p.lay.1 * y + (if p.ten then 2 else 1) * x)
    | none => midGrey p.ten
  else slotSample p.ten p.header.depth (Config.codecSample p.codec p.payloads p.refs (p.layer, p.index, 0) x y)

/-- Chroma sample c (0 Cb, 1 Cr) of a picture at a half-resolution position; a monochrome picture has mid-grey (R234). -/
def chromaAt (s : State) (p : PicSource) (c x y : Nat) : Nat :=
  if p.header.sampling = .mono then midGrey p.ten
  else if inRects p.missing (2 * x) (2 * y) then
    match p.latest with
    | some b => storedSample s p.ten (b + p.lay.1 * p.lay.2.1 + p.lay.1 * y + (if p.ten then 2 else 1) * (2 * x + c))
    | none => midGrey p.ten
  else slotSample p.ten p.header.depth (Config.codecSample p.codec p.payloads p.refs (p.layer, p.index, c + 1) x y)

/-- Write a decoded picture into a slot: its luma rows, its chroma rows, and the side store (R242). -/
def writePicture (base : Nat) (p : PicSource) (s : State) : State :=
  let b := if p.ten then 2 else 1
  let old := s
  let chroma := base + p.lay.1 * p.lay.2.1
  let s := (List.range p.header.height).foldl (fun s y =>
    memStore (base + p.lay.1 * y) ((List.range p.header.width).flatMap fun x => leBytes b (lumaAt old p x y)) false s) s
  let s := (List.range (ceilDiv p.header.height 2)).foldl (fun s y =>
    memStore (chroma + p.lay.1 * y) ((List.range (ceilDiv p.header.width 2)).flatMap fun x =>
      leBytes b (chromaAt old p 0 x y) ++ leBytes b (chromaAt old p 1 x y)) false s) s
  let side := p.lay.1 * p.lay.2.1 * 3 / 2
  memStore (base + side) ((List.range (ceilDiv p.header.width 8 * ceilDiv p.header.height 8 * 8)).map
    (Config.codecSide p.codec p.payloads p.refs p.layer p.index)) false s

/-! ### Decoding one access unit (R244 to R249) -/

/-- What the pictures of one access unit have met: the work, whether a reference was missing, poisoned, or a concealed picture, and
whether no slot could be written. -/
structure UnitRun where
  w        : DecWork
  missing  : Bool
  poison   : Bool
  tainted  : Bool
  full     : Bool

/-- Whether one of some rectangles covers a whole picture. -/
def coversAll (rs : List Rect) (h : UnitHeader) : Bool := rs.any fun r => r.x == 0 && r.y == 0 && decide (h.width ≤ r.w) && decide (h.height ≤ r.h)

/-- Decode picture `index` of an access unit; GREY marks one that uses no decoded data. -/
def decodePicture (n : Nat) (r : Release) (a : AccessUnit) (h : UnitHeader) (index : Nat) (p : UnitPicture) (x : UnitRun) : UnitRun :=
  let w := x.w
  let t := r.instant
  let got := p.refs.map (resolveRef w.s t n w.d)
  match streamPick w.s t n r.flight w.taken w.d with
  | none => { x with full := true }
  | some slot =>
    let lay := streamLayout w.s t n
    let addr := streamSlot w.s t n
    let old := latestOf w.d p.layer
    let src : PicSource := ⟨cfgF w.s t (Reg.STR_CODEC n), a.recs.map (·.payload),
      got.map fun g => (g.1.map fun q => memBytes w.s (addr q.slot) lay.2.2).getD [], p.layer, index,
      cfgF w.s t (Reg.STR_DEPTH10 n) == 1, h, p.missing, old.map fun q => addr q.slot, lay⟩
    let grey := coversAll p.missing h && old.isNone
    let new : HeldPic := ⟨⟨(a.ts % 4294967296).toNat, p.layer, index⟩, slot, if grey then 2 else 0, h.winX, h.winY, h.winW, h.winH⟩
    let latest := w.d.latest.filter fun e => !e.2.any fun q => q.slot == slot
    let d := { w.d with held := w.d.held ++ [new], latest := ssetC none latest p.layer (some new) }
    { w := { w with d := d, taken := w.taken + 1, s := writePicture (addr slot) src w.s }
      missing := x.missing || got.any (·.2.1), poison := x.poison || got.any (·.2.2)
      tainted := x.tainted || got.any fun g => g.1.any fun q => q.flags % 2 == 1, full := x.full }

/-- The pictures of an access unit, in order. -/
def decodePictures (n : Nat) (r : Release) (a : AccessUnit) (h : UnitHeader) : Nat → List UnitPicture → UnitRun → UnitRun
  | _, [], x => x
  | i, p :: ps, x => decodePictures n r a h (i + 1) ps (decodePicture n r a h i p x)

/-- Flags come to the pictures of an access unit. -/
def markPics (ts flags : Nat) (l : List HeldPic) : List HeldPic :=
  l.map fun h => if h.id.ts = ts then { h with flags := flags + h.flags / 2 % 2 * 2 } else h

/-- What follows the pictures of an access unit: its marks, its episode, its events, what it outputs and what stays held. -/
def finishUnit (flight : Nat) (a : AccessUnit) (ok key : Bool) (res : AuResult) (x : UnitRun) : DecWork :=
  let w := { x.w with decoded := x.w.decoded + 1 }
  let partialAu := !ok || res.syntaxBad
  let w := if res.syntaxBad then DecWork.note 0x146 { w with syntaxes := w.syntaxes + 1 } else w
  let w := if x.poison then w.note 0x147 else w
  let w := if partialAu then { w with conceal := w.conceal + 1 } else w
  let w := if partialAu || x.missing then openEpisode flight (w.note 0x140) else w
  let clean := key && !partialAu && !x.missing
  let w := if clean ∧ w.d.episode.isSome then { w with d := { w.d with episode := none }, events := w.events ++ [0x143] } else w
  let flags := (if w.d.episode.isSome || partialAu || x.missing || x.tainted then 1 else 0) + (if key then 4 else 0) +
    (if partialAu then 8 else 0) + (if x.poison then 16 else 0)
  let held := markPics (a.ts % 4294967296).toNat flags w.d.held
  let latest := w.d.latest.map fun e => (e.1, (e.2.toList |> markPics (a.ts % 4294967296).toNat flags).head?)
  { w with
    pics := w.pics ++ res.output.filterMap fun i => held.find? fun h => h.id == i
    d := { w.d with
      held := held.filter fun h => res.keep.contains h.id, latest := latest
      unsupported := w.d.unsupported && !key
      episode := w.d.episode.map fun e => (e.1, e.2 || (key && decide (e.1 < flight))) } }

/-- An access unit leaves those that wait: the next one follows its marker. -/
def passUnit (a : AccessUnit) (w : DecWork) : DecWork :=
  { w with d := { w.d with lastTs := some a.ts, nextSeq := afterUnit w.d a } }

/-- Decode one access unit; `ok` says whether it is complete with every record clean. A unit whose pictures find no slot lies beyond
its pool. Assumption 95 (DEDUCED). -/
def decodeUnit (n : Nat) (r : Release) (a : AccessUnit) (ok : Bool) (res : AuResult) (w : DecWork) : DecWork :=
  let w := { passUnit a w with refNeed := some res.header.refNeed }
  if !withinFormat w.s r.instant n res.header then unsupportedUnit w
  else
    let x := decodePictures n r a res.header 0 res.pics ⟨w, false, false, false, false⟩
    if x.full then unsupportedUnit w
    else finishUnit r.flight a ok (isKey (cfgF w.s r.instant (Reg.STR_CODEC n)) res.header) res x

/-- Take up to k access units from the front of those that wait (R240); `dead` is a task whose units cannot be decoded (R249). -/
def decodeLoop (n : Nat) (r : Release) (wait : Nat) (starts : List Nat) (dead : Bool) :
    Nat → List AuResult → DecWork → DecWork
  | 0, _, w => w
  | k + 1, rs, w =>
    match w.d.waiting with
    | [] => w
    | a :: as =>
      let full := unitComplete w.d starts a
      if full ∨ wait < r.flight - a.newest then
        let w := { w with d := { w.d with waiting := as } }
        let w := match dead, rs with
          | false, res :: _ => decodeUnit n r a (full && !(a.recs.any (·.poison))) res w
          | _, _ => passUnit a w
        decodeLoop n r wait starts dead k (rs.drop 1) w
      else w

/-! ### Publication (R241 to R243) -/

/-- The picture record as words (Table 5), little-endian. -/
def recordWords (p : PicRec) : List Byte :=
  leBytes 8 p.picture ++ leBytes 4 (treadsOf p.flight) ++ leBytes 6 (secondsOf p.flight) ++ leBytes 2 0 ++ leBytes 4 p.rtpTs ++
  leBytes 1 p.slot ++ leBytes 1 p.flags ++ leBytes 1 p.depth ++ leBytes 1 0 ++ leBytes 2 p.winX ++ leBytes 2 p.winY ++
  leBytes 2 p.w ++ leBytes 2 p.h ++ leBytes 4 p.pitch ++ leBytes 8 p.luma ++ leBytes 8 p.chroma ++ leBytes 8 0

/-- Store bytes into consecutive words of the register space. -/
def setWords (a : Nat) (bs : List Byte) (s : State) : State :=
  (List.range (bs.length / 4)).foldl (fun s i => rset s (a + 4 * i) (BitVec.ofNat 32 (leAt bs (4 * i) 4))) s

/-- Publish the newest picture that a task output; two publications are kept (R255). -/
def publishPicture (n : Nat) (start deadline : Treads) (p : HeldPic) (s : State) : State :=
  let d := streamOf s n
  let lay := streamLayout s start n
  let base := streamSlot s start n p.slot
  let ten := cfgF s start (Reg.STR_DEPTH10 n) = 1
  let rec_ : PicRec := ⟨d.count + 1, start, p.id.ts, p.slot, p.flags, if ten then 10 else 8, p.winX, p.winY,
    p.winW, p.winH, lay.1, base, base + lay.1 * lay.2.1⟩
  let d := { d with count := d.count + 1, busy := slotsBusy start d.shown d.busy, shown := some (base, lay.2.2), pubs := (⟨rec_, deadline⟩ :: d.pubs).take 2 }
  setWords (0x83010000 + 64 * n) (recordWords rec_) (setStream n d s)

/-! ### Tasks -/

/-- STATE of a stream's context. -/
def streamState (s : State) (n : Nat) (d : DecStream) : Nat :=
  if getF s (Reg.STR_EN n) = 0 then 0
  else if d.restarts.any fun t => decide (d.begun < t) then 1
  else if d.unsupported then 3 else if d.episode.isSome then 2 else 1

/-- The stream's context shows its state. -/
def showStream (n : Nat) (s : State) : State :=
  let d := streamOf s n
  setL (setL s (Reg.STR_STATE n) (streamState s n d)) (Reg.STR_WAITING n) d.waiting.length

/-- An uncorrectable error at a decode engine (DEC_ERR_LAST). -/
def decError (n engine code : Nat) (s : State) : State :=
  let s := setF (setF (setF s Reg.DEC_ERR_LAST_STREAM n) Reg.DEC_ERR_LAST_ENGINE engine) Reg.DEC_ERR_LAST_CAUSE code
  captureError .dec code 2 false n 0 none s

/-- Add to a stream's count and to the device's. -/
def decCount (n c k : Nat) (s : State) : State :=
  let s := addF s (Reg.DEC_CNT_COUNT c) k
  match c with
  | 0 => addL s (Reg.STR_AU_DECODED n) k
  | 1 => addL s (Reg.STR_AU_CONCEALED n) k
  | 2 => addL s (Reg.STR_LATE n) k
  | _ => s

/-- A task's key-frame requests (R247): a PLI where it opened an episode, a FIR every eighth flight of one without a key
frame; a request takes effect at the deadline, and not at all where the task is late. -/
def keyRequests (n flight : Nat) (deadline : Treads) (w : DecWork) (s : State) : State :=
  let d := streamOf s n
  let fir := !d.unsupported && d.episode.any fun e => !e.2 && decide (e.1 < flight) && (flight - e.1) % 8 == 0
  let ask := (if w.opened then [false] else []) ++ (if fir then [true] else [])
  ask.foldl (fun s f =>
    let s := raiseEvent (if f then 0x142 else 0x141) (incF s (Reg.DEC_CNT_COUNT (if f then 7 else 6)))
    if s.now ≤ deadline then setStream n { streamOf s n with requests := (streamOf s n).requests ++ [(f, deadline)] } s else s) s

/-- Whether a set's trust is final for a stream's task (R238). -/
def trustFinal (s : State) (o : SetOwner) (flight : Nat) : Bool := (setOf s o flight).all fun x => !(x.recs.any trustOpen)

/-- The start of a stream as enabled (R250): its waiting units, references and episode are gone; what was published stays readable, and
its slots stay as they are. -/
def freshStream (at_ : Treads) (d : DecStream) : DecStream :=
  { streamInit with restarts := d.restarts, begun := at_, requests := d.requests, shown := d.shown, busy := d.busy, pubs := d.pubs }

/-- The newest of some instants at or before one; 0 where there is none. -/
def newestUpTo (t : Treads) (l : List Treads) : Treads := (l.filter fun x => decide (x ≤ t)).foldl max 0

/-- A stream as a task finds it whose flight starts at an instant: started as enabled where a commit by then did so. -/
def streamFor (t : Treads) (d : DecStream) : DecStream :=
  let r := newestUpTo t d.restarts
  if d.begun < r then freshStream r d else d

/-- The work of stream n's task for a running release; a stream that is disabled publishes nothing more (R250). -/
def decodeWork (n engine : Nat) (r : Release) (starts : List Nat) (results : List AuResult) (dead : Bool) (s : State) : State :=
  let recs := sortBySeq ((((setOf s (.stream n) r.flight).map (·.recs)).getD []).filter recUsable)
  let start := r.instant
  let added := recs.foldl (fun x a => addRecord r.flight x a) (streamFor start (streamOf s n), 0)
  let w := decodeLoop n r (cfgF s start (Reg.STR_WAIT_FLIGHTS n)) starts dead 2 results ⟨added.1, 0, 0, 0, 0, [], false, none, [], 0, s⟩
  let drop := w.d.waiting.length - 8
  let d := if drop = 0 then w.d else { w.d with waiting := w.d.waiting.drop drop, nextSeq := none }
  let s := setStream n d w.s
  let s := decCount n 2 added.2 (decCount n 0 w.decoded (decCount n 1 w.conceal s))
  let s := addF (addF (addF s (Reg.DEC_CNT_COUNT 4) w.syntaxes) (Reg.DEC_CNT_COUNT 5) w.unsup) (Reg.DEC_CNT_COUNT 3) drop
  let s := w.events.foldl (fun s e => raiseEvent e s) s
  let s := if w.events.contains 0x147 then decError n engine 3 s else s
  let s := raiseIf (drop != 0) 0x145 s
  let s := keyRequests n r.flight r.deadline w s
  let s := match w.refNeed with | some k => setL s (Reg.STR_REF_NEED n) k | none => s
  let s := match w.pics.getLast? with
    | some p => if getF s (Reg.STR_EN n) = 1 then publishPicture n start r.deadline p s else s
    | none => s
  setF (showStream n s) (Reg.DEC_ENGINE_STAT_CURRENT engine) n

/-- The engine on which a release runs. -/
def runsOn (r : Release) : Nat := match r.stage with | .running e => e | _ => 0

/-- DECODE_TASK (R240): stream n's task, for its running release, once every record's trust is final. `starts` lists the
sequences that start an access unit, `results` what the codec's headers say of the units decoded, `sram` an error of the
engine's SRAM: 0 none, 1 corrected, 2 uncorrectable. -/
def decodeTask (n : Nat) (starts : List Nat) (results : List AuResult) (sram : Nat) (s : State) : State :=
  match runningOf s (21704 + n) with
  | none => s
  | some r =>
    if r.exit.isSome ∨ !trustFinal s (.stream n) r.flight then s
    else
      let e := runsOn r
      let s := if sram = 1 then raiseEvent 0x148 (captureError .dec 0x01 1 false n 0 none s) else s
      let s := if sram = 2 then raiseEvent 0x149 (decError n e 2 s) else s
      setExit (21704 + n) 0 (decodeWork n e r starts results (sram == 2) s)

/-- DECODE_TIMEOUT (R249): stream n's task has run for longer than TIMEOUT; its engine is reset. -/
def decodeTimeout (n : Nat) (starts : List Nat) (s : State) : State :=
  match runningOf s (21704 + n) with
  | none => s
  | some r =>
    if r.exit.isSome ∨ s.now ≤ r.started + getF s Reg.DEC_CFG_TIMEOUT then s
    else
      let e := runsOn r
      setExit (21704 + n) 0xFF (decodeWork n e r starts [] true (raiseEvent 0x14A (decError n e 4 s)))

/-- KEY_FRAME_REQUEST (R247): at a task's deadline its requests go to the ports. -/
def keyFrameRequest (n : Nat) (s : State) : State :=
  let d := streamOf s n
  let due := d.requests.filter fun q => decide (q.2 ≤ s.now)
  let s := setStream n { d with requests := d.requests.filter fun q => !decide (q.2 ≤ s.now) } s
  { s with ports := { s.ports with rtcpDue := s.ports.rtcpDue ++ due.map fun q => (n, q.1, q.2) } }

/-! ### Commit -/

/-- The streams. -/
def allStreams : List Nat := List.range 256

/-- Enabled streams of an engine. -/
def engineStreams (s : State) (e : Nat) : List Nat :=
  allStreams.filter fun n => getF s (Reg.STR_EN n) == 1 && getF s (Reg.STR_ENGINE n) == e

/-- Declared rate of stream n (R235). -/
def streamRate (s : State) (n : Nat) : Nat := declRate (getF s (Reg.STR_MAX_W n)) (getF s (Reg.STR_MAX_H n)) (getF s (Reg.STR_RATE n))

/-- The sum of what a function gives. -/
def sumOf (f : Nat → Nat) (l : List Nat) : Nat := l.foldl (fun a x => a + f x) 0

/-- The state words that follow the committed contexts (R125). -/
def showDecode (s : State) : State :=
  let s := (List.range 8).foldl (fun s e =>
    let l := engineStreams s e
    setF (setF s (Reg.DEC_ENGINE_STAT_STREAMS e) l.length) (Reg.DEC_ENGINE_DECL_RATE e) (sumOf (streamRate s) l)) s
  set64 s Reg.DEC_DECL_TOTAL_RATE_LO.addr (sumOf (streamRate s) (allStreams.filter fun n => getF s (Reg.STR_EN n) == 1))

/-- A stream starts as enabled at once: a Door reset of its owner (R251). -/
def restartStream (n : Nat) (s : State) : State :=
  let d := streamOf s n
  setStream n (freshStream s.now { d with restarts := d.restarts ++ [s.now] }) s

/-- From this commit on a stream starts as enabled: its first flight at or after it finds it so (R250). -/
def reconfigureStream (n : Nat) (s : State) : State :=
  let d := streamOf s n
  setStream n { d with restarts := d.restarts ++ [s.epoch.newestAt] } s

/-- What a commit does at the streams whose contexts it wrote (R235, R250). -/
def decodeCommit (old : State) (addrs : List Nat) (s : State) : State :=
  let hit := ((addrs.filter fun a => 0x83000000 ≤ a && a < 0x83010000).map fun a => (a - 0x83000000) / 256).eraseDups
  let s := hit.foldl (fun s n =>
    let fields := [Reg.STR_EN n, Reg.STR_CODEC n, Reg.STR_DEPTH10 n, Reg.STR_MAX_W n, Reg.STR_MAX_H n, Reg.STR_NPIC n,
      Reg.STR_POOL_REGION n, Reg.STR_POOL_OFS n, Reg.STR_OP n]
    let s := if fields.any fun f => getF old f != getF s f then reconfigureStream n s else s
    let s := setF (setF s (Reg.STR_SLOT_BYTES n) ((streamLayout s s.now n).2.2 / 4096)) (Reg.STR_DECL_RATE n) (streamRate s n)
    showStream n s) s
  if hit.isEmpty then s else showDecode s

end Sys2Proof.Machine
end

