-- ==== Sys2Proof/Machine/Landing.lean ====
section
/-! DEFINITION. The Landing cores: registers, data memory, address generation, program faults, fences and the PUT buffer
(Landing cores). -/

namespace Sys2Proof.Machine

/-- A core at rest with its memory clear. -/
def coreInit : Core :=
  ⟨[], [], [], [], [], [], 0, false, false, false, false, 0, false, false, false, 0, 0, [], [], [], [], 0, [], [], false, .none,
   0, none, none, 0, 0, 0, none, none, (false, false), 0, 0, []⟩

/-- Core n. -/
def coreOf (s : State) (n : Nat) : Core := sgetC coreInit s.lnd.cores n

/-- Replace core n. -/
def setCore (n : Nat) (c : Core) (s : State) : State :=
  { s with lnd := { s.lnd with cores := ssetC coreInit s.lnd.cores n c } }

/-- Whether core n is fenced (R203). -/
def coreFenced (s : State) (n : Nat) : Bool := s.stw.fenced.contains (0, n)

/-! ### Registers (Tables 2 to 4) -/

/-- General register i. -/
def gOf (c : Core) (i : Nat) : Word := sgetC 0 c.g i

/-- Write general register i. -/
def setG (i : Nat) (w : Word) (c : Core) : Core := { c with g := ssetC 0 c.g i w }

/-- Accumulator i. -/
def accOf (c : Core) (i : Nat) : Int := sgetC 0 c.acc i

/-- Write accumulator i, saturating to 40 bits (R189). -/
def setAcc (i : Nat) (x : Int) (c : Core) : Core :=
  { c with acc := ssetC 0 c.acc i (satTo 40 x), sat := c.sat || satTo 40 x != x }

/-- Address register i. -/
def aOf (c : Core) (i : Nat) : Nat := sgetC 0 c.a i

/-- Write address register i, modulo 2¹⁷ (R188). -/
def setA (i : Nat) (v : Int) (c : Core) : Core := { c with a := ssetC 0 c.a i (v % 131072).toNat }

/-- SR as a word (Table 3). -/
def srWord (c : Core) : Word :=
  BitVec.ofNat 32 (c.z.toNat + 2 * c.n.toNat + 4 * c.c.toNat + 8 * c.v.toNat + 16 * c.sm + 128 * c.rnd.toNat +
    256 * c.sat.toNat + 512 * c.poison.toNat)

/-- Write SR; POISON cannot be cleared. -/
def setSr (w : Word) (c : Core) : Core :=
  { c with z := w.getLsbD 0, n := w.getLsbD 1, c := w.getLsbD 2, v := w.getLsbD 3, sm := bitsOf w 6 4, rnd := w.getLsbD 7,
           sat := w.getLsbD 8, poison := c.poison || w.getLsbD 9 }

/-! ### Address generation (R188) -/

/-- Reverse the low b bits of a number. -/
def revBits : Nat → Nat → Nat
  | 0, _ => 0
  | b + 1, v => (v % 2) * 2 ^ b + revBits b (v / 2)

/-- A circular step. -/
def circStep (c : Core) (i : Nat) (m : Int) : Int :=
  let AB : Int := (sgetC 0 c.ab i : Nat)
  let AL : Int := (sgetC 0 c.al i : Nat)
  AB + ((aOf c i : Int) - AB + m) % AL

/-- A bit-reverse step. -/
def brevStep (c : Core) (i : Nat) (m : Int) : Int :=
  let AB : Int := (sgetC 0 c.ab i : Nat)
  let AL := sgetC 0 c.al i
  let b := Nat.log2 AL
  let low := fun (v : Int) => (v % (AL : Int)).toNat
  AB + revBits b ((revBits b (low ((aOf c i : Int) - AB)) + revBits b (low m)) % AL)

/-- The modifier AM[i], signed. -/
def amOf (c : Core) (i : Nat) : Int := toSigned 17 (sgetC 0 c.am i)

/-- The address of an access through A[i] and A[i] afterwards, or a program fault's cause (Table 6). -/
def agu (c : Core) (i mode size disp : Nat) : Except Nat (Nat × Int) :=
  let a : Int := aOf c i
  let AL := sgetC 0 c.al i
  if mode ≠ 4 ∧ disp ≠ 0 then .error 1
  else match mode with
    | 0 => .ok (a.toNat, a)
    | 1 => .ok (a.toNat, a + size)
    | 2 => .ok (a.toNat, a - size)
    | 3 => .ok (a.toNat, a + amOf c i)
    | 4 => .ok (((a + toSigned 16 disp) % 131072).toNat, a)
    | 5 => if AL = 0 then .error 1 else .ok (a.toNat, circStep c i (amOf c i))
    | 6 => if AL < 4 ∨ 2 ^ Nat.log2 AL ≠ AL ∨ 65536 < AL then .error 1 else .ok (a.toNat, brevStep c i (amOf c i))
    | _ => .error 1

/-- Base of a foyer (Table 5). Assumption 84 (DEDUCED). -/
def foyerBase (f : Nat) : Nat := if f = 0 then 0x11000 else 0x14800

/-- The cause of a program fault of an access of n bytes at an address, if it is one (R185, R188). -/
def accessFault (c : Core) (addr size n : Nat) : Option Nat :=
  let f := foyerBase c.foyer
  if addr % size ≠ 0 then some 2
  else if addr + n ≤ 0x11000 ∨ (f ≤ addr ∧ addr + n ≤ f + 0x3800) ∨ (f = 0x11000 ∧ addr + n ≤ f + 0x3800) then none else some 3

/-! ### Data memory (R183, R186) -/

/-- Whether a word lies in the scratch area. -/
def inScratch (w : Nat) : Bool := decide (0x4000 ≤ w) && decide (w < 0x4400)

/-- What a scratch word holds that the task has not written: an open value (R183). Assumption 82 (DESIGN CHOICE). -/
def scratchWord (c : Core) (w : Nat) : Word := Config.openWord (c.task.getD 0) c.flight w

/-- What a word reads that cannot be corrected: an open value. Assumption 82 (DESIGN CHOICE). -/
def brokenWord (c : Core) (w : Nat) : Word := Config.openWord (c.task.getD 0) c.flight (w + 65536 * (c.cycles + 1))

/-- A scratch word that the task has not written holds an open value from its first use on. -/
def touchScratch (n w : Nat) (s : State) : State :=
  let c := coreOf s n
  if inScratch w ∧ !c.scratch.contains w then
    setCore n { c with mem := ssetC 0 c.mem w (scratchWord c w), poisoned := ssetC false c.poisoned w false,
                       scratch := c.scratch ++ [w] } s
  else s

/-- A correctable error of core n's data memory. -/
def coreEcc (n : Nat) (s : State) : State :=
  raiseEvent 0x101 (captureError .lnd 0x01 1 false n 0 none (incSatF s (Reg.LND_CORE_ECC_CORRECTED n)))

/-- A poisoned or uncorrectable load of core n. -/
def corePoison (n : Nat) (s : State) : State :=
  let s := incSatF s (Reg.LND_CORE_ECC_UNCORRECTED n)
  raiseEvent 0x102 (captureError .lnd 0x02 2 false n 0 none (setCore n { coreOf s n with poison := true } s))

/-- Read a word of core n's memory; `ecc` says what the read met: nothing, a single-bit or a double-bit error. A word that
cannot be corrected reads as an open value, and stays poisoned. -/
def readMem (n w ecc : Nat) (s : State) : Word × State :=
  let s := touchScratch n w s
  let c := coreOf s n
  if ecc = 2 then
    let v := brokenWord c w
    (v, corePoison n (setCore n { c with mem := ssetC 0 c.mem w v, poisoned := ssetC false c.poisoned w true } s))
  else
    let v := sgetC 0 c.mem w
    let s := if ecc = 1 then coreEcc n s else s
    (v, if sgetC false c.poisoned w then corePoison n s else s)

/-- The halfword of a word at a byte address. -/
def halfOf (w : Word) (addr : Nat) : Nat := if addr % 4 = 2 then w.toNat / 65536 else w.toNat % 65536

/-- Write a word; a whole word written is no longer poisoned. -/
def writeWord (n w : Nat) (v : Word) (s : State) : State :=
  let c := coreOf s n
  setCore n { c with mem := ssetC 0 c.mem w v, poisoned := ssetC false c.poisoned w false,
                     scratch := if inScratch w ∧ !c.scratch.contains w then c.scratch ++ [w] else c.scratch } s

/-- Write a halfword; the rest of its word and its poison stay. Assumption 83 (DEDUCED). -/
def writeHalf (n addr v : Nat) (s : State) : State :=
  let s := touchScratch n (addr / 4) s
  let c := coreOf s n
  let w := sgetC 0 c.mem (addr / 4)
  let new := if addr % 4 = 2 then putBits w 31 16 v else putBits w 15 0 v
  setCore n { c with mem := ssetC 0 c.mem (addr / 4) new } s

/-- n bytes of a core's memory from an address, and whether any of their words is poisoned. -/
def coreBytes (c : Core) (addr n : Nat) : List Byte × Bool :=
  let byte := fun i => BitVec.ofNat 8 ((sgetC 0 c.mem ((addr + i) / 4)).toNat / 2 ^ (8 * ((addr + i) % 4)))
  ((List.range n).map byte, (List.range n).any fun i => sgetC false c.poisoned ((addr + i) / 4))

/-- Read every word of a run of bytes (R186); `ecc` says what each word meets, in order. -/
def readRun (n addr len : Nat) (ecc : List (Fin 3)) (s : State) : State :=
  (List.range ((addr % 4 + len + 3) / 4)).foldl (fun s i => (readMem n (addr / 4 + i) (ecc.getD i 0) s).2) s

/-! ### Program memory (R187) -/

/-- Instruction word i of program memory. -/
def programWord (s : State) (i : Nat) : Word := s.cht.loaded.image.getD i 0

/-- The coefficient at CP, signed (R193). -/
def coefAt (s : State) (cp : Nat) : Int := toSigned 16 (halfOf (programWord s (cp / 4)) (cp % 4 / 2 * 2))

/-! ### Faults, exits and fences (R201 to R203) -/

/-- The object flags with which the next task of an object enters: PREV_FAULT, PREV_POISON. -/
def setFlags (task : Nat) (f : Bool × Bool) (s : State) : State :=
  { s with lnd := { s.lnd with flags := ssetC (false, false) s.lnd.flags (if 10240 ≤ task ∧ task < 20480 then task - 10240 else task) f } }

/-- The flags of a task's object. -/
def flagsOf (s : State) (task : Nat) : Bool × Bool :=
  sgetC (false, false) s.lnd.flags (if 10240 ≤ task ∧ task < 20480 then task - 10240 else task)

/-- The release whose work a task has still to do. -/
def workOf (s : State) (t : Nat) : Option Release := (runningOf s t).filter fun r => r.exit.isNone

/-- The flags that a task's firmware finds: those with which its core entered it, or its object's where no core has. -/
def entryFlags (s : State) (t : Nat) : Bool × Bool :=
  match s.lnd.cores.find? (fun e => e.2.task == some t) with
  | some e => e.2.prev
  | none => flagsOf s t

/-- The firmware takes the flags of a task's object: on either it reinitialises the object, with event 0x107 (R202). -/
def takeFlags (t : Nat) (s : State) : Bool × State :=
  let f := entryFlags s t
  let s := match s.lnd.cores.find? (fun e => e.2.task == some t) with
    | some e => setCore e.1 { coreOf s e.1 with prev := (false, false) } s
    | none => setFlags t (false, false) s
  (f.1 || f.2, raiseIf (f.1 || f.2) 0x107 s)

/-- Core n's task ends with an exit code. -/
def leaveTask (n code : Nat) (s : State) : State :=
  let c := coreOf s n
  match c.task with
  | none => s
  | some t =>
    let f := flagsOf s t
    let s := setFlags t (f.1, f.2 || c.poison) s
    let s := setCore n { c with task := none, wait := .none, rep := none, lc := 0, prev := (false, false) } s
    let s := setF (setF s (Reg.LND_CORE_STAT_STATE n) 0) (Reg.LND_CORE_STAT_LAST_EXIT n) code
    setExit t code (setF s (Reg.LND_CORE_TASK_RUNNING n) 0)

/-- The firmware's work for a task of a placed object ends with exit code 0x00: on the core that entered the task, where one did.
Assumption 87 (DEDUCED). -/
def firmwareExit (t : Nat) (s : State) : State :=
  match s.lnd.cores.find? (fun e => e.2.task == some t) with
  | some e => leaveTask e.1 0 s
  | none => setExit t 0 s

/-- A program fault of core n at an instruction (R202). -/
def programFault (n pc cause : Nat) (s : State) : State :=
  match (coreOf s n).task with
  | none => s
  | some t =>
    let s := setF (setF s (Reg.LND_CORE_FAULT_CAUSE n) cause) (Reg.LND_CORE_FAULT_PC n) pc
    let s := raiseEvent 0x100 (captureError .lnd 0x03 1 false n 0 none s)
    let s := setFlags t (true, (flagsOf s t).2) s
    leaveTask n 0xFF s

/-- Core n is fenced (R203): cause 6 for LIMIT, 7 for program memory parity. -/
def fenceCore (n pc cause : Nat) (s : State) : State :=
  let c := coreOf s n
  let s := setCore n { c with task := none, wait := .none, puts := [], putOut := false, filled := none } s
  let s := setF s (Reg.LND_CORE_STAT_STAGED n) 0
  let s := setF (setF s (Reg.LND_CORE_FAULT_CAUSE n) cause) (Reg.LND_CORE_FAULT_PC n) pc
  let s := setF (setF s (Reg.LND_CORE_STAT_STATE n) 2) (Reg.LND_CORE_TASK_RUNNING n) 0
  let a := (Reg.LND_FENCED_CORES (n / 32)).addr
  let s := rset s a (rget s a ||| BitVec.ofNat 32 (2 ^ (n % 32)))
  let s := fenceEngine 0 n s
  if cause = 7 then raiseEvent 0x106 (captureError .lnd 0x04 2 true n 0 none s)
  else raiseEvent 0x105 (captureError .lnd 0x05 2 true n 0 none s)

/-! ### Running one instruction (R190, R194) -/

/-- What an instruction did: it went on, or met a program fault of a cause. -/
abbrev Done := Option Nat × State

/-- Cycles pass at core n. Assumption 86 (DEDUCED). -/
def coreCycles (n k : Nat) (s : State) : State :=
  let c := coreOf s n
  setCore n { c with cycles := c.cycles + k, busy := c.busy + k } s

/-- One repeat begins: its cycle passes, and LC stands at the repeats that follow. -/
def repeatTick (n k : Nat) (s : State) : State := setCore n { coreOf (coreCycles n 1 s) n with lc := k } (coreCycles n 1 s)

/-- Run an instruction's body k times, from repeat i on, counting LC down; it stops at a program fault. -/
def repeatBody (n : Nat) (body : Nat → State → Done) : Nat → Nat → State → Done
  | 0, _, s => (none, s)
  | k + 1, i, s =>
    match body i (repeatTick n k s) with
    | (some cause, s) => (some cause, s)
    | (none, s) => repeatBody n body k (i + 1) s

/-- Core n runs an instruction of a class that reads some G registers: once, or as often as the RPT before it says. A core
that runs no task, waits or is fenced fetches nothing, and a word at PC that is no instruction is a program fault of cause 1. The
body is told the number of the repeat. A word of bad parity fences the core at its fetch (R187). Assumption 77 (DEDUCED). -/
def coreStep (n cls : Nat) (reads : List Nat) (body : Nat → State → Done) (s : State) : State :=
  let c := coreOf s n
  if c.task.isNone ∨ c.wait ≠ .none ∨ coreFenced s n then s
  else if c.bad.contains c.pc then fenceCore n c.pc 7 s
  else if !landingWordLegal (programWord s c.pc) || (c.rep.isSome && decide (6 ≤ cls)) then programFault n c.pc 1 s
  else
    let stall := if c.loaded.any fun g => reads.contains g then 1 else 0
    let s := setCore n { c with pc := (c.pc + 1) % 8192, loaded := none, rep := none,
                                         cycles := c.cycles + stall, busy := c.busy + stall } s
    match repeatBody n body (c.rep.getD 1) 0 s with
    | (none, s) => s
    | (some cause, s) => programFault n c.pc cause s

/-- An instruction of core n is work of the release that the core has entered (R429). -/
def coreInstr (n cls : Nat) (reads : List Nat) (body : Nat → State → Done) (s : State) : State :=
  atInstant (coreOf s n).instant (coreStep n cls reads body) s

/-- A body that only changes the core. -/
def pureBody (n : Nat) (f : Core → Core) (_ : Nat) (s : State) : Done := (none, setCore n (f (coreOf s n)) s)

/-! ### The PUT buffer (R198, R199, R201) -/

/-- The core on which an object is placed (Table 21 of Charter, start-up and partitions). -/
def placedOn (s : State) (kind object : Nat) : Option Nat :=
  (s.cht.loaded.places.find? fun p => p.kind == kind && p.object == object).map (·.core)

/-- The audio leg that a task serves. -/
def taskLeg (s : State) (t : Nat) : Option Nat :=
  if t < 10240 then some t
  else if t < 20480 then some (t - 10240)
  else if t < 20544 then some (getF s (Reg.TCM_DEC_CFG_LEG (t - 20480)))
  else if t < 20608 then some (getF s (Reg.TCM_GEN_CFG_LEG (t - 20544)))
  else if t < 21632 then some (getF s (Reg.TCM_TONE_CFG_LEG (t - 20608)))
  else none

/-- Whether a PUT names what its core may write (R198). -/
def putAllowed (s : State) (n t : Nat) (p : Put) : Bool :=
  match p with
  | .gallery leg _ _ _ _ => placedOn s 0 leg == some n
  | .queue q _ _ _ => (taskLeg s t).any fun l => getF s (Reg.LEG_QUEUE_A l) == q || getF s (Reg.LEG_QUEUE_B l) == q
  | _ => true

/-- Whether a PUT would find its queue held: the core then waits until its word is accepted (R190). -/
def putHeld (s : State) (t : Nat) (p : Put) : Bool :=
  match p with
  | .queue q _ _ _ => wordHold s q t != .free
  | _ => false

/-- Core n issues a PUT: it enters the buffer, or the core stalls while that is full or while its queue holds it. -/
def issuePut (n : Nat) (p : Put) (s : State) : Done :=
  let c := coreOf s n
  match c.task with
  | none => (none, s)
  | some t =>
    let s := match p, runningOf s t with
      | .operand link _ _, some r => putRelease { r with sent := r.sent ++ [link] } s
      | _, _ => s
    let e : PutEntry := ⟨p, t, c.flight, c.instant⟩
    if !putAllowed s n t p then (some 5, s)
    else if 16 ≤ c.puts.length then (none, setCore n { c with wait := .room e, since := s.now } s)
    else if putHeld s t p then (none, setCore n { c with puts := c.puts ++ [e], wait := .held, since := s.now } s)
    else (none, setCore n { c with puts := c.puts ++ [e] } s)

/-- A packet prefix from its bytes (Table 8 of Media ports and leg queues). -/
def readPrefix (bs : List Byte) : PktPrefix :=
  ⟨leAt bs 4 6 * treadsPerSecond + leAt bs 0 4, leAt bs 10 2, leAt bs 12 4, byteAt bs 18 % 2 == 1, byteAt bs 18 / 2 % 2 == 1⟩

/-- The word of a queue PUT: a packet's first word begins with its prefix. -/
def queuePutWord (c : Core) (src q : Nat) (bs : List Byte) (last poison : Bool) : QWord :=
  let tag := if poison then PoisonCause.written else .none
  if c.openQs.contains q then ⟨src, none, bs, last, tag⟩ else ⟨src, some (readPrefix bs), bs.drop 32, last, tag⟩

/-- Insert an entry in order of stamp, then of detector number (R77). -/
def toneInsert (e : ToneEntry) : List ToneEntry → List ToneEntry
  | [] => [e]
  | x :: xs => if e.stamp < x.stamp ∨ (e.stamp = x.stamp ∧ e.detector < x.detector) then e :: x :: xs else x :: toneInsert e xs

/-- A TCM result entry that a core writes: a decoder's or a tone detector's (Table 10), a tone entry in the order of R77. -/
def timecodeEntry (t : Nat) (bs : List Byte) (s : State) : State :=
  if 20480 ≤ t ∧ t < 20544 then
    let n := t - 20480
    let x := sgetC decoderInit s.modem.decoders n
    if 16 ≤ x.fifo.length then raiseEvent 0x082 (setF s (Reg.TCM_DEC_STAT_OVF n) 1)
    else
      let e : LtcEntry := ⟨BitVec.ofNat 32 (leAt bs 0 4), BitVec.ofNat 32 (leAt bs 4 4),
        (leAt bs 12 4 + 4294967296 * leAt bs 16 2) * treadsPerSecond + leAt bs 8 4, leAt bs 18 2, byteAt bs 20⟩
      { s with modem := { s.modem with decoders := ssetC decoderInit s.modem.decoders n { x with fifo := x.fifo ++ [e] } } }
  else if 20608 ≤ t ∧ t < 21632 then
    match (s.cht.loaded.records.find? fun r => r.kind == 14 && decide (r.first ≤ t - 20608) && decide (t - 20608 ≤ r.last)) with
    | none => s
    | some r =>
      let q := toneFifo s r.door
      if 64 ≤ q.length then
        raiseEvent 0x083 (setF (incSatF s (Reg.TCM_TONE_STAT_DROPS r.door)) (Reg.TCM_TONE_STAT_OVF r.door) 1)
      else
        let e : ToneEntry := ⟨leAt bs 0 2 % 1024, byteAt bs 1 / 4 % 2 == 1,
          (leAt bs 8 4 + 4294967296 * leAt bs 12 2) * treadsPerSecond + leAt bs 4 4⟩
        { s with modem := { s.modem with toneFifos := ssetC [] s.modem.toneFifos r.door (toneInsert e q) } }
  else s

/-- Deliver a PUT to the Gallery, a successor or a result entry. -/
def deliverPut (e : PutEntry) (s : State) : State :=
  match e.put with
  | .gallery leg i w conc poison =>
    let x := toSigned 24 (w.toNat / 256)
    galPut e.flight leg i (if poison then .poisoned else if conc then .concealed x else .present x)
      (decide (20544 ≤ e.task) && decide (e.task < 20608)) s
  | .operand link bs poison =>
    let r : Release := ⟨0, e.task, e.flight, e.instant, 0, none, [], [], .opened, none, [], false, 0, none, []⟩
    if getF s (Reg.TASK_LINK_EN e.task link) = 0 then s
    else settle (deliverLink r link (.present poison false) bs s)
  | .timecode bs _ => timecodeEntry e.task bs s
  | .queue _ _ _ _ => s

/-- A PUTQ word of core n is presented to its queue. -/
def presentPut (n : Nat) (t q : Nat) (bs : List Byte) (last poison : Bool) (s : State) : State :=
  let c := coreOf s n
  let s := setCore n { c with putOut := true, openQs := if last then c.openQs.filter (· != q) else if c.openQs.contains q then c.openQs else c.openQs ++ [q] } s
  presentWords q [queuePutWord c t q bs last poison] s

/-- Core cycles that a wait since an instant has taken, at 1.6 GHz. -/
def waitCycles (s : State) (since : Treads) : Nat := (s.now - since) * 10000 / 882

/-- Core n's wait ends: its time counts in the task and in the load (R190). -/
def stopWait (n : Nat) (s : State) : State :=
  let c := coreOf s n
  coreCycles n (waitCycles s c.since) (setCore n { c with wait := .none } s)

/-- A core that waited goes on where its wait has ended: a held PUT enters, a WAITP ends, an EXIT reports. -/
def endWait (n : Nat) (s : State) : State :=
  let c := coreOf s n
  match c.wait with
  | .none => s
  | .room p => if 16 ≤ c.puts.length then s else stopWait n (setCore n { c with puts := c.puts ++ [p] } s)
  | .held => if c.puts.any (fun e => match e.put with | .queue _ _ _ _ => true | _ => false) then s else stopWait n s
  | .drain => if c.puts.isEmpty then stopWait n s else s
  | .leave code => if c.puts.isEmpty then leaveTask n code (stopWait n s) else s

/-- The oldest entry of core n's buffer has been delivered. -/
def popPut (n : Nat) (s : State) : State :=
  endWait n (setCore n { coreOf s n with puts := (coreOf s n).puts.drop 1, putOut := false } s)

/-- The oldest entry of core n's buffer reaches its destination; a PUTQ word once its queue has accepted it (R154). -/
def putStep (n : Nat) (s : State) : State :=
  let c := coreOf s n
  match c.puts with
  | [] => endWait n s
  | e :: _ =>
    match e.put with
    | .queue q bs last poison =>
      let s := if c.putOut then s else presentPut n e.task q bs last poison s
      if (queueOf s q).backlog.any (·.src == e.task) then s else popPut n s
    | _ => popPut n (deliverPut e s)

/-- PUT_DELIVERY: work of the release whose task issued the PUT (R429). -/
def putDelivery (n : Nat) (s : State) : State :=
  let c := coreOf s n
  atInstant ((c.puts.head?.map (·.instant)).getD c.instant) (putStep n) s

end Sys2Proof.Machine
end

