-- ==== Sys2Proof/Machine/Modem.lean ====
section
/-! DEFINITION. The modem: LTC decoders, LTC generators and tone detectors (Timecode and signalling modem). -/

namespace Sys2Proof.Machine

/-- Replace the modem's state. -/
def setModem (x : ModemUnit) (s : State) : State := { s with modem := x }

/-- Replace decoder n's state. -/
def setDecoder (n : Nat) (x : LtcDecoder) (s : State) : State :=
  setModem { s.modem with decoders := ssetC decoderInit s.modem.decoders n x } s

/-! ### LTC decoding (R68 to R72) -/

/-- Whether a cell is good (R68): a play speed from 0.85 to 1.15, a length within 25% of the mean of the last 16 good
cells, a mid-cell transition within 25% of that estimate from the midpoint, and no concealed sample (R69). -/
def cellGood (P : Nat) (last : List Nat) (c : LtcCell) : Bool :=
  let est : Nat × Nat := if last.isEmpty then (P, 80) else (last.foldl (· + ·) 0, last.length)
  let near := fun (v : Int) (w : Int) => decide ((v - w).natAbs * 4 ≤ est.1)
  !c.concealed && decide (P * 100 ≤ c.len * 80 * 115) && decide (c.len * 80 * 85 ≤ P * 100) &&
  near (c.len * est.2) est.1 &&
  (c.mid.all fun m => decide (((2 * m : Int) - (2 * c.start + c.len)).natAbs * est.2 * 4 ≤ 2 * est.1))

/-- The sync word in the order of its cells, forward and reverse (R200). -/
def syncFwd : List Bool :=
  [false, false, true, true, true, true, true, true, true, true, true, true, true, true, false, true]
def syncRev : List Bool :=
  [true, false, true, true, true, true, true, true, true, true, true, true, true, true, false, false]

/-- The direction of a sync that the last 16 cells spell, if any: true is reverse. -/
def syncOf (bits : List (Bool × Bool × Treads)) : Option Bool :=
  let w := (bits.drop (bits.length - 16)).map (·.1)
  if w == syncFwd then some false else if w == syncRev then some true else none

/-- A field of an LTC frame, from the bit that ST 12-1 numbers `lo`. Assumption 38 (PRESUMED). -/
def ltcField (frame : List Bool) (lo n : Nat) : Nat :=
  (List.range n).foldl (fun a i => a + (if frame.getD (lo + i) false then 2 ^ i else 0)) 0

/-- The first word of a result entry from the 80 bits of a frame in ST 12-1 order (TCM_DEC_DATA, R70). -/
def ltcWord (frame : List Bool) (rate : Nat) (rev : Bool) : Word :=
  let f := ltcField frame
  let bad := f 0 4 > 9 || f 8 2 > 2 || f 16 4 > 9 || f 24 3 > 5 || f 32 4 > 9 || f 40 3 > 5 || f 48 4 > 9 ||
    f 56 2 > 2 || (f 56 2 == 2 && f 48 4 > 3)
  let time := if bad then 0 else
    (f 0 4 + 10 * f 8 2) + 32 * (f 16 4 + 10 * f 24 3) + 2048 * (f 32 4 + 10 * f 40 3) + 131072 * (f 48 4 + 10 * f 56 2)
  let bgf := if rate = 2 then f 27 1 + 2 * f 43 1 else f 43 1 + 2 * f 59 1
  BitVec.ofNat 32 (time + 4194304 * f 10 1 + 8388608 * f 11 1 + 16777216 * bgf + 67108864 * rev.toNat +
    1073741824 * bad.toNat + 2147483648)

/-- The user bits of a frame, group 1 in the lowest bits. -/
def ltcUser (frame : List Bool) : Word :=
  BitVec.ofNat 32 ((List.range 8).foldl (fun a g => a + ltcField frame (8 * g + 4) 4 * 16 ^ g) 0)

/-- QUALITY from the last 64 slots (R71). -/
def ltcQuality (slots : List Nat) : Nat := 255 * slots.foldl (· + ·) 0 / 5120

/-- A frame slot ends with a count of good cells. -/
def ltcSlot (n g : Nat) (s : State) : State :=
  let x := decoderOf s n
  let slots := (g :: x.slots).take 64
  setF (setDecoder n { x with slots := slots } s) (Reg.TCM_DEC_STAT_QUALITY n) (ltcQuality slots)

/-- A decoded frame's entry enters the FIFO, or is dropped where it is full (R72). -/
def ltcPush (n : Nat) (e : LtcEntry) (s : State) : State :=
  let x := decoderOf s n
  if 16 ≤ x.fifo.length then raiseEvent 0x082 (setF s (Reg.TCM_DEC_STAT_OVF n) 1)
  else setDecoder n { x with fifo := x.fifo ++ [e] } s

/-- The frame that a sync completes: its cells, oldest first, with the tread after its last cell. -/
def ltcFrame (n P rate : Nat) (rev : Bool) (cells : List (Bool × Bool × Treads)) (endAt : Treads) (s : State) : State :=
  let bits := cells.map (·.1)
  let start := (cells.headD (false, false, 0)).2.2
  let s := ltcSlot n (cells.countP (·.2.1)) s
  let frame := if rev then bits.reverse else bits
  ltcPush n ⟨ltcWord frame rate rev, ltcUser frame, start, if endAt ≤ start then 0 else P * 16384 / (endAt - start),
    ltcQuality (decoderOf s n).slots⟩ s

/-- The spans without a sync that have passed by an instant (R69, R71). -/
def ltcTimeouts (n P : Nat) (t : Treads) : Nat → State → State
  | 0, s => s
  | k + 1, s =>
    let x := decoderOf s n
    if x.dead + P * 5 / 4 ≤ t then
      let s := setDecoder n { x with dead := x.dead + P * 5 / 4, sync := none } s
      let s := ltcSlot n 0 s
      let s := if getF s (Reg.TCM_DEC_STAT_STATE n) = 2 then raiseEvent 0x081 (setF s (Reg.TCM_DEC_STAT_STATE n) 1) else s
      ltcTimeouts n P t k s
    else s

/-- One cell of a decoder's leg. LOCKED asks for two syncs 80 cells apart in the same direction, which R69 does not say.
Assumption 39 (DEDUCED). Assumption 153 (DEDUCED). -/
def ltcCell (n P rate : Nat) (c : LtcCell) (s : State) : State :=
  let s := ltcTimeouts n P c.start 16 s
  let x := decoderOf s n
  let good := cellGood P x.cells c
  let bits := (x.bits ++ [(c.mid.isSome, good, c.start)])
  let bits := bits.drop (bits.length - 96)
  let x := { x with bits := bits, cells := if good then (c.len :: x.cells).take 16 else x.cells,
                    sync := x.sync.map fun y => (y.1 + 1, y.2.1 && good, y.2.2) }
  let endAt := c.start + c.len
  match syncOf bits with
  | none => setDecoder n x s
  | some rev =>
    let follows := x.sync.any fun y => y.1 == 80 && y.2.2 == rev
    let lock := x.sync.any fun y => y.1 == 80 && y.2.1 && y.2.2 == rev
    let s := setDecoder n { x with sync := some (0, true, rev), dead := endAt } s
    let s := if getF s (Reg.TCM_DEC_STAT_STATE n) = 1 ∧ lock then raiseEvent 0x080 (setF s (Reg.TCM_DEC_STAT_STATE n) 2) else s
    let s := setF s (Reg.TCM_DEC_STAT_DIR n) rev.toNat
    if getF s (Reg.TCM_DEC_STAT_STATE n) = 2 ∧ follows then
      if rev then ltcFrame n P rate true (bits.take (bits.length - 16)) ((bits.drop (bits.length - 16)).headD (false, false, 0)).2.2 s
      else ltcFrame n P rate false (bits.drop (bits.length - 80)) endAt s
    else s

/-- Replace where decoder n stands in its leg. -/
def setTrack (n : Nat) (k : LtcTrack) (s : State) : State := setDecoder n { decoderOf s n with track := k } s

/-- Whether a transition falls less than three quarters of the running cell estimate behind the cell's start: it is the cell's mid-cell
transition, any other ends the cell. Assumption 151 (DEDUCED). -/
def midOfCell (P : Nat) (last : List Nat) (len : Nat) : Bool :=
  if last.isEmpty then decide (len * 4 * 80 < 3 * P) else decide (len * 4 * last.length < 3 * last.foldl (· + ·) 0)

/-- A transition of a decoder's leg (R68): a mid-cell one, or the end of a cell and the start of the next. -/
def ltcEdge (n P rate : Nat) (e : Treads) (s : State) : State :=
  let x := decoderOf s n
  let k := x.track
  match k.start with
  | none => setTrack n { k with start := some e, mid := none, hidden := false } s
  | some b =>
    if k.mid.isNone && midOfCell P x.cells (e - b) then setTrack n { k with mid := some e } s
    else ltcCell n P rate ⟨b, e - b, k.mid, k.hidden⟩ (setTrack n { k with start := some e, mid := none, hidden := false } s)

/-- The transition between a sample at t0 and the next one, where their levels differ: by linear interpolation, to the tread (R68). -/
def crossing (t0 : Treads) (x0 x1 : Int) : Treads := t0 + 2940 * x0.natAbs / (x0.natAbs + x1.natAbs)

/-- The level of a sample: its sign; 0 keeps the level before it. -/
def levelOf (x : Int) (before : Bool) : Bool := if x = 0 then before else decide (0 < x)

/-- One sample of a decoder's leg at t: a concealed one holds no transition and hides its cell (R69). -/
def ltcSample (n P rate : Nat) (t : Treads) (slot : InSlot) (s : State) : State :=
  let k := (decoderOf s n).track
  match slot with
  | .concealed _ => setTrack n { k with prev := none, hidden := true } s
  | _ =>
    let x := slotValue slot
    let high := levelOf x ((k.prev.map (·.2.2)).getD true)
    let s := setTrack n { k with prev := some (t, x, high) } s
    match k.prev with
    | some (t0, x0, h0) => if t0 + 2940 = t ∧ h0 ≠ high then ltcEdge n P rate (crossing t0 x0 x) s else s
    | none => s

/-- The samples of a leg's Gallery input in a flight, each with its start (R50). -/
def legInput (s : State) (f leg : Nat) : List (Treads × InSlot) :=
  (List.range (flightSamples s)).map fun i => (flightStart s f + 2940 * i, (slotsOf s f leg).getD i .absent)

/-- LTC_DECODER_TASK: decoder n scans its leg's input of the flight of its running release (R67 to R71). -/
def ltcDecoderTask (n : Nat) (s : State) : State :=
  match workOf s (20480 + n) with
  | none => s
  | some r =>
    let t := flightStart s r.flight
    let rate := cfgF s t (Reg.TCM_DEC_CFG_RATE n)
    let xs := legInput s r.flight (cfgF s t (Reg.TCM_DEC_CFG_LEG n))
    let fl := takeFlags (20480 + n) s
    let s := if fl.1 then setF (setDecoder n { decoderInit with fifo := (decoderOf fl.2 n).fifo, dead := t } fl.2)
      (Reg.TCM_DEC_STAT_STATE n) 1 else fl.2
    let s := xs.foldl (fun s x => ltcSample n (ratePeriod rate) rate x.1 x.2 s) s
    firmwareExit (20480 + n) (ltcTimeouts n (ratePeriod rate) (flightStart s (r.flight + 1)) 16 s)

/-- DECODER_POP (R72): the head entry leaves. -/
def decoderPop (n : Nat) (s : State) : State := setDecoder n { decoderOf s n with fifo := (decoderOf s n).fifo.drop 1 } s

/-- A committed change of a decoder's configuration (R71, R72). -/
def decoderCommit (n : Nat) (s : State) : State :=
  let s := setDecoder n { decoderInit with dead := s.now } s
  setF (setF (setF s (Reg.TCM_DEC_STAT_STATE n) (getF s (Reg.TCM_DEC_CFG_EN n))) (Reg.TCM_DEC_STAT_QUALITY n) 0)
    (Reg.TCM_DEC_STAT_DIR n) 0

/-! ### LTC generation (R73 to R75) -/

/-- A generator that has never been configured. -/
def generatorInit : LtcGenerator := ⟨⟨false, 2, false, 0, 0x8000, 0⟩, none⟩

/-- Generator n. -/
def generatorOf (s : State) (n : Nat) : LtcGenerator := sgetC generatorInit s.modem.generators n

/-- Replace generator n's state. -/
def setGenerator (n : Nat) (x : LtcGenerator) (s : State) : State :=
  setModem { s.modem with generators := ssetC generatorInit s.modem.generators n x } s

/-- The configuration of a generator for the sample at an instant: the committed one from its first frame start at or
after the commit (R74). -/
def genAt (g : LtcGenerator) (t : Treads) : GenCfg :=
  match g.next with
  | some (c, x) => if nextBoundary c (ratePeriod x.rate) ≤ t then x else g.cfg
  | none => g.cfg

/-- Labels of one day (R74). -/
def dayLabels (c : GenCfg) : Nat :=
  if c.df then 2589408 else 86400 * (match c.rate with | 0 => 24 | 1 => 24 | 2 => 25 | _ => 30)

/-- Nominal frames per second of a rate. -/
def nominalFps (rate : Nat) : Nat := match rate with | 0 => 24 | 1 => 24 | 2 => 25 | _ => 30

/-- The label of the frame that starts at T (R74). -/
def ltcLabel (c : GenCfg) (T : Treads) : Nat :=
  let day := 86400 * treadsPerSecond
  (((T : Int) + c.ofs * treadsPerSecond) % day).toNat / ratePeriod c.rate % dayLabels c

/-- Hours, minutes, seconds and frames of a label; with DF the drop-frame rule of ST 12-1. TCM_GEN_CFG calls DF valid only with RATE 3
and states nothing for another rate: the model takes DF at its word and drops labels there too. Assumption 154 (DESIGN CHOICE). -/
def ltcTime (c : GenCfg) (n : Nat) : Nat × Nat × Nat × Nat :=
  let fps := nominalFps c.rate
  let m := if c.df then
      let d := n / 17982
      let r := n % 17982
      n + 18 * d + (if r < 2 then 0 else 2 * ((r - 2) / 1798))
    else n
  (m / (fps * 3600) % 24, m / (fps * 60) % 60, m / fps % 60, m % fps)

/-- n bits of a number, lowest first. -/
def bitsLow (n v : Nat) : List Bool := (List.range n).map fun i => v / 2 ^ i % 2 == 1

/-- The 80 bits of a frame without its polarity correction bit, user bits and flags 0 (R73, ST 12-1). -/
def ltcBitsRaw (c : GenCfg) (n : Nat) : List Bool :=
  let (h, m, sec, f) := ltcTime c n
  bitsLow 4 (f % 10) ++ bitsLow 4 0 ++ bitsLow 2 (f / 10) ++ [c.df, false] ++ bitsLow 4 0 ++
  bitsLow 4 (sec % 10) ++ bitsLow 4 0 ++ bitsLow 3 (sec / 10) ++ [false] ++ bitsLow 4 0 ++
  bitsLow 4 (m % 10) ++ bitsLow 4 0 ++ bitsLow 3 (m / 10) ++ [false] ++ bitsLow 4 0 ++
  bitsLow 4 (h % 10) ++ bitsLow 4 0 ++ bitsLow 2 (h / 10) ++ [false, false] ++ bitsLow 4 0 ++ syncFwd

/-- The 80 bits of a frame: the polarity correction bit makes the zeros even (ST 12-1). -/
def ltcBits (c : GenCfg) (n : Nat) : List Bool :=
  let b := ltcBitsRaw c n
  if (b.countP (!·)) % 2 = 0 then b else b.set (if c.rate = 2 then 59 else 27) true

/-- Whether a generator's level at an instant is high: transitions fall at each cell's start and at the middle of each one
(R73). -/
def ltcHigh (n : Nat) (c : GenCfg) (t : Treads) : Bool :=
  let P := ratePeriod c.rate
  let T := t / P * P
  let h := (t - T) * 160 / P
  let bits := ltcBits c (ltcLabel c T)
  let turns := h / 2 + 1 + (List.range ((h + 1) / 2)).countP fun i => bits.getD i false
  (turns % 2 == 1) != Config.ltcLow n

/-- Sample value A of an AMPL (R73). -/
def ltcAmpl (c : GenCfg) : Int := shrI (0x7FFFFF * (c.ampl : Int)) 18

/-- LTC_GENERATOR_TASK: generator n writes the samples of the flight of its running release (R73). -/
def ltcGeneratorTask (n : Nat) (s : State) : State :=
  match workOf s (20544 + n) with
  | none => s
  | some r =>
    let g := generatorOf s n
    let s := (takeFlags (20544 + n) s).2
    let s := (List.range (flightSamples s)).foldl (fun s i =>
      let t := flightStart s r.flight + 2940 * i
      let c := genAt g t
      if c.en then galPut r.flight c.leg i (.present (if ltcHigh n c t then ltcAmpl c else -ltcAmpl c)) true s else s) s
    firmwareExit (20544 + n) s

/-- The configuration of generator n as its registers now hold it. -/
def genCommitted (s : State) (n : Nat) : GenCfg :=
  ⟨getF s (Reg.TCM_GEN_CFG_EN n) == 1, getF s (Reg.TCM_GEN_CFG_RATE n), getF s (Reg.TCM_GEN_CFG_DF n) == 1,
   getF s (Reg.TCM_GEN_CFG_LEG n), getF s (Reg.TCM_GEN_AMPL_AMPL n), toSigned 18 (getF s (Reg.TCM_GEN_OFS_OFS n))⟩

/-- A commit keeps the lowest-numbered of two generators enabled on one leg (R75). -/
def genConflicts (s : State) : State :=
  (List.range 64).foldl (fun s n =>
    if getF s (Reg.TCM_GEN_CFG_EN n) = 1 ∧ (List.range n).any (fun m => getF s (Reg.TCM_GEN_CFG_EN m) == 1 &&
        getF s (Reg.TCM_GEN_CFG_LEG m) == getF s (Reg.TCM_GEN_CFG_LEG n)) then
      raiseEvent 0x084 (setF s (Reg.TCM_GEN_CFG_EN n) 0)
    else s) s

/-- A committed change of generators' configurations (R74, R75). -/
def generatorCommit (s : State) : State :=
  (List.range 64).foldl (fun s n =>
    let g := generatorOf s n
    let c := genCommitted s n
    let last := match g.next with | some x => x.2 | none => g.cfg
    if c = last then s else setGenerator n ⟨genAt g s.now, some (s.now, c)⟩ s) (genConflicts s)

/-! ### Signalling tones (R76, R77) -/

/-- A detector that has reported nothing. -/
def detectorInit : ToneDetector := ⟨false, 0, 0, ⟨0, [], false⟩⟩

/-- Detector n. -/
def detectorOf (s : State) (n : Nat) : ToneDetector := sgetC detectorInit s.modem.detectors n

/-- Replace detector n's state. -/
def setDetector (n : Nat) (x : ToneDetector) (s : State) : State :=
  setModem { s.modem with detectors := ssetC detectorInit s.modem.detectors n x } s

/-- Replace door d's tone FIFO. -/
def setToneFifo (d : Nat) (q : List ToneEntry) (s : State) : State :=
  setModem { s.modem with toneFifos := ssetC [] s.modem.toneFifos d q } s

/-- A report enters its door's FIFO, or is dropped where that is full (R77). -/
def tonePush (e : ToneEntry) (s : State) : State :=
  match ownerOf s 14 e.detector with
  | none => s
  | some d =>
    if 64 ≤ (toneFifo s d).length then
      raiseEvent 0x083 (setF (incSatF s (Reg.TCM_TONE_STAT_DROPS d)) (Reg.TCM_TONE_STAT_OVF d) 1)
    else setToneFifo d (toneInsert e (toneFifo s d)) s

/-- Whether the RMS of a block is at or above THR, in steps of 0.5 dB below full scale (R76): the sum of the squares of 48 samples of
at most 2²³ against 10^(−THR/20) of full scale's. Assumption 152 (DESIGN CHOICE). -/
def toneLevel (xs : List Int) (thr : Nat) : Bool :=
  let sum := (xs.map fun x => x.natAbs * x.natAbs).foldl (· + ·) 0
  decide ((xs.length * 2 ^ 46) ^ 20 ≤ sum ^ 20 * 10 ^ thr)

/-- Whether a block passes detector n's level test, and then its frequency test. -/
def tonePasses (s : State) (t : Treads) (n : Nat) (b : ToneBlock) : Bool :=
  let f := cfgF s t (Reg.TCM_TONE_QUAL_FREQ n)
  let tol := cfgF s t (Reg.TCM_TONE_QUAL_TOL n)
  let hz := Config.dominantHz b.samples
  !b.concealed && toneLevel b.samples (cfgF s t (Reg.TCM_TONE_QUAL_THR n)) && decide (hz ≤ f + tol) && decide (f ≤ hz + tol)

/-- One block of detector n (R76). -/
def toneBlock (t : Treads) (n : Nat) (b : ToneBlock) (s : State) : State :=
  let x := detectorOf s n
  let p := tonePasses s t n b
  if p = x.reported then setDetector n { x with run := 0 } s
  else
    let start := if x.run = 0 then b.start else x.runStart
    let need := cfgF s t (if p then Reg.TCM_TONE_TIME_MIN_ON n else Reg.TCM_TONE_TIME_MIN_OFF n)
    if need ≤ x.run + 1 then
      setF (tonePush ⟨n, p, start⟩ (setDetector n { x with reported := p, run := 0, runStart := 0 } s)) (Reg.TCM_TONE_CFG_PRESENT n) p.toNat
    else setDetector n { x with run := x.run + 1, runStart := start } s

/-- One sample of detector n's leg at t: blocks are aligned to R50, and a block is decided once all its 48 samples are there.
Assumption 152 (DESIGN CHOICE). -/
def toneSample (at_ : Treads) (n : Nat) (t : Treads) (slot : InSlot) (s : State) : State :=
  let x := detectorOf s n
  let concealed := match slot with | .concealed _ => true | _ => false
  let b := x.block
  let b : ToneBlock := if t % 141120 = 0 ∨ b.start ≠ t / 141120 * 141120 then ⟨t / 141120 * 141120, [], false⟩ else b
  let b : ToneBlock := ⟨b.start, b.samples ++ [slotValue slot], b.concealed || concealed⟩
  let s := setDetector n { x with block := b } s
  if b.samples.length = 48 then toneBlock at_ n b s else s

/-- TONE_DETECTOR_TASK: detector n works through its leg's input of the flight of its running release (R67, R76). -/
def toneDetectorTask (n : Nat) (s : State) : State :=
  match workOf s (20608 + n) with
  | none => s
  | some r =>
    let t := flightStart s r.flight
    let xs := legInput s r.flight (cfgF s t (Reg.TCM_TONE_CFG_LEG n))
    let fl := takeFlags (20608 + n) s
    let s := if fl.1 then setDetector n { detectorInit with reported := (detectorOf fl.2 n).reported } fl.2 else fl.2
    firmwareExit (20608 + n) (xs.foldl (fun s x => toneSample t n x.1 x.2 s) s)

/-- TONE_POP (R77): the head entry leaves. -/
def tonePop (d : Nat) (s : State) : State := setToneFifo d ((toneFifo s d).drop 1) s

end Sys2Proof.Machine
end

