-- ==== Sys2Proof/Machine/HallDraw.lean ====
section
/-! DEFINITION. What the Hall draws: scaling, fills, borders, glyphs, meters and burn-ins (Hall: composition). -/

namespace Sys2Proof.Machine

/-- A picture as drawn: component (0 Y, 1 Cb, 2 Cr), column, row; chroma is read at even columns. -/
abbrev Paint := Nat → Nat → Nat → Nat

/-- A colour as FILL codes it: Y [9:0], Cb [19:10], Cr [29:20]. -/
def colourOf (v c : Nat) : Nat := v / 2 ^ (10 * c) % 1024

/-- A rectangle, its corner possibly outside the picture. -/
structure Rect where
  x : Int
  y : Int
  w : Nat
  h : Nat
  deriving DecidableEq, Repr

/-- Whether a rectangle holds a pixel. -/
def Rect.has (r : Rect) (x y : Nat) : Bool :=
  decide (r.x ≤ x) && decide ((x : Int) < r.x + r.w) && decide (r.y ≤ y) && decide ((y : Int) < r.y + r.h)

/-- A rectangle without its outer n pixels. -/
def Rect.inset (r : Rect) (n : Nat) : Rect := ⟨r.x + n, r.y + n, r.w - 2 * n, r.h - 2 * n⟩

/-- Fill the pixels that satisfy a test. -/
def paintIf (p : Nat → Nat → Bool) (colour : Nat) (u : Paint) : Paint := fun c x y => if p x y then colourOf colour c else u c x y

/-- Draw something only inside a rectangle. -/
def clipTo (r : Rect) (new u : Paint) : Paint := fun c x y => if r.has x y then new c x y else u c x y

/-! ### Scaling (R261, R262) -/

/-- Luma coefficient of a set, phase and tap. -/
def coefL (s : State) (t : Treads) (set ph k : Nat) : Int :=
  cfgS s t 16 (if k % 2 = 0 then Reg.CL_EVEN set ph (k / 2) else Reg.CL_ODD set ph (k / 2))

/-- Chroma coefficient of a set, phase and tap. -/
def coefC (s : State) (t : Treads) (set ph k : Nat) : Int :=
  cfgS s t 16 (if k % 2 = 0 then Reg.CC_EVEN set ph (k / 2) else Reg.CC_ODD set ph (k / 2))

/-- One scaling pass over a line of cw samples onto dw, at output x (R261); `taps` is 8 for luma and 4 for chroma. -/
def scalePass (coef : Nat → Nat → Nat → Int) (taps : Nat) (bias : Int) (p : Nat → Nat) (cw dw x : Nat) : Nat :=
  let D := if cw ≤ 2 * dw then 1 else if cw ≤ 4 * dw then 2 else 4
  let n := cw / D
  let q := fun j => ((List.range D).foldl (fun a k => a + p (j * D + k)) 0 + D / 2) / D
  let set := if n ≤ dw then 0 else 1
  let step := n * 65536 / dw
  let pos : Int := ((2 * x + 1) * step / 2 : Nat) - 32768 + bias
  let i := shrI pos 16
  let ph := (shrI pos 10 % 64).toNat
  let acc := (List.range taps).foldl (fun (a : Int) k =>
    a + coef set ph k * q (clampI 0 ((n : Int) - 1) (i - (taps / 2 - 1 : Nat) + k)).toNat) 0
  (clampI 0 1023 (shrI (acc + 256) 9)).toNat

/-- A sample of a source picture on the 10-bit scale, in display coordinates of its component's grid; `half` marks a 4:2:0
source. -/
def srcSample (s : State) (p : PicRec) (half : Bool) (c x y : Nat) : Nat :=
  let b := if p.depth = 8 then 1 else 2
  let a := if c = 0 then p.luma + (p.winY + y) * p.pitch + (p.winX + x) * b
    else p.chroma + ((if half then p.winY / 2 else p.winY) + y) * p.pitch + ((p.winX / 2 + x) * 2 + (c - 1)) * b
  let v := leNat (memBytes s a b)
  if p.depth = 8 then 4 * v else v % 1024

/-- A crop rectangle of a source scaled onto a destination, at pixel (x, y) of the destination. -/
def scaledAt (s : State) (t : Treads) (p : PicRec) (half : Bool) (crop : Nat × Nat × Nat × Nat) (dw dh c x y : Nat) : Nat :=
  let (cx, cy, cw, ch) := crop
  if c = 0 then
    scalePass (coefL s t) 8 0 (fun row => scalePass (coefL s t) 8 0 (fun j => srcSample s p half 0 (cx + j) (cy + row)) cw dw x) ch dh y
  else
    let ry := if half then cy / 2 else cy
    let rh := if half then ch / 2 else ch
    scalePass (coefC s t) 4 (if half then -16384 else 0)
      (fun row => scalePass (coefC s t) 4 0 (fun j => srcSample s p half c (cx / 2 + j) (ry + row)) (cw / 2) (dw / 2) (x / 2)) rh dh y

/-- A tile's crop for a source's window: a zero size is the window, a crop is clamped to it. -/
def cropOf (s : State) (t : Treads) (tile : Nat) (p : PicRec) : Nat × Nat × Nat × Nat :=
  let f := fun r => cfgF s t r
  let span := fun at_ size full => if size = 0 then (0, full) else (min at_ full, min size (full - at_))
  let h := span (f (Reg.TILE_CROP_X tile)) (f (Reg.TILE_CROP_W tile)) p.w
  let v := span (f (Reg.TILE_CROP_Y tile)) (f (Reg.TILE_CROP_H tile)) p.h
  (h.1, v.1, h.2, v.2)

/-- Whether a size scales onto another by a factor of at most 8. -/
def ratioOk (a b : Nat) : Bool := decide (0 < a) && decide (0 < b) && decide (a ≤ 8 * b) && decide (b ≤ 8 * a)

/-- Whether any row of a crop carries poison. -/
def cropPoisoned (s : State) (p : PicRec) (half : Bool) (crop : Nat × Nat × Nat × Nat) : Bool :=
  let (cx, cy, cw, ch) := crop
  let b := if p.depth = 8 then 1 else 2
  let row := fun base y => rangePoisoned s (base + y * p.pitch + (p.winX + cx) * b) (cw * b)
  (List.range ch).any (fun r => row p.luma (p.winY + cy + r)) ||
  (List.range (if half then ch / 2 else ch)).any fun r => row p.chroma ((if half then (p.winY + cy) / 2 else p.winY + cy) + r)

/-! ### Glyphs (R264) -/

/-- A palette entry as a colour. -/
def paletteOf (s : State) (t : Treads) (n : Nat) : Nat :=
  cfgF s t (Reg.HAL_PALETTE_Y n) + 1024 * cfgF s t (Reg.HAL_PALETTE_CB n) + 1048576 * cfgF s t (Reg.HAL_PALETTE_CR n)

/-- Coverage of pixel (x, y) of glyph g. -/
def glyphCover (s : State) (t : Treads) (g x y : Nat) : Nat :=
  let n := 16 * y + x
  cfgF s t (Reg.GLYPH_COVER g (n / 8)) / 16 ^ (n % 8) % 16

/-- Text of glyph codes at a corner. -/
def paintText (s : State) (t : Treads) (codes : List Nat) (x0 y0 : Int) (scale colour : Nat) (u : Paint) : Paint := fun c x y =>
  let r : Rect := ⟨x0, y0, 16 * scale * codes.length, 24 * scale⟩
  if r.has x y then
    let dx := ((x : Int) - x0).toNat / scale
    let a := glyphCover s t (codes.getD (dx / 16) 0) (dx % 16) (((y : Int) - y0).toNat / scale)
    (colourOf colour c * a + u c x y * (15 - a) + 7) / 15
  else u c x y

/-- Text at a corner of the inner area, 2 pixels in, with its box: position 0 top left, 1 top right, 2 bottom left, 3 bottom
right. -/
def paintLabel (s : State) (t : Treads) (inner : Rect) (pos scale : Nat) (codes : List Nat) (fg : Nat) (box : Option Nat) (u : Paint) :
    Paint :=
  let w := 16 * scale * codes.length
  let h := 24 * scale
  let x0 : Int := if pos % 2 = 0 then inner.x + 2 else inner.x + inner.w - 2 - w
  let y0 : Int := if pos / 2 = 0 then inner.y + 2 else inner.y + inner.h - 2 - h
  let boxed := match box with
    | some b => paintIf (Rect.has ⟨x0 - 2, y0 - 2, w + 4, h + 4⟩) b u
    | none => u
  if codes.isEmpty then u else clipTo inner (paintText s t codes x0 y0 scale fg boxed) u

/-- The glyph codes of a tile's label: the first zero byte ends the text. -/
def labelCodes (s : State) (t : Treads) (tile : Nat) : List Nat :=
  ((List.range 32).map fun i => bitsOf (cfgWord s t (0x83410040 + 128 * tile + 4 * (i / 4))) (8 * (i % 4) + 7) (8 * (i % 4))).takeWhile (· != 0)

/-! ### Burn-in (R266) -/

/-- The decimal digits of a number, at least n of them, as glyph codes. -/
def digitCodes (n v : Nat) : List Nat :=
  let ds := (Nat.toDigits 10 v).map fun ch => ch.toNat
  List.replicate (n - ds.length) 0x30 ++ ds

/-- A stamp as decimal seconds, a colon and nine digits of treads. -/
def stampCodes (t : Treads) : List Nat := digitCodes 1 (secondsOf t) ++ [0x3A] ++ digitCodes 9 (treadsOf t)

/-- The timecode of a frame that starts at W, or nothing where its rate has none. -/
def timecodeCodes (s : State) (rate : Nat) (W : Treads) : List Nat :=
  let pair := 7 ≤ rate ∧ rate ≤ 9
  let half := match rate with | 7 => 2 | 8 => 3 | 9 => 4 | r => r
  let df := cfgF s W Reg.HAL_TC_CFG_DF = 1 ∧ (rate = 3 ∨ rate = 8)
  let c : GenCfg := ⟨true, half, decide df, 0, 0, cfgS s W 18 Reg.HAL_TC_CFG_OFS⟩
  let (h, m, sec, f) := ltcTime c (ltcLabel c W)
  let second := decide pair && (((W : Int) + c.ofs * treadsPerSecond) % (86400 * treadsPerSecond : Nat)).toNat / ratePeriod rate % 2 == 1
  let sep := if second then 0x2E else if df then 0x3B else 0x3A
  if rate ≤ 4 ∨ pair then digitCodes 2 h ++ [0x3A] ++ digitCodes 2 m ++ [0x3A] ++ digitCodes 2 sec ++ [sep] ++ digitCodes 2 f else []

/-! ### Meters (R256, R265) -/

/-- The RMS and HOLD of a leg in an audio flight: input, or output. -/
def meterLevels (s : State) (flight leg : Nat) (output : Bool) : Nat × Nat :=
  match s.gal.shown.find? (fun m => m.flight == flight && m.leg == leg) with
  | some m => (m.words.getD (if output then 6 else 3) 0, m.words.getD (if output then 7 else 4) 0)
  | none => (0, 0)

/-- The colour of segment j of a bar with a level and a hold. -/
def segmentColour (s : State) (t : Treads) (lv : Nat × Nat) (j : Nat) : Nat :=
  let meets := fun v i => decide (cfgF s t (Reg.HAL_METER_THR_THR i) ≤ v)
  let top := ((List.range 32).reverse.find? (meets lv.2))
  let lit := meets lv.1 j || top == some j
  paletteOf s t (if !lit then 8 else if j < cfgF s t Reg.HAL_METER_CFG_ZONE1 then 5
    else if j < cfgF s t Reg.HAL_METER_CFG_ZONE2 then 6 else 7)

/-- One bar. -/
def paintBar (s : State) (t : Treads) (inner : Rect) (x0 : Int) (w : Nat) (lv : Nat × Nat) (u : Paint) : Paint := fun c x y =>
  let r : Rect := ⟨x0, inner.y + 2, w, inner.h - 4⟩
  if r.has x y then
    let up := (inner.y + inner.h - 3 - y).toNat
    let seg := (inner.h - 4) / 32
    colourOf (if seg = 0 ∨ 32 * seg ≤ up then paletteOf s t 8 else segmentColour s t lv (up / seg)) c
  else u c x y

/-- The meters of a tile. -/
def paintMeters (s : State) (t : Treads) (tile : Nat) (inner : Rect) (u : Paint) : Paint :=
  let f := fun r => cfgF s t r
  let legs := (List.range (f (Reg.TILE_METER_COUNT tile) + 1)).map (f (Reg.TILE_METER_LEG tile) + ·)
  let mode := f (Reg.TILE_METER_MODE tile)
  let bars := legs.flatMap fun l => if mode = 2 then [(l, false), (l, true)] else [(l, mode == 1)]
  let w := f (Reg.TILE_METER_W tile)
  let total := bars.length * (w + 2) - 2
  let x0 : Int := if f (Reg.TILE_METER_SIDE tile) = 0 then inner.x + 2 else inner.x + inner.w - 2 - total
  let flight := flightNumber s (t - 1) - 1
  ((List.range bars.length).zip bars).foldl (fun u e =>
    paintBar s t inner (x0 + e.1 * (w + 2)) w (meterLevels s flight e.2.1 e.2.2) u) u

/-! ### A tile (R260, R263) -/

/-- What a tile's source gives for a composition frame. -/
inductive TileSrc where
  | fill | missing | picture (p : PicRec) (half : Bool) | badScale (p : PicRec) | poisoned (p : PicRec)
  deriving DecidableEq, Repr

/-- The record behind a tile's source. -/
def TileSrc.record : TileSrc → Option PicRec
  | .picture p _ => some p
  | .badScale p => some p
  | .poisoned p => some p
  | _ => none

/-- Draw one tile over what lies beneath (R260, R263 to R266). -/
def paintTile (s : State) (W : Treads) (rate tile : Nat) (src : TileSrc) (u : Paint) : Paint :=
  let f := fun r => cfgF s W r
  let dst : Rect := ⟨f (Reg.TILE_DST_X tile), f (Reg.TILE_DST_Y tile), f (Reg.TILE_DST_W tile), f (Reg.TILE_DST_H tile)⟩
  let base : Paint := match src with
    | .picture p half => fun c x y =>
        scaledAt s W p half (cropOf s W tile p) dst.w dst.h c ((x : Int) - dst.x).toNat ((y : Int) - dst.y).toNat
    | _ => fun c _ _ => colourOf (f (Reg.TILE_FILL tile)) c
  let edge := fun n colour (v : Paint) => paintIf (fun x y => !(dst.inset n).has x y) colour v
  let v := edge (f (Reg.TILE_BORDER_W tile)) (paletteOf s W (f (Reg.TILE_BORDER_PAL tile))) base
  let tally := f (Reg.TILE_TALLY tile)
  let v := if tally = 0 then v else edge (f (Reg.TILE_TALLY_W tile)) (paletteOf s W tally) v
  let inner := dst.inset (max (f (Reg.TILE_BORDER_W tile)) (f (Reg.TILE_TALLY_W tile)))
  let v := if f (Reg.TILE_METER_EN tile) = 1 then clipTo inner (paintMeters s W tile inner v) v else v
  let v := if f (Reg.TILE_LABEL_EN tile) = 1 then
      paintLabel s W inner (f (Reg.TILE_LABEL_POS tile)) (f (Reg.TILE_LABEL_SCALE tile) + 1) (labelCodes s W tile)
        (paletteOf s W (f (Reg.TILE_LABEL_FG tile)))
        (if f (Reg.TILE_LABEL_BOX tile) = 1 then some (paletteOf s W (f (Reg.TILE_LABEL_BG tile))) else none) v
    else v
  let burn := match f (Reg.TILE_BURN_KIND tile) with
    | 0 => stampCodes W
    | 1 => timecodeCodes s rate W
    | _ => match src.record with | some p => stampCodes p.flight | none => []
  let v := if f (Reg.TILE_BURN_EN tile) = 1 then
      paintLabel s W inner (f (Reg.TILE_BURN_POS tile)) (f (Reg.TILE_BURN_SCALE tile) + 1) burn (paletteOf s W 15) (some (paletteOf s W 0)) v
    else v
  let marked := f (Reg.TILE_MARK_EN tile) = 1 ∧ src.record.any fun p => p.flags % 2 == 1
  let v := if marked then clipTo inner (paintIf (Rect.has ⟨inner.x + inner.w - 14, inner.y + 2, 12, 12⟩) (paletteOf s W 4) v) v else v
  clipTo dst v u

end Sys2Proof.Machine
end

