-- ==== Sys2Proof/Machine/Hall.lean ====
section
/-! DEFINITION. The Hall's tasks: compositions, uncompressed inputs and outputs, their publications, time-outs and what a
commit does there (Hall: composition). -/

namespace Sys2Proof.Machine

/-- A source that has published nothing. -/
def sourceInit : HallSource := ⟨[], 0, [], none, none, [], [], 0⟩

/-- Composition c. -/
def compOf (s : State) (c : Nat) : HallSource := sgetC sourceInit s.hal.comps c

/-- Replace it. -/
def setComp (c : Nat) (x : HallSource) (s : State) : State :=
  { s with hal := { s.hal with comps := ssetC sourceInit s.hal.comps c x } }

/-- Input i. -/
def inputOf (s : State) (i : Nat) : HallSource := sgetC sourceInit s.hal.inputs i

/-- Replace it. -/
def setInput (i : Nat) (x : HallSource) (s : State) : State :=
  { s with hal := { s.hal with inputs := ssetC sourceInit s.hal.inputs i x } }

/-- Layout of a Hall picture: pitch and slot bytes (R253). -/
def hallLayout (w h : Nat) : Nat × Nat :=
  let pitch := ceilDiv (2 * w) 256 * 256
  (pitch, ceilDiv (2 * pitch * h) 4096 * 4096)

/-- Count in HAL_CNT. -/
def halCount (c n : Nat) (s : State) : State := addF s (Reg.HAL_CNT_COUNT c) n

/-- An uncorrectable error of the Hall (R272, Table 8 of Hall: composition). -/
def halError (code tile comp : Nat) (s : State) : State :=
  let s := setF (setF (setF s Reg.HAL_ERR_LAST_TILE tile) Reg.HAL_ERR_LAST_COMP comp) Reg.HAL_ERR_LAST_CAUSE code
  captureError .hal code 2 false comp 0 none s

/-- What a task met in the Hall's SRAM: 0 nothing, 1 a corrected word, 2 an uncorrectable one. -/
def halSram (sram tile comp : Nat) (s : State) : State :=
  match sram with
  | 1 => raiseEvent 0x165 (captureError .hal 0x01 1 false comp 0 none s)
  | 2 => raiseEvent 0x166 (halError 0x02 tile comp s)
  | _ => s

/-! ### Choosing sources (R255) -/

/-- The newest publication whose deadline is at or before W, of those made since the last of some starts by then (R255). -/
def newestBy (W : Treads) (restarts : List Treads) (pubs : List Publication) : Option PicRec :=
  (pubs.find? fun p => decide (p.deadline ≤ W) && decide (newestUpTo W restarts ≤ p.record.flight)).map (·.record)

/-- A source that starts as enabled at an instant: its frames and count are gone; what was published stays readable, and its slots
stay as they are. -/
def freshSource (at_ : Treads) (x : HallSource) : HallSource :=
  { sourceInit with restarts := x.restarts, begun := at_, shown := x.shown, busy := x.busy, pubs := x.pubs }

/-- A source starts as enabled at once: a Door reset of its owner (R273). -/
def restartSource (now : Treads) (x : HallSource) : HallSource := freshSource now { x with restarts := x.restarts ++ [now] }

/-- A source as a task finds it whose flight starts at an instant: started as enabled where a commit by then did so. -/
def sourceFor (t : Treads) (x : HallSource) : HallSource :=
  let r := newestUpTo t x.restarts
  if x.begun < r then freshSource r x else x

/-- What composition c shows at W. -/
def compAt (s : State) (W : Treads) (c : Nat) : Option PicRec :=
  if cfgF s W (Reg.COMP_EN c) = 0 then none else newestBy W (compOf s c).restarts (compOf s c).pubs

/-- A tile's source picture at W, with whether it is 4:2:0. -/
def tileRecord (s : State) (W : Treads) (tile : Nat) : Option (PicRec × Bool) :=
  let id := cfgF s W (Reg.TILE_SRC_ID tile)
  match cfgF s W (Reg.TILE_SRC_KIND tile) with
  | 1 => if cfgF s W (Reg.STR_EN id) = 0 then none else (newestBy W (streamOf s id).restarts (streamOf s id).pubs).map fun p => (p, true)
  | 2 => if cfgF s W (Reg.INC_EN id) = 0 then none else (newestBy W (inputOf s id).restarts (inputOf s id).pubs).map fun p => (p, false)
  | 3 => (compAt s W id).map fun p => (p, false)
  | _ => none

/-- The region whose pool holds a tile's source. -/
def tileRegion (s : State) (W : Treads) (tile : Nat) : Nat :=
  let id := cfgF s W (Reg.TILE_SRC_ID tile)
  match cfgF s W (Reg.TILE_SRC_KIND tile) with
  | 1 => cfgF s W (Reg.STR_POOL_REGION id)
  | 2 => cfgF s W (Reg.INC_POOL_REGION id)
  | _ => cfgF s W (Reg.COMP_POOL_REGION id)

/-- What a tile's source gives at W (R255, R261, R272): to an open engine a picture of a cloister region reads as zeros with poison
(R458). -/
def tileSource (s : State) (W : Treads) (isOpen : Bool) (tile : Nat) : TileSrc :=
  if cfgF s W (Reg.TILE_SRC_KIND tile) = 0 then .fill
  else match tileRecord s W tile with
    | none => .missing
    | some (p, half) =>
      let crop := cropOf s W tile p
      if !(ratioOk crop.2.2.1 (cfgF s W (Reg.TILE_DST_W tile)) && ratioOk crop.2.2.2 (cfgF s W (Reg.TILE_DST_H tile))) then .badScale p
      else if isOpen && regionCloister s (tileRegion s W tile) || cropPoisoned s p half crop then .poisoned p
      else .picture p half

/-! ### Composition tasks (R260) -/

/-- The enabled tiles of a composition in drawing order: by LAYER, then by number. -/
def compTiles (s : State) (W : Treads) (c : Nat) : List Nat :=
  let mine := (List.range 1024).filter fun i => cfgF s W (Reg.TILE_EN i) == 1 && cfgF s W (Reg.TILE_COMP i) == c
  (List.range 256).flatMap fun l => mine.filter fun i => cfgF s W (Reg.TILE_LAYER i) == l

/-- Draw a tile; the words that it depends on and that fail draw FILL: the whole tile, or rows of the picture (R272). -/
def drawTile (s : State) (W : Treads) (rate : Nat) (isOpen : Bool) (tile : Nat) (bad : List (Nat × Option Nat)) (u : Paint) : Paint :=
  let whole := bad.contains (tile, none)
  let src := if whole then .fill else tileSource s W isOpen tile
  let v := paintTile s W rate tile src u
  let rows := bad.filterMap fun b => if b.1 = tile then b.2 else none
  if rows.isEmpty then v
  else
    let w := paintTile s W rate tile .fill u
    fun c x y => if rows.contains y then w c x y else v c x y

/-- The words of one row of a picture as its slot holds them: luma, then chroma pairs (R253). -/
def rowBytes (u : Paint) (w y : Nat) : List Byte × List Byte :=
  ((List.range w).flatMap fun x => leBytes 2 (u 0 x y),
   (List.range (w / 2)).flatMap fun x => leBytes 2 (u 1 (2 * x) y) ++ leBytes 2 (u 2 (2 * x) y))

/-- Write a picture into its slot. -/
def storePicture (base w h : Nat) (u : Paint) (s : State) : State :=
  let pitch := (hallLayout w h).1
  (List.range h).foldl (fun s y =>
    let r := rowBytes u w y
    memStore (base + pitch * h + pitch * y) r.2 false (memStore (base + pitch * y) r.1 false s)) s

/-- What one tile of a frame records: its source's picture and state, repeats, missing sources, failed scales and poison. -/
def noteTile (W : Treads) (c tile : Nat) (src : TileSrc) (s : State) : State :=
  let kind := cfgF s W (Reg.TILE_SRC_KIND tile)
  let id := cfgF s W (Reg.TILE_SRC_ID tile)
  let s := match src with
    | .missing => halCount 2 1 s
    | .badScale _ => raiseEvent 0x168 (halCount 7 1 s)
    | .poisoned _ => halError 0x03 tile c s
    | _ => s
  let conc := match src.record with | some p => p.flags % 2 | none => 0
  let state := (if src == .missing then 1 else 0) + 2 * conc + (match src with | .badScale _ => 4 | _ => 0)
  let s := setL s (Reg.TILE_SRC_STATE tile) state
  match src with
  | .picture p _ =>
    let again := sgetC none s.hal.lastDrawn tile == some (kind, id, p.flight)
    let s := if again then halCount 1 1 (incL s (Reg.COMP_REPEATS c)) else s
    let s := setL (setL s (Reg.TILE_SRC_PICTURE tile) p.picture) (Reg.TILE_SRC_PICTURE_HI tile) (p.picture / 4294967296)
    { s with hal := { s.hal with lastDrawn := ssetC none s.hal.lastDrawn tile (some (kind, id, p.flight)) } }
  | _ => s

/-- FLAGS of a composition picture (R254). -/
def compFlags (srcs : List TileSrc) : Nat :=
  let conc := srcs.any fun x => match x with | .picture p _ => p.flags % 2 == 1 | _ => false
  let grey := srcs.any (· == .missing)
  let poison := srcs.any fun x => match x with | .poisoned _ => true | _ => false
  conc.toNat + 2 * grey.toNat + 16 * poison.toNat

/-- The slot of a Hall pool that a flight takes, not one of `taken`: which of those that may be written is open, none where none may be.
Assumption 96 (DESIGN CHOICE). -/
def pickSlot (t : Treads) (n base bytes choice : Nat) (taken : List Nat) (x : HallSource) : Option Nat :=
  let ok := (List.range n).filter fun i => mayWrite t x.shown x.busy (base + i * bytes) bytes && !taken.contains i
  ok[choice % ok.length]?

/-- Publish a Hall picture that stands in a slot; two publications are kept (R255). -/
def publishHall (x : HallSource) (start deadline : Treads) (bytes : Nat) (rec_ : PicRec) : HallSource :=
  { x with
    count := x.count + 1, busy := slotsBusy start x.shown x.busy, shown := some (rec_.luma, bytes)
    pubs := (⟨rec_, deadline⟩ :: x.pubs).take 2 }

/-- Base of composition c's pool. -/
def compPool (s : State) (W : Treads) (c : Nat) : Nat :=
  (regionOf s (cfgF s W (Reg.COMP_POOL_REGION c))).1 + cfgF s W (Reg.COMP_POOL_OFS c) * 4096

/-- Whether Hall engine e is open. -/
def hallEngineOpen (s : State) (e : Nat) : Bool := getF s Reg.WLD_ENG_HAL / 2 ^ e % 2 == 0

/-- The internal world faults of a frame: the sources of an open engine that stand in a cloister region (R458; port 8 or 9). -/
def hallWorldFaults (e : Nat) (W : Treads) (srcs : List (Nat × TileSrc)) (s : State) : State :=
  srcs.foldl (fun s x => match x.2 with
    | .poisoned _ => if hallEngineOpen s e && regionCloister s (tileRegion s W x.1) then internalWorldFault (8 + e / 2) (tileRegion s W x.1) false s
      else s
    | _ => s) s

/-- The picture of composition c's frame at W is drawn and published; a composition disabled by then publishes nothing more.
Assumption 97 (DEDUCED). -/
def composeFrame (c : Nat) (r : Release) (bad : List (Nat × Option Nat)) (s : State) : State :=
  let W := r.instant
  let rate := cfgF s W (Reg.COMP_RATE c)
  let w := cfgF s W (Reg.COMP_WIDTH c)
  let h := cfgF s W (Reg.COMP_HEIGHT c)
  let lay := hallLayout w h
  let isOpen := hallEngineOpen s (runsOn r)
  let tiles := compTiles s W c
  let srcs := tiles.map fun i => (i, if bad.contains (i, none) then TileSrc.fill else tileSource s W isOpen i)
  let bg : Paint := fun k _ _ => colourOf (cfgF s W (Reg.COMP_BG c)) k
  let u := tiles.foldl (fun u i => drawTile s W rate isOpen i bad u) bg
  let x := sourceFor W (compOf s c)
  let slot := pickSlot W (cfgF s W (Reg.COMP_NPIC c)) (compPool s W c) lay.2 (Config.openNat (21960 + c) r.flight 0) [] x
  let s := match slot with
    | none => s
    | some k =>
      let base := compPool s W c + k * lay.2
      let rec_ : PicRec := ⟨x.count + 1, W, Config.openNat (21960 + c) r.flight 1 % 4294967296, k, compFlags (srcs.map (·.2)), 10, 0, 0,
        w, h, lay.1, base, base + lay.1 * h⟩
      setWords (0x83440000 + 64 * c) (recordWords rec_) (halCount 0 1
        (setComp c (publishHall x W r.deadline lay.2 rec_) (storePicture base w h u s)))
  let s := hallWorldFaults (runsOn r) W srcs s
  let s := srcs.foldl (fun s e => noteTile W c e.1 e.2 s) s
  let s := raiseIf (srcs.any (·.2 == .missing)) 0x160 s
  raiseIf (compFlags (srcs.map (·.2)) / 16 == 1) 0x164 s

/-- COMPOSITION_TASK (R260): composition c's task, for its running release. `sram` is what the Hall's SRAM gave (0 nothing, 1 a
corrected word, 2 an uncorrectable one), `bad` the tiles, or rows of a tile, that depend on a failing word. -/
def compositionTask (c sram : Nat) (bad : List (Nat × Option Nat)) (s : State) : State :=
  match runningOf s (21960 + c) with
  | none => s
  | some r =>
    if r.exit.isSome then s
    else setExit (21960 + c) 0 (composeFrame c r (if sram = 2 then bad else []) (halSram sram ((bad.head?.map (·.1)).getD 0) c s))

/-! ### Input tasks (R268, R269) -/

/-- Size of an input. -/
def inputSize (s : State) (t : Treads) (i : Nat) : Nat × Nat := if cfgF s t (Reg.INC_SIZE i) = 0 then (1920, 1080) else (3840, 2160)

/-- Whether RTP timestamp a is later than b, modulo 2³². -/
def tsLater (a b : Nat) : Bool :=
  let d := (a + 4294967296 - b % 4294967296) % 4294967296
  decide (0 < d) && decide (d < 2147483648)

/-- The sample row data headers of a payload beyond its extended sequence: row, offset and length of each segment with the
field bit, and the data that follows; none where more than three headers stand there. -/
def srdHeaders : Nat → List Byte → List (Nat × Nat × Nat × Bool) → Option (List (Nat × Nat × Nat × Bool) × List Byte)
  | 0, _, _ => none
  | n + 1, bs, acc =>
    if bs.length < 6 then none
    else
      let len := beNat (bs.take 2)
      let row := beNat ((bs.drop 2).take 2)
      let ofs := beNat ((bs.drop 4).take 2)
      let acc := acc ++ [(row % 32768, ofs % 32768, len, decide (32768 ≤ row))]
      if 32768 ≤ ofs then srdHeaders n (bs.drop 6) acc else some (acc, bs.drop 6)

/-- Cut the data of each segment. -/
def srdData : List (Nat × Nat × Nat × Bool) → List Byte → List (Nat × Nat × List Byte)
  | [], _ => []
  | h :: hs, bs => (h.1, h.2.1 / 2, bs.take h.2.2.1) :: srdData hs (bs.drop h.2.2.1)

/-- The segments of a payload as row, first pgroup and bytes; none where the packet is malformed (R268). -/
def parseSrd (w h : Nat) (payload : List Byte) : Option (List (Nat × Nat × List Byte)) :=
  match srdHeaders 3 (payload.drop 2) [] with
  | none => none
  | some (hs, data) =>
    let bad := hs.any fun x => x.2.2.2 || decide (h ≤ x.1) || x.2.1 % 2 == 1 || x.2.2.1 % 5 != 0 || decide (w < x.2.1 + x.2.2.1 / 5 * 2)
    if bad ∨ data.length < hs.foldl (fun n x => n + x.2.2.1) 0 then none else some (srdData hs data)

/-- A 5-byte pgroup as Cb, Y0, Cr, Y1 (RFC 4175, 4:2:2, 10 bits). -/
def pgroupOf (bs : List Byte) : Nat × Nat × Nat × Nat :=
  let v := beNat (bs.take 5)
  (v / 1073741824 % 1024, v / 1048576 % 1024, v / 1024 % 1024, v % 1024)

/-- Store the pgroups of a row segment. -/
def storeSegment (base pitch h row : Nat) (poison : Bool) : Nat → List Byte → Nat → State → State
  | 0, _, _, s => s
  | n + 1, bs, g, s =>
    if bs.length < 5 then s
    else
      let p := pgroupOf bs
      let s := memStore (base + pitch * row + 4 * g) (leBytes 2 p.2.1 ++ leBytes 2 p.2.2.2) poison s
      let s := memStore (base + pitch * h + pitch * row + 4 * g) (leBytes 2 p.1 ++ leBytes 2 p.2.2.1) poison s
      storeSegment base pitch h row poison n (bs.drop 5) (g + 1) s

/-- Base of input i's pool. -/
def inputPool (s : State) (t : Treads) (i : Nat) : Nat :=
  (regionOf s (cfgF s t (Reg.INC_POOL_REGION i))).1 + cfgF s t (Reg.INC_POOL_OFS i) * 4096

/-- Base address of slot k of input i. -/
def inputSlot (s : State) (t : Treads) (i k : Nat) : Nat :=
  inputPool s t i + k * (hallLayout (inputSize s t i).1 (inputSize s t i).2).2

/-- The oldest of some frames by RTP timestamp. -/
def oldestFrame (l : List InFrame) : Option InFrame :=
  l.foldl (fun b f => match b with | none => some f | some g => if tsLater g.ts f.ts then some f else some g) none

/-- The next free slot for a frame of a timestamp: where none may be written, the one of the oldest frame in progress, which is lost if it
is the older; none where there is no older one. Assumption 96 (DESIGN CHOICE). -/
def frameSlot (s : State) (t : Treads) (i ts flight : Nat) (x : HallSource) : Option (Nat × HallSource) :=
  let bytes := (hallLayout (inputSize s t i).1 (inputSize s t i).2).2
  match pickSlot t (cfgF s t (Reg.INC_NPIC i)) (inputPool s t i) bytes (Config.openNat (22024 + i) flight ts) (x.frames.map (·.slot)) x with
  | some k => some (k, x)
  | none => match oldestFrame x.frames with
    | some g => if tsLater ts g.ts then some (g.slot, { x with frames := x.frames.filter fun y => y != g }) else none
    | none => none

/-- The frame of a timestamp: the one in progress, or a new one in the next free slot. -/
def frameFor (i ts flight : Nat) (t : Treads) (s : State) : Option InFrame × State :=
  let x := inputOf s i
  match x.frames.find? (fun f => f.ts == ts) with
  | some f => (some f, s)
  | none => match frameSlot s t i ts flight x with
    | none => (none, s)
    | some (k, x) =>
      let f : InFrame := ⟨ts, k, [], flight, false⟩
      (some f, setInput i { x with frames := x.frames ++ [f] } s)

/-- One record of an input's set. -/
def inputRecord (i flight : Nat) (t : Treads) (r : ArrRec) (s : State) : State :=
  let z := inputSize s t i
  match parseSrd z.1 z.2 r.payload with
  | none => raiseEvent 0x162 (halCount 4 1 (incL s (Reg.INC_MALFORMED i)))
  | some segs =>
    if (inputOf s i).lastTs.any fun l => !tsLater r.rtpTs l then incL s (Reg.INC_LATE i)
    else
      match frameFor i r.rtpTs flight t s with
      | (none, s) => s
      | (some f, s) =>
        let base := inputSlot s t i f.slot
        let s := segs.foldl (fun s g => storeSegment base (hallLayout z.1 z.2).1 z.2 g.1 r.poison g.2.2.length g.2.2 g.2.1 s) s
        let f := { f with segs := f.segs ++ segs.map (fun g => (g.1, g.2.1, g.2.2.length / 5)), newest := flight,
                          poison := f.poison || r.poison }
        let x := inputOf s i
        setInput i { x with frames := x.frames.map fun y => if y.ts = f.ts then f else y } s

/-- Whether a row of a frame holds all its bytes. -/
def rowFull (f : InFrame) (w row : Nat) : Bool :=
  let mine := f.segs.filter fun g => g.1 == row
  (List.range (w / 2)).all fun g => mine.any fun x => decide (x.2.1 ≤ g) && decide (g < x.2.1 + x.2.2)

/-- Whether every row of a frame is full. -/
def frameFull (f : InFrame) (z : Nat × Nat) : Bool := (List.range z.2).all (rowFull f z.1)

/-- Whether a frame may be published at the end of a task (R269). -/
def frameReady (x : HallSource) (z : Nat × Nat) (flight : Nat) (f : InFrame) : Bool :=
  frameFull f z || ((x.frames.any fun y => tsLater y.ts f.ts) || x.lastTs.any fun l => tsLater l f.ts) && decide (f.newest < flight)

/-- Copy a missing row from the picture published before, or set it to 512. -/
def patchRow (base pitch w h : Nat) (old : Option PicRec) (y : Nat) (s : State) : State :=
  let one := fun (to_ from_ : Nat) (s : State) =>
    match old with
    | some _ => memStore to_ (memBytes s from_ (2 * w)) (rangePoisoned s from_ (2 * w)) s
    | none => memStore to_ ((List.range w).flatMap fun _ => leBytes 2 512) false s
  let a := pitch * y
  let s := one (base + a) ((old.map fun p => p.luma + a).getD 0) s
  one (base + pitch * h + a) ((old.map fun p => p.chroma + a).getD 0) s

/-- Open samples for the rows that an uncorrectable word took. Assumption 98 (DEDUCED). -/
def openRows (task flight base pitch w h : Nat) (rows : List Nat) (s : State) : State :=
  let row := fun y plane => (List.range w).flatMap fun x => leBytes 2 ((Config.openSample task flight (2 * w * y + w * plane + x) % 1024).toNat)
  rows.foldl (fun s y =>
    memStore (base + pitch * h + pitch * y) (row y 1) false (memStore (base + pitch * y) (row y 0) false s)) s

/-- Publish a frame of input i. -/
def publishInput (i : Nat) (r : Release) (f : InFrame) (badRows : List Nat) (s : State) : State :=
  let z := inputSize s r.instant i
  let pitch := (hallLayout z.1 z.2).1
  let base := inputSlot s r.instant i f.slot
  let gaps := (List.range z.2).filter fun y => !rowFull f z.1 y
  let old := ((inputOf s i).pubs.head?.map (·.record)).filter fun p => decide ((inputOf s i).begun ≤ p.flight)
  let s := gaps.foldl (fun s y => patchRow base pitch z.1 z.2 old y s) s
  let s := openRows (22024 + i) r.flight base pitch z.1 z.2 (badRows.filter (· < z.2)) s
  let s := if gaps.isEmpty then s else raiseEvent 0x161 (halCount 3 1 s)
  let x := inputOf s i
  let rec_ : PicRec := ⟨x.count + 1, r.instant, f.ts, f.slot, (if gaps.isEmpty then 0 else 9) + 16 * f.poison.toNat, 10, 0, 0,
    z.1, z.2, pitch, base, base + pitch * z.2⟩
  let x := publishHall x r.instant r.deadline (hallLayout z.1 z.2).2 rec_
  setWords (0x83441000 + 64 * i) (recordWords rec_) (setInput i { x with lastTs := some f.ts } s)

/-- The end of an input task: the newest frame that is ready and later than the one published last is published, and every other
ready frame that is older is dropped (R269). -/
def inputEnd (i : Nat) (r : Release) (badRows : List Nat) (s : State) : State :=
  let x := inputOf s i
  let ready := x.frames.filter (frameReady x (inputSize s r.instant i) r.flight)
  match ready.foldl (fun b f => match b with | none => some f | some g => if tsLater f.ts g.ts then some f else some g) (none : Option InFrame) with
  | none => s
  | some f =>
    let late := x.lastTs.any fun l => !tsLater f.ts l
    let dropped := if late then ready.length else ready.length - 1
    let s := setInput i { x with frames := x.frames.filter fun g => !ready.contains g } s
    let s := addL s (Reg.INC_SKIPPED i) dropped
    if late then s else publishInput i r f badRows s

/-- INPUT_TASK (R268): input i's task, for its running release, once every record's trust is final; the rows of the frame that an
uncorrectable word took hold open values (R272 gives them no fill). -/
def inputTask (i sram : Nat) (badRows : List Nat) (s : State) : State :=
  match runningOf s (22024 + i) with
  | none => s
  | some r =>
    if r.exit.isSome ∨ !trustFinal s (.input i) r.flight then s
    else
      let recs := (((setOf s (.input i) r.flight).map (·.recs)).getD []).filter fun a => recUsable a && a.kind == 3
      let s := setInput i (sourceFor r.instant (inputOf s i)) (halSram sram 0 0 s)
      let s := recs.foldl (fun s a => inputRecord i r.flight r.instant a s) s
      setExit (22024 + i) 0 (inputEnd i r (if sram = 2 then badRows else []) s)

/-! ### Output tasks (R271) -/

/-- The bytes of one pgroup of a picture. -/
def pgroupBytes (s : State) (p : PicRec) (row g : Nat) : List Byte :=
  let y := fun k => leAt (memBytes s (p.luma + p.pitch * row + 4 * g + 2 * k) 2) 0 2 % 1024
  let c := fun k => leAt (memBytes s (p.chroma + p.pitch * row + 4 * g + 2 * k) 2) 0 2 % 1024
  beBytes 5 (c 0 * 1073741824 + y 0 * 1048576 + c 1 * 1024 + y 1)

/-- Slot of packet i of a frame. -/
def outputSlot (V P lines npkt i : Nat) : Treads :=
  let tro := if lines = 1080 then P * 43 / 1125 else P * 86 / 2250
  let total := if lines = 1080 then 1125 else 2250
  V + tro + i * P * lines / (npkt * total)

/-- The extended sequence that the Hall keeps for a queue. Assumption 99 (DEDUCED). -/
def extSeqOf (s : State) (q : Nat) : Nat := (sgetC none s.hal.extSeq q).getD (getF s (Reg.QUEUE_SEQ q))

/-- One packet of output n: segment k of a row, of `segs` segments a row. -/
def outputPacket (n flight : Nat) (V : Treads) (P : Nat) (p : PicRec) (queues : List Nat) (npkt segs i : Nat) (badRows : List Nat)
    (s : State) : State :=
  let row := i / segs
  let k := i % segs
  let open_ := badRows.contains row
  let data := if open_ then (List.range 1200).map fun j => BitVec.ofNat 8 (Config.openSample (22040 + n) flight (1200 * i + j) % 256).toNat
    else (List.range 240).flatMap fun g => pgroupBytes s p row (240 * k + g)
  let poison := rangePoisoned s (p.luma + p.pitch * row + 960 * k) 960 || rangePoisoned s (p.chroma + p.pitch * row + 960 * k) 960
  let ts := (V / 1568 + cfgF s V (Reg.OUTC_TS_OFS n)) % 4294967296
  let srd := beBytes 2 1200 ++ beBytes 2 row ++ beBytes 2 (480 * k)
  queues.foldl (fun s q =>
    let e := extSeqOf s q
    let payload := beBytes 2 (e / 65536) ++ srd ++ data
    let s := { s with hal := { s.hal with extSeq := ssetC none s.hal.extSeq q (some ((e + 1) % 4294967296)) } }
    emitPacket q (22040 + n) ⟨outputSlot V P p.h npkt i, payload.length, ts, i + 1 == npkt, false⟩ payload poison s) s

/-- The frame of output n goes into its queues. -/
def outputFrame (n flight : Nat) (V : Treads) (p : PicRec) (badRows : List Nat) (s : State) : State :=
  let c := cfgF s V (Reg.OUTC_COMP n)
  let P := ratePeriod (cfgF s V (Reg.COMP_RATE c))
  let segs := p.w / 480
  let npkt := p.h * segs
  let queues := (if cfgF s V (Reg.OUTC_A_EN n) = 1 then [cfgF s V (Reg.OUTC_QUEUE_A n)] else []) ++
    (if cfgF s V (Reg.OUTC_B_EN n) = 1 then [cfgF s V (Reg.OUTC_QUEUE_B n)] else [])
  let bad := rangePoisoned s p.luma (p.pitch * p.h) || rangePoisoned s p.chroma (p.pitch * p.h)
  let s := if bad then raiseEvent 0x164 (halError 0x03 0 c s) else s
  let s := (List.range npkt).foldl (fun s i => outputPacket n flight V P p queues npkt segs i badRows s) s
  halCount 5 1 (incL s (Reg.OUTC_FRAMES n))

/-- OUTPUT_TASK (R271): output n's task, for its running release. -/
def outputTask (n sram : Nat) (badRows : List Nat) (s : State) : State :=
  match runningOf s (22040 + n) with
  | none => s
  | some r =>
    if r.exit.isSome then s
    else
      let V := r.instant
      let s := halSram sram 0 (cfgF s V (Reg.OUTC_COMP n)) s
      let s := match compAt s V (cfgF s V (Reg.OUTC_COMP n)) with
        | none => raiseEvent 0x163 s
        | some p => outputFrame n r.flight V p (if sram = 2 then badRows else []) s
      setExit (22040 + n) 0 s

/-- HALL_TIMEOUT (R272): a Hall task that has run for longer than TIMEOUT is abandoned and publishes nothing. -/
def hallTimeout (task : Nat) (s : State) : State :=
  match runningOf s task with
  | none => s
  | some r =>
    if r.exit.isSome ∨ s.now ≤ r.started + getF s Reg.HAL_CFG_TIMEOUT ∨ task < 21960 ∨ 22048 ≤ task then s
    else
      let c := if task < 22024 then task - 21960 else 0
      setExit task 0xFF (raiseEvent 0x167 (halError 0x04 0 c s))

/-! ### Commit -/

/-- Declared rate of composition c (R257). -/
def compRate (s : State) (c : Nat) : Nat := declRate (getF s (Reg.COMP_WIDTH c)) (getF s (Reg.COMP_HEIGHT c)) (getF s (Reg.COMP_RATE c))

/-- Enabled compositions, inputs and outputs. -/
def enabledComps (s : State) : List Nat := (List.range 64).filter fun c => getF s (Reg.COMP_EN c) == 1
def enabledInputs (s : State) : List Nat := (List.range 16).filter fun i => getF s (Reg.INC_EN i) == 1
def enabledOutputs (s : State) : List Nat := (List.range 8).filter fun n => getF s (Reg.OUTC_EN n) == 1

/-- Declared rate of input i (R267). -/
def inputRate (s : State) (i : Nat) : Nat :=
  if getF s (Reg.INC_SIZE i) = 0 then declRate 1920 1080 (getF s (Reg.INC_RATE i)) else declRate 3840 2160 (getF s (Reg.INC_RATE i))

/-- Enabled tiles of composition c. -/
def tileCount (s : State) (c : Nat) : Nat :=
  ((List.range 1024).filter fun i => getF s (Reg.TILE_EN i) == 1 && getF s (Reg.TILE_COMP i) == c).length

/-- The state words that follow the committed contexts: TILES, DECL_RATE and HAL_DECL. -/
def showHall (s : State) : State :=
  let s := (List.range 64).foldl (fun s c =>
    setF (setF s (Reg.COMP_TILES c) (tileCount s c)) (Reg.COMP_DECL_RATE c) (compRate s c)) s
  let s := setF s Reg.HAL_DECL_COMP (sumOf (compRate s) (enabledComps s))
  let s := setF s Reg.HAL_DECL_INPUT (sumOf (inputRate s) (enabledInputs s))
  setF s Reg.HAL_DECL_OUTPUT (sumOf (fun n => compRate s (getF s (Reg.OUTC_COMP n))) (enabledOutputs s))

/-- From a commit on a source starts as enabled: its first flight at or after it finds it so (R255). -/
def commitSource (at_ : Treads) (x : HallSource) : HallSource := { x with restarts := x.restarts ++ [at_] }

/-- A commit starts again the compositions and inputs whose enable, size or pool it changed: from then on no earlier publication is
selectable (R255); a new RATE alone keeps them (Table 2 of Hall: composition). -/
def hallCommit (old : State) (addrs : List Nat) (s : State) : State :=
  if !(addrs.any fun a => 0x83400000 ≤ a && a < 0x83440000) then s
  else
    let moved := fun (fs : List Fld) => fs.any fun f => getF old f != getF s f
    let s := (List.range 64).foldl (fun s c =>
      if moved [Reg.COMP_EN c, Reg.COMP_NPIC c, Reg.COMP_POOL_REGION c, Reg.COMP_POOL_OFS c, Reg.COMP_WIDTH c, Reg.COMP_HEIGHT c] then
        setComp c (commitSource s.epoch.newestAt (compOf s c)) s else s) s
    let s := (List.range 16).foldl (fun s i =>
      if moved [Reg.INC_EN i, Reg.INC_NPIC i, Reg.INC_POOL_REGION i, Reg.INC_POOL_OFS i, Reg.INC_SIZE i] then
        setInput i (commitSource s.epoch.newestAt (inputOf s i)) s else s) s
    showHall s

end Sys2Proof.Machine
end

