-- ==== Sys2Proof/Machine/Coder.lean ====
section
/-! DEFINITION. What an encode engine makes of one layer's picture: the source as it is coded, the motion search, the blocks under rate
control, the coded units and their RTP payloads (Video encode and layers). The measures and the entropy coding that the manual leaves to
the engine and to the codec's standard are Config's. -/

namespace Sys2Proof.Machine

/-! ### The source (R281) -/

/-- Row y of 4:2:0 chroma from the rows of 4:2:2. -/
def foldRows (f : Nat → Nat → Nat) (x y : Nat) : Nat := (f x (2 * y) + f x (2 * y + 1) + 1) / 2

/-- The mean of a 2^m × 2^m block of a plane of w × h samples, rounded half up; a block past an edge repeats the last column or row. -/
def blockMean (m w h : Nat) (f : Nat → Nat → Nat) (x y : Nat) : Nat :=
  let n := 2 ^ m
  let sum := (List.range n).foldl (fun a j => (List.range n).foldl (fun a i => a + f (min (w - 1) (n * x + i)) (min (h - 1) (n * y + j))) a) 0
  (sum + n * n / 2) / (n * n)

/-- A 10-bit sample at the depth of a program. -/
def atDepth (ten : Bool) (v : Nat) : Nat := if ten then v else min 255 ((v + 2) / 4)

/-- A sample of a composition's picture as a layer m steps below the top codes it: plane 0 luma, 1 Cb, 2 Cr. -/
def encSample (s : State) (p : PicRec) (ten : Bool) (m plane x y : Nat) : Nat :=
  atDepth ten
    (if plane = 0 then blockMean m p.w p.h (srcSample s p false 0) x y
     else blockMean m (p.w / 2) (p.h / 2) (foldRows (srcSample s p false plane)) x y)

/-! ### Motion search (R284 to R286) -/

/-- A reference of a picture: where its slot stands, its layout and size, whether it has a window, and by how much smaller it is (2 for the
layer below). -/
structure RefPic where
  base   : Nat
  lay    : Nat × Nat × Nat
  w      : Nat
  h      : Nat
  window : Bool
  scale  : Nat

/-- What the coder of one picture works from: codec, depth, size and block size; the luma of its source; its temporal references, newest
first, with the one of the layer below; the vectors of the layer's previous picture and of the layer below; the search range; and the QP
bounds and budget. -/
structure CoderJob where
  codec  : Nat
  ten    : Bool
  w      : Nat
  h      : Nat
  key    : Bool
  luma   : Nat → Nat → Nat
  refs   : List RefPic
  lower  : Option RefPic
  prev   : List (List MotionVec)
  below  : List (List MotionVec)
  srx    : Nat
  sry    : Nat
  minQp  : Nat
  maxQp  : Nat
  budget : Nat

/-- Side of a motion search block: a superblock or a macroblock. -/
def CoderJob.side (j : CoderJob) : Nat := if j.codec = 0 then 64 else 16

/-- Blocks in a row of a picture. -/
def CoderJob.across (j : CoderJob) : Nat := ceilDiv j.w j.side

/-- Luma of a reference; positions outside the picture take edge samples. -/
def refLuma (s : State) (ten : Bool) (r : RefPic) (x y : Int) : Nat :=
  let px := (clampI 0 ((r.w : Int) - 1) (x / (r.scale : Int))).toNat
  let py := (clampI 0 ((r.h : Int) - 1) (y / (r.scale : Int))).toNat
  storedSample s ten (r.base + r.lay.1 * py + (if ten then 2 else 1) * px)

/-- The positions of an n × m area, row by row. -/
def areaOf (n m : Nat) : List (Nat × Nat) := (List.range m).flatMap fun y => (List.range n).map fun x => (x, y)

/-- The source samples of a block; those outside the picture repeat its edge. -/
def CoderJob.block (j : CoderJob) (x y : Nat) : List Nat :=
  (areaOf j.side j.side).map fun p => j.luma (min (j.w - 1) (x + p.1)) (min (j.h - 1) (y + p.2))

/-- The samples of a reference under a block displaced by whole samples. -/
def refArea (s : State) (j : CoderJob) (r : RefPic) (x y : Nat) (d : Int × Int) : List Nat :=
  (areaOf j.side j.side).map fun p => refLuma s j.ten r ((x : Int) + p.1 + d.1) ((y : Int) + p.2 + d.2)

/-- Cost of a displacement by whole samples. -/
def wholeCost (s : State) (j : CoderJob) (r : RefPic) (x y stage : Nat) (d : Int × Int) : Nat :=
  Config.matchCost stage (j.block x y) (refArea s j r x y d) 0 0

/-- Keep the n cheapest displacements seen, in order of cost and then of search. -/
def keepBest (n : Nat) (best : List (Nat × (Int × Int))) (c : Nat × (Int × Int)) : List (Nat × (Int × Int)) :=
  (best.takeWhile (fun b => decide (b.1 ≤ c.1)) ++ [c] ++ best.dropWhile fun b => decide (b.1 ≤ c.1)).take n

/-- The cheapest of some displacements. -/
def cheapest (n : Nat) (cost : Int × Int → Nat) (l : List (Int × Int)) : List (Nat × (Int × Int)) :=
  l.foldl (fun b d => keepBest n b (cost d, d)) []

/-- Whether a window covers a displacement. -/
def CoderJob.covers (j : CoderJob) (d : Int × Int) : Bool := decide (d.1.natAbs ≤ j.srx) && decide (d.2.natAbs ≤ j.sry)

/-- The displacements up to n samples away along each axis, in steps, row by row. -/
def grid (nx ny step : Nat) : List (Int × Int) :=
  (areaOf (2 * nx / step + 1) (2 * ny / step + 1)).map fun p => ((step * p.1 : Nat) - (nx : Int), (step * p.2 : Nat) - (ny : Int))

/-- The search of a whole window: a full search after decimation, then ±2 whole samples around the best four. -/
def windowSearch (s : State) (j : CoderJob) (r : RefPic) (x y : Nat) : List (Nat × (Int × Int)) :=
  let coarse := cheapest 4 (wholeCost s j r x y 0) (grid j.srx j.sry 4)
  let near := coarse.flatMap fun c => (grid 2 2 1).map fun d => (c.2.1 + d.1, c.2.2 + d.2)
  cheapest 1 (wholeCost s j r x y 1) (near.filter j.covers)

/-- The diamond search: while one of the four neighbours within ±8 samples of the candidate is cheaper, go to the cheapest.
Assumption 171 (DESIGN CHOICE). -/
def diamondSearch (s : State) (j : CoderJob) (r : RefPic) (x y : Nat) (c : Int × Int) : Nat → Nat × (Int × Int) → Nat × (Int × Int)
  | 0, at_ => at_
  | n + 1, at_ =>
    let near := [(0, -1), (-1, 0), (1, 0), (0, 1)].map fun (d : Int × Int) => (at_.2.1 + d.1, at_.2.2 + d.2)
    let ok := near.filter fun d => decide ((d.1 - c.1).natAbs ≤ 8) && decide ((d.2 - c.2).natAbs ≤ 8)
    match cheapest 1 (wholeCost s j r x y 1) ok with
    | b :: _ => if b.1 < at_.1 then diamondSearch s j r x y c n b else at_
    | [] => at_

/-- The fallback path from a candidate. -/
def fallbackSearch (s : State) (j : CoderJob) (r : RefPic) (x y : Nat) (c : Int × Int) : Nat × (Int × Int) :=
  diamondSearch s j r x y c 64 (wholeCost s j r x y 1 c, c)

/-- What the search of one reference gives a block: the vector, its cost, and whether it came from the fallback path. -/
structure Motion where
  vec      : MotionVec
  cost     : Nat
  fallback : Bool
  deriving DecidableEq, Repr

/-- Refine a whole vector to eighths of a sample for AV1, to quarters for AVC. -/
def refineVec (s : State) (j : CoderJob) (r : RefPic) (x y : Nat) (d : Int × Int) (fallback : Bool) : Motion :=
  let parts := if j.codec = 0 then grid 7 7 1 else grid 6 6 2
  let cost := fun (e : Int × Int) => Config.matchCost 2 (j.block x y) (refArea s j r x y d) e.1 e.2
  match cheapest 1 cost parts with
  | b :: _ => ⟨⟨8 * d.1 + b.2.1, 8 * d.2 + b.2.2⟩, b.1, fallback⟩
  | [] => ⟨⟨8 * d.1, 8 * d.2⟩, 0, fallback⟩

/-- What the coder chose for a block: the search's result for each temporal reference, the prediction (0 intra, k the k-th reference, one
more the layer below), skip, whether it stands in the tail, its QP and its bits. -/
structure CodedBlock where
  motion : List Motion
  mode   : Nat
  skip   : Bool
  tail   : Bool
  qp     : Nat
  bits   : Nat
  deriving DecidableEq, Repr

/-- A block's vectors to the temporal references; an intra block has none. -/
def CodedBlock.vecs (b : CodedBlock) : List MotionVec := if b.mode = 0 then [] else b.motion.map (·.vec)

/-- The candidate vectors of block n for temporal reference k, in whole samples: zero, the left, top and top-right neighbours, the
co-located block of the layer's previous picture, and twice that of the layer below. -/
def candidates (j : CoderJob) (done : List CodedBlock) (n k : Nat) : List (Int × Int) :=
  let bw := j.across
  let at_ := fun (i : Nat) => (done[i]?).bind fun b => b.vecs[k]?
  let under := n / bw / 2 * ceilDiv (ceilDiv j.w 2) j.side + n % bw / 2
  let near := [if 0 < n % bw then at_ (n - 1) else none, if bw ≤ n then at_ (n - bw) else none,
    if bw ≤ n ∧ n % bw + 1 < bw then at_ (n - bw + 1) else none, (j.prev[n]?).bind fun l => l[k]?,
    ((j.below[under]?).bind fun l => l[k]?).map fun v => (⟨2 * v.x, 2 * v.y⟩ : MotionVec)]
  (0, 0) :: near.filterMap fun v => v.map fun v => (shrI v.x 3, shrI v.y 3)

/-- Search one temporal reference for block n at (x, y): candidates that the window covers compete with the search of the whole window,
every other candidate takes the fallback path (R286). -/
def searchRef (s : State) (j : CoderJob) (r : RefPic) (cands : List (Int × Int)) (x y : Nat) : Motion :=
  let inWindow := fun d => r.window && j.covers d
  let whole := if r.window then windowSearch s j r x y ++ (cheapest 1 (wholeCost s j r x y 1) (cands.filter inWindow)) else []
  let other := (cands.filter fun d => !inWindow d).map (fallbackSearch s j r x y)
  let best := (whole.map fun b => (b, false)) ++ other.map fun b => (b, true)
  match best with
  | [] => refineVec s j r x y (0, 0) true
  | b :: bs =>
    let w := bs.foldl (fun (a : (Nat × (Int × Int)) × Bool) c => if c.1.1 < a.1.1 then c else a) b
    refineVec s j r x y w.1.2 w.2

/-- Whether an area of a reference's luma carries poison. -/
def areaPoisoned (s : State) (ten : Bool) (r : RefPic) (x y : Int) (w h : Nat) : Bool :=
  let b := if ten then 2 else 1
  let px := fun (v : Int) => (clampI 0 ((r.w : Int) - 1) (v / (r.scale : Int))).toNat
  (List.range h).any fun k =>
    let row := (clampI 0 ((r.h : Int) - 1) ((y + k) / (r.scale : Int))).toNat
    rangePoisoned s (r.base + r.lay.1 * row + b * px x) (b * (px (x + w - 1) + 1 - px x))

/-- Whether what the search of a block reads of a reference carries poison: its window, and the surroundings of each candidate that takes
the fallback path. -/
def readsPoison (s : State) (j : CoderJob) (r : RefPic) (cands : List (Int × Int)) (x y : Nat) : Bool :=
  (r.window && areaPoisoned s j.ten r ((x : Int) - j.srx) ((y : Int) - j.sry) (2 * j.srx + j.side) (2 * j.sry + j.side)) ||
  (cands.filter fun d => !(r.window && j.covers d)).any fun d =>
    areaPoisoned s j.ten r ((x : Int) + d.1 - 8) ((y : Int) + d.2 - 8) (j.side + 16) (j.side + 16)

/-! ### Blocks under rate control (R290) -/

/-- A picture as it is coded so far: its blocks, their bits, whether the tail has begun, whether a reference read returned poison, and the
QP of the row. -/
structure CoderRun where
  done   : List CodedBlock
  bits   : Nat
  tail   : Bool
  poison : Bool
  row    : Nat

/-- What a picture is coded as (R283, R295): from its source, as a repeat of the latest reconstruction, or as mid-grey. -/
inductive PicKind where
  | main | repeat_ | grey
  deriving DecidableEq, Repr

/-- What was chosen for a block, as numbers. -/
def CodedBlock.choice (b : CodedBlock) : List Nat :=
  [b.mode, b.skip.toNat, b.tail.toNat, b.qp] ++ b.vecs.flatMap fun v => [v.x.toNat, (-v.x).toNat, v.y.toNat, (-v.y).toNat]

/-- Block n at a QP: `tail` blocks are skip wherever the syntax allows. -/
def codeAt (j : CoderJob) (kind : PicKind) (done : List CodedBlock) (samples : List Nat) (motion : List Motion) (mode qp : Nat) (tail : Bool) :
    CodedBlock :=
  let mayskip := !(j.codec != 0 && mode == 0)
  let skip := if kind == .repeat_ then true else mayskip && (tail || Config.blockSkip j.codec samples [mode, qp])
  let b : CodedBlock := ⟨motion, mode, skip, tail, qp, 0⟩
  { b with bits := Config.blockBits j.codec samples (done.map CodedBlock.choice ++ [b.choice]) }

/-- Code block n: the search of each reference, intra where a reference read is poisoned (R301), then the check against the budget. -/
def codeBlock (s : State) (j : CoderJob) (kind : PicKind) (x : CoderRun) (n : Nat) : CoderRun :=
  let bx := n % j.across * j.side
  let by_ := n / j.across * j.side
  let samples := j.block bx by_
  let inter := kind == .main && !j.key
  let cands := (List.range j.refs.length).map (candidates j x.done n)
  let poison := inter && (((j.refs.zip cands).any fun r => readsPoison s j r.1 r.2 bx by_) ||
    j.lower.any fun r => readsPoison s j r [(0, 0)] bx by_)
  let motion := if inter then (j.refs.zip cands).map fun r => searchRef s j r.1 r.2 bx by_
    else if kind == .repeat_ then j.refs.map fun _ => ⟨⟨0, 0⟩, 0, false⟩ else []
  let lower := if inter then (j.lower.map fun r => searchRef s j { r with window := false } [(0, 0)] bx by_).toList else []
  let row := if n % j.across = 0 then
      max j.minQp (min j.maxQp (Config.rowQp j.budget x.bits ((List.range j.across).flatMap fun i => j.block (i * j.side) by_)))
    else x.row
  let mode := if kind == .repeat_ then 1 else if !inter || poison then 0
    else Config.blockMode j.codec row samples ((motion ++ lower).map (·.cost)) % (motion.length + lower.length + 1)
  let plain := codeAt j kind x.done samples motion mode row false
  let tail := x.tail || (kind == .main && decide (j.budget ≤ x.bits + plain.bits))
  let b := if tail then codeAt j kind x.done samples motion mode j.maxQp true else plain
  ⟨x.done ++ [b], x.bits + b.bits, tail, x.poison || poison, row⟩

/-- Code a picture, block by block in raster order. -/
def codePicture (s : State) (j : CoderJob) (kind : PicKind) : CoderRun :=
  (List.range (j.across * ceilDiv j.h j.side)).foldl (codeBlock s j kind) ⟨[], 0, false, false, 0⟩

/-- The mean QP of a coded picture. -/
def meanQp (x : CoderRun) : Nat := x.done.foldl (fun n b => n + b.qp) 0 / max 1 x.done.length

/-! ### Coded units (R274, R279) -/

/-- The bytes of a coded picture's data. -/
def codedBytes (j : CoderJob) (x : CoderRun) : List Byte :=
  let choices := x.done.map CodedBlock.choice
  let samples := (List.range x.done.length).map fun n => j.block (n % j.across * j.side) (n / j.across * j.side)
  (List.range (ceilDiv x.bits 8)).map (Config.codedByte j.codec choices samples)

/-- A unit of a codec: its header, and its body. For AVC a NAL unit; for AV1 an OBU without a size field. -/
structure CodedUnit where
  head : List Byte
  body : List Byte
  deriving DecidableEq, Repr

/-- A NAL unit. -/
def nalUnit (refIdc type : Nat) (body : List Byte) : CodedUnit := ⟨[BitVec.ofNat 8 (32 * refIdc + type)], body⟩

/-- The NAL units of an AVC picture: an IDR comes after its stream's SPS and PPS; a picture of the highest TID, of more than one, has
nal_ref_idc 0. -/
def avcUnits (key : Bool) (w h temporal tid : Nat) (data : List Byte) : List CodedUnit :=
  let idc := if 1 < temporal ∧ tid + 1 = temporal then 0 else 1 + Config.refIdc tid % 3
  if key then
    [nalUnit (1 + Config.refIdc 7 % 3) 7 (Config.parameterSet 7 w h temporal), nalUnit (1 + Config.refIdc 8 % 3) 8 (Config.parameterSet 8 w h temporal),
     nalUnit (1 + Config.refIdc 5 % 3) 5 data]
  else [nalUnit idc 1 data]

/-- A number as n bits, the highest first. -/
def numberBits (n v : Nat) : List Bool := (List.range n).map fun i => v / 2 ^ (n - 1 - i) % 2 == 1

/-- Bits as bytes, the last one filled with zeros. -/
def bitBytes (l : List Bool) : List Byte :=
  (List.range (ceilDiv l.length 8)).map fun i =>
    BitVec.ofNat 8 ((List.range 8).foldl (fun n k => 2 * n + (l.getD (8 * i + k) false).toNat) 0)

/-- operating_point_idc of every combination of layers: the top layer and the top TID first (R279). -/
def operatingPoints (spatial temporal : Nat) : List (Nat × Nat) :=
  (List.range spatial).reverse.flatMap fun l => (List.range temporal).reverse.map fun t => (l + 1, t + 1)

/-- A sequence header: Main profile, no still picture, no timing or display delay, and its operating points. Assumption 172
(DESIGN CHOICE). -/
def sequenceHeader (spatial temporal w h : Nat) (ten : Bool) : CodedUnit :=
  let points := operatingPoints spatial temporal
  let bits := numberBits 3 0 ++ [false, false, false, false] ++ numberBits 5 (points.length - 1) ++
    (points.flatMap fun p =>
      let level := min 13 (Config.seqLevel p.1 p.2)
      numberBits 12 ((2 ^ p.2 - 1) + 256 * (2 ^ p.1 - 1)) ++ numberBits 5 level ++ (if 7 < level then [false] else [])) ++
    Config.seqTail w h ten
  ⟨[8], bitBytes bits⟩

/-- A frame OBU with its extension header: its body begins with show_existing_frame 0, the frame type (0 KEY_FRAME, 1 INTER_FRAME) and
show_frame 1. -/
def frameObu (key : Bool) (tid sid : Nat) (data : List Byte) : CodedUnit :=
  let first := (if key then 16 else 48) + (byteAt data 0) % 16
  ⟨[52, BitVec.ofNat 8 (32 * tid + 8 * sid)], BitVec.ofNat 8 first :: data.drop 1⟩

/-- The OBUs of an AV1 layer picture: a key frame's temporal unit begins with a sequence header. -/
def av1Units (key : Bool) (spatial temporal w h : Nat) (ten : Bool) (tid sid : Nat) (data : List Byte) : List CodedUnit :=
  (if key && sid == 0 then [sequenceHeader spatial temporal w h ten] else []) ++ [frameObu key tid sid data]

/-! ### RTP payloads (R295) -/

/-- A byte list in pieces of n bytes. -/
def piecesOf (n : Nat) (bs : List Byte) : List (List Byte) := (List.range (ceilDiv bs.length n)).map fun i => (bs.drop (n * i)).take n

/-- An OBU as AV1 payloads of at most `most` bytes: one OBU element each, behind an aggregation header with Z, Y, W = 1 and N; N marks
the first packet of a coded video sequence. Assumption 172 (DESIGN CHOICE). -/
def av1Payloads (most : Nat) (starts : Bool) (u : CodedUnit) : List (List Byte) :=
  let ps := piecesOf (most - 1) (u.head ++ u.body)
  ((List.range ps.length).zip ps).map fun e =>
    BitVec.ofNat 8 ((if e.1 = 0 then 0 else 128) + (if e.1 + 1 = ps.length then 0 else 64) + 16 + (if starts && e.1 == 0 then 8 else 0)) :: e.2

/-- A NAL unit as AVC payloads: a single NAL unit packet where it fits, else FU-A fragments with S and E. -/
def avcPayloads (most : Nat) (u : CodedUnit) : List (List Byte) :=
  if 1 + u.body.length ≤ most then [u.head ++ u.body]
  else
    let nal := byteAt u.head 0
    let ps := piecesOf (most - 2) u.body
    ((List.range ps.length).zip ps).map fun e =>
      BitVec.ofNat 8 (nal / 32 * 32 + 28) ::
        BitVec.ofNat 8 ((if e.1 = 0 then 128 else 0) + (if e.1 + 1 = ps.length then 64 else 0) + nal % 32) :: e.2

/-! ### Statistics (R298) -/

/-- A row of a 4 × 4 Hadamard transform. -/
def hadamardSign (u i : Nat) : Int := if (u % 2 * (i % 2) + u / 2 * (i / 2)) % 2 = 0 then 1 else -1

/-- The sum of the magnitudes of the 4 × 4 Hadamard transform of a block's samples at a corner. -/
def hadamardSum (f : Nat → Nat → Int) (x y : Nat) : Nat :=
  (areaOf 4 4).foldl (fun n c =>
    n + ((areaOf 4 4).foldl (fun a i => a + hadamardSign c.1 i.1 * hadamardSign c.2 i.2 * f (x + i.1) (y + i.2)) 0).natAbs) 0

/-- CPLX of the 16 × 16 block at (x, y): on 8-bit samples, less their mean, rounded half up. Assumption 173 (DEDUCED). -/
def complexityAt (j : CoderJob) (x y : Nat) : Nat :=
  let v := fun i k =>
    let a := j.luma (min (j.w - 1) (x + i)) (min (j.h - 1) (y + k))
    if j.ten then min 255 ((a + 2) / 4) else a
  let mean := ((areaOf 16 16).foldl (fun n p => n + v p.1 p.2) 0 + 128) / 256
  min 65535 ((areaOf 4 4).foldl (fun n b => n + hadamardSum (fun i k => (v i k : Int) - mean) (4 * b.1) (4 * b.2)) 0 / 16)

/-- The statistics entry of the 16 × 16 block at (x, y) (Table 4). -/
def statsEntry (j : CoderJob) (run : CoderRun) (x y : Nat) : List Byte :=
  let b := run.done.getD (y / j.side * j.across + x / j.side) ⟨[], 0, false, false, 0, 0⟩
  let m := if b.mode = 0 then none else b.motion.head?
  let mv := fun (f : MotionVec → Int) => ((m.map fun v => shrI (f v.vec) 1).getD 0 % 65536).toNat
  leBytes 2 (mv (·.x)) ++ leBytes 2 (mv (·.y)) ++ leBytes 2 (complexityAt j x y) ++ leBytes 1 b.qp ++
  leBytes 1 ((if b.mode = 0 then 1 else 0) + 2 * b.skip.toNat + 4 * (m.any (·.fallback)).toNat + 8 * b.tail.toNat)

/-- The entries of a picture, in raster order. -/
def statsEntries (j : CoderJob) (run : CoderRun) : List Byte :=
  (areaOf (ceilDiv j.w 16) (ceilDiv j.h 16)).flatMap fun p => statsEntry j run (16 * p.1) (16 * p.2)

end Sys2Proof.Machine
end

