-- ==== Sys2Proof/Machine/Encode.lean ====
section
/-! DEFINITION. Video encode: layers, key frames, references, rate control, output slots, frame records and statistics (Video
encode and layers). -/

namespace Sys2Proof.Machine

/-- A program that has coded nothing. -/
def programInit : EncProgram := ⟨[], 0, none, [], [], false, [], none, [], 0, [], []⟩

/-- Program p. -/
def programOf (s : State) (p : Nat) : EncProgram := sgetC programInit s.enc.programs p

/-- Replace program p's state. -/
def setProgram (p : Nat) (x : EncProgram) (s : State) : State :=
  { s with enc := { s.enc with programs := ssetC programInit s.enc.programs p x } }

/-- A layer without a reconstruction. -/
def layerInit : EncLayer := ⟨[], 0, 0, 0⟩

/-- Layer l of a program. -/
def layerOf (x : EncProgram) (l : Nat) : EncLayer := sgetC layerInit x.layers l

/-- Count in ENC_CNT. -/
def encCount (c : Nat) (s : State) : State := incF s (Reg.ENC_CNT_COUNT c)

/-- An uncorrectable error at an encode engine (ENC_ERR_LAST). -/
def encError (code p l e : Nat) (s : State) : State :=
  let s := setF (setF s Reg.ENC_ERR_LAST_PROGRAM p) Reg.ENC_ERR_LAST_LAYER l
  let s := setF (setF s Reg.ENC_ERR_LAST_ENGINE e) Reg.ENC_ERR_LAST_CAUSE code
  captureError .enc code 2 false p 0 none s

/-! ### Layers (R275 to R278, R297) -/

/-- Width and height of spatial layer l of S, from the composition's (R275). -/
def layerSize (w h S l : Nat) : Nat × Nat := (2 * ceilDiv w (2 ^ (S - l)), 2 * ceilDiv h (2 ^ (S - l)))

/-- The size of layer l of program p, in the configuration of an instant. -/
def layerAt (s : State) (t : Treads) (p l : Nat) : Nat × Nat :=
  let c := cfgF s t (Reg.PRG_COMP p)
  layerSize (cfgF s t (Reg.COMP_WIDTH c)) (cfgF s t (Reg.COMP_HEIGHT c)) (cfgF s t (Reg.PRG_SPATIAL p)) l

/-- TID of the frame that is n frames after its program's key frame (R277). -/
def tidOf (temporal n : Nat) : Nat :=
  match temporal, n % 2 ^ (temporal - 1) with
  | 2, 1 => 1
  | 3, 1 => 2
  | 3, 2 => 1
  | 3, 3 => 2
  | _, _ => 0

/-- The temporal references of a picture, newest first (R278). Assumption 101 (DEDUCED). -/
def refsFor (x : EncLayer) (tid nref : Nat) : List EncRecon :=
  ((x.recons.take x.sinceKey).filter fun r => if tid = 0 then r.tid == 0 else decide (r.tid < tid)).take nref

/-- Whether a layer has a reconstruction. -/
def hasRecon (x : EncLayer) : Bool := !x.recons.isEmpty

/-- Reference windows that fit in an engine's store (R284, R285). -/
def windowsFit (s : State) (t : Treads) (p l : Nat) : Nat :=
  let b := if cfgF s t (Reg.PRG_CODEC p) = 0 then 64 else 16
  let wb := (32 * cfgF s t (Reg.PRG_SR_X p l) + b) * (32 * cfgF s t (Reg.PRG_SR_Y p l) + b) *
    (if cfgF s t (Reg.PRG_DEPTH10 p) = 1 then 2 else 1)
  cfgF s t (Reg.ENC_ENGINE_CFG_WIN_KIB (cfgF s t (Reg.PRG_ENGINE p l))) * 1024 / wb

/-- Slot layout of layer l's reconstruction pool (R242, R297). -/
def reconLayout (s : State) (t : Treads) (p l : Nat) : Nat × Nat × Nat :=
  let z := layerAt s t p l
  slotLayout z.1 z.2 (cfgF s t (Reg.PRG_DEPTH10 p) == 1)

/-- Address of slot i of layer l's reconstruction pool (R297). -/
def reconSlot (s : State) (t : Treads) (p l i : Nat) : Nat :=
  let n := cfgF s t (Reg.PRG_NREF p) + 2
  let below := sumOf (fun j => n * (reconLayout s t p j).2.2) (List.range l)
  (regionOf s (cfgF s t (Reg.PRG_REC_REGION p))).1 + cfgF s t (Reg.PRG_REC_OFS p) * 4096 + below + i * (reconLayout s t p l).2.2

/-- The slot that a new reconstruction takes: one that neither this picture nor a later one may reference; `choice` says which of them,
which is open. -/
def pickRecon (x : EncLayer) (nref choice : Nat) : Nat :=
  let held := ((refsFor x 0 nref) ++ (refsFor x 2 nref)).map (·.slot)
  let ok := (List.range (nref + 2)).filter fun i => !held.contains i
  if ok.isEmpty then choice % (nref + 2) else ok.getD (choice % ok.length) 0

/-- The start of the oldest flight of which some release is still open. -/
def oldestInstant (s : State) : Treads := s.stw.releases.foldl (fun t r => min t r.instant) s.now

/-- Changes, newest first, without those that no flight from an instant on can ask for. -/
def keepFrom (t : Treads) : List (Treads × Nat) → List (Treads × Nat)
  | [] => []
  | e :: l => if e.1 < t then [e] else e :: keepFrom t l

/-! ### Rate control (R288 to R291) -/

/-- The value that a list of changes, newest first, held before an instant. -/
def valueBefore (l : List (Treads × Nat)) (t : Treads) (dflt : Nat) : Nat := ((l.find? fun e => decide (e.1 < t)).map (·.2)).getD dflt

/-- The rate target of a layer for the flight that starts at W, in kb/s (R288, R311). -/
def targetAt (s : State) (W : Treads) (p l : Nat) : Nat :=
  let lo := cfgF s W (Reg.PRG_BR_MIN p l)
  let hi := cfgF s W (Reg.PRG_BR_MAX p l)
  if cfgF s W (Reg.PRG_ADAPT p l) = 1 then max lo (min hi (valueBefore (sgetC [] s.shp.targets (3 * p + l)) W hi)) else hi

/-- Bits per frame of a target in kb/s at a rate. -/
def bitsPerFrame (target rate : Nat) : Nat := target * 1000 * ratePeriod rate / treadsPerSecond

/-- Temporal weight, in quarters (Table 2 of Video encode and layers). -/
def temporalWeight : Nat → Nat → Nat
  | 2, 0 => 5 | 2, 1 => 3
  | 3, 0 => 6 | 3, 1 => 4 | 3, 2 => 3
  | _, _ => 4

/-- The virtual buffer of a target (R289). -/
def vbvOf (target ms : Nat) : Nat := target * 1000 * ms / 1000

/-- The budget of a picture: r / 8 at least, else the base less CARRY, within what the buffer leaves (R289). -/
def budgetOf (r base vbv : Nat) (x : EncLayer) : Nat :=
  (max ((r / 8 : Nat) : Int) (min ((base : Int) - x.carry) ((vbv : Int) - x.fullness))).toNat

/-- Rate state after a picture of a number of bits. -/
def afterPicture (r budget bits : Nat) (x : EncLayer) : EncLayer :=
  { x with fullness := x.fullness + bits - r, carry := bits - budget }

/-! ### Key frames (R292, R293) -/

/-- The layers that a frame codes as key frames if its source gives a picture: all after a restart, at the interval or, under AV1,
in answer to a request; under AVC the requested ones. -/
def keysWanted (s : State) (W : Treads) (p : Nat) (x : EncProgram) (restart : Bool) : List Nat :=
  let all := List.range (cfgF s W (Reg.PRG_SPATIAL p))
  let n := (x.sinceKey.getD 0) + 1
  let interval := cfgF s W (Reg.PRG_KEY_INTERVAL p)
  let asked := (x.keyReqs.filter fun q => decide (q.2 ≤ W)).map (·.1)
  if restart ∨ x.forceKey ∨ x.sinceKey.isNone ∨ (interval ≠ 0 ∧ interval ≤ n) then all
  else if asked.isEmpty ∨ n < cfgF s W (Reg.PRG_MIN_KEY_GAP p) then []
  else if cfgF s W (Reg.PRG_CODEC p) = 0 then all else all.filter fun l => asked.contains l

/-- Whether the open engine of program p's layer reads its composition from a cloister region (R458). -/
def encBarred (s : State) (W : Treads) (p l : Nat) : Bool :=
  encOpen s (cfgF s W (Reg.PRG_ENGINE p l)) && regionCloister s (cfgF s W (Reg.COMP_POOL_REGION (cfgF s W (Reg.PRG_COMP p))))

/-- Whether the source at W is there (0), missing (1) or poisoned (2), with its record; to an open engine a picture of a cloister region
reads as zeros with poison (R458). -/
def encSource (s : State) (W : Treads) (p : Nat) : Nat × Option PicRec :=
  match compAt s W (cfgF s W (Reg.PRG_COMP p)) with
  | none => (1, none)
  | some r => (if (List.range (cfgF s W (Reg.PRG_SPATIAL p))).any (encBarred s W p) || rangePoisoned s r.luma (r.pitch * r.h) || rangePoisoned s r.chroma (r.pitch * r.h) then 2 else 0, some r)

/-- Number of the task of layer l of program p. -/
def encTaskNo (p l : Nat) : Nat := 22048 + 3 * p + l

/-- Size of program p's output slots. -/
def outSlotBytes (s : State) (W : Treads) (p : Nat) : Nat := cfgF s W (Reg.PRG_OUT_SLOT_KIB p) * 1024

/-- Address of output slot i. -/
def outSlot (s : State) (W : Treads) (p i : Nat) : Nat :=
  (regionOf s (cfgF s W (Reg.PRG_OUT_REGION p))).1 + cfgF s W (Reg.PRG_OUT_OFS p) * 4096 + i * outSlotBytes s W p

/-- The output slot of a flight, one that may be written under R243 and that no flight in progress has: `choice` says which of them, which
is open. -/
def pickOutSlot (s : State) (p : Nat) (x : EncProgram) (W : Treads) (choice : Nat) : Nat :=
  let n := cfgF s W (Reg.PRG_NOUT p)
  let ok := (List.range n).filter fun i =>
    mayWrite W x.shown x.busy (outSlot s W p i) (outSlotBytes s W p) && !x.current.any fun f => f.slot == i
  if ok.isEmpty then choice % n else ok.getD (choice % ok.length) 0

/-- A program restarts in the flight that starts at W: references, F, CARRY, requests and the pattern empty (R300). -/
def restarted (W : Treads) (x : EncProgram) : EncProgram :=
  { x with layers := [], sinceKey := none, restarts := x.restarts.filter (fun t => decide (W < t)), forceKey := false }

/-- The first layer task of a flight opens it: its key frames, TID, slot and marks. Assumption 100 (DEDUCED). -/
def openFlight (p : Nat) (W deadline : Treads) (s : State) : EncFlight × State :=
  let x0 := programOf s p
  let restart := x0.restarts.any fun t => decide (t ≤ W)
  let x := if restart then restarted W x0 else x0
  let src := encSource s W p
  let wanted := keysWanted s W p x restart
  let bare := (List.range (cfgF s W (Reg.PRG_SPATIAL p))).filter fun l => !hasRecon (layerOf x l)
  let keys := if src.1 = 0 then wanted ++ bare.filter (fun l => !wanted.contains l) else bare
  let isKey := !keys.isEmpty
  let n := if isKey then 0 else (x.sinceKey.getD 0) + 1
  let av1 := cfgF s W (Reg.PRG_CODEC p) = 0
  let answered := x.keyReqs.filter fun q => isKey && decide (q.2 ≤ W) && (decide av1 || keys.contains q.1)
  let k := pickOutSlot s p x W (Config.openNat (encTaskNo p 0) W 0)
  let ts := match src.2 with
    | some r => (r.flight / 1568 + cfgF s W (Reg.PRG_TS_OFS p)) % 4294967296
    | none => Config.openNat (encTaskNo p 0) W 1 % 4294967296
  let conc := src.2.any fun r => r.flags % 2 == 1 || r.flags / 8 % 2 == 1
  let flags := isKey.toNat + (if src.1 = 1 then 2 else 0) + 4 * conc.toNat + (if src.1 = 2 then 8 else 0)
  let stats := if cfgF s W (Reg.PRG_STATS_EN p) = 1 then some (x.statsNext % max 1 (cfgF s W (Reg.PRG_NSTATS p))) else none
  let f : EncFlight := ⟨W, deadline, x.frame + 1, k, [], [], flags, tidOf (cfgF s W (Reg.PRG_TEMPORAL p)) n, keys, ts, stats, src.1, restart⟩
  let x := { x with
    frame := x.frame + 1, sinceKey := some n, forceKey := x.forceKey && !isKey,
    keyReqs := x.keyReqs.filter fun q => !answered.contains q,
    current := f :: x.current,
    statsNext := if stats.isSome then x.statsNext + 1 else x.statsNext }
  let s := setProgram p x s
  let s := if src.1 = 1 then encCount 5 (incL s (Reg.PRG_REPEATS p)) else s
  let coded := if av1 then (if answered.isEmpty then 0 else 1) else ((answered.map (·.1)).eraseDups).length
  let s := (List.range coded).foldl (fun s _ => raiseEvent 0x180 (encCount 2 s)) s
  (f, s)

/-- The flight of program p that starts at W, opened by its first task. -/
def flightFor (p : Nat) (W deadline : Treads) (s : State) : EncFlight × State :=
  match (programOf s p).current.find? (fun f => f.start == W) with
  | some f => (f, s)
  | none => openFlight p W deadline s

/-- Replace a flight in progress. -/
def putFlight (p : Nat) (f : EncFlight) (s : State) : State :=
  let x := programOf s p
  setProgram p { x with current := x.current.map fun g => if g.start = f.start then f else g } s

/-- Key-frame requests that received RTCP carried (R147, R293): each goes to the program that its leg serves, for the leg's
current layer, from the end of the audio flight whose set carried it. -/
def takeKeyRequests (s : State) : State :=
  let reqs := s.ports.keyReqs
  let s := { s with ports := { s.ports with keyReqs := [] } }
  reqs.foldl (fun s q =>
    let p := getF s (Reg.VLEG_PROGRAM q.1)
    let l := if getL s (Reg.VLEG_NONE q.1) = 1 then getL s (Reg.VLEG_PEND_S q.1) else getL s (Reg.VLEG_CUR_S q.1)
    let x := programOf s p
    encCount 1 (setProgram p { x with keyReqs := x.keyReqs ++ [(l, (q.2 + 1) * flightLen s)] } s)) s

/-! ### Output slots (R294, R295) -/

/-- Bytes that packets take in a slot. -/
def slotNeed (pkts : List OutPacket) : Nat := pkts.foldl (fun n q => n + 16 + ceilDiv q.payload.length 16 * 16) 0

/-- One packet as its slot holds it (Table 3 of Video encode and layers). -/
def packetBytes (f : EncFlight) (last : Bool) (q : OutPacket) : List Byte :=
  leBytes 2 q.payload.length ++
  leBytes 1 (q.sid + 4 * q.tid + 16 * q.key.toNat + 32 * q.layerEnd.toNat + 64 * last.toNat) ++ leBytes 1 0 ++
  leBytes 4 q.rtpTs ++ leBytes 4 f.frame ++ leBytes 4 0 ++ q.payload ++
  List.replicate (ceilDiv q.payload.length 16 * 16 - q.payload.length) 0

/-- The packets of one layer's picture. -/
def layerPackets (f : EncFlight) (l : Nat) (key : Bool) (payloads : List (List Byte)) : List OutPacket :=
  ((List.range payloads.length).zip payloads).map fun e =>
    ⟨l, f.tid, key, e.1 + 1 == payloads.length, false, f.rtpTs, e.2⟩

/-- The bytes of a slot: the packets in layer order, then a header with LEN 0. -/
def slotBytes (f : EncFlight) : List Byte :=
  let pkts := [0, 1, 2].flatMap fun l => f.pkts.filter fun q => q.sid == l
  ((List.range pkts.length).zip pkts).flatMap (fun e => packetBytes f (e.1 + 1 == pkts.length) e.2) ++ List.replicate 16 0

/-- The frame record (Table 6 of Video encode and layers). -/
def frameRecord (f : EncFlight) : List Byte :=
  let octets := fun l => ((f.octets.find? fun o => o.1 == l).map (·.2)).getD 0
  leBytes 8 f.frame ++ leBytes 4 (treadsOf f.start) ++ leBytes 6 (secondsOf f.start) ++ leBytes 1 f.slot ++ leBytes 1 f.flags ++
  leBytes 1 f.tid ++ leBytes 1 (f.stats.getD 31) ++ leBytes 2 0 ++ leBytes 4 f.rtpTs ++ leBytes 4 (octets 0) ++ leBytes 4 (octets 1) ++
  leBytes 4 (octets 2) ++ List.replicate 24 0

/-! ### Statistics (R298) -/

/-- Size of a statistics slot of a layer. -/
def statsBytes (w h : Nat) : Nat := ceilDiv (64 + 8 * (ceilDiv w 16 * ceilDiv h 16)) 4096 * 4096

/-- Address of statistics slot i of program p. -/
def statsSlot (s : State) (W : Treads) (p i : Nat) : Nat :=
  let z := layerAt s W p (cfgF s W (Reg.PRG_STATS_LAYER p))
  (regionOf s (cfgF s W (Reg.PRG_STATS_REGION p))).1 + cfgF s W (Reg.PRG_STATS_OFS p) * 4096 + i * statsBytes z.1 z.2

/-- The statistics slot of a flight: its header and the entries of the picture's blocks. -/
def writeStats (p l : Nat) (f : EncFlight) (j : CoderJob) (run : CoderRun) (s : State) : State :=
  match f.stats with
  | none => s
  | some i =>
    let z := layerAt s f.start p l
    let bw := ceilDiv z.1 16
    let bh := ceilDiv z.2 16
    let head := leBytes 8 f.frame ++ leBytes 4 (treadsOf f.start) ++ leBytes 6 (secondsOf f.start) ++ leBytes 2 z.1 ++ leBytes 2 z.2 ++
      leBytes 2 bw ++ leBytes 2 bh ++ leBytes 1 f.tid ++ leBytes 1 f.flags ++ leBytes 4 run.bits ++ List.replicate 32 0
    memStore (statsSlot s f.start p i) (head ++ statsEntries j run) false s

/-! ### Publication (R296) -/

/-- The last layer task of a flight has ended: the slot is filled and the frame record published; a disabled program publishes
nothing more (R300). -/
def publishFrame (p : Nat) (f : EncFlight) (s : State) : State :=
  let f := { f with flags := f.flags / 2 * 2 + (f.pkts.any (·.key)).toNat }
  let x := programOf s p
  let x := { x with current := x.current.filter fun g => g.start != f.start }
  let s := setProgram p x s
  if getF s (Reg.PRG_EN p) = 0 then s
  else
    let s := memStore (outSlot s f.start p f.slot) ((slotBytes f).take (outSlotBytes s f.start p)) false s
    let s := match f.stats with
      | some i => memStore (statsSlot s f.start p i + 27) (leBytes 1 f.flags) false s
      | none => s
    let pubs := ⟨f.start, f.slot, f.flags, f.tid, f.restart⟩ :: x.pubs.filter fun q => decide (oldestInstant s ≤ q.start)
    let s := setProgram p { x with
      busy := slotsBusy f.start x.shown x.busy, shown := some (outSlot s f.start p f.slot, outSlotBytes s f.start p), pubs := pubs } s
    let s := setWords (0x83810000 + 64 * p) (frameRecord f) s
    if f.deadline < s.now then raiseEvent 0x189 (encCount 7 (incL s (Reg.PRG_LATE p))) else s

/-! ### Encode tasks (R280) -/

/-- The budget of a picture of layer l (R289). -/
def pictureBudget (s : State) (p l : Nat) (f : EncFlight) (key : Bool) : Nat :=
  let W := f.start
  let T := targetAt s W p l
  let r := bitsPerFrame T (cfgF s W (Reg.PRG_RATE p))
  let base := if key then r * cfgF s W (Reg.PRG_KEY_MUL p) / 4 else r * temporalWeight (cfgF s W (Reg.PRG_TEMPORAL p)) f.tid / 4
  budgetOf r base (vbvOf T (cfgF s W (Reg.PRG_VBV_MS p l))) (layerOf (programOf s p) l)

/-- The reconstruction that layer l made for a flight. -/
def reconOf (x : EncLayer) (start : Treads) : Option EncRecon := x.recons.find? fun r => r.start == start

/-- A reconstruction of layer l as a reference. -/
def refPic (s : State) (W : Treads) (p l scale : Nat) (window : Bool) (r : EncRecon) : RefPic :=
  let z := layerAt s W p l
  ⟨reconSlot s W p l r.slot, reconLayout s W p l, z.1, z.2, window, scale⟩

/-- What the coder of layer l works from in a flight. -/
def coderJob (s : State) (p l : Nat) (f : EncFlight) (key : Bool) : CoderJob :=
  let W := f.start
  let x := layerOf (programOf s p) l
  let z := layerAt s W p l
  let c := fun r => cfgF s W r
  let ten := c (Reg.PRG_DEPTH10 p) == 1
  let fit := windowsFit s W p l
  let refs := if key then [] else refsFor x f.tid (c (Reg.PRG_NREF p))
  let under := if !key ∧ c (Reg.PRG_CODEC p) = 0 ∧ 0 < l then reconOf (layerOf (programOf s p) (l - 1)) W else none
  { codec := c (Reg.PRG_CODEC p), ten := ten, w := z.1, h := z.2, key := key
    luma := match (encSource s W p).2 with
      | some r => encSample s r ten (c (Reg.PRG_SPATIAL p) - 1 - l) 0
      | none => fun _ _ => midGrey ten
    refs := ((List.range refs.length).zip refs).map fun e => refPic s W p l 1 (decide (e.1 < fit)) e.2
    lower := under.map (refPic s W p (l - 1) 2 false)
    prev := (x.recons.head?.map (·.vecs)).getD [], below := (under.map (·.vecs)).getD []
    srx := 16 * c (Reg.PRG_SR_X p l), sry := 16 * c (Reg.PRG_SR_Y p l)
    minQp := c (Reg.PRG_MIN_QP p l), maxQp := c (Reg.PRG_MAX_QP p l), budget := pictureBudget s p l f key }

/-- The coded units of a picture of layer l. -/
def pictureUnits (s : State) (p l : Nat) (f : EncFlight) (key : Bool) (j : CoderJob) (run : CoderRun) : List CodedUnit :=
  let c := fun r => cfgF s f.start r
  let data := codedBytes j run
  let top := layerAt s f.start p (c (Reg.PRG_SPATIAL p) - 1)
  if j.codec = 0 then av1Units key (c (Reg.PRG_SPATIAL p)) (c (Reg.PRG_TEMPORAL p)) top.1 top.2 j.ten f.tid l data
  else avcUnits key j.w j.h (c (Reg.PRG_TEMPORAL p)) f.tid data

/-- The payloads of a picture's units. -/
def unitPayloads (s : State) (p l : Nat) (f : EncFlight) (key : Bool) (codec : Nat) (units : List CodedUnit) : List (List Byte) :=
  let most := cfgF s f.start (Reg.PRG_PAYLOAD_MAX p)
  if codec = 0 then ((List.range units.length).zip units).flatMap fun e => av1Payloads most (key && l == 0 && e.1 == 0) e.2
  else units.flatMap (avcPayloads most)

/-- What a picture's reconstruction is written from: the decoded units, or for a repeat the latest reconstruction, or mid-grey. -/
def reconSource (s : State) (p l : Nat) (f : EncFlight) (kind : PicKind) (j : CoderJob) (units : List CodedUnit) : PicSource :=
  let lay := reconLayout s f.start p l
  let x := layerOf (programOf s p) l
  let header : UnitHeader := ⟨0, false, 0, .s420, if j.ten then 10 else 8, [], .other, j.w, j.h, 0, 0, j.w, j.h, 0⟩
  { codec := if j.codec = 0 then 0 else 2, payloads := units.map fun u => u.head ++ u.body
    refs := (j.refs ++ j.lower.toList).map fun r => memBytes s r.base r.lay.2.2
    layer := l, index := 0, ten := j.ten, header := header
    missing := if kind == .main then [] else [⟨0, 0, j.w, j.h⟩]
    latest := if kind == .repeat_ then (x.recons.head?).map fun r => reconSlot s f.start p l r.slot else none
    lay := lay }

/-- What a coded picture does to the layer's reconstructions and rate state. -/
def codeLayer (p l : Nat) (f : EncFlight) (key : Bool) (kind : PicKind) (j : CoderJob) (run : CoderRun) (units : List CodedUnit) (s : State) :
    State :=
  let W := f.start
  let x := layerOf (programOf s p) l
  let T := targetAt s W p l
  let slot := pickRecon x (cfgF s W (Reg.PRG_NREF p)) (Config.openNat (encTaskNo p l) W 2)
  let s := writePicture (reconSlot s W p l slot) (reconSource s p l f kind j units) s
  let x := afterPicture (bitsPerFrame T (cfgF s W (Reg.PRG_RATE p))) j.budget run.bits x
  let new : EncRecon := ⟨f.tid, slot, W, run.done.map CodedBlock.vecs⟩
  let x := { x with
    recons := new :: x.recons.filter fun r => r.slot != slot
    sinceKey := (if key then 0 else (x.recons.take x.sinceKey).countP fun r => r.slot != slot) + 1 }
  let g := programOf s p
  let s := setProgram p { g with layers := ssetC layerInit g.layers l x } s
  let s := setL (setL (setL s (Reg.PRG_TARGET p l) T) (Reg.PRG_FULLNESS p l) x.fullness) (Reg.PRG_CARRY p l) x.carry
  let s := setL (setL s (Reg.PRG_LAST_BITS p l) run.bits) (Reg.PRG_LAST_QP p l) (meanQp run)
  encCount 0 (incL s (Reg.PRG_PICTURES p l))

/-- What a layer task counts and raises: a missing or poisoned source, poisoned references, want of space, a tail, the fallback
path. -/
def noteLayer (p l e : Nat) (f : EncFlight) (refPoison full tail fallback : Bool) (s : State) : State :=
  let s := raiseIf (f.source == 1) 0x183 s
  let s := if f.source = 2 ∧ encBarred s f.start p l then
      internalWorldFault (10 + e / 2) (cfgF s f.start (Reg.COMP_POOL_REGION (cfgF s f.start (Reg.PRG_COMP p)))) false s else s
  let s := if f.source = 2 ∨ refPoison then raiseEvent 0x184 (encError 0x03 p l e s) else s
  let s := if full then raiseEvent 0x182 (encCount 4 (incL s (Reg.PRG_SKIPPED p l))) else s
  let s := if tail then raiseEvent 0x181 (encCount 3 (incL s (Reg.PRG_TAIL p l))) else s
  if fallback then raiseEvent 0x188 (encCount 6 (incL s (Reg.PRG_FALLBACK p l))) else s

/-- A picture of layer l coded as a kind: whether it is a key frame, its job, its blocks and its units. -/
def codedAs (s : State) (p l : Nat) (f : EncFlight) (kind : PicKind) : Bool × CoderJob × CoderRun × List CodedUnit :=
  let key := match kind with
    | .main => f.keys.contains l
    | .repeat_ => false
    | .grey => true
  let j := coderJob s p l f key
  let run := codePicture s j kind
  (key, j, run, pictureUnits s p l f key j run)

/-- One layer's picture: from its source where there is one, as a repeat or grey picture where the source is missing or poisoned or the
engine's SRAM fails, and as such a picture too where the slot lacks the space (R283, R295, R301). -/
def layerPicture (p l e : Nat) (f : EncFlight) (sram : Nat) (s : State) : State :=
  let W := f.start
  let x := layerOf (programOf s p) l
  let spare := if hasRecon x then PicKind.repeat_ else .grey
  let first := codedAs s p l f (if f.source != 0 || sram == 2 then spare else .main)
  let pay := fun (c : Bool × CoderJob × CoderRun × List CodedUnit) => unitPayloads s p l f c.1 c.2.1.codec c.2.2.2
  let fits := decide (slotNeed f.pkts + slotNeed (layerPackets f l false (pay first)) + 16 ≤ outSlotBytes s W p)
  let kind := if f.source != 0 || sram == 2 || !fits then spare else .main
  let c := if fits then first else codedAs s p l f spare
  let inter := kind == .main && !c.1
  let fallback := inter && decide (windowsFit s W p l < (refsFor x f.tid (cfgF s W (Reg.PRG_NREF p))).length)
  let tail := fits && c.2.2.1.tail
  let refPoison := fits && c.2.2.1.poison
  let s := noteLayer p l e f refPoison (!fits) tail fallback s
  let s := codeLayer p l f c.1 kind c.2.1 c.2.2.1 c.2.2.2 s
  let flag := fun (b : Bool) (n flags : Nat) => if b && flags / n % 2 == 0 then flags + n else flags
  let f := { f with
    pkts := f.pkts ++ layerPackets f l c.1 (pay c)
    octets := f.octets ++ [(l, (pay c).foldl (fun n b => n + b.length) 0)]
    flags := flag fallback 64 (flag (!fits) 32 (flag tail 16 (flag refPoison 8 f.flags))) }
  let s := putFlight p f s
  let s := if cfgF s W (Reg.PRG_STATS_LAYER p) = l then writeStats p l f c.2.1 c.2.2.1 s else s
  if f.octets.length = cfgF s W (Reg.PRG_SPATIAL p) then publishFrame p f s else s

/-- ENCODE_TASK (R280): layer l of program p, for its running release. `sram` is what the engine's SRAM gave: 0 nothing, 1 a
corrected word, 2 an uncorrectable one, after which the layer codes a repeat picture (R301). -/
def encodeTask (p l : Nat) (sram : Nat) (s : State) : State :=
  match runningOf s (encTaskNo p l) with
  | none => s
  | some r =>
    if r.exit.isSome then s
    else if (programOf s p).dead.contains r.instant then setExit (encTaskNo p l) 0xFF s
    else
      let e := runsOn r
      let s := setF (setF s (Reg.ENC_ENGINE_STAT_PROGRAM e) p) (Reg.ENC_ENGINE_STAT_LAYER e) l
      let s := if sram = 1 then raiseEvent 0x185 (captureError .enc 0x01 1 false p 0 none s) else s
      let s := if sram = 2 then raiseEvent 0x186 (encError 0x02 p l e s) else s
      let fs := flightFor p r.instant r.deadline s
      setExit (encTaskNo p l) 0 (layerPicture p l e fs.1 sram fs.2)

/-- ENCODE_TIMEOUT (R301): a layer task has run for longer than TIMEOUT: its engine is reset, its flight publishes nothing, and
the program's next frame is a key frame. -/
def encodeTimeout (p l : Nat) (s : State) : State :=
  match runningOf s (encTaskNo p l) with
  | none => s
  | some r =>
    if r.exit.isSome ∨ s.now ≤ r.started + getF s Reg.ENC_CFG_TIMEOUT then s
    else
      let x := programOf s p
      let s := setProgram p { x with
        dead := r.instant :: x.dead.filter fun t => decide (oldestInstant s ≤ t), current := x.current.filter fun f => f.start != r.instant, forceKey := true } s
      setExit (encTaskNo p l) 0xFF (raiseEvent 0x187 (encError 0x04 p l (runsOn r) s))

/-! ### Commit (R276, R282, R291, R300) -/

/-- Declared rate of layer l of program p. -/
def layerRate (s : State) (p l : Nat) : Nat :=
  let c := getF s (Reg.PRG_COMP p)
  let z := layerSize (getF s (Reg.COMP_WIDTH c)) (getF s (Reg.COMP_HEIGHT c)) (getF s (Reg.PRG_SPATIAL p)) l
  declRate z.1 z.2 (getF s (Reg.PRG_RATE p))

/-- Declared rate of program p (R276). -/
def programRate (s : State) (p : Nat) : Nat :=
  let c := getF s (Reg.PRG_COMP p)
  let px := sumOf (fun l =>
    let z := layerSize (getF s (Reg.COMP_WIDTH c)) (getF s (Reg.COMP_HEIGHT c)) (getF s (Reg.PRG_SPATIAL p)) l
    z.1 * z.2) (List.range (getF s (Reg.PRG_SPATIAL p)))
  ceilDiv (px * treadsPerSecond) (ratePeriod (getF s (Reg.PRG_RATE p)))

/-- Enabled programs. -/
def enabledPrograms (s : State) : List Nat := (List.range 64).filter fun p => getF s (Reg.PRG_EN p) == 1

/-- Layers that an engine serves: program and layer. -/
def engineLayers (s : State) (e : Nat) : List (Nat × Nat) :=
  (enabledPrograms s).flatMap fun p => ((List.range (getF s (Reg.PRG_SPATIAL p))).filter fun l => getF s (Reg.PRG_ENGINE p l) == e).map
    fun l => (p, l)

/-- The state words that follow the committed descriptors. -/
def showEncode (s : State) : State :=
  let s := (List.range 64).foldl (fun s p => setF s (Reg.PRG_DECL_RATE p) (programRate s p)) s
  let s := (List.range 8).foldl (fun s e =>
    let l := engineLayers s e
    setF (setF s (Reg.ENC_ENGINE_STAT_LAYERS e) l.length) (Reg.ENC_ENGINE_DECL_RATE e) (l.foldl (fun n x => n + layerRate s x.1 x.2) 0)) s
  set64 s Reg.ENC_DECL_TOTAL_RATE_LO.addr (sumOf (programRate s) (enabledPrograms s))

/-- The fields whose change restarts a program (R300). -/
def restartFields (p : Nat) : List Fld :=
  [Reg.PRG_EN p, Reg.PRG_CODEC p, Reg.PRG_DEPTH10 p, Reg.PRG_SPATIAL p, Reg.PRG_TEMPORAL p, Reg.PRG_NREF p, Reg.PRG_COMP p,
   Reg.PRG_OUT_REGION p, Reg.PRG_OUT_OFS p, Reg.PRG_NOUT p, Reg.PRG_REC_REGION p, Reg.PRG_REC_OFS p, Reg.PRG_STATS_REGION p,
   Reg.PRG_STATS_OFS p, Reg.PRG_NSTATS p]

/-- The fields whose change clamps F to the new VBV (R291). -/
def rateFields (p l : Nat) : List Fld :=
  [Reg.PRG_BR_MIN p l, Reg.PRG_BR_MAX p l, Reg.PRG_MIN_QP p l, Reg.PRG_MAX_QP p l, Reg.PRG_VBV_MS p l, Reg.PRG_KEY_MUL p, Reg.PRG_ADAPT p l]

/-- F of layer l clamped to its VBV. -/
def clampFullness (p l : Nat) (s : State) : State :=
  let g := programOf s p
  let x := layerOf g l
  let vbv := vbvOf (targetAt s s.now p l) (getF s (Reg.PRG_VBV_MS p l))
  let x := { x with fullness := min x.fullness vbv }
  setL (setProgram p { g with layers := ssetC layerInit g.layers l x } s) (Reg.PRG_FULLNESS p l) x.fullness

/-- What a commit does at the programs: restarts, clamped rate state, declared rates. -/
def encodeCommit (old : State) (addrs : List Nat) (s : State) : State :=
  if !(addrs.any fun a => (0x83800000 ≤ a && a < 0x83808000) || (0x83400000 ≤ a && a < 0x83404000)) then s
  else
    let moved := fun (fs : List Fld) => fs.any fun f => getF old f != getF s f
    let s := (List.range 64).foldl (fun s p =>
      let c := getF s (Reg.PRG_COMP p)
      let s := if moved (restartFields p ++ [Reg.COMP_WIDTH c, Reg.COMP_HEIGHT c]) then
          setProgram p { programOf s p with restarts := (programOf s p).restarts ++ [s.epoch.newestAt] } s else s
      [0, 1, 2].foldl (fun s l => if moved (rateFields p l) then clampFullness p l s else s) s) s
    showEncode s

end Sys2Proof.Machine
end

