-- ==== Sys2Proof/Machine/Forward.lean ====
section
/-! DEFINITION. The forwarding unit: capacity estimates, layer selection, forwarding tasks and encode targets (Layer forwarding
and egress shaping). -/

namespace Sys2Proof.Machine

/-- A video leg without history. -/
def vlegInit : VlegState := ⟨[], 0, 0, []⟩

/-- Video leg v beyond its entry. -/
def vlegOf (s : State) (v : Nat) : VlegState := sgetC vlegInit s.shp.vlegs v

/-- Replace it. -/
def setVleg (v : Nat) (x : VlegState) (s : State) : State :=
  { s with shp := { s.shp with vlegs := ssetC vlegInit s.shp.vlegs v x } }

/-- Count in SHP_CNT. -/
def shpCount (c : Nat) (s : State) : State := incF s (Reg.SHP_CNT_COUNT c)

/-! ### Capacity estimate (R304, R305) -/

/-- C of a leg from an instant on. -/
def setCap (v : Nat) (t : Treads) (c : Nat) (s : State) : State :=
  let s := setL s (Reg.VLEG_CAP v) c
  setVleg v { vlegOf s v with caps := (t, c) :: keepFrom (oldestInstant s) (vlegOf s v).caps } s

/-- C of a leg for the forwarding of the flight that starts at W (R306). -/
def capBefore (s : State) (v : Nat) (W : Treads) : Nat := valueBefore (vlegOf s v).caps W (getL s (Reg.VLEG_CAP v))

/-- What one report found: received, lost, the first and last arrival and slot. -/
structure CapRun where
  recv  : Nat
  lost  : Nat
  first : Option (Int × Nat)
  last  : Option (Int × Nat)
  deriving DecidableEq, Repr

/-- One reported sequence. -/
def capEntry (h : List (Nat × Treads × Nat)) (x : CapRun) (q : Nat × Bool × Nat) : CapRun :=
  match h.find? (fun e => e.1 == q.1) with
  | none => x
  | some e =>
    if q.2.1 then
      let a : Int := (-((q.2.2 * 275625 : Nat) : Int)).tdiv 2
      { x with recv := x.recv + 1, first := if x.first.isSome then x.first else some (a, e.2.1), last := some (a, e.2.1) }
    else { x with lost := x.lost + 1 }

/-- C after a report (R304). -/
def capNext (lossLo lossHi grad cmin cmax : Nat) (x : CapRun) (c : Nat) : Nat :=
  let loss := x.lost * 256 / (x.recv + x.lost)
  let g : Int := match x.first, x.last with
    | some f, some l => if 2 ≤ x.recv then (l.1 - l.2) - (f.1 - f.2) else 0
    | _, _ => 0
  if lossHi < loss ∨ (grad : Int) < g then max cmin (c * 7 / 8)
  else if loss ≤ lossLo ∧ g ≤ 0 then min cmax (c + max (c / 64) 8)
  else c

/-- One RFC 8888 report for a leg, applied at the end of an audio flight. -/
def applyReport (t : Treads) (r : CapReport) (s : State) : State :=
  let v := r.vleg
  let x := r.reports.foldl (capEntry (vlegOf s v).history) ⟨0, 0, none, none⟩
  if getF s (Reg.VLEG_EN v) = 0 ∨ x.recv + x.lost = 0 then s
  else
    let c := capNext (getF s Reg.SHP_FWD_CFG_LOSS_LO) (getF s Reg.SHP_FWD_CFG_LOSS_HI) (getF s Reg.SHP_FWD_GRAD_GRAD_THR)
      (getF s (Reg.VLEG_CAP_MIN v)) (getF s (Reg.VLEG_CAP_MAX v)) x (getL s (Reg.VLEG_CAP v))
    let s := addL (incL s (Reg.VLEG_REPORTS v)) (Reg.VLEG_LOST v) x.lost
    setCap v t c (setVleg v { vlegOf s v with quiet := 0 } s)

/-- A program flight of a leg ends: the flights with packets and without a report (R305). Assumption 103 (DEDUCED). -/
def noteQuiet (v : Nat) (X : Treads) (got : Bool) (s : State) : State :=
  let x := vlegOf s v
  let n := if got then x.quiet + 1 else 0
  if n = 16 then
    setCap v X (max (getF s (Reg.VLEG_CAP_MIN v)) (getL s (Reg.VLEG_CAP v) / 2)) (setVleg v { x with quiet := 0 } s)
  else setVleg v { x with quiet := n } s

/-! ### Layer selection (R306 to R310) -/

/-- Temporal share in sixteenths (Table 1 of Layer forwarding and egress shaping). -/
def shareOf : Nat → Nat → Nat
  | 2, 0 => 10
  | 3, 0 => 6 | 3, 1 => 10
  | _, _ => 16

/-- Rate of a combination of layers of program p for the flight that starts at W (R306). -/
def comboRate (s : State) (W : Treads) (p l t : Nat) : Nat :=
  let share := shareOf (cfgF s W (Reg.PRG_TEMPORAL p)) t
  if cfgF s W (Reg.PRG_CODEC p) = 0 then sumOf (targetAt s W p) (List.range (l + 1)) * share / 16
  else targetAt s W p l * share / 16

/-- Budget of a capacity under a HEADROOM (R307). -/
def budgetFor (headroom c : Nat) : Nat := c * headroom / 16

/-- The wanted combination of a leg, and whether the leg is held (R307). -/
def wantedLayers (s : State) (W : Treads) (p v : Nat) : (Nat × Nat) × Bool :=
  let f := fun r => cfgF s W r
  if f (Reg.VLEG_PIN v) = 1 then ((f (Reg.VLEG_PIN_S v), f (Reg.VLEG_PIN_T v)), false)
  else
    let topS := f (Reg.PRG_SPATIAL p) - 1
    let topT := f (Reg.PRG_TEMPORAL p) - 1
    let s0 := min (f (Reg.VLEG_S_MIN v)) topS
    let s1 := min (f (Reg.VLEG_S_MAX v)) topS
    let t0 := min (f (Reg.VLEG_T_MIN v)) topT
    let t1 := min (f (Reg.VLEG_T_MAX v)) topT
    let combos := ((List.range (s1 + 1)).filter (s0 ≤ ·)).flatMap fun l => ((List.range (t1 + 1)).filter (t0 ≤ ·)).map fun t => (l, t)
    let b := budgetFor (f Reg.SHP_FWD_CFG_HEADROOM) (capBefore s v W)
    match (combos.filter fun c => decide (comboRate s W p c.1 c.2 ≤ b)).getLast? with
    | some c => (c, false)
    | none => ((s0, t0), true)

/-- The unit asks program p for a key frame of a layer (R309); it acts from an instant. Assumption 102 (DEDUCED). -/
def requestKey (p l : Nat) (t : Treads) (s : State) : State :=
  let x := programOf s p
  raiseEvent 0x0CB (shpCount 5 (encCount 1 (setProgram p { x with keyReqs := x.keyReqs ++ [(l, t)] } s)))

/-- The leg takes a spatial and a temporal layer. -/
def takeLayers (v l t : Nat) (s : State) : State :=
  let same := getL s (Reg.VLEG_NONE v) = 0 ∧ getL s (Reg.VLEG_CUR_S v) = l
  let s := setL (setL (setL s (Reg.VLEG_CUR_S v) l) (Reg.VLEG_CUR_T v) t) (Reg.VLEG_NONE v) 0
  let s := setL (setL s (Reg.VLEG_PENDING v) 0) (Reg.VLEG_PEND_S v) 0
  if same then s else shpCount 4 (incL s (Reg.VLEG_SWITCHES v))

/-- Layer selection for one leg and one frame (R307 to R310); `keyHere` says for a layer whether this frame is a key frame of
it, and `restart` whether the frame restarts the program. -/
def selectLayers (W : Treads) (p v : Nat) (keyHere : Nat → Bool) (restart : Bool) (s : State) : State :=
  let w := wantedLayers s W p v
  let run := if w.2 then (vlegOf s v).heldRun + 1 else 0
  let s := setVleg v { vlegOf s v with heldRun := run } (setL s (Reg.VLEG_HELD v) w.2.toNat)
  let s := if w.2 then shpCount 6 s else s
  let s := raiseIf (run == 3) 0x0C9 s
  let l := w.1.1
  let t := w.1.2
  let none_ := getL s (Reg.VLEG_NONE v) = 1
  let cur := getL s (Reg.VLEG_CUR_S v)
  if restart then takeLayers v l t s
  else if !none_ ∧ l = cur then takeLayers v l t s
  else if !none_ ∧ cfgF s W (Reg.PRG_CODEC p) = 0 ∧ l < cur then takeLayers v l t s
  else if keyHere l then takeLayers v l t s
  else
    let known := getL s (Reg.VLEG_PENDING v) = 1 ∧ getL s (Reg.VLEG_PEND_S v) = l
    let s := setL (setL s (Reg.VLEG_PENDING v) 1) (Reg.VLEG_PEND_S v) l
    let s := if none_ then s else setL s (Reg.VLEG_CUR_T v) t
    if known then s else requestKey p l (flightNumber s (W - 1) * flightLen s) s

/-! ### Forwarding tasks (R302, R303) -/

/-- A packet of an output slot as the unit reads it: SID, TID, KEY, RTP timestamp, payload and poison. -/
structure SlotPacket where
  sid     : Nat
  tid     : Nat
  key     : Bool
  rtpTs   : Nat
  payload : List Byte
  poison  : Bool
  deriving DecidableEq, Repr

/-- The packets of a slot from an address, up to the header with LEN 0 or the slot's end. -/
def readSlot (s : State) (a end_ : Nat) : Nat → List SlotPacket
  | 0 => []
  | fuel + 1 =>
    let h := memBytes s a 16
    let n := leAt h 0 2
    if end_ < a + 16 + n ∨ n = 0 then []
    else
      let m := byteAt h 2
      ⟨m % 4, m / 4 % 4, m / 16 % 2 == 1, leAt h 4 4, memBytes s (a + 16) n, rangePoisoned s a (16 + n)⟩ ::
        readSlot s (a + 16 + ceilDiv n 16 * 16) end_ fuel

/-- Words of packets that wait at a queue: the sequence that a new packet will take. -/
def nextSeqOf (s : State) (q : Nat) : Nat :=
  (getF s (Reg.QUEUE_SEQ q) + (queueOf s q).backlog.countP (·.first.isSome)) % 65536

/-- Keep a packet in a leg's history (R304). -/
def noteSent (v q : Nat) (slot : Treads) (len : Nat) (s : State) : State :=
  if getF s (Reg.QUEUE_EN q) = 0 then s
  else
    let x := vlegOf s v
    let frame := frameLen (getF s (Reg.QUEUE_HLEN q) + len +
      (match (txOf s q).key with | some k => tagLen k.profile | none => 0))
    setVleg v { x with history := ((nextSeqOf s q, slot, frame) :: x.history).take 1024 } s

/-- Send one packet of a leg's frame. -/
def forwardPacket (W : Treads) (p v : Nat) (slot : Treads) (last : Bool) (k : SlotPacket) (s : State) : State :=
  let h : PktPrefix := ⟨slot, k.payload.length, k.rtpTs, last, false⟩
  let a := cfgF s W (Reg.VLEG_A_EN v) = 1
  let b := cfgF s W (Reg.VLEG_B_EN v) = 1
  let qa := cfgF s W (Reg.VLEG_QUEUE_A v)
  let qb := cfgF s W (Reg.VLEG_QUEUE_B v)
  let s := if a then noteSent v qa slot k.payload.length s else if b then noteSent v qb slot k.payload.length s else s
  let s := if a then emitPacket qa (22240 + p) h k.payload k.poison s else s
  if b then emitPacket qb (22240 + p) h k.payload k.poison s else s

/-- One leg of a forwarding task. -/
def forwardLeg (W X : Treads) (p : Nat) (pub : EncPub) (pkts : List SlotPacket) (v : Nat) (s : State) : State :=
  let keyHere := fun l => pub.flags % 2 == 1 && pkts.any fun k => k.sid == l && k.key
  let s := selectLayers W p v keyHere pub.restart s
  let curS := getL s (Reg.VLEG_CUR_S v)
  let curT := getL s (Reg.VLEG_CUR_T v)
  let av1 := cfgF s W (Reg.PRG_CODEC p) = 0
  let mine := if getL s (Reg.VLEG_NONE v) = 1 then []
    else pkts.filter fun k => decide (k.tid ≤ curT) && (if av1 then decide (k.sid ≤ curS) else k.sid == curS)
  let n := mine.length
  let span := ratePeriod (cfgF s W (Reg.PRG_RATE p)) * cfgF s W (Reg.VLEG_PACE v)
  let s := ((List.range n).zip mine).foldl (fun s e => forwardPacket W p v (X + e.1 * span / (16 * n)) (e.1 + 1 == n) e.2 s) s
  let s := if n = 0 then s else incL s (Reg.VLEG_FRAMES v)
  noteQuiet v X (n != 0) s

/-- The enabled legs of a program. -/
def programLegs (s : State) (W : Treads) (p : Nat) : List Nat :=
  (List.range 2048).filter fun v => cfgF s W (Reg.VLEG_EN v) == 1 && cfgF s W (Reg.VLEG_PROGRAM v) == p

/-- A video leg as at its enable: no layer, no history, C at CAP_INIT. -/
def startLeg (v : Nat) (s : State) : State :=
  let s := setVleg v vlegInit s
  let s := setL (setL (setL s (Reg.VLEG_CUR_S v) 0) (Reg.VLEG_CUR_T v) 0) (Reg.VLEG_NONE v) 1
  let s := setL (setL (setL s (Reg.VLEG_PENDING v) 0) (Reg.VLEG_PEND_S v) 0) (Reg.VLEG_HELD v) 0
  setCap v s.epoch.newestAt (getF s (Reg.VLEG_CAP_INIT v)) s

/-- What an error in the unit's SRAM words does (R326): a corrected bit is counted; an uncorrectable word of a leg's state restarts
the leg. -/
def forwardError (e : FwdError) (s : State) : State :=
  match e with
  | .corrected => raiseEvent 0x0CC (captureError .shp 0x01 1 false 0 0 none (shpCount 7 s))
  | .leg v => raiseEvent 0x0CD (captureError .shp 0x02 2 false v.val 0 none (startLeg v s))

/-- FORWARDING_TASK (R303): program p's task, for its running release; a flight whose encode was abandoned forwards nothing
(R302). `errors` lists what the unit's SRAM words meet. -/
def forwardingTask (p : Nat) (errors : List FwdError) (s : State) : State :=
  match runningOf s (22240 + p) with
  | none => s
  | some r =>
    if r.exit.isSome then s
    else
      let W := r.instant
      let s := errors.foldl (fun s e => forwardError e s) s
      let s := match (programOf s p).pubs.find? (fun q => q.start == W) with
        | none => s
        | some pub =>
          let a := outSlot s W p pub.slot
          let pkts := readSlot s a (a + outSlotBytes s W p) (outSlotBytes s W p / 16)
          (programLegs s W p).foldl (fun s v => forwardLeg W r.deadline p pub pkts v s) s
      setExit (22240 + p) 0 s

/-! ### The end of an audio flight (R304, R311) -/

/-- The raw target of layer l of program p, none where no leg qualifies (R311); `below` is the sum of the layers below. -/
def rawTarget (s : State) (p l below : Nat) : Option Int :=
  let legs := (List.range 2048).filter fun v => getF s (Reg.VLEG_EN v) == 1 && getF s (Reg.VLEG_PROGRAM v) == p &&
    getF s (Reg.VLEG_VOTE v) == 1 && getF s (Reg.VLEG_PIN v) == 0 && getL s (Reg.VLEG_NONE v) == 0 && getL s (Reg.VLEG_CUR_S v) == l
  legs.foldl (fun m v =>
    let b := budgetFor (getF s Reg.SHP_FWD_CFG_HEADROOM) (getL s (Reg.VLEG_CAP v))
    let x : Int := (b * 16 / shareOf (getF s (Reg.PRG_TEMPORAL p)) (getL s (Reg.VLEG_CUR_T v)) : Nat) -
      (if getF s (Reg.PRG_CODEC p) = 0 then below else 0)
    some (match m with | some y => min x y | none => x)) none

/-- The target of layer l of program p at the end of an audio flight; the answer adds it to the sum below. -/
def encodeTarget (t : Treads) (p : Nat) (a : Nat × State) (l : Nat) : Nat × State :=
  let s := a.2
  let lo := getF s (Reg.PRG_BR_MIN p l)
  let hi := getF s (Reg.PRG_BR_MAX p l)
  if getF s (Reg.PRG_ADAPT p l) = 0 then (a.1 + hi, s)
  else
    let raw := (rawTarget s p l a.1).getD hi
    let v := (clampI lo hi raw).toNat
    let k := 3 * p + l
    let run := if raw < lo then sgetC 0 s.shp.targetRun k + 1 else 0
    let old := sgetC [] s.shp.targets k
    let now := if (old.head?.map (·.2)) = some v then old else (t, v) :: keepFrom (oldestInstant s) old
    let s := { s with shp := { s.shp with targets := ssetC [] s.shp.targets k now, targetRun := ssetC 0 s.shp.targetRun k run } }
    (a.1 + v, raiseIf (run == 3) 0x0CA s)

/-- An audio flight ends at an instant: key-frame requests and reports take effect, and targets follow. -/
def forwardFlight (t : Treads) (s : State) : State :=
  let s := takeKeyRequests s
  let reports := s.ports.reports
  let s := { s with ports := { s.ports with reports := [] } }
  let s := reports.foldl (fun s r => applyReport t r s) s
  (enabledPrograms s).foldl (fun s p => ((List.range (getF s (Reg.PRG_SPATIAL p))).foldl (encodeTarget t p) (0, s)).2) s

/-! ### Commit (R304, R312, Table 2) -/

/-- CAP_SET. -/
def capSet (v c : Nat) (s : State) : State :=
  setCap v s.epoch.newestAt (max (getF s (Reg.VLEG_CAP_MIN v)) (min (getF s (Reg.VLEG_CAP_MAX v)) c)) s

/-- REFRESH: a key frame of the leg's current layer. -/
def refreshLeg (v : Nat) (s : State) : State :=
  if getL s (Reg.VLEG_NONE v) = 1 ∨ getF s (Reg.VLEG_EN v) = 0 then s
  else requestKey (getF s (Reg.VLEG_PROGRAM v)) (getL s (Reg.VLEG_CUR_S v)) s.epoch.newestAt s

/-- What a commit does at the video legs: one that is enabled has no layer and C at CAP_INIT, as after a change to CAP_INIT. -/
def forwardCommit (old : State) (addrs : List Nat) (s : State) : State :=
  let hit := ((addrs.filter fun a => 0x80C20000 ≤ a && a < 0x80C60000).map fun a => (a - 0x80C20000) / 128).eraseDups
  hit.foldl (fun s v =>
    if getF old (Reg.VLEG_EN v) = 0 ∧ getF s (Reg.VLEG_EN v) = 1 then startLeg v s
    else if getF old (Reg.VLEG_CAP_INIT v) ≠ getF s (Reg.VLEG_CAP_INIT v) ∧ getF s (Reg.VLEG_EN v) = 1 then
      setCap v s.epoch.newestAt (getF s (Reg.VLEG_CAP_INIT v)) s
    else s) s

end Sys2Proof.Machine
end

