-- ==== Sys2Proof/Machine/Checks.lean ====
section
/-! DEFINITION. The checks of a commit: of each word as a write of its door, and of every entry and context as a request
leaves it (R113, R119, and the commit checks of each chapter). -/

namespace Sys2Proof.Machine

/-! ### Words (R15, R21, R104, R113, R456) -/

/-- Whether Undercroft partition n is cloister (WLD_PART). -/
def partCloister (s : State) (n : Nat) : Bool := getF s Reg.WLD_PART_CLOISTER / 2 ^ n % 2 == 1

/-- The bits of a word that name a DRAM region: high and low bit. -/
def regionField (a : Nat) : Option (Nat × Nat) :=
  if 0x83000000 ≤ a ∧ a < 0x83010000 ∧ a % 256 = 8 then some (7, 0)
  else if 0x83400000 ≤ a ∧ a < 0x83404000 ∧ a % 256 = 0 then some (17, 10)
  else if 0x83430000 ≤ a ∧ a < 0x83430400 ∧ a % 64 = 0 then some (18, 11)
  else if 0x83800000 ≤ a ∧ a < 0x83808000 ∧ (a % 512 = 8 ∨ a % 512 = 0x14 ∨ a % 512 = 0x1C) then some (7, 0)
  else none

/-- Whether an open door's write of v names a cloister region (R456). -/
def namesCloister (s : State) (d a : Nat) (v : Word) : Bool :=
  !doorCloister s d && (match regionField a with
    | some (hi, lo) => regionCloister s (bitsOf v hi lo)
    | none => false)

/-- The leg that a write of v to a word of the modem names (R66). -/
def modemLeg (a : Nat) (v : Word) : Option Nat :=
  if 0x701000 ≤ a ∧ a < 0x702000 ∧ a % 64 = 0 then some (bitsOf v 17 4)
  else if 0x702000 ≤ a ∧ a < 0x702400 ∧ a % 16 = 0 then some (bitsOf v 18 5)
  else if 0x704000 ≤ a ∧ a < 0x708000 ∧ a % 16 = 0 then some (bitsOf v 14 1)
  else none

/-- Whether a field holds an audio leg's identifier. -/
def legField (f : FieldDef) : Bool := f.max == 10239

/-- The RWE fields of a word to which v gives an encoding that they do not list. -/
def unlisted (w : WordDef) (v : Word) : List FieldDef :=
  w.fields.filter fun f => f.acc == .rwe && !fieldLists f (bitsOf v f.hi f.lo)

/-- The status of one pair of a request of door d, as if it were a write to an RWE field: world, target, partition, range,
encoding; 0 where it passes. -/
def wordStatus (s : State) (d a : Nat) (v : Word) : Nat :=
  if !reaches s d a || namesCloister s d a v then stWorld
  else match findWord a with
    | none => stBadTarget
    | some (w, is) =>
      if !wordHasAcc w .rwe then stBadTarget
      else if !guardAdmits s d w.guard is then stPartition
      else if (unlisted w v).any legField then stRange
      else if !(unlisted w v).isEmpty then stBadArgs
      else if (modemLeg a v).any fun l => !owns s d 0 l then stPartition
      else 0

/-- Commit v to the RWE fields of a word (R17). -/
def commitWord (a : Nat) (v : Word) (s : State) : State :=
  match findWord a with
  | none => s
  | some (w, _) =>
    rset s a (w.fields.foldl (fun o f => if f.acc = .rwe then putBits o f.hi f.lo (bitsOf v f.hi f.lo) else o) (rget s a))

/-! ### Objects -/

/-- The entries and contexts that a chapter checks as a whole. -/
inductive CfgObj where
  | entry (i : Nat) | leg (l : Nat) | recipe (l : Nat) | xpoint (e : Nat) | queue (q : Nat) | service (v : Nat)
  | vleg (v : Nat) | stream (n : Nat) | comp (c : Nat) | tile (t : Nat) | input (i : Nat) | output (n : Nat)
  | program (p : Nat) | task (t : Nat)
  deriving DecidableEq, Repr

/-- The entry or context that a word belongs to (Table 2 of Address map and register index). -/
def objOf (a : Nat) : Option CfgObj :=
  if a < 0x80000000 then none
  else if a < 0x80200000 then some (.entry ((a - 0x80000000) / 64))
  else if a < 0x802A0000 then some (.leg ((a - 0x80200000) / 64))
  else if 0x80400000 ≤ a ∧ a < 0x80C00000 then some (.queue ((a - 0x80400000) / 256))
  else if 0x80C00000 ≤ a ∧ a < 0x80C04000 then some (.service ((a - 0x80C00000) / 64))
  else if 0x80C20000 ≤ a ∧ a < 0x80C60000 then some (.vleg ((a - 0x80C20000) / 128))
  else if 0x82000000 ≤ a ∧ a < 0x82200000 then some (.xpoint ((a - 0x82000000) / 8))
  else if 0x82400000 ≤ a ∧ a < 0x82540000 then some (.recipe ((a - 0x82400000) / 128))
  else if 0x83000000 ≤ a ∧ a < 0x83010000 then some (.stream ((a - 0x83000000) / 256))
  else if 0x83400000 ≤ a ∧ a < 0x83404000 then some (.comp ((a - 0x83400000) / 256))
  else if 0x83410000 ≤ a ∧ a < 0x83430000 then some (.tile ((a - 0x83410000) / 128))
  else if 0x83430000 ≤ a ∧ a < 0x83430400 then some (.input ((a - 0x83430000) / 64))
  else if 0x83431000 ≤ a ∧ a < 0x83431200 then some (.output ((a - 0x83431000) / 64))
  else if 0x83800000 ≤ a ∧ a < 0x83808000 then some (.program ((a - 0x83800000) / 512))
  else if 0x84000000 ≤ a ∧ a < 0x85000000 then some (.task ((a - 0x84000000) / 128))
  else none

/-- The first status of a list that is not OK. -/
def firstFail : List (Bool × Nat) → Nat
  | [] => 0
  | (bad, st) :: r => if bad then st else firstFail r

/-! ### Match entries (R136, R137, R160) -/

/-- Legs that a KIND 1 entry covers: the first and how many. -/
def entryLegs (s : State) (i : Nat) : List Nat :=
  (List.range (getF s (Reg.MATCH_SUB i) % 8 + 1)).map (getF s (Reg.MATCH_OBJECT i) + ·)

/-- Whether every object that entry i names lies in door d's partition. -/
def entryOwned (s : State) (d i : Nat) : Bool :=
  let o := getF s (Reg.MATCH_OBJECT i)
  match getF s (Reg.MATCH_KIND i) with
  | 1 => (entryLegs s i).all fun l => owns s d 0 l
  | 2 => owns s d 1 o
  | 3 => d == devOwner s
  | 4 => d == devOwner s
  | 5 => owns s d (getF s (Reg.MATCH_SUB i) % 4) o
  | 6 => getF s (Reg.MATCH_SUB i) % 4 == d
  | _ => false

/-- Whether entry i names an object outside its range. -/
def entryRange (s : State) (i : Nat) : Bool :=
  let o := getF s (Reg.MATCH_OBJECT i)
  (match getF s (Reg.MATCH_KIND i) with
   | 1 => decide (10239 < o + getF s (Reg.MATCH_SUB i) % 8)
   | 2 => decide (255 < o)
   | 3 => decide (15 < o)
   | 4 => decide (15 < o)
   | 5 => decide (kindLast (getF s (Reg.MATCH_SUB i) % 4) < o)
   | _ => false) ||
  (getF s (Reg.MATCH_CIPHER i) == 1 && getF s (Reg.MATCH_KIND i) != 6 && decide (16383 < getF s (Reg.MATCH_CIX i)))

/-- Whether KIND or SUB of entry i holds a value that Table 3 does not list. -/
def entryEncoding (s : State) (i : Nat) : Bool :=
  let sub := getF s (Reg.MATCH_SUB i)
  match getF s (Reg.MATCH_KIND i) with
  | 0 => true
  | 1 => decide (7 < sub)
  | 5 => decide (2 < sub)
  | 6 => decide (3 < sub)
  | _ => sub != 0

/-- Whether entry i names a receive context that another door holds (R160). -/
def entryCipher (s : State) (d i : Nat) : Bool :=
  getF s (Reg.MATCH_CIPHER i) == 1 && getF s (Reg.MATCH_KIND i) != 6 &&
    (match (rxOf s (getF s (Reg.MATCH_CIX i))).door with | some h => h != d | none => false)

/-- Whether another valid entry carries the key of entry i: it lies in the same bucket (R137). -/
def entryTwice (s : State) (i : Nat) : Bool :=
  [0, 1, 2, 3].any fun w =>
    let j := i / 4 * 4 + w
    j != i && getF s (Reg.MATCH_VALID j) == 1 && entryKey s j == entryKey s i

/-- The check of a match entry that a request of door d wrote: the objects of an entry left invalid are the door's too, where its
KIND names one (R136, R137). -/
def checkEntry (old s : State) (d i : Nat) : Nat :=
  let valid := getF s (Reg.MATCH_VALID i) == 1
  firstFail [
    (getF old (Reg.MATCH_VALID i) == 1 && !entryOwned old d i, stPartition),
    (valid && entryEncoding s i, stBadArgs),
    (valid && entryRange s i, stRange),
    (if valid then !entryOwned s d i || entryCipher s d i else getF s (Reg.MATCH_KIND i) != 0 && !entryOwned s d i, stPartition),
    (valid && keyBucket (entryKey s i) != i / 4, 0x100),
    (valid && entryTwice s i, 0x101)]

/-! ### Audio legs (R138, R140, R180, R223) -/

/-- Whether a format takes a packet time: PCM 0 to 4, codecs 5 and 6 (R138). -/
def ptimeOk (fmt ptime : Nat) : Bool :=
  match fmt with
  | 0 => true
  | 7 => true
  | 1 => decide (ptime ≤ 4)
  | 2 => decide (ptime ≤ 4)
  | _ => ptime == 5 || ptime == 6

/-- The placement record of leg l. -/
def legPlace (s : State) (l : Nat) : Option Placement := s.cht.loaded.places.find? fun p => p.kind == 0 && p.object == l

/-- Bits of SERVICES that a format needs. -/
def fmtService : Nat → Nat
  | 3 => 8 | 4 => 16 | 5 => 32 | 6 => 32 | _ => 0

/-- The services that leg l's entry enables. -/
def legServices (s : State) (l : Nat) : Nat :=
  getF s (Reg.LEG_EC_EN l) + 2 * getF s (Reg.LEG_NS_EN l) + 4 * getF s (Reg.LEG_AGC_EN l) +
    (fmtService (getF s (Reg.LEG_IN_FMT l)) ||| fmtService (getF s (Reg.LEG_OUT_FMT l)))

/-- Whether a service is enabled that the leg may not use, or JB_MAX lies above its ceiling (R180). -/
def notPlaced (s : State) (l : Nat) : Bool :=
  match legPlace s l with
  | some p => (legServices s l &&& (255 - p.services)) != 0 || decide (p.jbCeil < getF s (Reg.LEG_JB_MAX l))
  | none => true

/-- Whether a format is a codec's. -/
def codecFmt (f : Nat) : Bool := decide (3 ≤ f) && decide (f ≤ 6)

/-- The codec legs, found in the table's listed words. -/
def codecLegs (s : State) : List Nat :=
  ((s.regs.filter fun e => decide (0x80200000 ≤ e.1) && decide (e.1 < 0x802A0000) && e.1 % 64 == 0).filter fun e =>
    codecFmt (bitsOf e.2 3 0) || codecFmt (bitsOf e.2 13 10)).map fun e => (e.1 - 0x80200000) / 64

/-- A door's quotas. -/
def quotaOf (s : State) (d : Nat) : Quota := s.cht.loaded.quotas.getD d ⟨0, 0, 0, 0, 0, 0, 0⟩

/-- Whether an enabled path of a leg or context names a queue that door d does not own. -/
def pathsUnowned (s : State) (d : Nat) (qa ae qb be : Fld) : Bool :=
  (getF s ae == 1 && !owns s d 6 (getF s qa)) || (getF s be == 1 && !owns s d 6 (getF s qb))

/-- The leg whose output group leg l belongs to (OUT_FMT 7). -/
def groupLeader (s : State) (l : Nat) : Option Nat :=
  if getF s (Reg.LEG_OUT_FMT l) ≠ 7 then some l
  else (((List.range 7).map (· + 1)).find? fun k => decide (k ≤ l) && getF s (Reg.LEG_OUT_FMT (l - k)) != 7).bind fun k =>
    if k ≤ getF s (Reg.LEG_OUT_CHANNELS (l - k)) then some (l - k) else none

/-- Whether leg l meets the conditions of R223. -/
def sideToneOk (s : State) (l : Nat) : Bool :=
  let pcm := fun f => f == 1 || f == 2
  pcm (getF s (Reg.LEG_IN_FMT l)) && getF s (Reg.LEG_IN_RATE l) == 0 && getF s (Reg.LEG_IN_PTIME l) == 0 &&
    getF s (Reg.LEG_EC_EN l) == 0 && decide (2 ≤ s.cht.loaded.k) &&
    (match groupLeader s l with
     | some g => pcm (getF s (Reg.LEG_OUT_FMT g)) && getF s (Reg.LEG_OUT_PTIME g) == 0
     | none => false)

/-- ST_EN on a leg that fails R223. -/
def sideToneBad (s : State) (l : Nat) : Bool := getF s (Reg.RCP_ST_EN l) == 1 && !sideToneOk s l

/-- Whether an output format takes a number of channels beyond the first (R209): two for Opus, one for G.722 and G.711. -/
def channelsOk (fmt more : Nat) : Bool :=
  match fmt with
  | 3 => decide (more ≤ 1)
  | 4 => more == 0
  | 5 => more == 0
  | 6 => more == 0
  | _ => true

/-- The check of an audio leg that a request of door d wrote. -/
def checkLeg (s : State) (d l : Nat) : Nat :=
  let opus := getF s (Reg.LEG_IN_FMT l) == 3 || getF s (Reg.LEG_OUT_FMT l) == 3
  let codec := codecFmt (getF s (Reg.LEG_IN_FMT l)) || codecFmt (getF s (Reg.LEG_OUT_FMT l))
  let legs := codecLegs s
  let lo := getF s (Reg.LEG_JB_MIN l)
  let hi := getF s (Reg.LEG_JB_MAX l)
  let at_ := getF s (Reg.LEG_JB_INIT l)
  firstFail [
    (pathsUnowned s d (Reg.LEG_QUEUE_A l) (Reg.LEG_A_EN l) (Reg.LEG_QUEUE_B l) (Reg.LEG_B_EN l), stPartition),
    (!ptimeOk (getF s (Reg.LEG_IN_FMT l)) (getF s (Reg.LEG_IN_PTIME l)) ||
      !ptimeOk (getF s (Reg.LEG_OUT_FMT l)) (getF s (Reg.LEG_OUT_PTIME l)) ||
      !channelsOk (getF s (Reg.LEG_OUT_FMT l)) (getF s (Reg.LEG_OUT_CHANNELS l)) ||
      (opus && decide (getF s (Reg.LEG_BITRATE l) < 60)), stBadArgs),
    (notPlaced s l, 0x130),
    (decide (hi < lo) || decide (at_ < lo) || decide (hi < at_), 0x131),
    (codec && decide (4096 < legs.length), stCapacity),
    (codec && decide ((quotaOf s d).codecLegs < (legs.filter fun x => owns s d 0 x).length), stQuota),
    ((List.range 8).any fun k => decide (l + k ≤ 10239) && sideToneBad s (l + k), 0x141)]

/-! ### The Gallery (R87, R214, R216, R223) -/

/-- The valid crosspoint entries among the table's listed words. -/
def validXps (s : State) : List Nat :=
  ((s.regs.filter fun e => decide (0x82000000 ≤ e.1) && decide (e.1 < 0x82200000) && e.1 % 8 == 0).filter fun e =>
    bitsOf e.2 26 26 == 1).map fun e => (e.1 - 0x82000000) / 8

/-- The check of a crosspoint entry. -/
def checkXpoint (old s : State) (d e : Nat) : Nat :=
  let valid := getF s (Reg.XP_VALID e) == 1
  let leg := getF s (Reg.XP_LEG e)
  let bus := getF s (Reg.XP_BUS e)
  firstFail [
    (getF old (Reg.XP_VALID e) == 1 && !owns s d 5 (getF old (Reg.XP_BUS e)), stPartition),
    (valid && (!owns s d 5 bus || !owns s d 0 leg), stPartition),
    (valid && (validXps s).any fun x => x != e && getF s (Reg.XP_LEG x) == leg && getF s (Reg.XP_BUS x) == bus, 0x140)]

/-- Whether a bus is shared (R87). -/
def busShared (s : State) (b : Nat) : Bool := (assignOf s 5 b).any (·.shared)

/-- The check of leg l's recipe. -/
def checkRecipe (s : State) (d l : Nat) : Nat :=
  firstFail [
    ((List.range 8).any fun j => getF s (Reg.RCP_TERM_EN l j) == 1 &&
      !(owns s d 5 (getF s (Reg.RCP_TERM_BUS l j)) || busShared s (getF s (Reg.RCP_TERM_BUS l j))), stPartition),
    ((List.range 4).any fun m => getF s (Reg.RCP_EXCL_EN l m) == 1 && getF s (Reg.RCP_EXCL_AUTO l m) == 0 &&
      !owns s d 0 (getF s (Reg.RCP_EXCL_LEG l m)), stPartition),
    (sideToneBad s l, 0x141)]

/-! ### Queues and services (R151, R327) -/

/-- Whether the rate fields that a LIMIT uses break R327. -/
def rateBad (limit cir pir cbs pbs quantum : Nat) : Bool :=
  (limit == 1 && (cir == 0 || decide (100000000 < cir))) ||
  (limit == 2 && (pir == 0 || decide (pir < cir) || decide (100000000 < cir) || decide (100000000 < pir) || decide (cbs < 64) ||
    decide (pbs < 64))) || decide (quantum < 64)

/-- The check of a queue's descriptor. -/
def checkQueue (s : State) (d q : Nat) : Nat :=
  let svc := getF s (Reg.QUEUE_SERVICE q)
  let home := s.cht.loaded.services.getD svc (4, 4)
  let depth := getF s (Reg.QUEUE_DEPTH_MAX q)
  let hlen := getF s (Reg.QUEUE_HLEN q)
  if getF s (Reg.QUEUE_EN q) = 0 then 0
  else firstFail [
    (tiered s && home.2 != d, stPartition),
    (decide (depth < 8) || decide (65536 < depth), stBadArgs),
    (decide (hlen < 54) || decide (78 < hlen) || !queueTemplateOk s q, 0x102),
    (rateBad (getF s (Reg.QUEUE_LIMIT q)) (getF s (Reg.QUEUE_CIR q)) (getF s (Reg.QUEUE_PIR q)) (getF s (Reg.QUEUE_CBS q))
      (getF s (Reg.QUEUE_PBS q)) (getF s (Reg.QUEUE_QUANTUM q)), 0x190),
    (if tiered s then home.1 != getF s (Reg.QUEUE_PORT q) else svc != 0, 0x191)]

/-- The check of a service entry. -/
def checkService (s : State) (v : Nat) : Nat :=
  if rateBad (2 * getF s (Reg.SVC_LIMIT v)) (getF s (Reg.SVC_CIR v)) (getF s (Reg.SVC_PIR v)) (getF s (Reg.SVC_CBS v))
    (getF s (Reg.SVC_PBS v)) (getF s (Reg.SVC_QUANTUM v)) then 0x190 else 0

/-! ### Pools (R243, R294, R351) -/

/-- Whether n bytes at an offset of 4 KiB units fail to fit in a region that is not a HOST region. -/
def poolBad (s : State) (region ofs n : Nat) : Bool :=
  regionHost s region || decide ((regionOf s region).2 < ofs * 4096 + n)

/-- The least number of slots of a rate (R243, R294). -/
def minSlots (rate : Nat) : Nat := 3 + ceilDiv reuseTreads (ratePeriod rate)

/-! ### Streams (R235, R457) -/

/-- Enabled streams. -/
def enabledStreams (s : State) : List Nat := allStreams.filter fun n => getF s (Reg.STR_EN n) == 1

/-- Whether the clock gate of an engine is closed (R441): 48 + e a decode engine's, 60 + e an encode engine's. -/
def gateShut (s : State) (n : Nat) : Bool := getF s (Reg.CLK_GATE_OPEN n) == 0

/-- Status GATED, checked after what the chapter of the object lists (R444). -/
def stGated : Nat := 0x110

/-- The check of a stream's context. -/
def checkStream (s : State) (d n : Nat) : Nat :=
  let region := getF s (Reg.STR_POOL_REGION n)
  let w := getF s (Reg.STR_MAX_W n)
  let h := getF s (Reg.STR_MAX_H n)
  let codec := getF s (Reg.STR_CODEC n)
  let npic := getF s (Reg.STR_NPIC n)
  let on := engineStreams s (getF s (Reg.STR_ENGINE n))
  if getF s (Reg.STR_EN n) = 0 then 0
  else firstFail [
    (decOpen s (getF s (Reg.STR_ENGINE n)) && regionCloister s region, stWorld),
    (!owns s d 1 n || !owns s d 7 region, stPartition),
    (decide (2 < codec) || decide (w < 64) || decide (3840 < w) || decide (h < 64) || decide (2160 < h) || w % 2 == 1 ||
      h % 2 == 1 || (codec == 2 && getF s (Reg.STR_DEPTH10 n) == 1), 0x152),
    (poolBad s region (getF s (Reg.STR_POOL_OFS n)) (npic * (streamLayout s s.now n).2.2) ||
      decide (npic < minSlots (getF s (Reg.STR_RATE n))), 0x151),
    (decide (64 < on.length) || decide (1050000000 < sumOf (streamRate s) on), 0x150),
    (decide (8400000000 < sumOf (streamRate s) (enabledStreams s)), stCapacity),
    (decide ((quotaOf s d).decode < sumOf (streamRate s) ((enabledStreams s).filter fun x => owns s d 1 x)), stQuota),
    (gateShut s (48 + getF s (Reg.STR_ENGINE n)), stGated)]

/-! ### The Hall (R258, R259, R267, R270) -/

/-- Whether some Hall engine is open: compositions and inputs run on any of the four. -/
def hallOpen (s : State) : Bool := getF s Reg.WLD_ENG_HAL != 15

/-- The check of a composition. -/
def checkComp (s : State) (d c : Nat) : Nat :=
  let region := getF s (Reg.COMP_POOL_REGION c)
  let w := getF s (Reg.COMP_WIDTH c)
  let h := getF s (Reg.COMP_HEIGHT c)
  let npic := getF s (Reg.COMP_NPIC c)
  if getF s (Reg.COMP_EN c) = 0 then 0
  else firstFail [
    (hallOpen s && regionCloister s region, stWorld),
    (!owns s d 4 c || !owns s d 7 region, stPartition),
    (decide (w < 64) || decide (3840 < w) || decide (h < 64) || decide (2160 < h) || w % 2 == 1 || h % 2 == 1, 0x161),
    (poolBad s region (getF s (Reg.COMP_POOL_OFS c)) (npic * (hallLayout w h).2) ||
      decide (npic < minSlots (getF s (Reg.COMP_RATE c))), 0x162),
    (decide (256 < tileCount s c), 0x160),
    (decide (4200000000 < sumOf (compRate s) (enabledComps s)), stCapacity)]

/-- Whether a tile has an overlay enabled. -/
def tileOverlay (s : State) (t : Nat) : Bool :=
  getF s (Reg.TILE_LABEL_EN t) == 1 || getF s (Reg.TILE_METER_EN t) == 1 || getF s (Reg.TILE_BURN_EN t) == 1 ||
    getF s (Reg.TILE_MARK_EN t) == 1

/-- Lines of a tile's inner area (R263). -/
def tileInner (s : State) (t : Nat) : Nat :=
  getF s (Reg.TILE_DST_H t) - 2 * max (getF s (Reg.TILE_BORDER_W t)) (getF s (Reg.TILE_TALLY_W t))

/-- The declared size of a tile's source: none for FILL. -/
def tileSourceSize (s : State) (t : Nat) : Option (Nat × Nat) :=
  let i := getF s (Reg.TILE_SRC_ID t)
  match getF s (Reg.TILE_SRC_KIND t) with
  | 1 => some (getF s (Reg.STR_MAX_W i), getF s (Reg.STR_MAX_H i))
  | 2 => some (if getF s (Reg.INC_SIZE i) = 0 then (1920, 1080) else (3840, 2160))
  | 3 => some (getF s (Reg.COMP_WIDTH i), getF s (Reg.COMP_HEIGHT i))
  | _ => none

/-- One axis of a crop: within the source, and within a factor of 8 of its destination. -/
def cropBad (pos size src dst : Nat) : Bool :=
  size != 0 && (decide (src < pos + size) || !ratioOk size dst)

/-- The sources and legs of tile t that door d does not own (R258). -/
def tileUnowned (s : State) (d t : Nat) : Bool :=
  let i := getF s (Reg.TILE_SRC_ID t)
  !owns s d 4 (getF s (Reg.TILE_COMP t)) || (getF s (Reg.TILE_SRC_KIND t) == 1 && !owns s d 1 i) ||
    (getF s (Reg.TILE_SRC_KIND t) == 3 && !owns s d 4 i) ||
    (getF s (Reg.TILE_METER_EN t) == 1 && (List.range (getF s (Reg.TILE_METER_COUNT t) + 1)).any fun k =>
      !owns s d 0 (getF s (Reg.TILE_METER_LEG t) + k))

/-- Whether tile t names an input, a composition or meter legs beyond their range. -/
def tileRange (s : State) (t : Nat) : Bool :=
  let i := getF s (Reg.TILE_SRC_ID t)
  (getF s (Reg.TILE_SRC_KIND t) == 2 && decide (15 < i)) || (getF s (Reg.TILE_SRC_KIND t) == 3 && decide (63 < i)) ||
    (getF s (Reg.TILE_METER_EN t) == 1 && decide (10239 < getF s (Reg.TILE_METER_LEG t) + getF s (Reg.TILE_METER_COUNT t)))

/-- The format checks of a tile (R259). -/
def tileFormatBad (s : State) (t : Nat) : Bool :=
  let f := fun (x : Fld) => getF s x
  [Reg.TILE_CROP_X t, Reg.TILE_CROP_Y t, Reg.TILE_CROP_W t, Reg.TILE_CROP_H t, Reg.TILE_DST_X t, Reg.TILE_DST_Y t,
    Reg.TILE_DST_W t, Reg.TILE_DST_H t].any (fun x => getF s x % 2 == 1) ||
  (match tileSourceSize s t with
   | some z => cropBad (f (Reg.TILE_CROP_X t)) (f (Reg.TILE_CROP_W t)) z.1 (f (Reg.TILE_DST_W t)) ||
      cropBad (f (Reg.TILE_CROP_Y t)) (f (Reg.TILE_CROP_H t)) z.2 (f (Reg.TILE_DST_H t))
   | none => false) ||
  (tileOverlay s t && decide (tileInner s t < 68)) ||
  (f (Reg.TILE_SRC_KIND t) == 3 && f (Reg.COMP_EN (f (Reg.TILE_SRC_ID t))) == 0)

/-- Whether a rate has timecode (R266). -/
def timecodeRate (r : Nat) : Bool := decide (r ≤ 4) || (decide (7 ≤ r) && decide (r ≤ 9))

/-- Enabled tiles. -/
def enabledTiles (s : State) : List Nat := (List.range 1024).filter fun t => getF s (Reg.TILE_EN t) == 1

/-- The check of a tile. -/
def checkTile (old s : State) (d t : Nat) : Nat :=
  let c := getF s (Reg.TILE_COMP t)
  if getF old (Reg.TILE_EN t) = 1 ∧ !owns s d 4 (getF old (Reg.TILE_COMP t)) then stPartition
  else if getF s (Reg.TILE_EN t) = 0 then 0
  else firstFail [
    (tileRange s t, stRange),
    (tileUnowned s d t, stPartition),
    (tileFormatBad s t, 0x161),
    (decide (256 < tileCount s c), 0x160),
    (decide ((quotaOf s d).tiles < ((enabledTiles s).filter fun x => owns s d 4 (getF s (Reg.TILE_COMP x))).length), stQuota),
    (getF s (Reg.TILE_BURN_EN t) == 1 && getF s (Reg.TILE_BURN_KIND t) == 1 && !timecodeRate (getF s (Reg.COMP_RATE c)), 0x163)]

/-- The check of an input's context: door d is the device owner's. -/
def checkInput (s : State) (d i : Nat) : Nat :=
  let region := getF s (Reg.INC_POOL_REGION i)
  let size := if getF s (Reg.INC_SIZE i) = 0 then (1920, 1080) else (3840, 2160)
  let npic := getF s (Reg.INC_NPIC i)
  if getF s (Reg.INC_EN i) = 0 then 0
  else firstFail [
    (hallOpen s && regionCloister s region, stWorld),
    (!owns s d 7 region, stPartition),
    (poolBad s region (getF s (Reg.INC_POOL_OFS i)) (npic * (hallLayout size.1 size.2).2) ||
      decide (npic < minSlots (getF s (Reg.INC_RATE i))), 0x162),
    (decide (1990656000 < sumOf (inputRate s) (enabledInputs s)), stCapacity)]

/-- The check of an output's context. -/
def checkOutput (old s : State) (d n : Nat) : Nat :=
  let c := getF s (Reg.OUTC_COMP n)
  let size := (getF s (Reg.COMP_WIDTH c), getF s (Reg.COMP_HEIGHT c))
  if getF old (Reg.OUTC_EN n) = 1 ∧ !owns s d 4 (getF old (Reg.OUTC_COMP n)) then stPartition
  else firstFail [
    (!owns s d 4 c, stPartition),
    (!owns s d 6 (getF s (Reg.OUTC_QUEUE_A n)) || !owns s d 6 (getF s (Reg.OUTC_QUEUE_B n)), stPartition),
    (getF s (Reg.OUTC_EN n) == 1 && size != (1920, 1080) && size != (3840, 2160), 0x161),
    (getF s (Reg.OUTC_EN n) == 1 &&
      decide (995328000 < sumOf (fun x => compRate s (getF s (Reg.OUTC_COMP x))) (enabledOutputs s)), stCapacity)]

/-! ### Programs (R299) -/

/-- The layers of program p. -/
def programLayers (s : State) (p : Nat) : List Nat := List.range (getF s (Reg.PRG_SPATIAL p))

/-- Whether a layer of program p breaks the format checks of R299. -/
def layerFormatBad (s : State) (p l : Nat) : Bool :=
  let c := getF s (Reg.PRG_COMP p)
  let z := layerSize (getF s (Reg.COMP_WIDTH c)) (getF s (Reg.COMP_HEIGHT c)) (getF s (Reg.PRG_SPATIAL p)) l
  let top := if getF s (Reg.PRG_CODEC p) = 0 then 255 else 51
  decide (z.1 < 64) || decide (z.2 < 64) || getF s (Reg.PRG_SR_X p l) == 0 || getF s (Reg.PRG_SR_Y p l) == 0 ||
    decide (getF s (Reg.PRG_BR_MAX p l) < getF s (Reg.PRG_BR_MIN p l)) ||
    decide (getF s (Reg.PRG_MAX_QP p l) < getF s (Reg.PRG_MIN_QP p l)) || decide (top < getF s (Reg.PRG_MAX_QP p l))

/-- The format checks of program p. -/
def programFormatBad (s : State) (p : Nat) : Bool :=
  let f := fun (x : Fld) => getF s x
  (f (Reg.PRG_DEPTH10 p) == 1 && f (Reg.PRG_CODEC p) == 1) || f (Reg.PRG_SPATIAL p) == 0 || f (Reg.PRG_TEMPORAL p) == 0 ||
    f (Reg.PRG_NREF p) == 0 || f (Reg.COMP_EN (f (Reg.PRG_COMP p))) == 0 || (programLayers s p).any (layerFormatBad s p) ||
    decide (f (Reg.PRG_PAYLOAD_MAX p) < 256) || decide (1400 < f (Reg.PRG_PAYLOAD_MAX p)) || decide (f (Reg.PRG_KEY_MUL p) < 4) ||
    decide (64 < f (Reg.PRG_KEY_MUL p))

/-- Bytes of program p's reconstruction pools (R297). -/
def reconBytes (s : State) (p : Nat) : Nat :=
  let c := getF s (Reg.PRG_COMP p)
  sumOf (fun l =>
    let z := layerSize (getF s (Reg.COMP_WIDTH c)) (getF s (Reg.COMP_HEIGHT c)) (getF s (Reg.PRG_SPATIAL p)) l
    (getF s (Reg.PRG_NREF p) + 2) * (slotLayout z.1 z.2 (getF s (Reg.PRG_DEPTH10 p) == 1)).2.2) (programLayers s p)

/-- Bytes of program p's statistics pool (R298). -/
def statsPool (s : State) (p : Nat) : Nat :=
  let c := getF s (Reg.PRG_COMP p)
  let z := layerSize (getF s (Reg.COMP_WIDTH c)) (getF s (Reg.COMP_HEIGHT c)) (getF s (Reg.PRG_SPATIAL p)) (getF s (Reg.PRG_STATS_LAYER p))
  getF s (Reg.PRG_NSTATS p) * statsBytes z.1 z.2

/-- Whether a pool of program p does not fit, or NOUT lies below its minimum. -/
def programPoolBad (s : State) (p : Nat) : Bool :=
  let nout := getF s (Reg.PRG_NOUT p)
  poolBad s (getF s (Reg.PRG_OUT_REGION p)) (getF s (Reg.PRG_OUT_OFS p)) (nout * getF s (Reg.PRG_OUT_SLOT_KIB p) * 1024) ||
    poolBad s (getF s (Reg.PRG_REC_REGION p)) (getF s (Reg.PRG_REC_OFS p)) (reconBytes s p) ||
    (getF s (Reg.PRG_STATS_EN p) == 1 && poolBad s (getF s (Reg.PRG_STATS_REGION p)) (getF s (Reg.PRG_STATS_OFS p)) (statsPool s p)) ||
    decide (nout < minSlots (getF s (Reg.PRG_RATE p)))

/-- Whether an engine would exceed R282. -/
def encoderFull (s : State) (e : Nat) : Bool :=
  let l := engineLayers s e
  decide (32 < l.length) || decide (525000000 < l.foldl (fun n x => n + layerRate s x.1 x.2) 0)

/-- The check of a program's descriptor. -/
def checkProgram (s : State) (d p : Nat) : Nat :=
  let regions := [getF s (Reg.PRG_OUT_REGION p), getF s (Reg.PRG_REC_REGION p), getF s (Reg.PRG_STATS_REGION p)]
  let engines := (programLayers s p).map fun l => getF s (Reg.PRG_ENGINE p l)
  let total := enabledPrograms s
  if getF s (Reg.PRG_EN p) = 0 then 0
  else firstFail [
    (engines.any (encOpen s) && regions.any (regionCloister s), stWorld),
    (!owns s d 3 p || !owns s d 4 (getF s (Reg.PRG_COMP p)) || regions.any (fun r => !owns s d 7 r), stPartition),
    (programFormatBad s p, 0x171),
    (programPoolBad s p, 0x172),
    (engines.any (encoderFull s), 0x170),
    (decide (4200000000 < sumOf (programRate s) total), stCapacity),
    (decide ((quotaOf s d).encode < sumOf (programRate s) (total.filter fun x => owns s d 3 x)), stQuota),
    (engines.any fun e => gateShut s (60 + e), stGated)]

/-! ### Video legs (R312) and tasks (R348) -/

/-- The check of a video leg's entry. -/
def checkVleg (s : State) (d v : Nat) : Nat :=
  let f := fun (x : Fld) => getF s x
  let p := f (Reg.VLEG_PROGRAM v)
  if f (Reg.VLEG_EN v) = 0 then 0
  else firstFail [
    (!owns s d 3 p || !owns s d 6 (f (Reg.VLEG_QUEUE_A v)) || !owns s d 6 (f (Reg.VLEG_QUEUE_B v)), stPartition),
    (decide (f (Reg.VLEG_S_MAX v) < f (Reg.VLEG_S_MIN v)) || decide (f (Reg.VLEG_T_MAX v) < f (Reg.VLEG_T_MIN v)) ||
      f (Reg.VLEG_CAP_MIN v) == 0 || decide (f (Reg.VLEG_CAP_MAX v) < f (Reg.VLEG_CAP_MIN v)) ||
      decide (f (Reg.VLEG_CAP_INIT v) < f (Reg.VLEG_CAP_MIN v)) || decide (f (Reg.VLEG_CAP_MAX v) < f (Reg.VLEG_CAP_INIT v)) ||
      f (Reg.VLEG_PACE v) == 0, 0x193),
    (f (Reg.VLEG_PIN v) == 1 && (decide (f (Reg.PRG_SPATIAL p) ≤ f (Reg.VLEG_PIN_S v)) ||
      decide (f (Reg.PRG_TEMPORAL p) ≤ f (Reg.VLEG_PIN_T v))), 0x192)]

/-- Whether door d owns a task: the task belongs to it and counts for it (R348). -/
def ownsTask (s : State) (d t : Nat) : Bool := getF s (Reg.TASK_OWNED t) == 1 && getF s (Reg.TASK_DOOR t) == d

/-- The check of a task's descriptor; `times` says whether the request writes DL_OFS or TO_OFS. -/
def checkTask (s : State) (d t : Nat) (times : Bool) : Nat :=
  let c := getF s (Reg.TASK_CLASS t)
  firstFail [
    (!ownsTask s d t, stPartition),
    (getF s (Reg.TASK_DL_OFS t) == 0 || (times && decide (2 ≤ c) && decide (c ≤ 5)), 0x1A0)]

/-! ### Requests of writes (R113, R299) -/

/-- The checked status of an object that a request of door d left. -/
def objStatus (old s : State) (d : Nat) (addrs : List Nat) (o : CfgObj) : Nat :=
  match o with
  | .entry i => checkEntry old s d i
  | .leg l => checkLeg s d l
  | .recipe l => checkRecipe s d l
  | .xpoint e => checkXpoint old s d e
  | .queue q => checkQueue s d q
  | .service v => checkService s v
  | .vleg v => checkVleg s d v
  | .stream n => checkStream s d n
  | .comp c => checkComp s d c
  | .tile t => checkTile old s d t
  | .input i => checkInput s d i
  | .output n => checkOutput old s d n
  | .program p => checkProgram s d p
  | .task t => checkTask s d t (addrs.any fun a => a == (Reg.TASK_DL_OFS t).addr || a == (Reg.TASK_TO_OFS t).addr)

/-- The enabled contexts of others that draw on an object, with the door that each belongs to: their checks run against the
state after the request too (R299). A composition may be disabled under the tiles that show it (Table 2 of Hall: composition).
Assumption 23 (DEDUCED). -/
def dependents (s : State) (o : CfgObj) : List (Nat × CfgObj) :=
  let tiles := fun (kind i : Nat) => ((enabledTiles s).filter fun t =>
    getF s (Reg.TILE_SRC_KIND t) == kind && getF s (Reg.TILE_SRC_ID t) == i).map fun t =>
      ((ownerOf s 4 (getF s (Reg.TILE_COMP t))).getD 4, CfgObj.tile t)
  match o with
  | .stream n => tiles 1 n
  | .input i => tiles 2 i
  | .comp c =>
    (if getF s (Reg.COMP_EN c) = 1 then tiles 3 c else []) ++
    ((enabledTiles s).filter fun t => getF s (Reg.TILE_COMP t) == c).map (fun t => ((ownerOf s 4 c).getD 4, CfgObj.tile t)) ++
    ((enabledOutputs s).filter fun n => getF s (Reg.OUTC_COMP n) == c).map (fun n => ((ownerOf s 4 c).getD 4, CfgObj.output n)) ++
    ((enabledPrograms s).filter fun p => getF s (Reg.PRG_COMP p) == c).map (fun p => ((ownerOf s 3 p).getD 4, CfgObj.program p))
  | .program p =>
    ((List.range 2048).filter fun v => getF s (Reg.VLEG_EN v) == 1 && getF s (Reg.VLEG_PROGRAM v) == p).map fun v =>
      ((ownerOf s 2 v).getD 4, CfgObj.vleg v)
  | _ => []

/-- The status of an object with those of the contexts that draw on it. -/
def objStatusAll (old s : State) (d : Nat) (addrs : List Nat) (o : CfgObj) : Nat :=
  firstFail ((objStatus old s d addrs o :: (dependents s o).map fun x => objStatus s s x.1 [] x.2).map fun st => (st != 0, st))

/-- The objects that the writes touch, each with the number of the first pair that writes a word of it. -/
def touched : List (Nat × Nat × Word) → List (Nat × CfgObj) → List (Nat × CfgObj)
  | [], seen => seen
  | (i, a, _) :: r, seen =>
    match objOf a with
    | some o => touched r (if seen.any (fun x => x.2 == o) then seen else seen ++ [(i, o)])
    | none => touched r seen

/-- The lesser of two failures by pair number; a word's failure comes before its object's. -/
def lesserFail (a b : Option (Nat × Nat)) : Option (Nat × Nat) :=
  match a, b with
  | some x, some y => if y.1 < x.1 then some y else some x
  | some x, none => some x
  | none, y => y

/-- The first failure among writes (pair number, address, value) of door d, as status and pair number, and the state that
they leave (R113); the world check of the whole request comes before every other (R456). -/
def checkWrites (d : Nat) (ws : List (Nat × Nat × Word)) (s : State) : Option (Nat × Nat) × State :=
  let bad := ws.find? fun w => wordStatus s d w.2.1 w.2.2 != 0
  let left := (ws.filter fun w => wordStatus s d w.2.1 w.2.2 == 0).foldl (fun s w => commitWord w.2.1 w.2.2 s) s
  let addrs := ws.map fun w => w.2.1
  let objs := (touched ws []).map fun o => (o.1, objStatusAll s left d addrs o.2)
  let world := ws.find? fun w => wordStatus s d w.2.1 w.2.2 == stWorld
  let fail := lesserFail (bad.map fun w => (w.1, wordStatus s d w.2.1 w.2.2)) (objs.find? fun o => o.2 != 0)
  match world with
  | some w => (some (stWorld, w.1), left)
  | none => (fail.map fun f => (f.2, f.1), left)

end Sys2Proof.Machine
end

