-- ==== Sys2Proof/Machine/Resets.lean ====
section
/-! DEFINITION. What resets clear: the media state of the units, and the registers that return to their charter or reset
values (Table 8 of Charter, start-up and partitions; R94, R130, R427). -/

namespace Sys2Proof.Machine

/-- The blocks whose registers and tables hold media state. -/
def mediaBlock : Block → Bool
  | .tcm | .eth | .shp | .cip | .lnd | .gal | .dec | .hal | .enc | .stw => true
  | _ => false

/-- Port status words follow their links (ETH_PORT_STAT). -/
def portStatWord (a : Nat) : Bool := [0, 1, 2, 3].any fun p => (Reg.ETH_PORT_STAT_LINK p).addr == a

/-- Words of fenced lanes and cores, which stay fenced until Cold reset (R177, R203). -/
def fenceWord (a : Nat) : Bool :=
  a == Reg.CIP_STAT_LANE_OK.addr || ((List.range 8).any fun n => (Reg.CIP_LANE_FENCED n).addr == a) ||
    (decide ((Reg.LND_FENCED_CORES 0).addr ≤ a) && decide (a < (Reg.LND_FENCED_CORES 16).addr))

/-- Whether an address is a word of media state: of a media block, beyond its common registers, its per-door instances, the
ports' links and the fences. -/
def mediaWord (a : Nat) : Bool :=
  mediaBlock (blockOf a) && (decide (0x80000000 ≤ a) || decide (blockBase (blockOf a) + 0x40 ≤ a)) &&
    (instanceDoor a).isNone && !portStatWord a && !fenceWord a

/-- A word as the configuration step left it: the charter's, or its reset value. -/
def charterWord (s : State) (a : Nat) : Word := sget resetWord s.cht.charterWords a

/-- The words that satisfy p return to what the configuration step left. -/
def toCharter (p : Nat → Bool) (s : State) : State :=
  let kept := s.regs.filter fun e => !p e.1
  { s with regs := s.cht.charterWords.foldl (fun m e => if p e.1 then sset resetWord m e.1 e.2 else m) kept }

/-- The units' own media state returns to what it is after reset; posted host buffers and tone FIFOs are the doors', and the
fences, the counts of on-demand releases (R331) and the FIR numbers (R146) last until Cold reset. -/
def clearUnits (s : State) : State :=
  { s with
    modem := { modemInit with toneFifos := s.modem.toneFifos }
    ports := { portInit with posted := s.ports.posted, firSeq := s.ports.firSeq }
    queues := [], cip := { cipherInit with mismatches := s.cip.mismatches }, shp := shaperInit
    stw := { stairInit with fenced := s.stw.fenced, opened := s.stw.opened }
    lnd := landInit, gal := galInit, dec := decInit, hal := halInit, enc := encInit }

/-- Fenced cores still show their state. -/
def showFences (s : State) : State :=
  s.stw.fenced.foldl (fun s f => if f.1 = 0 then setF s (Reg.LND_CORE_STAT_STATE f.2) 2 else s) s

/-- A device clears its media state as a Warm reset does, keeping its doors and its DRAM training (R427). -/
def clearMedia (s : State) : State := showFences (toCharter mediaWord (clearUnits s))

end Sys2Proof.Machine
end

