-- ==== Sys2Proof/Machine/Twin.lean ====
section
/-! DEFINITION. The pair: the Newel link, pairing, arrival agreement, requests, the output digest, withdrawal, link failure
and resynchronisation (Twin pairing and the Newel link). -/

namespace Sys2Proof.Machine

/-! ### Roles and states -/

/-- Whether the charter pairs the device, and as which (CHT_ROLE.TWIN). -/
def pairedRole (s : State) : Bool := s.cht.loaded.twinRole != 0
def isPrimary (s : State) : Bool := s.cht.loaded.twinRole == 1
def isSecondary (s : State) : Bool := s.cht.loaded.twinRole == 2

/-- The pair's state changes. -/
def setPair (p : PairState) (s : State) : State := setTwin { s.twin with state := p } s

/-- Requests that this device has received itself, among the units that wait for a commit. -/
def ownWaiting (s : State) : List (Nat × Req) :=
  (s.epoch.arrived ++ s.epoch.batch ++ s.epoch.carried ++ s.epoch.deferred.map (·.2)).flatMap fun u =>
    (u.members.filter fun r => !r.otherTwin).map fun r => (u.door, r)

/-- No unit waits for a commit. -/
def dropWaiting (s : State) : State :=
  { s with epoch := { s.epoch with arrived := [], batch := [], carried := [], deferred := [] } }

/-- The requests that a partner would have committed complete with WITHDRAWN (R424). -/
def failAway (s : State) : State :=
  s.twin.away.foldl (fun s e => complete e.1 e.2 0 0x1D0 0 s) (setTwin { s.twin with away := [] } s)

/-- What was exchanged with the partner for agreement is dropped. -/
def forgetPartner (x : TwinUnit) : TwinUnit :=
  { x with
    unionFrom := none, summed := [], partnerIds := [], sealed := [], partnerSeals := [], forwarded := 0, inbox := []
    received := 0, partnerCuts := [], closed := [], partnerDigests := [], ownFault := none, partnerFault := none
    partnerTakeover := false, skewRun := 0 }

/-- Withdraw with a cause (R424): the partner is told, nothing but the host queue is emitted from the next tread, and the
requests that wait are the partner's to commit. -/
def withdraw (cause : Nat) (s : State) : State :=
  let s := sendNewel (.withdraw cause s.now) s
  let own := ownWaiting s
  let x := forgetPartner s.twin
  let s := dropWaiting (setTwin { x with
    state := .withdrawn, emitting := false, withdrawnAt := some s.now, startFlight := none, failedAt := none
    away := x.away ++ own } s)
  let s := if s.twin.linkUp then s else failAway s
  raiseEvent 0x225 (settle (finalizeSets (setF s Reg.NWL_STAT_CAUSE cause)))

/-- Enter alone: closed sets are completed from this device's own records, and requests held for a REQ_SEAL join the next
epoch (R422, R425). Assumption 124 (DEDUCED). -/
def enterAlone (s : State) : State :=
  let held := s.twin.inbox
  let s := setTwin { forgetPartner s.twin with state := .alone } s
  settle (finalizeSets (held.foldl (fun s u => placeUnit u s) s))

/-- A link failure in lockstep (R425): event 0x221 and error code 0x02; each device enters alone, and the secondary watches
NWL_ALIVE_IN. -/
def linkFailure (s : State) : State :=
  let s := raiseEvent 0x221 (captureError .nwl 0x02 2 false 0 0 none s)
  let s := enterAlone s
  if isSecondary s then setTwin { s.twin with failedAt := some s.now } s else s

/-- The audio flight boundary of flight n. -/
def flightAt (s : State) (n : Nat) : Treads := n * flightLen s

/-- Number of the first audio flight that starts at or after an instant. -/
def flightFrom (s : State) (t : Treads) : Nat := if flightLen s = 0 then 0 else (t + flightLen s - 1) / flightLen s

/-- Lockstep is entered at the start of a flight (R413, R430). -/
def enterLockstep (event : Nat) (s : State) : State :=
  let s := setTwin { s.twin with
    state := .lockstep, emitting := true, withdrawnAt := none, failedAt := none, resync := resyncInit
    partnerTakeover := false, recommend := false, startFlight := none } s
  raiseEvent event (setStamp3 s Reg.NWL_LOCK_AT_TREADS.addr s.now)

/-! ### Resynchronisation: ends (R431) -/

/-- The words of NWL_RESYNC and NWL_STAT follow the copy. -/
def showResync (s : State) : State :=
  let r := s.twin.resync
  let j := match r.joinFlight with | some n => n | none => 0
  let s := setF s Reg.NWL_RESYNC_PASS r.pass
  set64 (set64 s Reg.NWL_RESYNC_BYTES_LO.addr r.bytes) Reg.NWL_RESYNC_JOIN_LO.addr j

/-- A resynchronisation ends: the joiner is withdrawn again, with its flights stopped, and the source goes on alone; event
0x229 and error code 0x04 (R431). `tell` sends the partner a JOIN that says so. -/
def abortResync (tell : Bool) (s : State) : State :=
  if !s.twin.resync.active then s
  else
    let s := if tell then sendNewel (.join 3 0) s else s
    let joiner := !s.twin.resync.source
    let x := forgetPartner { s.twin with resync := resyncInit }
    let s := if joiner then
        let own := ownWaiting s
        let s := dropWaiting { s with tim := { s.tim with flights := .stopped } }
        setTwin { x with state := .withdrawn, emitting := false, withdrawnAt := some s.now, away := x.away ++ own } s
      else
        let held := s.twin.inbox
        held.foldl (fun s u => placeUnit u s) (setTwin x s)
    let s := if joiner && !s.twin.linkUp then failAway s else s
    raiseEvent 0x229 (captureError .nwl 0x04 2 false 0 0 none (settle (finalizeSets s)))

/-! ### Takeover recommendations (R423) -/

/-- Whether this device captured a counted fault within the second before an instant (R421). -/
def countedFault (s : State) (close : Treads) : Bool :=
  s.twin.logged.any fun l => decide (l.1 ≤ close) && decide (close ≤ l.1 + treadsPerSecond)

/-- A device in lockstep acts on its own takeover recommendation: it sends FAULT and withdraws with cause 3, unless it is a
primary that has taken the partner's recommendation. -/
def actOnTakeover (s : State) : State :=
  if s.twin.state ≠ .lockstep ∨ (s.twin.partnerTakeover ∧ isPrimary s) then s
  else withdraw 3 (sendNewel (.fault (flightNumber s s.now) (countedFault s s.now) true) s)

/-- A takeover recommendation that has been acted on, or that a device outside lockstep has no use for, is gone. -/
def takeRecommend (s : State) : State := setTwin { s.twin with recommend := false } s

/-- What follows a command that captured an error recommending takeover, or filled the staging of a resynchronisation. -/
def twinWatch (s : State) : State :=
  let s := if s.twin.resync.overflow then abortResync true s else s
  takeRecommend (if s.twin.recommend then actOnTakeover s else s)

/-- A release's work: the writes that the command makes carry the release instant of the task's running release (R429). -/
def asRelease (task : Nat) (f : State → State) (s : State) : State :=
  match runningOf s task with
  | none => f s
  | some r =>
    atInstant r.instant (fun s => let s := f (setDram { s.drm with issuer := some r.instant } s); setDram { s.drm with issuer := none } s) s

/-! ### The link (R407 to R410) -/

/-- HELLO, once the link is up in step 9 (R411). Assumption 123 (DEDUCED). -/
def sendHello (s : State) : State :=
  if s.twin.state = .pairing ∧ s.cht.step = 8 ∧ s.twin.linkUp ∧ !s.twin.helloSent then
    let step8 := s.tim.servo.stepAt
    sendNewel (.hello s.cht.loaded.twinRole s.cht.loaded.pairDigest 2 1 step8) (setTwin { s.twin with helloSent := true } s)
  else s

/-- NEWEL_LINK_UP (R407): every lane is up with its polarity, its source and its eye; event 0x220. -/
def newelLinkUp (lanes : List (Bool × Fin 8 × BitVec 8)) (s : State) : State :=
  if s.twin.linkUp then s
  else
    let s := (List.range 8).foldl (fun s n =>
      let l := lanes.getD n (false, 0, 0)
      let s := setF (setF s (Reg.NWL_LANE_STAT_STATE n) 2) (Reg.NWL_LANE_STAT_INVERTED n) l.1.toNat
      setF (setF s (Reg.NWL_LANE_STAT_SOURCE n) l.2.1.val) (Reg.NWL_LANE_STAT_EYE n) l.2.2.toNat) s
    let s := setTwin { s.twin with
      linkUp := true, waiting := [], txSeq := 511, rxSeq := 511, unacked := [], nakDue := false, replays := 0 } s
    sendHello (raiseEvent 0x220 s)

/-- The link goes down and trains again; pairing starts over, a lockstep is a link failure, and a resynchronisation ends
(R407, R425, R431). -/
def linkDown (s : State) : State :=
  if !s.twin.linkUp then s
  else
    let s := (List.range 8).foldl (fun s n => setF s (Reg.NWL_LANE_STAT_STATE n) 1) s
    let s := setTwin { s.twin with
      linkUp := false, waiting := [], unacked := [], nakDue := false, helloSent := false, helloOk := false, helloKept := none,
      probesOk := 0 } s
    match s.twin.state with
    | .lockstep => linkFailure s
    | .withdrawn => failAway (raiseEvent 0x221 s)
    | _ => abortResync false (raiseEvent 0x221 s)

/-- NEWEL_LINK_DOWN: lanes lose lock (R409). -/
def newelLinkDown (s : State) : State := linkDown s

/-- The flits up to ACK leave the sender's store, and waiting content follows (R409). -/
def ackFlits (ack : Nat) (s : State) : State :=
  let x := s.twin
  let rest := if x.unacked.contains ack then (x.unacked.dropWhile fun q => q != ack).drop 1 else x.unacked
  setTwin (pumpNewel (x.waiting.length + 1) { x with unacked := rest }) s

/-- A NAK: every flit from ACK + 1 is replayed, counted and captured (R409, Table 7). -/
def replayFlits (s : State) : State :=
  let n := s.twin.unacked.length
  if n = 0 then s else captureError .nwl 0x01 1 false 0 0 none (addF s (Reg.NWL_CNT_COUNT 0) n)

/-- A flit is discarded: NAK goes with the next flit. More than 64 replays requested in one audio flight take the link
down. -/
def discardFlit (s : State) : State :=
  if s.twin.nakDue then s
  else
    let s := setTwin { s.twin with nakDue := true, replays := s.twin.replays + 1 } s
    if 64 < s.twin.replays then linkDown s else s

/-- The header of an accepted flit: a flit with IDLE set does not advance SEQ. -/
def takeFlit (seq ack : Nat) (nak idle : Bool) (badMsgs : Nat) (s : State) : State :=
  if !idle ∧ seq ≠ (s.twin.rxSeq + 1) % 512 then discardFlit s
  else
    let s := if idle then s else setTwin { s.twin with rxSeq := seq, nakDue := false } s
    let s := ackFlits ack s
    let s := if nak then replayFlits s else s
    addF s (Reg.NWL_CNT_COUNT 7) badMsgs

/-- FLIT_RECEIVE (R408, R409): the codeword's corrected symbols by lane, whether it is uncorrectable, the flit's header, and
the messages of unknown TYPE that its content completes. -/
def flitReceive (symbols : List Nat) (bad : Bool) (seq ack : BitVec 9) (nak idle : Bool) (badMsgs : Nat) (s : State) : State :=
  if !s.twin.linkUp then s
  else if bad then discardFlit s
  else
    let s := (List.range 8).foldl (fun s n =>
      let f := Reg.NWL_LANE_STAT_SYMBOLS n
      setF s f (min (fieldMax f) (getF s f + symbols.getD n 0))) s
    let s := if symbols.any (0 < ·) then incF s (Reg.NWL_CNT_COUNT 1) else s
    takeFlit seq.toNat ack.toNat nak idle badMsgs s

/-- A message is received only while the link is up. -/
def whileUp (f : State → State) (s : State) : State := if s.twin.linkUp then f s else s

/-! ### Pairing (R411 to R413) -/

/-- Pairing is refused with a code (NWL_STAT.REFUSE). -/
def refusePair (code : Nat) (s : State) : State :=
  raiseEvent 0x223 (setTwin { s.twin with helloOk := false, probesOk := 0 } (setF s Reg.NWL_STAT_REFUSE code))

/-- Send a PROBE with the next sequence. -/
def sendProbe (s : State) : State :=
  let q := (s.twin.probeSeq + 1) % 4294967296
  sendNewel (.probe q s.now none) (setTwin { s.twin with probeSeq := q } s)

/-- The partner's HELLO in step 9 (R411): digest, roles and stepping are checked in this order; then the probes start. -/
def checkHello (role : Nat) (digest : List Word) (letter digit : Nat) (s : State) : State :=
  if digest ≠ s.cht.loaded.pairDigest then refusePair 1 s
  else if !((isPrimary s && role == 2) || (isSecondary s && role == 1)) then refusePair 2 s
  else if letter ≠ 2 ∨ digit ≠ 1 then refusePair 3 s
  else sendProbe (sendHello (setTwin { s.twin with helloOk := true, probesOk := 0 } s))

/-- HELLO (R411): one that comes before this device's own step 9 is kept for it. -/
def hello (role : Nat) (digest : List Word) (letter digit : Nat) (s : State) : State :=
  if s.cht.step < 8 then setTwin { s.twin with helloKept := some (role, digest, letter, digit) } s
  else if s.twin.state ≠ .pairing ∨ s.cht.step ≠ 8 ∨ s.twin.startFlight.isSome then s
  else checkHello role digest letter digit s

/-- Step 9 takes a HELLO that came before it. -/
def takeHello (s : State) : State :=
  match s.twin.helloKept with
  | some (role, digest, letter, digit) => checkHello role digest letter digit (setTwin { s.twin with helloKept := none } s)
  | none => s

/-- Once R411 passes, the primary names N0 and both devices complete step 10 (R413). -/
def agreeStart (n0 : Nat) (s : State) : State :=
  setTwin { s.twin with startFlight := some n0 } s

/-- The primary sends START. -/
def sendStart (s : State) : State :=
  if isPrimary s ∧ s.twin.startFlight.isNone then
    let n0 := flightFrom s (s.now + 28224000)
    agreeStart n0 (sendNewel (.start n0) s)
  else s

/-- START (R413): the secondary learns N0. -/
def start (n0 : Nat) (s : State) : State :=
  if isSecondary s ∧ s.twin.state = .pairing ∧ s.cht.step = 8 then agreeStart n0 s else s

/-- An exchange during pairing: four within the latency and the offset pass R411. -/
def pairProbe (lat off : Int) (s : State) : State :=
  if 282 < lat then refusePair 4 s
  else if (getF s Reg.NWL_CFG_SKEW_MAX : Int) < off.natAbs then refusePair 5 s
  else
    let s := setTwin { s.twin with probesOk := s.twin.probesOk + 1 } s
    if 4 ≤ s.twin.probesOk then sendStart s else sendProbe s

/-- An exchange in lockstep: the third offset above SKEW_MAX in a row raises event 0x22B, and the secondary withdraws with
cause 5 (R412). -/
def skewProbe (off : Int) (s : State) : State :=
  if (off.natAbs : Nat) ≤ getF s Reg.NWL_CFG_SKEW_MAX then setTwin { s.twin with skewRun := 0 } s
  else
    let s := setTwin { s.twin with skewRun := s.twin.skewRun + 1 } s
    if s.twin.skewRun = 3 then
      let s := raiseEvent 0x22B s
      if isSecondary s then withdraw 5 s else s
    else s

/-- PROBE (R412): t1 alone is answered; t1, t2 and t3 end an exchange, whose latency and offset NWL_LAT and NWL_SKEW keep, a half
rounded toward zero. Assumption 181 (DEDUCED). -/
def probe_ (seq : Nat) (t1 : Treads) (answer : Option (Treads × Treads)) (s : State) : State :=
  match answer with
  | none => sendNewel (.probe seq t1 (some (s.now, s.now))) s
  | some (t2, t3) =>
    let go : Int := (t2 : Int) - t1
    let back : Int := (s.now : Int) - t3
    let lat := Int.tdiv (go + back) 2
    let off := Int.tdiv (go - back) 2
    let s := setF (setF s Reg.NWL_LAT_LAT (ofSigned 16 lat)) Reg.NWL_SKEW_OFFSET (ofSigned 32 off)
    match s.twin.state with
    | .pairing => if s.twin.helloOk && s.twin.startFlight.isNone then pairProbe lat off s else s
    | .lockstep => skewProbe off s
    | _ => s

/-- At a second boundary a paired device sends one PROBE (R412). -/
def secondProbe (s : State) : State := if pairedRole s then sendProbe s else s

/-- PAIRING_DEADLINE (R413): at N0 − 141,120 a device whose step 10 is not complete sends WITHDRAW with cause 9, and the
pairing ends: a primary starts unpaired at N0 (event 0x045), a secondary is withdrawn. -/
def pairingDeadline (s : State) : State :=
  match s.twin.startFlight with
  | some n0 =>
    if s.twin.state = .pairing ∧ s.cht.step < 10 ∧ flightAt s n0 ≤ s.now + 141120 then
      if isPrimary s then
        let s := sendNewel (.withdraw 9 s.now) (setF s Reg.NWL_STAT_CAUSE 9)
        raiseEvent 0x045 (enterAlone s)
      else withdraw 9 s
    else s
  | none => s

/-! ### Arrival agreement (R414 to R416) -/

/-- The identity of a record. -/
def identOf (r : ArrRec) : RecIdent := ⟨r.kind, r.object, r.seq, r.rtpTs, r.pcrc⟩

/-- The cut-off of a set. Assumption 122 (DEDUCED). -/
def cutoffOf (s : State) (x : ArrSet) : Treads := setStart s x.owner x.flight - arrMargin s

/-- The sets of a cut-off that a union completes. -/
def setsAt (s : State) (c : Treads) : List ArrSet := s.ports.sets.filter fun x => needsUnion s x && cutoffOf s x == c

/-- The records of a cut-off. -/
def recsAt (s : State) (c : Treads) : List ArrRec := (setsAt s c).flatMap (·.recs)

/-- Lists by cut-off. -/
def atCutoff {α : Type} (l : List (Treads × List α)) (c : Treads) : Option (List α) :=
  (l.find? fun e => e.1 == c).map (·.2)

/-- A COPY of each own record whose identity the partner lacks, once the own set has closed and the partner's SUMMARY is
here (R414). -/
def sendCopies (c : Treads) (s : State) : State :=
  match atCutoff s.twin.partnerIds c with
  | some ids =>
    if !s.twin.summed.contains c then s
    else
      ((recsAt s c).filter fun r => r.path != 2 && !ids.contains (identOf r)).foldl
        (fun s r => sendNewel (.copy c r) (incF s (Reg.NWL_CNT_COUNT 3))) s
  | none => s

/-- The SUMMARY of a cut-off, once: the sets of one cut-off close in the same tread (R414). Assumption 121 (DEDUCED). -/
def sendSummary (c : Treads) (s : State) : State :=
  if s.twin.summed.contains c then s
  else
    sendCopies c (sendNewel (.summary c ((recsAt s c).map identOf)) (setTwin { s.twin with summed := s.twin.summed ++ [c] } s))

/-- ARRIVAL_SET_CLOSE (R144, R414): at the cut-off plus 705 treads; a union starts with its SUMMARY. -/
def arrivalSetClose (o : SetOwner) (flight : Nat) (s : State) : State :=
  let s := closeSet o flight s
  let x := setOrNew s o flight
  let s := if x.closed && needsUnion s x then sendSummary (cutoffOf s x) s else s
  settle (finalizeSets s)

/-- SUMMARY (R414). -/
def summary (c : Treads) (ids : List RecIdent) (s : State) : State :=
  if s.twin.unionFrom.isNone ∨ (atCutoff s.twin.partnerIds c).isSome then s
  else sendCopies c (setTwin { s.twin with partnerIds := s.twin.partnerIds ++ [(c, ids)] } s)

/-- A copied record enters the set of its owner whose cut-off it names, with PATH 2 (R414). -/
def copyToSet (c : Treads) (r : ArrRec) (s : State) : State :=
  let o := recOwner r.kind r.object
  let p := setPeriod s o
  if p = 0 ∨ (c + arrMargin s) % p ≠ 0 then s
  else
    let x := setOrNew s o ((c + arrMargin s) / p)
    if !needsUnion s x ∨ x.final ∨ x.recs.any (fun q => identOf q == identOf r) then s
    else putSet { x with recs := x.recs ++ [r] } s

/-- COPY (R414, R416): counted in COPIES_IN; after this device's SEAL of the cut-off a copy comes too late. -/
def copyIn (c : Treads) (r : ArrRec) (s : State) : State :=
  if s.twin.unionFrom.isNone ∨ (atCutoff s.twin.sealed c).isSome then s
  else
    let r := { r with path := 2, port := 4 }
    let s := incF s (Reg.NWL_CNT_COUNT 2)
    copyToSet c r (keepSide r s)

/-- Records that either SEAL lists leave the union; each removal is counted, with event 0x22A once per audio flight
(R415). -/
def removeListed (c : Treads) (ids : List RecIdent) (s : State) : State :=
  if ids.isEmpty then s
  else
    let lost := fun (r : ArrRec) => ids.contains (identOf r)
    let s := dropSide lost ((setsAt s c).foldl (fun s x => putSet { x with recs := x.recs.filter fun r => !lost r } s) s)
    let s := addF s (Reg.NWL_CNT_COUNT 4) ids.length
    if s.twin.removedTold then s else raiseEvent 0x22A (setTwin { s.twin with removedTold := true } s)

/-- With both SEALs, the sets of a cut-off are final (R415); a joiner that waits for its image completes them then. -/
def sealBoth (c : Treads) (s : State) : State :=
  match (if s.twin.state = .copying then none else atCutoff s.twin.sealed c), atCutoff s.twin.partnerSeals c with
  | some mine, some theirs =>
    let s := removeListed c (mine ++ theirs.filter fun i => !mine.contains i) s
    let s := ((setsAt s c).filter fun x => x.closed && !x.final).foldl (fun s x => finalSet x s) s
    let x := s.twin
    settle (setTwin { x with
      summed := x.summed.filter (· != c), partnerIds := x.partnerIds.filter (fun e => e.1 != c)
      sealed := x.sealed.filter fun e => decide (s.now ≤ e.1 + treadsPerSecond), partnerSeals := x.partnerSeals.filter fun e => e.1 != c } s)
  | _, _ => s

/-- SEAL_TIMER (R415): at the cut-off plus 5,000 treads the device seals, listing the identities that the partner announced
and whose COPY has not arrived; the copies of that tread stand before it (Table 5). Assumption 181 (DEDUCED). -/
def sealTimer (c : Treads) (s : State) : State :=
  if s.twin.unionFrom.isNone ∨ s.now < c + 5000 ∨ (atCutoff s.twin.sealed c).isSome then s
  else
    let have_ := (recsAt s c).map identOf
    let missing := ((atCutoff s.twin.partnerIds c).getD []).filter fun i => !have_.contains i
    let copies := (recsAt s c).countP fun r => r.path == 2
    let s := sendNewel (.seal c copies missing) s
    sealBoth c (setTwin { s.twin with sealed := s.twin.sealed ++ [(c, missing)] } s)

/-- SEAL (R415). -/
def sealIn (c : Treads) (missing : List RecIdent) (s : State) : State :=
  if s.twin.unionFrom.isNone ∨ (atCutoff s.twin.partnerSeals c).isSome then s
  else sealBoth c (setTwin { s.twin with partnerSeals := s.twin.partnerSeals ++ [(c, missing)] } s)

/-! ### Requests (R417, R424) -/

/-- A request as it came from the partner: received at the other twin, with no slot here. -/
def fromPartner (u : ReqUnit) : ReqUnit :=
  { u with members := u.members.map fun r => { r with otherTwin := true, slot := none } }

/-- REQUEST (R417): journalled as an arrival; held for its REQ_SEAL where requests are exchanged, and placed at once where
this device commits for a withdrawn partner. -/
def request (u : ReqUnit) (s : State) : State :=
  let u := fromPartner u
  let s := u.members.foldl (fun s r => journalRequest u.door ⟨u.stamp, 1, 2, u.door, 0, r.seq, r.tag.toNat⟩ s) s
  let s := setTwin { s.twin with received := s.twin.received + u.members.length } s
  let early := s.twin.resync.joinFlight.any fun n => decide (u.stamp + flightLen s + 4410 < n * flightLen s)
  if exchanges s ∧ !early then setTwin { s.twin with inbox := s.twin.inbox ++ [u] } s
  else if s.twin.state = .alone then placeUnit u s
  else s

/-- The instant of the last commit cut that this device has made. -/
def cutNow (s : State) : Treads := s.tim.lastFlight + flightLen s - 4410

/-- Whether the partner's REQ_SEAL for a cut is here. -/
def cutSealed (s : State) (cut : Treads) : Bool := s.twin.partnerCuts.any fun e => e.1 == cut

/-- REQ_SEAL (R417): the held requests that it counts join the epoch of its cut. -/
def reqSeal (cut : Treads) (count : Nat) (s : State) : State :=
  if !exchanges s then s
  else
    let held := s.twin.inbox
    let s := setTwin { s.twin with
      inbox := [], received := s.twin.received - count, partnerCuts := s.twin.partnerCuts ++ [(cut, count)] } s
    let due := s.epoch.cutDone && cut == cutNow s
    let join := s.epoch.newest + (if s.epoch.charterDue then 2 else 1)
    held.foldl (fun s u => if due then placeUnitAt join true u s else placeUnitAt (joinEpoch s) false u s) s

/-- Whether the requests of the epoch of a cut are sealed: in lockstep, and in a resynchronisation from J on (R417, R430). -/
def sealsRequests (s : State) (cut : Treads) : Bool :=
  let r := s.twin.resync
  if r.active then r.joinFlight.any fun n => decide (flightAt s n ≤ cut + 4410) else s.twin.unionFrom.isSome

/-- At a commit cut, REQ_SEAL counts the requests forwarded since the last one (R417). -/
def sendReqSeal (cut : Treads) (s : State) : State :=
  let n := s.twin.forwarded
  let s := setTwin { s.twin with forwarded := 0 } s
  if sealsRequests s cut then sendNewel (.reqSeal cut n) s else s

/-- COMPLETION (R424): the completion of a request that this device forwarded is written to its own rings. -/
def completionIn (d seq status result epoch : Nat) (late : Bool) (s : State) : State :=
  match s.twin.away.find? (fun e => e.1 == d && e.2.seq == seq) with
  | some e =>
    let s := setTwin { s.twin with away := s.twin.away.filter fun x => !(x.1 == d && x.2.seq == seq) } s
    complete d { e.2 with late := late } epoch status result s
  | none => s

/-! ### The output digest (R418 to R422) -/

/-- The packets of a group that are still queued at its close contribute (R418). -/
def contributeQueued (m : Nat) (s : State) : State :=
  s.queues.foldl (fun s e =>
    let x := queueOf s e.1
    let mine := fun (p : QPkt) => p.complete && !p.counted && !p.head.noSlot && flightNumber s p.head.slot == m
    let s := (x.pkts.filter mine).foldl (fun s p => contribute e.1 p s) s
    setQueue e.1 { queueOf s e.1 with pkts := x.pkts.map fun p => if mine p then { p with counted := true } else p } s) s

/-- The decision of Table 4: the role that withdraws, with its cause. -/
def mismatchLoser (primary secondary : Bool) : Nat × Nat :=
  match primary, secondary with
  | false, false => (2, 2)
  | false, true => (2, 1)
  | true, false => (1, 1)
  | true, true => (2, 1)

/-- Both FAULTs of a group are here: one device withdraws (R422); a takeover recommendation decides instead (Table 5). -/
def decideFault (s : State) : State :=
  match s.twin.ownFault, s.twin.partnerFault with
  | some (g, mine), some (h, theirs) =>
    if g ≠ h ∨ s.twin.state ≠ .lockstep ∨ s.twin.partnerTakeover then s
    else
      let (role, cause) := if isPrimary s then mismatchLoser mine theirs else mismatchLoser theirs mine
      if role = s.cht.loaded.twinRole then withdraw cause s else s
  | _, _ => s

/-- A digest mismatch in lockstep (R420, R422): event 0x224, error code 0x03 with a counted fault, and FAULT.
Assumption 125 (DEDUCED). -/
def mismatch (g : Nat) (s : State) : State :=
  let close := flightAt s (g + 1 + getF s Reg.NWL_CFG_DIG_LAG)
  let counted := countedFault s close
  let s := raiseEvent 0x224 (if counted then captureError .nwl 0x03 2 false 0 0 none s else s)
  let s := sendNewel (.fault g counted false) s
  decideFault (setTwin { s.twin with ownFault := some (g, counted) } s)

/-- Matching groups before a join: after MATCH_COUNT in a row the source names E (R430). -/
def matchJoin (s : State) : State :=
  let r := s.twin.resync
  if !r.active ∨ !r.source ∨ r.emitGroup.isSome then s
  else
    let r := { r with matched := r.matched + 1 }
    let s := setTwin { s.twin with resync := r } s
    if r.matched < getF s Reg.NWL_CFG_MATCH_COUNT then s
    else
      let e := flightFrom s (s.now + 2 * flightLen s)
      sendNewel (.join 2 e) (setTwin { s.twin with resync := { r with emitGroup := some e } } s)

/-- The own and the partner's digest of a group are compared (R420, R430). -/
def compareGroup (x y : GroupSum) (s : State) : State :=
  let s := set64 s Reg.NWL_DIGEST_GROUP_LO.addr x.group
  let s := set64 (set64 s Reg.NWL_DIGEST_LOCAL_LO.addr x.value) Reg.NWL_DIGEST_REMOTE_LO.addr y.value
  if x = y then matchJoin (incF s (Reg.NWL_CNT_COUNT 6))
  else if s.twin.state = .lockstep then mismatch x.group s
  else abortResync true s

/-- Whether this device sends and compares the digests of its groups: in lockstep, and in a resynchronisation the source
once the image is sent and the joiner after 16 flights without a miss (R420, R430). -/
def comparesDigests (s : State) : Bool :=
  s.twin.state == .lockstep ||
    (s.twin.resync.active && s.twin.resync.done && (s.twin.resync.source || decide (16 ≤ s.twin.resync.clean)))

/-- Group m closes: its digest goes to the partner and is compared where the partner's is here (R418, R420). -/
def closeGroup (m : Nat) (s : State) : State :=
  let s := contributeQueued m s
  let (n, v) := sgetC (0, 0) s.twin.groups m
  let x : GroupSum := ⟨m, sgetC 0 s.twin.groupEpochs m, n, v⟩
  let s := setTwin { s.twin with
    groups := sdrop (fun k => decide (k ≤ m)) s.twin.groups, groupEpochs := sdrop (fun k => decide (k ≤ m)) s.twin.groupEpochs } s
  if !comparesDigests s then s
  else
    let s := sendNewel (.digest x.group x.epoch x.packets x.value) s
    match s.twin.partnerDigests.find? (fun y => y.group == m) with
    | some y => compareGroup x y (setTwin { s.twin with partnerDigests := s.twin.partnerDigests.filter fun z => z.group != m } s)
    | none => setTwin { s.twin with closed := s.twin.closed ++ [x], partnerDigests := s.twin.partnerDigests.filter fun z => decide (m < z.group) } s

/-- DIGEST (R420). -/
def digest (y : GroupSum) (s : State) : State :=
  match s.twin.closed.find? (fun x => x.group == y.group) with
  | some x => compareGroup x y (setTwin { s.twin with closed := s.twin.closed.filter fun z => z.group != y.group } s)
  | none => setTwin { s.twin with partnerDigests := s.twin.partnerDigests ++ [y] } s

/-- FAULT (R422, R423): a counted fault for a mismatch, or the partner's takeover recommendation. A primary that withdrew
on its own recommendation in this audio flight goes on alone where the partner recommended takeover too. -/
def faultIn (g : Nat) (counted takeover : Bool) (s : State) : State :=
  if takeover then
    let crossed := isPrimary s && s.twin.state == .withdrawn && getF s Reg.NWL_STAT_CAUSE == 3 &&
      s.twin.withdrawnAt.any fun t => flightNumber s t == flightNumber s s.now
    let s := setTwin { s.twin with partnerTakeover := true } s
    if crossed then enterAlone (setTwin { s.twin with emitting := true, withdrawnAt := none } s) else s
  else decideFault (setTwin { s.twin with partnerFault := some (g, counted) } s)

/-- ALERT (R426): event 0x22C, with the partner's event number in every journal that takes events. -/
def alertIn (event : Nat) (stamp : Treads) (s : State) : State :=
  let s := raiseEvent 0x22C s
  allDoors.foldl (fun s d => journalAdd d ⟨stamp, 5, 2, 0xFF, event, 0, 0⟩ s) s

/-- WITHDRAW (R413, R422, R424): the partner has withdrawn; this device is alone, with event 0x226. During pairing cause 9
ends the pairing: the primary starts unpaired, the secondary is withdrawn. Assumption 126 (DEDUCED). -/
def withdrawIn (cause : Nat) (s : State) : State :=
  match s.twin.state with
  | .lockstep => raiseEvent 0x226 (enterAlone s)
  | .alone =>
    let s := if s.twin.resync.active then abortResync false s else s
    raiseEvent 0x226 (setTwin { s.twin with failedAt := none } s)
  | .pairing =>
    if cause = 9 ∧ s.twin.startFlight.isSome then
      if isPrimary s then raiseEvent 0x045 (raiseEvent 0x226 (enterAlone s))
      else setTwin { s.twin with state := .withdrawn, emitting := false, withdrawnAt := some s.now, startFlight := none } s
    else s
  | .copying => abortResync false s
  | .shadowing => abortResync false s
  | _ => s

/-- HOST_WITHDRAW: NWL_CTRL.WITHDRAW, effective only in lockstep. Assumption 130 (DEDUCED). -/
def hostWithdraw (s : State) : State := if s.twin.state = .lockstep then withdraw 6 s else s

/-! ### Deadlines (R425, R431) -/

/-- Whether a packet with side-tone waits for the set of a cut-off (R225, R416). -/
def sideCutDue (s : State) (c : Treads) : Bool :=
  s.gal.packets.any fun p => p.side && audioSlot p.t0 p.ptime (flightLen s) == c + 8820

/-- Whether a limit has passed without what was owed: C + 5,645 for a SEAL, the flight start for a REQ_SEAL, the close plus
2,205 for a DIGEST, the close plus 4,410 for a FAULT. -/
def overdue (s : State) (o : Owed) : Bool :=
  let close := fun (g : Nat) => flightAt s (g + 1 + getF s Reg.NWL_CFG_DIG_LAG)
  match o with
  | .seal c => decide (c + 5645 ≤ s.now) && (((setsAt s c).any fun x => !x.final) || sideCutDue s c) && (atCutoff s.twin.partnerSeals c).isNone
  | .reqSeal cut => decide (cut + 4410 ≤ s.now) && s.epoch.cutDone && cut == cutNow s && sealsRequests s cut && !cutSealed s cut
  | .digest g => decide (close g + 2205 < s.now) && s.twin.closed.any fun x => x.group == g
  | .fault g =>
    decide (close g + 4410 < s.now) && (s.twin.ownFault.any fun x => x.1 == g) && !(s.twin.partnerFault.any fun x => x.1 == g)

/-- PARTNER_DEADLINE_EXPIRY (R425): a link failure in lockstep; while shadowing a missed SEAL ends the resynchronisation. -/
def partnerDeadline (o : Owed) (s : State) : State :=
  if !overdue s o then s
  else match s.twin.state with
    | .lockstep => linkFailure s
    | _ => match o with
      | .seal _ => abortResync true s
      | _ => s

/-- ALIVE_EDGE: an edge on NWL_ALIVE_IN. -/
def aliveEdge (s : State) : State := setTwin { s.twin with aliveSeen := some s.now } s

/-- ALIVE_TIMEOUT (R425): 2L + 17,640 treads after a link failure the secondary withdraws with cause 4 where edges have
continued, and stays alone where none has come. -/
def aliveTimeout (s : State) : State :=
  match s.twin.failedAt with
  | some t =>
    if s.now < t + 2 * flightLen s + 17640 then s
    else
      let edges := s.twin.aliveSeen.any fun e => decide (t < e)
      let s := setTwin { s.twin with failedAt := none } s
      if edges ∧ s.twin.state = .alone then withdraw 4 s else s
  | none => s

/-! ### Resynchronisation (R427 to R431) -/

/-- Insert a number in rising order, once. -/
def insertAsc (n : Nat) : List Nat → List Nat
  | [] => [n]
  | x :: xs => if n < x then n :: x :: xs else if n = x then x :: xs else x :: insertAsc n xs

/-- The 64 KiB blocks of DRAM in use: every region and private area, in address order (R428). -/
def blocksInUse (s : State) : List Nat :=
  let spans := (s.cht.loaded.regions.map fun r => (r.base, r.size)) ++ s.cht.loaded.areas.map fun a => (a.base, a.size)
  let spans := spans.foldl (fun l x => insertAsc (x.1 * 4294967296 + x.2) l) []
  spans.flatMap fun x => (List.range (x % 4294967296 * 32)).map fun i => x / 4294967296 * 32 + i

/-- Blocks leave in IMAGE messages: from their saved copies where they have one, and from memory otherwise. -/
def sendBlocks (bs : List Nat) (s : State) : State :=
  let r := s.twin.resync
  let s := bs.foldl (fun s b =>
    let x := (s.twin.resync.saved.find? fun e => e.1 == b).elim (blockImage s b) (·.2)
    sendNewel (.image (.block b x.1 x.2)) s) s
  showResync (setTwin { s.twin with resync := { s.twin.resync with bytes := r.bytes + blockBytes * bs.length } } s)

/-- Whether a device can join a running partner: withdrawn, or a secondary in step 9 that has not paired (R91, R427).
Assumption 129 (DEDUCED). -/
def canJoin (s : State) : Bool :=
  s.twin.linkUp && (s.twin.state == .withdrawn ||
    (s.twin.state == .pairing && isSecondary s && s.twin.startFlight.isNone))

/-- Resynchronisation starts on the joiner (R427): its media state is cleared, it enters copying, and a JOIN asks the source
for the image. -/
def startJoin (s : State) : State :=
  let s := clearMedia { s with tim := { s.tim with flights := .stopped } }
  let s := setTwin { s.twin with state := .copying, emitting := false, resync := { resyncInit with active := true } } s
  sendNewel (.join 0 0) (raiseEvent 0x227 (showResync s))

/-- RESYNC: NWL_CTRL.RESYNC, effective only when withdrawn. -/
def resyncNow (s : State) : State := if canJoin s then startJoin s else s

/-- AUTO_RESYNC (R427): one second after the withdrawal; a secondary that waits in step 9 joins a running primary so
(R91). -/
def autoResync (s : State) : State :=
  match s.twin.withdrawnAt with
  | some t =>
    if getF s Reg.NWL_CFG_AUTO_RESYNC = 1 ∧ s.twin.state = .withdrawn ∧ t + treadsPerSecond ≤ s.now ∧ canJoin s then
      startJoin s
    else s
  | none => if getF s Reg.NWL_CFG_AUTO_RESYNC = 1 ∧ s.twin.state = .pairing ∧ canJoin s then startJoin s else s

/-- ABORT: NWL_CTRL.ABORT (R431). -/
def abortNow (s : State) : State := abortResync true s

/-- The source begins pass 0 (R428). -/
def startSource (s : State) : State :=
  if s.twin.state ≠ .alone ∨ s.twin.resync.active then s
  else
    let s := setTwin { s.twin with resync := { resyncInit with active := true, source := true } } s
    raiseEvent 0x227 (sendBlocks (blocksInUse s) s)

/-- A pass ends on the source: the blocks marked during it are the next pass's, or few enough to name J (R428). -/
def passEnd (s : State) : State :=
  let r := s.twin.resync
  if !r.active ∨ !r.source ∨ r.joinFlight.isSome then s
  else
    let s := setF s Reg.NWL_RESYNC_DIRTY (min 0xFFFFFF r.dirty.length)
    if r.dirty.length ≤ 4096 then
      let j := flightFrom s (s.now + 141120)
      let s := setTwin { s.twin with resync := { r with joinFlight := some j }, unionFrom := some (flightAt s j) } s
      showResync (sendNewel (.join 1 j) s)
    else
      let s := setTwin { s.twin with resync := { r with pass := (r.pass + 1) % 256, dirty := [] } } s
      sendBlocks r.dirty s

/-- The configuration and table words of the image at J. -/
def imageWords (x : ImageUnits) : Sparse Word :=
  x.regs.filter fun e => decide (0x80000000 ≤ e.1) || (findWord e.1).any fun w => wordHasAcc w.1 .rwe

/-- FINAL_PASS (R429): once every release before J has completed, the source sends the dirty blocks, the words, and the
on-chip state. Assumption 128 (DESIGN CHOICE). -/
def finalPass (s : State) : State :=
  let r := s.twin.resync
  match r.joinFlight, r.kept with
  | some n, some x =>
    let j := flightAt s n
    if !r.active ∨ !r.source ∨ r.done ∨ s.now < j ∨ s.stw.releases.any (fun x => decide (x.instant < j)) then s
    else
      let s := sendBlocks (r.dirty ++ (r.saved.map (·.1)).filter fun b => !r.dirty.contains b) s
      let e := sgetC s.epoch.newest s.twin.groupEpochs n
      let early := { x.stw with releases := x.stw.releases.filter fun y => decide (j ≤ y.instant) }
      let parts : List ImagePart :=
        [.words e (imageWords x), .releases early r.given, .waiting x.carried x.deferred, .landing x.lnd, .gallery x.gal, .decode x.dec,
         .hall x.hal, .encode x.enc, .cipher x.cip, .queues x.queues, .shaper x.shp, .modem x.modem, .ports x.ports, .complete]
      let s := parts.foldl (fun s p => sendNewel (.image p) s) s
      setTwin { s.twin with resync := { s.twin.resync with done := true, dirty := [], saved := [], kept := none, given := [] } } s
  | _, _ => s

/-- The joiner's part of the exchange at a commit cut while it waits for its image: REQ_SEAL, and at the cut of J the requests from
before it, which the source commits into the image: the joiner's own are then returned as COMPLETIONs (R424, R430). -/
def joinerCut (cut : Treads) (s : State) : State :=
  let s := sendReqSeal cut s
  if s.twin.resync.joinFlight.any fun n => flightAt s n == cut + 4410 then
    let before := s.epoch.arrived.filter fun u => decide (u.stamp < cut)
    let own := before.flatMap fun u => (u.members.filter fun r => !r.otherTwin).map fun r => (u.door, r)
    setTwin { s.twin with away := s.twin.away ++ own } { s with epoch := { s.epoch with
      arrived := s.epoch.arrived.filter fun u => decide (cut ≤ u.stamp) } }
  else s

/-- A request that waits in the image, as the joiner holds it: its own again, with its completion slot, or the source's. -/
def joinerReq (s : State) (d : Nat) (r : Req) : Req :=
  match s.twin.away.find? (fun e => e.1 == d && e.2.seq == r.seq) with
  | some e => if r.otherTwin then { r with otherTwin := false, slot := e.2.slot } else { r with otherTwin := true, slot := none }
  | none => { r with otherTwin := true, slot := none }

/-- The requests that wait in the image join those of the joiner. -/
def takeWaiting (carried : List ReqUnit) (deferred : List (Nat × ReqUnit)) (s : State) : State :=
  let held := fun (u : ReqUnit) => { u with members := u.members.map (joinerReq s u.door) }
  let named := (carried ++ deferred.map (·.2)).flatMap fun u => (u.members.filter (·.otherTwin)).map fun r => (u.door, r.seq)
  setTwin { s.twin with away := s.twin.away.filter fun e => !named.contains (e.1, e.2.seq) } { s with epoch := { s.epoch with
    carried := carried.map held, deferred := deferred.map fun e => (e.1, held e.2) } }

/-- The image is complete: the joiner enters shadowing and runs from J (R430). -/
def enterShadowing (s : State) : State :=
  match s.twin.resync.joinFlight with
  | some n =>
    let j := flightAt s n
    let given := s.twin.resync.given
    let s := setTwin { s.twin with state := .shadowing, resync := { s.twin.resync with done := true, clean := 0, given := [] } } s
    let s := { s with epoch := { s.epoch with cutDone := false, charterDue := false, newestAt := j } }
    let s := given.foldl (fun s g => deliver deliverFuel g.task g.op g.src g.next g.value g.bytes s) (noteFlight j s)
    (s.twin.sealed.map (·.1)).foldl (fun s c => sealBoth c s) s
  | none => s

/-- The Landing cores of the image, with the parity that this device's own program memories have. -/
def takeLanding (x : LandUnit) (s : State) : State :=
  s.lnd.cores.foldl (fun t e => if e.2.bad.isEmpty then t else setCore e.1 { coreOf t e.1 with bad := e.2.bad } t)
    { s with lnd := { x with cores := x.cores.map fun e => (e.1, { e.2 with bad := [] }) } }

/-- IMAGE (R428, R429) on the joiner. -/
def imageIn (p : ImagePart) (s : State) : State :=
  if s.twin.state ≠ .copying then s
  else
    let s := setTwin { s.twin with resync := { s.twin.resync with
      bytes := s.twin.resync.bytes + (match p with | .block _ bs _ => bs.length | _ => 0) } } s
    let s := showResync s
    match p with
    | .block n bs bad => (lineParts (n * blockBytes) bs.length bs.length).foldl (fun s l =>
        writeLine l.1 ((bs.drop (l.1 - n * blockBytes)).take l.2) (bad.contains (l.1 % blockBytes / 64)) s) s
    | .words e ws =>
      let s := ws.foldl (fun s w => rset s w.1 w.2) s
      { s with epoch := { s.epoch with newest := e } }
    | .releases x given =>
      let y := { s.stw with releases := x.releases, reached := x.reached, overran := x.overran, opened := x.opened }
      setTwin { s.twin with resync := { s.twin.resync with given := given } } (setStair y s)
    | .waiting carried deferred => takeWaiting carried deferred s
    | .landing x => takeLanding x s
    | .gallery x =>
      let own := s.gal.stRecs.filter fun r => !x.stRecs.any fun q => identOf q == identOf r
      { s with gal := { x with stRecs := x.stRecs ++ own } }
    | .decode x => { s with dec := x }
    | .hall x => { s with hal := x }
    | .encode x => { s with enc := x }
    | .cipher x => { s with cip := { x with mismatches := s.cip.mismatches, upset := s.cip.upset } }
    | .queues x => { s with queues := x }
    | .shaper x => { s with shp := x }
    | .modem x => { s with modem := x }
    | .ports x => { s with ports := { x with
        merges := s.ports.merges, pathSeen := s.ports.pathSeen, sets := s.ports.sets, memberships := s.ports.memberships
        posted := s.ports.posted, stampsDue := s.ports.stampsDue, stoppedSeen := s.ports.stoppedSeen } }
    | .complete => enterShadowing s

/-- JOIN (R428, R430): phase 1 names J, phase 2 names E; phase 0 asks this device for its image, and phase 3 ends the copy.
Assumption 127 (DESIGN CHOICE). -/
def joinMessage (phase value : Nat) (s : State) : State :=
  let r := s.twin.resync
  match phase with
  | 0 => startSource s
  | 1 =>
    if s.twin.state = .copying ∧ r.joinFlight.isNone then
      showResync (setTwin { s.twin with resync := { r with joinFlight := some value }, unionFrom := some (flightAt s value) } s)
    else s
  | 2 =>
    if s.twin.state = .shadowing then
      setTwin { s.twin with resync := { r with emitGroup := some value }, emitFrom := flightAt s value } s
    else s
  | _ => abortResync false s

/-- RESYNC_TIMEOUT (R431): 1,411,200,000 treads after J. -/
def resyncTimeout (s : State) : State :=
  match s.twin.resync.joinFlight with
  | some n => if flightAt s n + 1411200000 ≤ s.now then abortResync true s else s
  | none => s

/-! ### At an audio flight start -/

/-- The pair at the start of flight n (R418, R420, R430): NWL_ALIVE_OUT inverts, the flight's epoch is kept for its group,
group n − 1 − DIG_LAG closes, a shadowing device counts its flights without a miss, and group E enters lockstep. -/
def twinFlight (n : Nat) (missed : Bool) (s : State) : State :=
  let x := s.twin
  let r := x.resync
  let clean := if s.twin.state = .shadowing then (if missed then 0 else r.clean + 1) else r.clean
  let s := setTwin { x with
    aliveOut := !x.aliveOut, replays := 0, removedTold := false, groupEpochs := ssetC 0 x.groupEpochs n s.epoch.newest
    resync := { r with clean := clean } } s
  let s := if r.emitGroup.any (fun e => decide (e ≤ n)) then enterLockstep 0x228 s else s
  closeGroup (n - 1 - getF s Reg.NWL_CFG_DIG_LAG) s

end Sys2Proof.Machine
end

