-- ==== Sys2Proof/Machine/Clocks.lean ====
section
/-! DEFINITION. Clocks and power: the source monitor, domain switches, the gate tree, CLKOBS, Hold and Keep (Clocks, power
states and reset), the supply pins and the thermal trip (Electrical, thermal and package). -/

namespace Sys2Proof.Machine

/-- Replace the clock and power state. -/
def setClk (x : ClockUnit) (s : State) : State := { s with clk := x }

/-! ### Switching a domain (R433 to R435) -/

/-- The PLL of domains 0 to 4 has the domain's own number (Table 2). Whether the old clock of a domain still runs: the ring
oscillator always does. -/
def oldClockRuns (s : State) (d : Nat) : Bool :=
  getF s (Reg.CLK_SW_STAT_CUR d) == 1 || getF s Reg.CLK_PLL_STAT_LOCK / 2 ^ d % 2 == 1

/-- A switch of domain d completes. -/
def switchDone (d src : Nat) (s : State) : State :=
  let s := setF (setF s (Reg.CLK_SW_STAT_CUR d) src) (Reg.CLK_SW_STAT_BUSY d) 0
  setClk { s.clk with switchTo := ssetC none s.clk.switchTo d none } (incSatF s (Reg.CLK_SW_STAT_SWITCHES d))

/-- A switch of domain d is requested: glitch-free at once where the old clock runs, else in progress until it is forced;
while one is in progress the last source requested waits (R433 to R435). Assumption 133 (DEDUCED). -/
def requestSwitch (d src : Nat) (s : State) : State :=
  if (sgetC none s.clk.switchTo d).isSome then setClk { s.clk with switchNext := ssetC none s.clk.switchNext d (some src) } s
  else if getF s (Reg.CLK_SW_STAT_CUR d) = src then s
  else if oldClockRuns s d then switchDone d src s
  else setClk { s.clk with switchTo := ssetC none s.clk.switchTo d (some src) } (setF s (Reg.CLK_SW_STAT_BUSY d) 1)

/-- FORCED_SWITCH (R434): the old clock gave no edge for 32 ring cycles; event 0x025. -/
def forcedSwitch (d : Nat) (s : State) : State :=
  match sgetC none s.clk.switchTo d with
  | none => s
  | some src =>
    let s := raiseEvent 0x025 (setF (switchDone d src s) (Reg.CLK_SW_STAT_FORCED d) 1)
    match sgetC none s.clk.switchNext d with
    | some n => requestSwitch d n (setClk { s.clk with switchNext := ssetC none s.clk.switchNext d none } s)
    | none => s

/-- CLOCK_SWITCH (R435): door d's write of CLK_SEL[n].SRC, dropped with a configuration error while flights run. A switch to a PLL that
has lost its lock waits for the PLL's return (R440). Assumption 182 (DEDUCED). -/
def clockSwitch (d n src : Nat) (s : State) : State :=
  let a := (Reg.CLK_SEL_SRC n).addr
  match writeCheck s d a (BitVec.ofNat 32 src) with
  | some r => dropRecord d a r s
  | none =>
    if s.tim.flights = .running then configError .clk d s
    else
      let s := storeWord a (BitVec.ofNat 32 src) s
      if src % 2 = 0 ∧ getF s Reg.CLK_PLL_STAT_LOCK / 2 ^ n % 2 = 0 then s else requestSwitch n (src % 2) s

/-! ### Links without a clock (R438) -/

/-- Every door's link goes down. -/
def doorsDown (s : State) : State :=
  allDoors.foldl (fun s d => if linkUp s d then doorLinkChange d false 0 0 s else s) s

/-- Every media port's link goes down. -/
def portsDown (s : State) : State :=
  [0, 1, 2, 3].foldl (fun s p => if getF s (Reg.ETH_PORT_STAT_LINK p) = 1 then portLinkChange p false false s else s) s

/-- The domain of a PLL has lost its clock: 0 to 4 go to the ring oscillator, the links of the others go down. -/
def pllDomain (p : Nat) (s : State) : State :=
  if p ≤ 4 then requestSwitch p 1 s
  else if p = 5 then doorsDown s
  else if p = 6 then portsDown s
  else linkDown s

/-! ### The source monitor (R436 to R440) -/

/-- Passing counts of a window: 0 SYSOSC, 1 SERDES_REFCLK, 2 the ring oscillator, which checks MONOSC (Table 3). -/
def windowPasses (r n : Nat) : Bool :=
  match r with
  | 0 => decide (4076 ≤ n) && decide (n ≤ 4116)
  | 1 => decide (6368 ≤ n) && decide (n ≤ 6432)
  | _ => decide (2949 ≤ n) && decide (n ≤ 3604)

/-- Whether a source is failing. -/
def sourceFails (s : State) (r : Nat) : Bool := getF s (Reg.CLK_MON_STAT_FAIL r) == 1

/-- The source of a PLL (Table 1). -/
def pllSource (p : Nat) : Nat := if 6 ≤ p then 1 else 0

/-- A source has begun to fail: its registers, its event and its error code (R438, Table 10). -/
def noteFailure (r event code : Nat) (s : State) : State :=
  let s := setF (setF s (Reg.CLK_MON_STAT_FAIL r) 1) (Reg.CLK_MON_STAT_SEEN r) 1
  let s := setClk { s.clk with passing := ssetC 0 s.clk.passing r 0 } (incSatF s (Reg.CLK_MON_STAT_FAILS r))
  raiseEvent event (captureError .clk code 3 true r 0 none s)

/-- The synthesizer's reference fails: the count goes on from MONOSC, the servo is in HOLDOVER, and event 0x069 (R49). A servo that is
not stepped stays UNSET, ACQUIRE or HALTED, since Table 1 of Treads, flights and network time makes HOLDOVER a stepped state.
Assumption 148 (DEDUCED). -/
def loseReference (s : State) : State :=
  let s := setF s Reg.CLK_PLL_STAT_TREAD_LOCK 0
  let s := setServo { s.tim.servo with refLost := true } s
  raiseEvent 0x069 (if s.tim.servo.stepped && s.tim.servo.state != .holdover then enterHoldover s else s)

/-- A reference failure (R438). -/
def referenceFails (r : Nat) (s : State) : State :=
  let s := noteFailure r (0x020 + r) 0x01 s
  if r = 0 then loseReference ([0, 1, 2, 3, 4, 5].foldl (fun s p => pllDomain p s) s)
  else [6, 7].foldl (fun s p => pllDomain p s) s

/-- A failed source has passed 16 windows (R440): its PLLs relock, the domains return, DRAM retrains, event 0x024; `failed`
are the subchannels that find no working setting. -/
def referenceReturns (r : Nat) (failed : List Nat) (s : State) : State :=
  let s := setClk { s.clk with passing := ssetC 0 s.clk.passing r 0 } (setF s (Reg.CLK_MON_STAT_FAIL r) 0)
  let lock := getF s Reg.CLK_PLL_STAT_LOCK
  let s := setF s Reg.CLK_PLL_STAT_LOCK (lock ||| (if r = 0 then 0x3F else 0xC0))
  let s :=
    if r ≠ 0 then s
    else
      let alt := getF s Reg.CLK_PLL_STAT_DRAM_ALT = 1
      let s := setF (setF s Reg.CLK_PLL_STAT_DRAM_ALT 0) Reg.CLK_PLL_STAT_UCR_ALT 0
      let s := setServo { s.tim.servo with refLost := false } (setF s Reg.CLK_PLL_STAT_TREAD_LOCK 1)
      let s := [0, 1, 2].foldl (fun s d => requestSwitch d (getF s (Reg.CLK_SEL_SRC d)) s) s
      let s := [3, 4].foldl (fun s d => requestSwitch d 0 s) s
      let rests := s.clk.power == .hold || s.clk.power == .enteringKeep || s.clk.power == .keep || s.clk.power == .waking
      if alt ∧ !rests then quickScrub (selfRefreshExit failed s) else s
  raiseEvent 0x024 s

/-- One source's window. Assumption 132 (DEDUCED). -/
def sourceWindow (r n : Nat) (failed : List Nat) (s : State) : State :=
  let s := setF s (Reg.CLK_MON_STAT_COUNT r) n
  if !windowPasses r n then
    if sourceFails s r then setClk { s.clk with passing := ssetC 0 s.clk.passing r 0 } s else referenceFails r s
  else if !sourceFails s r then s
  else
    let k := sgetC 0 s.clk.passing r + 1
    if k < 16 then setClk { s.clk with passing := ssetC 0 s.clk.passing r k } s else referenceReturns r failed s

/-- The ring oscillator's window: a count outside its band is a MONOSC failure, which a passing one ends (R436, R438). -/
def ringWindow (n : Nat) (s : State) : State :=
  let s := setF s (Reg.CLK_MON_STAT_COUNT 2) n
  if windowPasses 2 n then setF s (Reg.CLK_MON_STAT_FAIL 2) 0
  else if sourceFails s 2 then s
  else noteFailure 2 0x022 0x03 s

/-- MONITOR_WINDOW (R436): the counts of 1,024 MONOSC cycles; while MONOSC fails the other two sources are not checked. -/
def monitorWindow (sysosc serdes ring : Nat) (failed : List Nat) (s : State) : State :=
  let s := ringWindow ring s
  if sourceFails s 2 then s else sourceWindow 1 serdes failed (sourceWindow 0 sysosc failed s)

/-- PLL_LOCK_LOSS (R437, R438): the PLL's output stops; where its reference passes the monitor, event 0x023 and error code
0x02. -/
def pllLockLoss (p : Nat) (s : State) : State :=
  let lock := getF s Reg.CLK_PLL_STAT_LOCK
  if lock / 2 ^ p % 2 = 0 then s
  else
    let s := setF s Reg.CLK_PLL_STAT_LOCK (lock - 2 ^ p)
    let s := if sourceFails s (pllSource p) then s
      else raiseEvent 0x023 (captureError .clk 0x02 3 true p 0 none s)
    pllDomain p s

/-- PLL_MONOSC_RELOCK (R438): PLL_DRAM and PLL_UCR, where they have lost their reference or their lock, lock to MONOSC and carry
their domains again; DRAM enters self-refresh under island control. Assumption 136 (DEDUCED). -/
def pllMonoscRelock (s : State) : State :=
  let lost := fun (p : Nat) => sourceFails s 0 || getF s Reg.CLK_PLL_STAT_LOCK / 2 ^ p % 2 == 0
  let one := fun (p : Nat) (alt : Fld) (s : State) =>
    let l := getF s Reg.CLK_PLL_STAT_LOCK
    requestSwitch p 0 (setF (setF s Reg.CLK_PLL_STAT_LOCK (l ||| 2 ^ p)) alt 1)
  let s := if lost 4 then one 4 Reg.CLK_PLL_STAT_UCR_ALT s else s
  if lost 3 then selfRefreshEntry (countMissed (one 3 Reg.CLK_PLL_STAT_DRAM_ALT s)) else s

/-! ### The gate tree (R441 to R445) -/

/-- Whether gate n is open. -/
def gateOpen (s : State) (n : Nat) : Bool := getF s (Reg.CLK_GATE_OPEN n) == 1

/-- The gates that exist. -/
def allGates : List Nat := (List.range 84).filter gateExists

/-- Children of a gate. -/
def gateChildren (n : Nat) : List Nat := allGates.filter fun m => (gatePlace m).2 == n

/-- Work of a gate's own instance (Table 5). -/
def ownWork (s : State) (n : Nat) : Bool :=
  if 32 ≤ n ∧ n ≤ 47 then s.cht.loaded.places.any fun p => p.core / 32 == n - 32
  else if 48 ≤ n ∧ n ≤ 55 then getF s (Reg.DEC_ENGINE_STAT_STREAMS (n - 48)) != 0
  else if 60 ≤ n ∧ n ≤ 67 then getF s (Reg.ENC_ENGINE_STAT_LAYERS (n - 60)) != 0
  else if (56 ≤ n ∧ n ≤ 59) ∨ (68 ≤ n ∧ n ≤ 75) then s.tim.flights == .running
  else if 76 ≤ n then getF s Reg.UCR_STAT_MOUNT == 1 || getF s Reg.UCR_STAT_MOUNT == 2
  else if 15 ≤ n ∧ n ≤ 18 then getF s (Reg.ETH_PORT_CFG_EN (n - 15)) == 1
  else if n = 14 then pairedRole s
  else false

/-- Whether a gate is IN_USE: by its own work, or by a child's; the tree has three levels. -/
def gateInUse (s : State) (n : Nat) : Bool :=
  ownWork s n || (gateChildren n).any fun m => ownWork s m || (gateChildren m).any fun k => ownWork s k

/-- Last status of a gate. -/
def gateStatus (n v : Nat) (s : State) : State := setF s (Reg.CLK_GATE_STATUS n) v

/-- A refused gate request raises event 0x026. -/
def gateRefuse (n v : Nat) (s : State) : State := raiseEvent 0x026 (gateStatus n v s)

/-- A gate closes, and its held request ends. -/
def gateClosed (n : Nat) (s : State) : State :=
  let s := setClk { s.clk with held := s.clk.held.filter fun h => h.1 != n } (gateStatus n 0 s)
  setF (setF s (Reg.CLK_GATE_HELD n) 0) (Reg.CLK_GATE_OPEN n) 0

/-- An open request (R442). -/
def gateOpenReq (n : Nat) (s : State) : State :=
  let p := (gatePlace n).2
  if p ≠ 0x7F ∧ !gateOpen s p then gateRefuse n 3 s
  else
    let s := setClk { s.clk with held := s.clk.held.filter fun h => h.1 != n } (gateStatus n 0 s)
    setF (setF s (Reg.CLK_GATE_HELD n) 0) (Reg.CLK_GATE_OPEN n) 1

/-- A close request: refused FIXED, CHILD_ON or IN_USE in this order, held while the block has a bus access in progress, or
done (R442, R443). -/
def gateCloseReq (n : Nat) (busy : Bool) (s : State) : State :=
  if n = 0 ∨ n = 3 ∨ n = 7 then gateRefuse n 5 s
  else if (gateChildren n).any (gateOpen s) then gateRefuse n 2 s
  else if gateInUse s n then gateRefuse n 4 s
  else if busy then
    setClk { s.clk with held := (s.clk.held.filter fun h => h.1 != n) ++ [(n, s.now)] }
      (setF (gateStatus n 7 s) (Reg.CLK_GATE_HELD n) 1)
  else gateClosed n s

/-- A write of a CMD to CLK_GATE[n] by door d; codes 0 and 3 do nothing (R441). -/
def gateWrite (d n cmd : Nat) (busy : Bool) (s : State) : State :=
  let a := (Reg.CLK_GATE_CMD n).addr
  match writeCheck s d a (BitVec.ofNat 32 cmd) with
  | some r => dropRecord d a r s
  | none =>
    if !gateExists n then s
    else if cmd = 1 then gateOpenReq n s
    else if cmd = 2 then gateCloseReq n busy s
    else s

/-- GATE_BUS_IDLE (R443): a held gate closes. -/
def gateBusIdle (n : Nat) (s : State) : State := if s.clk.held.any (fun h => h.1 == n) then gateClosed n s else s

/-- Treads of 4,096 fabric cycles: 1.0 ns on the PLL, 12.5 ns on the ring oscillator. Assumption 134 (DEDUCED). -/
def busyTreads (s : State) : Nat := if getF s (Reg.CLK_SW_STAT_CUR 0) = 1 then 7226 else 579

/-- GATE_BUSY_TIMEOUT (R443): still not idle after 4,096 fabric cycles, the close is refused with BUSY. -/
def gateBusyTimeout (n : Nat) (s : State) : State :=
  match s.clk.held.find? (fun h => h.1 == n) with
  | some (_, t) =>
    if s.now < t + busyTreads s then s
    else
      let s := setClk { s.clk with held := s.clk.held.filter fun h => h.1 != n } s
      gateRefuse n 1 (setF s (Reg.CLK_GATE_HELD n) 0)
  | none => s

/-- The charter's gate states return (R449, R453). -/
def charterGates (s : State) : State :=
  allGates.foldl (fun s n => setF s (Reg.CLK_GATE_OPEN n) (bitsOf (charterWord s (Reg.CLK_GATE_OPEN n).addr) 2 2)) s

/-! ### CLKOBS (R446) -/

/-- CLOCK_OBSERVE: door d's write of CLK_OBS; the divider restarts with the pin low. -/
def clockObserve (d : Nat) (v : Word) (s : State) : State :=
  let a := Reg.CLK_OBS_SRC.addr
  match writeCheck s d a v with
  | some r => dropRecord d a r s
  | none => setClk { s.clk with obsPhase := 0 } (storeWord a v s)

/-- Source cycles for which CLKOBS is high in one period of the divisor DIV + 1 (R446). -/
def obsHigh (s : State) : Nat := (getF s Reg.CLK_OBS_DIV + 2) / 2

/-! ### Power states (R447 to R452) -/

/-- The power state changes. -/
def setPower (p : PowerState) (s : State) : State := setClk { s.clk with power := p } s

/-- The record releases that Hold entry runs: every closed arrival set is stored (R448). -/
def storeClosedSets (s : State) : State :=
  let s := (s.ports.sets.filter fun x => x.closed && !x.final).foldl (fun s x => finalSet x s) s
  let sets := s.ports.sets.filter fun x => x.final && !x.stored
  let st := stageSets s sets
  let s := if archiveUp s then storeStaged (flightNumber s s.now) (stageRecs st s) else addF s (Reg.UCR_CNT_COUNT 1) st.length
  { s with ports := { s.ports with sets := [] } }

/-- The gates that Hold entry closes, children first (R448). -/
def holdGates : List Nat := (List.range 44).map (· + 32) ++ [8, 9, 10, 11, 12, 1, 2]

/-- A wake condition that already holds: WAKE_N low, or the alarm's count reached (R451). -/
def wakeHolds (s : State) : Bool :=
  (getF s Reg.PWR_WAKE_CFG_PIN_EN == 1 && !s.pins.wakeN) ||
  (getF s Reg.PWR_WAKE_CFG_ALARM_EN == 1 &&
    decide ((getF s Reg.PWR_WAKE_AT_SEC_LO + 4294967296 * getF s Reg.PWR_WAKE_AT_SEC_HI) * treadsPerSecond +
      getF s Reg.PWR_WAKE_AT_TREADS ≤ instant48 s.now))

/-- The island begins to leave Keep: PWR_MAIN_EN goes high and it waits for PWR_GOOD (R451). -/
def beginWake (cause : Nat) (s : State) : State :=
  let s := setF s Reg.PWR_STAT_WAKE cause
  let s := { s with pins := { s.pins with pwrMainEn := !s.pins.tripped } }
  setClk { s.clk with power := .waking, wakeAt := s.now } s

/-- Keep is entered from Hold (R450): checkpoint, the doors SHUT, every link down, the main rails off. -/
def enterKeep (s : State) : State :=
  let s := setPower .enteringKeep s
  let s := checkpointAll s
  let s := allDoors.foldl (fun s d => setDoor s d { doorOf s d with phase := .shut }) s
  let s := doorsDown (portsDown (linkDown s))
  let s := { s with pins := { s.pins with pwrMainEn := false, pwrGood := false } }
  let s := triggersOff (incSatF s Reg.PWR_KEEP_COUNT_COUNT)
  let s := if s.tim.servo.stepped && s.tim.servo.state != .holdover then enterHoldover s else s
  let s := setPower .keep s
  if wakeHolds s then beginWake 4 s else s

/-- Run is asked for in Hold (R449): DRAM retrains, the charter's gates return, and flights resume from the first boundary at
least 141,120 treads later; while a reference fails the exit waits for it (Table 8). -/
def beginExit (failed : List Nat) (s : State) : State :=
  if sourceFails s 0 || sourceFails s 1 then setClk { s.clk with request := some .run } s
  else
    let s := charterGates (selfRefreshExit failed s)
    setClk { s.clk with power := .leavingHold, request := none, resumeAt := some (nextBoundary (s.now + 141120) (flightLen s)) } s

/-- Hold entry ends once nothing runs: sets are stored, queues flushed, the store emptied, gates closed and DRAM put in
self-refresh; event 0x027 (R448). -/
def finishHold (s : State) : State :=
  let s := storeClosedSets s
  let s := (s.queues.map (·.1)).foldl (fun s q => flushQueue q s) s
  let s := s.stw.releases.foldl (fun s r => closeRelease r s) s
  let s := (holdGates.filter gateExists).foldl (fun s n => gateClosed n s) s
  let s := selfRefreshEntry (checkpointAll s)
  raiseEvent 0x027 (setClk { s.clk with power := .hold, holdAt := none } s)

/-- The requests that waited for a transition take effect (R447). -/
def powerNext (s : State) : State :=
  match s.clk.power, s.clk.request with
  | .hold, some .keep => enterKeep (setClk { s.clk with request := none } s)
  | .hold, some .run => if sourceFails s 0 || sourceFails s 1 then s else beginExit [] s
  | .hold, some .hold => setClk { s.clk with request := none } s
  | .run, some .run => setClk { s.clk with request := none } s
  | .run, some .hold =>
    setClk { s.clk with power := .enteringHold, request := none, holdAt := some (nextBoundary (s.now + 4410) (flightLen s)) } s
  | .run, some .keep =>
    setClk { s.clk with power := .enteringHold, holdAt := some (nextBoundary (s.now + 4410) (flightLen s)) } s
  | _, _ => s

/-- Whether a release is staged or running. -/
def releasesBusy (s : State) : Bool :=
  s.stw.releases.any fun r => match r.stage with | .staged _ => true | .running _ => true | _ => false

/-- Hold entry goes on: from its boundary no flight runs, and it ends when no release is staged or running and no close of a gate is
held (R448, Table 8). -/
def holdWatch (s : State) : State :=
  if s.clk.power ≠ .enteringHold then s
  else
    let s := if s.clk.holdAt.any (fun t => decide (t ≤ s.now)) then galEvents { s with tim := { s.tim with flights := .stopped } } else s
    if s.tim.flights = .running ∨ releasesBusy s ∨ s.clk.held.any (fun h => holdGates.contains h.1) then s else finishHold s

/-- Where no further flight follows the last one, its Gallery events come at its end all the same (R233). -/
def galWatch (s : State) : State := if s.tim.flights = .stopped then galEvents s else s

/-- What follows every command: a last flight's events, takeover recommendations, and the power transitions with what they
recommend. -/
def watch (s : State) : State := twinWatch (powerNext (holdWatch (powerNext (twinWatch (galWatch s)))))

/-- Whether a state is the one that PWR_STAT would name now. -/
def inPower (s : State) (p : PowerState) : Bool := s.clk.power == p

/-- A request for a power state by door d (R447): dropped before epoch 1; without effect where it names the current state; in
lockstep Hold and Keep withdraw first; in a transition it waits. -/
def powerRequest (d target : Nat) (failed : List Nat) (s : State) : State :=
  let a := Reg.PWR_CTRL_TARGET.addr
  match writeCheck s d a (BitVec.ofNat 32 target) with
  | some r => dropRecord d a r s
  | none =>
    let p : PowerState := if target = 0 then .run else if target = 1 then .hold else .keep
    if s.epoch.newest = 0 ∨ s.clk.power = .keep ∨ inPower s p then s
    else
      let s := if target ≠ 0 ∧ s.twin.state = .lockstep then withdraw 6 s else s
      if s.clk.power = .hold ∧ target = 0 then beginExit failed s else setClk { s.clk with request := some p } s

/-- HOLD_ENTRY (R448), HOLD_EXIT (R449) and KEEP_ENTRY (R450) are writes of PWR_CTRL.TARGET. Assumption 135 (DEDUCED). -/
def holdEntry (d : Nat) (s : State) : State := powerRequest d 1 [] s
def holdExit (d : Nat) (failed : List Nat) (s : State) : State := powerRequest d 0 failed s
def keepEntry (d : Nat) (s : State) : State := powerRequest d 2 [] s

/-- WAKE (R451): an enabled wake condition in Keep: 1 WAKE_N, 2 the alarm, 3 the capture pin. Assumption 137 (DEDUCED). -/
def wake (cause : Nat) (s : State) : State :=
  let enabled : Bool := match cause with
    | 1 => getF s Reg.PWR_WAKE_CFG_PIN_EN == 1
    | 2 => getF s Reg.PWR_WAKE_CFG_ALARM_EN == 1 && wakeHolds s
    | 3 => getF s Reg.PWR_WAKE_CFG_CAP_EN == 1
    | _ => false
  if s.clk.power = .keep ∧ enabled then beginWake cause s else s

/-- WAKE_FAIL (R451): PWR_GOOD has not risen within 100 ms; the island stays in Keep. -/
def wakeFail (s : State) : State :=
  if s.clk.power = .waking ∧ !s.pins.pwrGood ∧ s.clk.wakeAt + 14112000 ≤ s.now then
    setPower .keep (setF { s with pins := { s.pins with pwrMainEn := false } } Reg.PWR_STAT_WAKE_FAIL 1)
  else s

/-- THERMAL_TRIP (R493): at 125 °C or more THERM_TRIP_N goes low, the trip is latched and PWR_MAIN_EN goes low. -/
def thermalTrip (celsius : Int) (s : State) : State :=
  if celsius < 125 then s
  else { s with pins := { s.pins with thermTripN := false, tripped := true, pwrMainEn := false } }

/-- KEEP_RAILS_POWER_UP (R479): VDDIO_AON comes within tolerance; PWR_MAIN_EN goes high outside Keep and without a trip. -/
def keepRailsUp (s : State) : State :=
  { s with pins := { s.pins with aonValid := true, pwrMainEn := s.clk.power != .keep && !s.pins.tripped } }

end Sys2Proof.Machine
end

