-- ==== Sys2Proof/Machine/Events.lean ====
section
/-! DEFINITION. The host's commands on events and errors: the test raise, the clears of BLK_EVT_STAT, BLK_ERR_FIRST and
EVT_ALERT, and the pending bits of a door (Worlds, events and errors). -/

namespace Sys2Proof.Machine

/-- EVENT_TEST (R468): door d's write of EVT_TEST raises the event as its source would; a number from 0x600 is dropped with a
configuration error. -/
def eventTest (d : Nat) (v : Word) (s : State) : State :=
  busWrite d Reg.EVT_TEST_EVENT.addr v (raiseNow (v.toNat % 2048) true) s

/-- EVENT_CLEAR (R461): each 1 that door d writes to BLK_EVT_STAT clears that bit and its RAW bit. -/
def eventClear (d : Nat) (b : Block) (v : Word) (s : State) : State :=
  let a := blockBase b + 0x10
  busWrite d a v (fun s => rset (rset s a (rget s a &&& ~~~v)) (blockBase b + 0x08) (rget s (blockBase b + 0x08) &&& ~~~v)) s

/-- The oldest log entry of a block that waits for promotion (R472). -/
def waitingEntry (s : State) (b : Block) : Option LogEntry := s.evt.log.find? fun l => l.err.block == b && !l.first

/-- The log with the entry of a sequence marked FIRST. -/
def markFirst (q : Nat) (log : List LogEntry) : List LogEntry := log.map fun l => if l.seq = q then { l with first := true } else l

/-- The record of a block clears, and the oldest log entry that waits fills it with PROMOTED set (R472): CLASS is the largest
severity among that entry and the entries of the block that still wait. -/
def promote (b : Block) (s : State) : State :=
  match waitingEntry s b with
  | none => setFirst s b none
  | some l =>
    let waiting := s.evt.log.filter fun x => x.err.block == b && !x.first
    let s := { s with evt := { s.evt with log := markFirst l.seq s.evt.log } }
    setFirst s b (some ⟨l.err, waiting.foldl (fun m x => max m x.err.sev) 0, true⟩)

/-- ERROR_CLEAR (R472): door d writes BLK_ERR_FIRST; a 1 in VALID clears the record. -/
def errorClear (d : Nat) (b : Block) (v : Word) (s : State) : State :=
  busWrite d (blockBase b + 0x20) v (fun s => if v.toNat / 2147483648 % 2 = 1 then promote b s else s) s

/-- ALERT_CLEAR (R464): door d writes EVT_ALERT; a 1 in ACTIVE releases ALERT_N. -/
def alertClear (d : Nat) (v : Word) (s : State) : State := writeStored d Reg.EVT_ALERT_ACTIVE.addr v s

/-- Whether ALERT_N is driven low (R84, R464). -/
def alertLow (s : State) : Bool := getF s Reg.EVT_ALERT_ACTIVE == 1 || s.cht.stopped

/-- The events that the island held in Keep are delivered with their stamps (R467). Assumption 139 (DEDUCED). -/
def deliverHeld (s : State) : State :=
  let held := s.evt.heldEvents
  let s' := { s with evt := { s.evt with heldEvents := [] } }
  let s' := held.foldl (fun x e => raiseNow e.1 false { x with now := e.2 }) s'
  { s' with now := s.now }

end Sys2Proof.Machine
end

