-- ==== Sys2Proof/Machine/Warm.lean ====
section
/-! DEFINITION. Resets of a running device: the Door reset, the Warm reset's beginning, the writes of CHT_RESET, and the frame
of every command: the count, a Warm reset that falls due, and what follows (Charter, start-up and partitions: Resets;
R126, R130). -/

namespace Sys2Proof.Machine

/-- Replace the charter unit's state. -/
def setCht (x : CharterUnit) (s : State) : State := { s with cht := x }

/-! ### Discards (R96, R126, R130) -/

/-- Requests of door d's host that have arrived and have not committed or executed. -/
def waitingOf (s : State) (d : Nat) : List Req :=
  ((ownWaiting s ++ s.twin.away).filter fun e => e.1 == d).map (·.2) ++ (doorOf s d).immediate.map (·.1) ++
    (postedOf s d).map (·.req)

/-- Door d's own units leave a list. -/
def withoutDoor (d : Nat) (l : List ReqUnit) : List ReqUnit :=
  l.filter fun u => u.door != d || u.members.all (·.otherTwin)

/-- A request that a reset discards appears in the journals as a completion with ABORTED (R126). Assumption 25 (DEDUCED). -/
def abortRecord (d : Nat) (s : State) (r : Req) : State :=
  journalRequest d (completionRec d { r with status := stAborted, result := 0 } s.now) s

/-- Door d's requests leave the machinery of epochs. -/
def dropUnits (d : Nat) (x : EpochUnit) : EpochUnit :=
  { x with
    arrived := withoutDoor d x.arrived, batch := withoutDoor d x.batch, carried := withoutDoor d x.carried
    deferred := x.deferred.filter fun u => u.2.door != d || u.2.members.all (·.otherTwin) }

/-- A reset discards what door d has fetched or staged and not committed; completions that were decided are journalled, and
no entry is written for any of them. -/
def discardRequests (d : Nat) (s : State) : State :=
  let s := (waitingOf s d).foldl (abortRecord d) s
  let s := (doorOf s d).completions.foldl (fun s x => journalRequest d (completionRec d x.req s.now) s) s
  let s := setTwin { s.twin with away := s.twin.away.filter fun e => e.1 != d } s
  let s := { s with
    epoch := dropUnits d s.epoch, ports := { s.ports with posted := ssetC [] s.ports.posted d [] } }
  setDoor s d { doorOf s d with immediate := [], groups := [], completions := [] }

/-! ### Registers at a reset -/

/-- A word whose fields that satisfy keep hold on, the others at their reset values. -/
def keepFields (keep : FieldDef → Bool) (a : Nat) (w : Word) : Word :=
  match findWord a with
  | none => 0
  | some (d, _) => d.fields.foldl (fun v f => if keep f then putBits v f.hi f.lo (bitsOf w f.hi f.lo) else v) (resetWord a)

/-- Fields of a per-door instance that a reset of the door keeps: RWS fields, the link's state, the free pages (R130). -/
def doorKeeps (d a : Nat) (f : FieldDef) : Bool :=
  f.acc == .rws || (a == (Reg.DOR_STAT_LINK d).addr && decide (2 ≤ f.lo)) ||
    (a == (Reg.SHP_POOL_STAT_FREE d).addr && f.lo == 0)

/-- The instances of door d in every block return to their reset values, with its MSI-X table, its rings and its tone FIFO; the
sequence counts on, and its view is the newest epoch (R123, R130). Assumption 26 (DEDUCED). -/
def clearDoor (d : Nat) (s : State) : State :=
  let regs := s.regs.foldl (fun m e =>
    sset resetWord m e.1 (if instanceDoor e.1 = some d then keepFields (doorKeeps d e.1) e.1 e.2 else e.2)) ([] : Sparse Word)
  let x := doorOf s d
  let gens := (List.range 8).foldl (fun m c => ssetC 0 m c (sgetC 0 x.cqGen c + 1)) ([] : Sparse Nat)
  let s := { s with regs := regs, modem := { s.modem with toneFifos := ssetC [] s.modem.toneFifos d [] } }
  setDoor s d { doorInit with
    ids := x.ids, phase := x.phase, seq := x.seq, view := s.epoch.newest, cqGen := gens, lastRead := x.lastRead }

/-! ### The Door reset (R96) -/

/-- The request that returns a door's partition: TAG 0, no ring. -/
def returnReq : Req := ⟨0, none, 0, false, false, none, .partitionReturn, 0, 0⟩

/-- Door d resets: its requests go, the return of its partition arrives, its journal is written out, and its registers
return. Assumption 48 (DEDUCED). -/
def doorReset (d : Nat) (s : State) : State :=
  clearDoor d (flushJournal d (arriveUnit d 0 [returnReq] (discardRequests d s)))

/-- A reset of door d, however caused; during SHUT it affects the link only. -/
def resetDoor (d : Nat) (s : State) : State := if (doorOf s d).phase = .shut then s else doorReset d s

/-! ### The Warm reset (R94) -/

/-- Every queued DRAM request completes before self-refresh, and a retraining ends (R360, Table 5); the readers are gone, and the
training that follows the reset finds the settings. Assumption 46 (DEDUCED). -/
def drainDram (s : State) : State :=
  let s := allSubs.foldl (fun s c =>
    let s := ((subAt s c).reading ++ (subAt s c).queue).foldl (fun s r => if r.write then serveWrite c r s else s) s
    let s := setSub c { subAt s c with queue := [], reading := [] } s
    if getF s (Reg.DRM_SUB_STAT_STATE c) = 2 then setF s (Reg.DRM_SUB_STAT_STATE c) 1 else s) s
  setDram { s.drm with waiting := [], acks := [], fences := [] } s

/-- Blocks whose status survives a Warm reset: clocks, the error log, worlds, the charter, the count of skews, DRAM, the
archive and the link. -/
def statusBlock : Block → Bool
  | .plt | .clk | .evt | .wld | .cht | .dor | .drm | .ucr | .nwl => true
  | _ => false

/-- Whether an address is a common register of its block. -/
def commonWord (a : Nat) : Bool := decide (a < 0x4000000) && decide (a < blockBase (blockOf a) + 0x40)

/-- Fields that a Warm reset keeps: RWS fields (R18), error counts (R475), fences, link states, and the status of the blocks that
go on. -/
def warmKeeps (a : Nat) (f : FieldDef) : Bool :=
  f.acc == .rws || fenceWord a || portStatWord a ||
    (if commonWord a then a % 0x40 == 0x14
     else statusBlock (blockOf a) && (f.acc == .ro || (f.acc == .w1c && blockOf a == .clk)))

/-- Registers at a Warm reset, beyond the doors' instances. Assumption 45 (DEDUCED). -/
def warmWords (s : State) : State :=
  let regs := s.regs.foldl (fun m e =>
    sset resetWord m e.1 (if (instanceDoor e.1).isSome then e.2 else keepFields (warmKeeps e.1) e.1 e.2)) ([] : Sparse Word)
  { s with regs := regs }

/-- CLK_SEL returns to 0, and the domains it had moved are switched back while their source passes (R453, Table 7). -/
def clocksWarm (s : State) : State :=
  let s := [0, 1, 2].foldl (fun s d => if getF s (Reg.CLK_SEL_SRC d) = 1 ∧ !sourceFails s 0 then requestSwitch d 0 s else s) s
  let s := s.clk.held.foldl (fun s h => setF s (Reg.CLK_GATE_HELD h.1) 0) s
  let p := match s.clk.power with
    | .enteringHold => PowerState.run
    | .leavingHold => PowerState.hold
    | p => p
  setClk { s.clk with power := p, request := none, holdAt := none, resumeAt := none, held := [] } s

/-- The pair at a Warm reset: a resynchronisation ends, and the device withdraws with cause 8 (R94, R424). -/
def warmPair (s : State) : State :=
  let s := if s.twin.resync.active then abortResync true s else s
  let s := if pairedRole s ∧ s.twin.state ≠ .withdrawn then withdraw 8 s else s
  setTwin { s.twin with groups := [], groupEpochs := [] } s

/-- Units at a Warm reset: media state goes; the archive keeps its staging, DRAM goes into self-refresh. -/
def warmUnits (s : State) : State :=
  let s := triggersOff (selfRefreshEntry (drainDram s))
  let s := clearUnits s
  { s with
    dma := [], ucr := { s.ucr with replays := [] }, evt := { s.evt with accessInFlight := 0, accessEvent := false }
    tim := { s.tim with flights := .stopped, haltAt := none, captures := [], txq := [], trigs := [] }
    epoch := { epochInit with newest := s.epoch.newest, newestAt := s.epoch.newestAt } }

/-- Start-up begins again at step 2 (R94): no step from there on is complete. Assumption 47 (DEDUCED). -/
def warmCharter (s : State) : State :=
  let s := (List.range 10).foldl (fun s n => setF s (Reg.CHT_STEP_DONE_US (n + 1)) 0) s
  setCht { s.cht with
    step := 1, sealed := false, warm := true, fresh := false, staged := none, warmAt := none, ptpTold := false }
    (incSatF s Reg.CHT_WARM_COUNT_COUNT)

/-- The Warm reset takes place: flights stop, every door writes its journal out and enters SHUT, the device withdraws from its
pair, and start-up runs again from step 2. Assumption 44 (DEDUCED). -/
def beginWarm (s : State) : State :=
  let s := flightsHalt s
  let s := warmPair (allDoors.foldl (fun s d => discardRequests d s) s)
  let s := allDoors.foldl (fun s d => flushJournal d s) s
  let s := clocksWarm s
  let s := showFences (warmWords (warmUnits s))
  let s := allDoors.foldl (fun s d => clearDoor d (setDoor s d { doorOf s d with phase := .shut })) s
  warmCharter s

/-- A Warm reset is asked for: it takes place at the next audio flight boundary, or at once where no flights run.
Assumption 40 (DEDUCED). -/
def askWarm (s : State) : State :=
  if s.cht.warmAt.isSome then s
  else if s.tim.flights = .running then setCht { s.cht with warmAt := some (boundaryAfter s s.now) } s
  else beginWarm s

/-- A Warm reset whose boundary has come takes place there, before what the command does. -/
def warmDue (s : State) : State :=
  match s.cht.warmAt with
  | some b => if b ≤ s.now then { beginWarm { s with now := b } with now := s.now } else s
  | none => s

/-! ### CHT_RESET (R97) -/

/-- A write of CHT_RESET by door d, judged whole. -/
def chtReset (d : Nat) (v : Word) (s : State) : State :=
  let warm := bitsOf v 0 0 = 1
  let door := bitsOf v 1 1 = 1
  let target := bitsOf v 3 2
  busWrite d Reg.CHT_RESET_WARM.addr v (fun s =>
    if warm ∧ d ≠ devOwner s then partitionError .cht d s
    else if warm ∧ s.epoch.newest = 0 then configError .cht d s
    else if door ∧ target ≠ d ∧ d ≠ devOwner s then partitionError .cht d s
    else if door ∧ !doorEnabled s target then configError .cht d s
    else if warm then askWarm s
    else if door then resetDoor target s
    else s) s

/-- WARM_RESET (R94, R97): door d writes 1 to CHT_RESET.WARM. -/
def warmReset (d : Nat) (s : State) : State := chtReset d 1 s

/-- DOOR_RESET (R96): a function-level or link reset of door d, or a write of CHT_RESET; during SHUT it affects the link only. -/
def doorResetBy (d : Nat) (c : DoorResetCause) (s : State) : State :=
  match c with
  | .register w => chtReset w.val (BitVec.ofNat 32 (2 + 4 * d)) s
  | _ => resetDoor d s

/-! ### The frame of a command -/

/-- The whole device does what a command says at instant t, after the trace records of the treads before, and what follows from it. -/
def actAt (t : Treads) (f : State → State) (s : State) : State := watch (f (warmDue (traceFlush (arriveAt t s))))

/-- A command at instant t on the whole device; the commands that wait stay as they are. Assumption 7 (DESIGN CHOICE). -/
def acts (t : Treads) (f : State → State) (s : State) : Out := .next { actAt t f s with pending := s.pending }

end Sys2Proof.Machine
end

