-- ==== Sys2Proof/Machine/LandAlu.lean ====
section
/-! DEFINITION. The Landing instructions of classes 0x0, 0x1, 0x3 and 0x4: the ALU, the multiplier and the accumulators
(R189, R192). -/

namespace Sys2Proof.Machine

/-! ### Flags and results (R189) -/

/-- Z and N follow a result. -/
def flagZN (w : Word) (c : Core) : Core := { c with z := w == 0, n := w.msb }

/-- A result into G[d], setting Z and N. -/
def result (d : Nat) (w : Word) (c : Core) : Core := flagZN w (setG d w c)

/-- The flags of a sum. -/
def flagAdd (a b : Word) (c : Core) : Core :=
  { flagZN (a + b) c with c := decide (4294967296 ≤ a.toNat + b.toNat), v := decide ((a + b).toInt ≠ a.toInt + b.toInt) }

/-- The flags of a difference: C is no borrow. -/
def flagSub (a b : Word) (c : Core) : Core :=
  { flagZN (a - b) c with c := decide (b.toNat ≤ a.toNat), v := decide ((a - b).toInt ≠ a.toInt - b.toInt) }

/-- A result clamped to 32 bits into G[d]. -/
def clamped (d : Nat) (x : Int) (c : Core) : Core :=
  result d (BitVec.ofInt 32 (satTo 32 x)) { c with sat := c.sat || satTo 32 x != x }

/-- An ALU function of two registers. Assumption 79 (DEDUCED). -/
def aluRR (n a b : Nat) (f : Word → Word → Core → Core) : State → State :=
  coreInstr n 0 [a, b] (pureBody n fun c => f (gOf c a) (gOf c b) c)

/-- An ALU function of one register and an immediate. -/
def aluRI (n a : Nat) (f : Word → Core → Core) : State → State :=
  coreInstr n 1 [a] (pureBody n fun c => f (gOf c a) c)

/-- Bits below bit 31 that equal bit 31 (NORM). -/
def normCount (w : Word) : Nat := (List.range 31).countP fun i => w.getLsbD i == w.msb

/-! ### Class 0x0 -/

/-- ADD. -/
def execAdd (t : Nat) (n : Fin 512) (d a b : Fin 16) (s : State) : Out :=
  acts t (aluRR n a b fun x y c => flagAdd x y (setG d (x + y) c)) s

/-- SUB. -/
def execSub (t : Nat) (n : Fin 512) (d a b : Fin 16) (s : State) : Out :=
  acts t (aluRR n a b fun x y c => flagSub x y (setG d (x - y) c)) s

/-- ADDS. -/
def execAdds (t : Nat) (n : Fin 512) (d a b : Fin 16) (s : State) : Out :=
  acts t (aluRR n a b fun x y c => clamped d (x.toInt + y.toInt) c) s

/-- SUBS. -/
def execSubs (t : Nat) (n : Fin 512) (d a b : Fin 16) (s : State) : Out :=
  acts t (aluRR n a b fun x y c => clamped d (x.toInt - y.toInt) c) s

/-- AND. -/
def execAnd (t : Nat) (n : Fin 512) (d a b : Fin 16) (s : State) : Out :=
  acts t (aluRR n a b fun x y c => result d (x &&& y) c) s

/-- OR. -/
def execOr (t : Nat) (n : Fin 512) (d a b : Fin 16) (s : State) : Out :=
  acts t (aluRR n a b fun x y c => result d (x ||| y) c) s

/-- XOR. -/
def execXor (t : Nat) (n : Fin 512) (d a b : Fin 16) (s : State) : Out :=
  acts t (aluRR n a b fun x y c => result d (x ^^^ y) c) s

/-- SHL by T[4:0]. -/
def execShl (t : Nat) (n : Fin 512) (d a b : Fin 16) (s : State) : Out :=
  acts t (aluRR n a b fun x y c => result d (x <<< (y.toNat % 32)) c) s

/-- SHR by T[4:0]. -/
def execShr (t : Nat) (n : Fin 512) (d a b : Fin 16) (s : State) : Out :=
  acts t (aluRR n a b fun x y c => result d (x >>> (y.toNat % 32)) c) s

/-- SRA by T[4:0]. -/
def execSra (t : Nat) (n : Fin 512) (d a b : Fin 16) (s : State) : Out :=
  acts t (aluRR n a b fun x y c => result d (x.sshiftRight (y.toNat % 32)) c) s

/-- MIN of two signed registers. -/
def execMin (t : Nat) (n : Fin 512) (d a b : Fin 16) (s : State) : Out :=
  acts t (aluRR n a b fun x y c => result d (if x.toInt ≤ y.toInt then x else y) c) s

/-- MAX of two signed registers. -/
def execMax (t : Nat) (n : Fin 512) (d a b : Fin 16) (s : State) : Out :=
  acts t (aluRR n a b fun x y c => result d (if x.toInt ≤ y.toInt then y else x) c) s

/-- CMP. -/
def execCmp (t : Nat) (n : Fin 512) (a b : Fin 16) (s : State) : Out :=
  acts t (aluRR n a b fun x y c => flagSub x y c) s

/-- NORM. -/
def execNorm (t : Nat) (n : Fin 512) (d a : Fin 16) (s : State) : Out :=
  acts t (coreInstr n 0 [(a : Nat)] (pureBody n fun c => result d (BitVec.ofNat 32 (normCount (gOf c a))) c)) s

/-- ABS. -/
def execAbs (t : Nat) (n : Fin 512) (d a : Fin 16) (s : State) : Out :=
  acts t (coreInstr n 0 [(a : Nat)] (pureBody n fun c => clamped d ((gOf c a).toInt.natAbs : Nat) c)) s

/-! ### Class 0x1 -/

/-- ADDI, the immediate sign-extended. -/
def execAddi (t : Nat) (n : Fin 512) (d a : Fin 16) (imm : BitVec 16) (s : State) : Out :=
  acts t (aluRI n a fun x c => flagAdd x (imm.signExtend 32) (setG d (x + imm.signExtend 32) c)) s

/-- ANDI, the immediate zero-extended. -/
def execAndi (t : Nat) (n : Fin 512) (d a : Fin 16) (imm : BitVec 16) (s : State) : Out :=
  acts t (aluRI n a fun x c => result d (x &&& imm.zeroExtend 32) c) s

/-- ORI. -/
def execOri (t : Nat) (n : Fin 512) (d a : Fin 16) (imm : BitVec 16) (s : State) : Out :=
  acts t (aluRI n a fun x c => result d (x ||| imm.zeroExtend 32) c) s

/-- XORI. -/
def execXori (t : Nat) (n : Fin 512) (d a : Fin 16) (imm : BitVec 16) (s : State) : Out :=
  acts t (aluRI n a fun x c => result d (x ^^^ imm.zeroExtend 32) c) s

/-- SHLI by IMM[4:0]. -/
def execShli (t : Nat) (n : Fin 512) (d a : Fin 16) (imm : BitVec 16) (s : State) : Out :=
  acts t (aluRI n a fun x c => result d (x <<< (imm.toNat % 32)) c) s

/-- SHRI by IMM[4:0]. -/
def execShri (t : Nat) (n : Fin 512) (d a : Fin 16) (imm : BitVec 16) (s : State) : Out :=
  acts t (aluRI n a fun x c => result d (x >>> (imm.toNat % 32)) c) s

/-- SRAI by IMM[4:0]. -/
def execSrai (t : Nat) (n : Fin 512) (d a : Fin 16) (imm : BitVec 16) (s : State) : Out :=
  acts t (aluRI n a fun x c => result d (x.sshiftRight (imm.toNat % 32)) c) s

/-- LUI. -/
def execLui (t : Nat) (n : Fin 512) (d : Fin 16) (imm : BitVec 16) (s : State) : Out :=
  acts t (coreInstr n 1 [] (pureBody n fun c => result d (BitVec.ofNat 32 (imm.toNat * 65536)) c)) s

/-- CMPI, the immediate sign-extended. -/
def execCmpi (t : Nat) (n : Fin 512) (a : Fin 16) (imm : BitVec 16) (s : State) : Out :=
  acts t (aluRI n a fun x c => flagSub x (imm.signExtend 32) c) s

/-! ### Class 0x3 -/

/-- The signed half of a register: [31:16] where `hi`. -/
def halfReg (c : Core) (i : Nat) (hi : Bool) : Int :=
  toSigned 16 (if hi then (gOf c i).toNat / 65536 else (gOf c i).toNat)

/-- A multiply of two register halves into an accumulator. -/
def mulRR (n acc a : Nat) (ah : Bool) (b : Nat) (bh : Bool) (f : Int → Int → Int) : State → State :=
  coreInstr n 3 [a, b] (pureBody n fun c => setAcc acc (f (accOf c acc) (halfReg c a ah * halfReg c b bh)) c)

/-- MPY. -/
def execMpy (t : Nat) (n : Fin 512) (acc : Fin 4) (a : Fin 16) (ah : Bool) (b : Fin 16) (bh : Bool) (s : State) : Out :=
  acts t (mulRR n acc a ah b bh fun _ p => p) s

/-- MAC. -/
def execMac (t : Nat) (n : Fin 512) (acc : Fin 4) (a : Fin 16) (ah : Bool) (b : Fin 16) (bh : Bool) (s : State) : Out :=
  acts t (mulRR n acc a ah b bh fun x p => x + p) s

/-- MSU. -/
def execMsu (t : Nat) (n : Fin 512) (acc : Fin 4) (a : Fin 16) (ah : Bool) (b : Fin 16) (bh : Bool) (s : State) : Out :=
  acts t (mulRR n acc a ah b bh fun x p => x - p) s

/-- Read a signed halfword of a core's memory. -/
def readHalf (n addr ecc : Nat) (s : State) : Int × State :=
  let r := readMem n (addr / 4) ecc s
  (toSigned 16 (halfOf r.1 addr), r.2)

/-- A multiply of two memory halfwords (MACM, MSUM): A[X] in slot A, A[Y] in slot B; both addresses are those that the
instruction finds, and the two registers step in that order. Two reads of one word meet one outcome and give one value (R184).
Assumption 81 (DEDUCED). -/
def mulMM (n acc x y modeX modeY : Nat) (eccX eccY : List (Fin 3)) (f : Int → Int → Int) (i : Nat) (s : State) : Done :=
  let c := coreOf s n
  if modeX = 4 ∨ modeY = 4 then (some 1, s)
  else match agu c x modeX 2 0, agu c y modeY 2 0 with
    | .error e, _ => (some e, s)
    | _, .error e => (some e, s)
    | .ok (ax, nx), .ok (ay, ny) =>
      match accessFault c ax 2 2, accessFault c ay 2 2 with
      | some e, _ => (some e, s)
      | none, some e => (some e, s)
      | none, none =>
        let same := ax / 4 == ay / 4
        let ex : Nat := eccX.getD i 0
        let ey : Nat := eccY.getD i 0
        let p := readHalf n ax (if same then max ex ey else ex) s
        let q := readHalf n ay (if same then 0 else ey) p.2
        let c := setA x nx (coreOf q.2 n)
        let c := if x = y then (match agu c y modeY 2 0 with | .ok (_, v) => setA y v c | .error _ => c) else setA y ny c
        (none, setCore n (setAcc acc (f (accOf c acc) (p.1 * q.1)) c) q.2)

/-- MACM. -/
def execMacm (t : Nat) (n : Fin 512) (acc x y : Fin 4) (modeX modeY : Fin 8) (eccX eccY : List (Fin 3)) (s : State) : Out :=
  acts t (coreInstr n 3 [] (mulMM n acc x y modeX modeY eccX eccY fun a p => a + p)) s

/-- MSUM. -/
def execMsum (t : Nat) (n : Fin 512) (acc x y : Fin 4) (modeX modeY : Fin 8) (eccX eccY : List (Fin 3)) (s : State) : Out :=
  acts t (coreInstr n 3 [] (mulMM n acc x y modeX modeY eccX eccY fun a p => a - p)) s

/-! ### Class 0x4 -/

/-- The shift of a scale mode (Table 8). -/
def scaleShift (sm : Nat) : Int := ([0, 1, 2, 3, -1, -2, -4, -8] : List Int).getD sm 0

/-- A scaled move of a 40-bit accumulator to z bits: the value and whether it saturated (R192). -/
def scaledMove (x : Int) (sm z : Nat) (rnd : Bool) : Int × Bool :=
  let r : Int := (32 - z) - scaleShift sm
  let v := if 0 < r then (if rnd then shrI (x + 2 ^ (r.toNat - 1)) r.toNat else shrI x r.toNat) else x * 2 ^ (-r).toNat
  (satTo z v, satTo z v != v)

/-- The scaled value of an accumulator, noting saturation. -/
def scaledAcc (z acc : Nat) (c : Core) : Int × Core :=
  let m := scaledMove (accOf c acc) c.sm z c.rnd
  (m.1, { c with sat := c.sat || m.2 })

/-- CLRA. -/
def execClra (t : Nat) (n : Fin 512) (acc : Fin 4) (s : State) : Out :=
  acts t (coreInstr n 4 [] (pureBody n (setAcc acc 0))) s

/-- LDA, sign-extended. -/
def execLda (t : Nat) (n : Fin 512) (acc : Fin 4) (g : Fin 16) (s : State) : Out :=
  acts t (coreInstr n 4 [(g : Nat)] (pureBody n fun c => setAcc acc (gOf c g).toInt c)) s

/-- A scaled move into a register. -/
def moveAcc (n z acc g : Nat) : State → State :=
  coreInstr n 4 [] (pureBody n fun c => let m := scaledAcc z acc c; setG g (BitVec.ofInt 32 m.1) m.2)

/-- MVA. -/
def execMva (t : Nat) (n : Fin 512) (acc : Fin 4) (g : Fin 16) (s : State) : Out := acts t (moveAcc n 32 acc g) s

/-- MVAH, sign-extended. -/
def execMvah (t : Nat) (n : Fin 512) (acc : Fin 4) (g : Fin 16) (s : State) : Out := acts t (moveAcc n 16 acc g) s

/-- A scaled move into memory. -/
def storeAcc (n z acc a mode : Nat) (_ : Nat) (s : State) : Done :=
  let c := coreOf s n
  match agu c a mode (z / 8) 0 with
  | .error e => (some e, s)
  | .ok (addr, na) =>
    match accessFault c addr (z / 8) (z / 8) with
    | some e => (some e, s)
    | none =>
      let m := scaledAcc z acc c
      let s := setCore n (setA a na m.2) s
      (none, if z = 32 then writeWord n (addr / 4) (BitVec.ofInt 32 m.1) s else writeHalf n addr (ofSigned 16 m.1) s)

/-- STA. -/
def execSta (t : Nat) (n : Fin 512) (acc a : Fin 4) (mode : Fin 8) (s : State) : Out :=
  acts t (coreInstr n 4 [] (storeAcc n 32 acc a mode)) s

/-- STAH. -/
def execStah (t : Nat) (n : Fin 512) (acc a : Fin 4) (mode : Fin 8) (s : State) : Out :=
  acts t (coreInstr n 4 [] (storeAcc n 16 acc a mode)) s

/-- ADDA: ACC + ACC2. -/
def execAdda (t : Nat) (n : Fin 512) (acc acc2 : Fin 4) (s : State) : Out :=
  acts t (coreInstr n 4 [] (pureBody n fun c => setAcc acc (accOf c acc + accOf c acc2) c)) s

/-- SHA by SHIFT, −32 to +32; a positive SHIFT is to the left, and any other value is not listed. -/
def execSha (t : Nat) (n : Fin 512) (acc : Fin 4) (shift : BitVec 8) (s : State) : Out :=
  acts t (coreInstr n 4 [] fun _ s =>
    let k := shift.toInt
    if k < -32 ∨ 32 < k then (some 1, s)
    else pureBody n (fun c =>
      setAcc acc (if 0 ≤ k then accOf c acc * 2 ^ k.toNat else shrI (accOf c acc) (-k).toNat) c) 0 s) s

/-- NEGA. -/
def execNega (t : Nat) (n : Fin 512) (acc : Fin 4) (s : State) : Out :=
  acts t (coreInstr n 4 [] (pureBody n fun c => setAcc acc (-accOf c acc) c)) s

/-- CPA: ACC = ACC2. -/
def execCpa (t : Nat) (n : Fin 512) (acc acc2 : Fin 4) (s : State) : Out :=
  acts t (coreInstr n 4 [] (pureBody n fun c => setAcc acc (accOf c acc2) c)) s

end Sys2Proof.Machine
end

