-- ==== Sys2Proof/Machine/LandOps.lean ====
section
/-! DEFINITION. The Landing instructions of classes 0x2 and 0x5 to 0x9: memory, the tap, control, addresses, PUTs and
special registers; entering a task, peeks and the cycle limit. -/

namespace Sys2Proof.Machine

/-! ### Class 0x2 -/

/-- A load through A[a]: the value that `f` makes of the word at the address goes to G[g]. -/
def loadMem (n g a mode : Nat) (disp : BitVec 16) (ecc : List (Fin 3)) (size : Nat) (f : Word → Nat → Word) (i : Nat) (s : State) : Done :=
  let c := coreOf s n
  match agu c a mode size disp.toNat with
  | .error e => (some e, s)
  | .ok (addr, na) =>
    match accessFault c addr size size with
    | some e => (some e, s)
    | none =>
      let r := readMem n (addr / 4) (ecc.getD i 0) s
      (none, setCore n { setG g (f r.1 addr) (setA a na (coreOf r.2 n)) with loaded := some g } r.2)

/-- A store through A[a]. -/
def storeMem (n g a mode : Nat) (disp : BitVec 16) (size : Nat) (_ : Nat) (s : State) : Done :=
  let c := coreOf s n
  match agu c a mode size disp.toNat with
  | .error e => (some e, s)
  | .ok (addr, na) =>
    match accessFault c addr size size with
    | some e => (some e, s)
    | none =>
      let s := setCore n (setA a na c) s
      (none, if size = 4 then writeWord n (addr / 4) (gOf c g) s else writeHalf n addr (gOf c g).toNat s)

/-- LDH, sign-extended. -/
def execLdh (t : Nat) (n : Fin 512) (g : Fin 16) (a : Fin 4) (mode : Fin 8) (disp : BitVec 16) (ecc : List (Fin 3)) (s : State) : Out :=
  acts t (coreInstr n 2 [] (loadMem n g a mode disp ecc 2 fun w x => BitVec.ofInt 32 (toSigned 16 (halfOf w x)))) s

/-- LDHU, zero-extended. -/
def execLdhu (t : Nat) (n : Fin 512) (g : Fin 16) (a : Fin 4) (mode : Fin 8) (disp : BitVec 16) (ecc : List (Fin 3)) (s : State) : Out :=
  acts t (coreInstr n 2 [] (loadMem n g a mode disp ecc 2 fun w x => BitVec.ofNat 32 (halfOf w x))) s

/-- LDW. -/
def execLdw (t : Nat) (n : Fin 512) (g : Fin 16) (a : Fin 4) (mode : Fin 8) (disp : BitVec 16) (ecc : List (Fin 3)) (s : State) : Out :=
  acts t (coreInstr n 2 [] (loadMem n g a mode disp ecc 4 fun w _ => w)) s

/-- STH, G[15:0]. -/
def execSth (t : Nat) (n : Fin 512) (g : Fin 16) (a : Fin 4) (mode : Fin 8) (disp : BitVec 16) (s : State) : Out :=
  acts t (coreInstr n 2 [(g : Nat)] (storeMem n g a mode disp 2)) s

/-- STW. -/
def execStw (t : Nat) (n : Fin 512) (g : Fin 16) (a : Fin 4) (mode : Fin 8) (disp : BitVec 16) (s : State) : Out :=
  acts t (coreInstr n 2 [(g : Nat)] (storeMem n g a mode disp 4)) s

/-- LDHH: a halfword to G[31:16], G[15:0] zero. -/
def execLdhh (t : Nat) (n : Fin 512) (g : Fin 16) (a : Fin 4) (mode : Fin 8) (disp : BitVec 16) (ecc : List (Fin 3)) (s : State) : Out :=
  acts t (coreInstr n 2 [] (loadMem n g a mode disp ecc 2 fun w x => BitVec.ofNat 32 (halfOf w x * 65536))) s

/-! ### Class 0x5 -/

/-- One filter tap (R193). -/
def tapBody (n acc a : Nat) (circ sub : Bool) (ecc : List (Fin 3)) (i : Nat) (s : State) : Done :=
  let c := coreOf s n
  if circ ∧ sgetC 0 c.al a = 0 then (some 1, s)
  else
    let src := aOf c a
    let dst := ((if circ then circStep c a 2 else (src : Int) + 2) % 131072).toNat
    match accessFault c src 2 2, accessFault c dst 2 2 with
    | some e, _ => (some e, s)
    | none, some e => (some e, s)
    | none, none => if c.bad.contains (c.cp / 4) then (none, fenceCore n c.pc 7 s) else
      let r := readHalf n src (ecc.getD i 0) s
      let c := coreOf r.2 n
      let p := r.1 * coefAt s c.cp
      let c := setAcc acc (if sub then accOf c acc - p else accOf c acc + p) c
      let s := writeHalf n dst (ofSigned 16 r.1) (setCore n c r.2)
      let c := coreOf s n
      (none, setCore n { setA a (if circ then circStep c a (-2) else (src : Int) - 2) c with cp := (c.cp + 2) % 32768 } s)

/-- TAP. -/
def execTap (t : Nat) (n : Fin 512) (acc a : Fin 4) (circ sub : Bool) (ecc : List (Fin 3)) (s : State) : Out :=
  acts t (coreInstr n 5 [] (tapBody n acc a circ sub ecc)) s

/-! ### Class 0x6 -/

/-- Whether a BR condition holds; none for a code that is not listed (R189). -/
def branchCond (c : Core) : Nat → Option Bool
  | 0 => some true | 1 => some c.z | 2 => some !c.z | 3 => some c.n | 4 => some !c.n | 5 => some (!c.z && !c.n)
  | 6 => some (c.z || c.n) | 7 => some c.c | 8 => some !c.c | 9 => some c.v | 10 => some c.sat | _ => none

/-- A taken branch, a call or a return: two further cycles. -/
def jumpTo (n pc : Nat) (s : State) : State :=
  let s := coreCycles n 2 s
  setCore n { coreOf s n with pc := pc % 8192 } s

/-- NOP. -/
def execNopInstruction (t : Nat) (n : Fin 512) (s : State) : Out := acts t (coreInstr n 6 [] fun _ s => (none, s)) s

/-- BR. -/
def execBr (t : Nat) (n : Fin 512) (cond : Fin 16) (target : BitVec 13) (s : State) : Out :=
  acts t (coreInstr n 6 [] fun _ s =>
    match branchCond (coreOf s n) cond with
    | none => (some 1, s)
    | some true => (none, jumpTo n target.toNat s)
    | some false => (none, s)) s

/-- CALL (R191). -/
def execCall (t : Nat) (n : Fin 512) (target : BitVec 13) (s : State) : Out :=
  acts t (coreInstr n 6 [] fun _ s =>
    let c := coreOf s n
    if 8 ≤ c.stack.length then (some 4, s)
    else (none, jumpTo n target.toNat (setCore n { c with stack := c.pc :: c.stack } s))) s

/-- RET (R191). -/
def execRet (t : Nat) (n : Fin 512) (s : State) : Out :=
  acts t (coreInstr n 6 [] fun _ s =>
    let c := coreOf s n
    match c.stack with
    | [] => (some 4, s)
    | pc :: rest => (none, jumpTo n pc (setCore n { c with stack := rest } s))) s

/-- The next instruction runs k times (R194). -/
def repeatNext (n k : Nat) (s : State) : Done := (none, setCore n { coreOf s n with rep := some k, lc := k } s)

/-- RPT. -/
def execRpt (t : Nat) (n : Fin 512) (imm : BitVec 16) (s : State) : Out :=
  acts t (coreInstr n 6 [] fun _ s => repeatNext n (imm.toNat + 1) s) s

/-- RPTG. -/
def execRptg (t : Nat) (n : Fin 512) (g : Fin 16) (s : State) : Out :=
  acts t (coreInstr n 6 [(g : Nat)] fun _ s => repeatNext n ((gOf (coreOf s n) g).toNat % 65536 + 1) s) s

/-- EXIT (R201). -/
def execExit (t : Nat) (n : Fin 512) (code : BitVec 8) (s : State) : Out :=
  acts t (coreInstr n 6 [] fun _ s =>
    let s := coreCycles n 7 s
    (none, endWait n (setCore n { coreOf s n with wait := .leave code.toNat, since := s.now } s))) s

/-- WAITP (R198). -/
def execWaitp (t : Nat) (n : Fin 512) (s : State) : Out :=
  acts t (coreInstr n 6 [] fun _ s => (none, endWait n (setCore n { coreOf s n with wait := .drain, since := s.now } s))) s

/-! ### Class 0x7 -/

/-- A = G[16:0]. -/
def execSetAFromG (t : Nat) (n : Fin 512) (a : Fin 4) (g : Fin 16) (s : State) : Out :=
  acts t (coreInstr n 7 [(g : Nat)] (pureBody n fun c => setA a ((gOf c g).toNat % 131072 : Nat) c)) s

/-- A = IMM. -/
def execSetAImmediate (t : Nat) (n : Fin 512) (a : Fin 4) (imm : BitVec 17) (s : State) : Out :=
  acts t (coreInstr n 7 [] (pureBody n fun c => setA a imm.toNat c)) s

/-- AB = IMM. -/
def execSetAbImmediate (t : Nat) (n : Fin 512) (a : Fin 4) (imm : BitVec 17) (s : State) : Out :=
  acts t (coreInstr n 7 [] (pureBody n fun c => { c with ab := ssetC 0 c.ab a imm.toNat })) s

/-- AL = IMM. -/
def execSetAlImmediate (t : Nat) (n : Fin 512) (a : Fin 4) (imm : BitVec 17) (s : State) : Out :=
  acts t (coreInstr n 7 [] (pureBody n fun c => { c with al := ssetC 0 c.al a imm.toNat })) s

/-- AM = IMM. -/
def execSetAmImmediate (t : Nat) (n : Fin 512) (a : Fin 4) (imm : BitVec 17) (s : State) : Out :=
  acts t (coreInstr n 7 [] (pureBody n fun c => { c with am := ssetC 0 c.am a imm.toNat })) s

/-- G = A, zero-extended. -/
def execSetGFromA (t : Nat) (n : Fin 512) (a : Fin 4) (g : Fin 16) (s : State) : Out :=
  acts t (coreInstr n 7 [] (pureBody n fun c => setG g (BitVec.ofNat 32 (aOf c a)) c)) s

/-! ### Class 0x8 (Table 10) -/

/-- A PUT of one sample to the Gallery. -/
def putSample (n g tr : Nat) (conc : Bool) (_ : Nat) (s : State) : Done :=
  let c := coreOf s n
  let v := (gOf c tr).toNat
  issuePut n (.gallery (v % 16384) (v / 16384 % 64) (gOf c g &&& 0xFFFFFF00) conc c.poison) s

/-- PUTG. -/
def execPutg (t : Nat) (n : Fin 512) (g tr : Fin 16) (s : State) : Out :=
  acts t (coreInstr n 8 [(g : Nat), tr] (putSample n g tr false)) s

/-- PUTGC: the sample is concealed. -/
def execPutgc (t : Nat) (n : Fin 512) (g tr : Fin 16) (s : State) : Out :=
  acts t (coreInstr n 8 [(g : Nat), tr] (putSample n g tr true)) s

/-- PUTQ: 64 bytes at A[a], 64-byte aligned. -/
def execPutq (t : Nat) (n : Fin 512) (tr : Fin 16) (a : Fin 4) (ecc : List (Fin 3)) (s : State) : Out :=
  acts t (coreInstr n 8 [(tr : Nat)] fun _ s =>
    let c := coreOf s n
    let v := (gOf c tr).toNat
    match accessFault c (aOf c a) 64 64 with
    | some e => (some e, s)
    | none =>
      let s := coreCycles n 3 (readRun n (aOf c a) 64 ecc s)
      let b := coreBytes (coreOf s n) (aOf c a) 64
      issuePut n (.queue (v % 32768) b.1 (v / 65536 % 2 == 1) (coreOf s n).poison) s) s

/-- PUTO: IMM bytes at A[a], 4 to 8,192, to successor T[3:0]. -/
def execPuto (t : Nat) (n : Fin 512) (tr : Fin 16) (a : Fin 4) (imm : BitVec 14) (ecc : List (Fin 3)) (s : State) : Out :=
  acts t (coreInstr n 8 [(tr : Nat)] fun _ s =>
    let c := coreOf s n
    let len := imm.toNat
    if len < 4 ∨ 8192 < len then (some 1, s)
    else match accessFault c (aOf c a) 1 len with
      | some e => (some e, s)
      | none =>
        let s := readRun n (aOf c a) len ecc s
        let b := coreBytes (coreOf s n) (aOf c a) len
        issuePut n (.operand ((gOf c tr).toNat % 16) b.1 (coreOf s n).poison) s) s

/-- PUTT: 32 bytes at A[a], a result entry of the task's decoder or detector. -/
def execPutt (t : Nat) (n : Fin 512) (a : Fin 4) (ecc : List (Fin 3)) (s : State) : Out :=
  acts t (coreInstr n 8 [] fun _ s =>
    let c := coreOf s n
    match accessFault c (aOf c a) 1 32 with
    | some e => (some e, s)
    | none =>
      let s := readRun n (aOf c a) 32 ecc s
      let b := coreBytes (coreOf s n) (aOf c a) 32
      issuePut n (.timecode b.1 (coreOf s n).poison) s) s

/-- The correlator over k bits of a word, lowest first: the history and the matches (R200). -/
def correlate (w : Word) : Nat → Nat → Nat → Nat → Nat × Nat
  | 0, _, h, m => (h, m)
  | k + 1, i, h, m =>
    let h := (2 * h + (w.getLsbD i).toNat) % 65536
    let m := m + (if h = 0x3FFD then 2 ^ i else 0) + (if h = 0xBFFC then 2 ^ (16 + i) else 0)
    correlate w k (i + 1) h m

/-- CORR. -/
def execCorr (t : Nat) (n : Fin 512) (g tr : Fin 16) (imm : BitVec 14) (s : State) : Out :=
  acts t (coreInstr n 8 [(g : Nat)] (pureBody n fun c =>
    let r := correlate (gOf c g) (imm.toNat % 16 + 1) 0 c.hist 0
    { setG tr (BitVec.ofNat 32 r.2) c with hist := r.1 })) s

/-! ### Class 0x9 (R181) -/

/-- The value of a special register for a core. -/
def specialReg (c : Core) (i : Nat) : Word :=
  let m := sgetC 0
  if i = 0 then srWord c
  else BitVec.ofNat 32 (
    if i = 1 then c.cp else if i = 2 then c.lc else if i = 3 then c.stack.length
    else if 4 ≤ i ∧ i < 8 then m c.ab (i - 4) else if 8 ≤ i ∧ i < 12 then m c.al (i - 8)
    else if 12 ≤ i ∧ i < 16 then m c.am (i - 12) else if i = 16 then c.task.getD 0
    else if i = 17 then c.flight else if i = 18 then c.flight / 4294967296 else 0)

/-- A write of a special register. -/
def writeSpecial (i : Nat) (w : Word) (c : Core) : Core :=
  let v := w.toNat % 131072
  if i = 0 then setSr w c else if i = 1 then { c with cp := v % 32768 }
  else if 4 ≤ i ∧ i < 8 then { c with ab := ssetC 0 c.ab (i - 4) v }
  else if 8 ≤ i ∧ i < 12 then { c with al := ssetC 0 c.al (i - 8) v }
  else if 12 ≤ i ∧ i < 16 then { c with am := ssetC 0 c.am (i - 12) v } else c

/-- MFS. -/
def execMfs (t : Nat) (n : Fin 512) (g : Fin 16) (spr : BitVec 8) (s : State) : Out :=
  acts t (coreInstr n 9 [] (pureBody n fun c => setG g (specialReg c spr.toNat) c)) s

/-- MTS. -/
def execMts (t : Nat) (n : Fin 512) (g : Fin 16) (spr : BitVec 8) (s : State) : Out :=
  acts t (coreInstr n 9 [(g : Nat)] (pureBody n fun c => writeSpecial spr.toNat (gOf c g) c)) s

/-! ### Tasks (R195, R196) -/

/-- The object of a task up to 22,307, or its OBJECT field. -/
def objectOf (s : State) (t : Nat) : Nat := getF s (Reg.TASK_OBJECT t)

/-- The bytes of an arrival record (Table 5 of Media ports and leg queues), with an open buffer handle. -/
def recordBytes (r : ArrRec) (buf : Word) : List Byte :=
  leBytes 4 (treadsOf r.stamp) ++ leBytes 6 (secondsOf r.stamp) ++ leBytes 1 r.kind ++ leBytes 1 r.path ++ leBytes 2 r.seq ++
  leBytes 2 r.object ++ leBytes 4 r.rtpTs ++ leBytes 4 buf.toNat ++ leBytes 2 r.payload.length ++ leBytes 2 0 ++ leBytes 4 r.pcrc.toNat

/-- Insert a record in order of RTP timestamp, then of sequence. -/
def insertByTs (r : ArrRec) : List ArrRec → List ArrRec
  | [] => [r]
  | x :: xs => if r.rtpTs < x.rtpTs ∨ (r.rtpTs = x.rtpTs ∧ r.seq < x.seq) then r :: x :: xs else x :: insertByTs r xs

/-- The records of a leg in the set of an audio flight, in the order of R196. -/
def legRecords (s : State) (leg flight : Nat) : List ArrRec :=
  ((((setOf s .audio flight).map (·.recs)).getD []).filter fun r => recOfTask leg r && recUsable r).foldl (fun l r => insertByTs r l) []

/-- The payload of a record as a leg's core sees it: a PCM leg's own channel, one sample to a word; the bytes otherwise. -/
def foyerPayload (s : State) (t : Treads) (leg : Nat) (r : ArrRec) : List Byte :=
  let fmt := cfgF s t (Reg.LEG_IN_FMT leg)
  if fmt = 1 ∨ fmt = 2 then
    (List.range (r.payload.length / (pcmBytes fmt * max 1 r.chans))).flatMap fun j =>
      leBytes 4 (ofSigned 24 ((recSample r fmt leg j).getD 0) * 256)
  else r.payload

/-- The legs whose outputs a leg's output stream carries: the leg itself and the members of its group (R138, R209). -/
def outputLegs (s : State) (t : Treads) (leg : Nat) : List Nat :=
  (List.range (cfgF s t (Reg.LEG_OUT_CHANNELS leg) + 1)).map (leg + ·)

/-- The words of a leg's Gallery output of a flight (R220, R222), with the bytes that carry poison. -/
def galleryOperand (s : State) (leg flight : Nat) : List Byte × List Bool :=
  let ys := outputsOf s flight leg
  (ys.flatMap fun o => leBytes 4 (ofSigned 24 (satTo 24 (outV o 0)) * 256), ys.flatMap fun o => List.replicate 4 o.bad)

/-- The parts of an operand of a release that the foyer unit admits whole or omits: the records of an arrival-record operand, and
any other operand as one part; each byte with its poison. -/
def operandParts (s : State) (r : Release) (i : Nat) : List (List Byte × List Bool) :=
  if r.task < 10240 ∧ i = 0 then
    (legRecords s r.task r.flight).map fun a =>
      let bs := recordBytes a (Config.openWord (131072 + r.task) r.flight a.seq) ++ foyerPayload s (flightStart s r.flight) r.task a
      (bs, List.replicate bs.length a.poison)
  else if r.task < 10240 ∧ i = 1 then
    (if cfgF s (flightStart s r.flight) (Reg.LEG_EC_EN r.task) = 1 then [galleryOperand s r.task (r.flight - 1)] else [])
  else if 10240 ≤ r.task ∧ r.task < 20480 ∧ i = 0 then
    (outputLegs s (flightStart s r.flight) (r.task - 10240)).map fun l => galleryOperand s l r.flight
  else
    let bs := (r.data.filter (·.1 == i)).flatMap (·.2)
    [(bs, List.replicate bs.length (match r.ops.getD i .absent with | .present p _ => p | _ => false))]

/-- Admit the parts that fit in a room, in order: what was admitted, and whether one was omitted (R196). -/
def admitParts : List (List Byte × List Bool) → Nat → (List Byte × List Bool) × Bool
  | [], _ => (([], []), false)
  | p :: ps, room =>
    if room < p.1.length then ((admitParts ps room).1, true)
    else
      let rest := admitParts ps (room - p.1.length)
      ((p.1 ++ rest.1.1, p.2 ++ rest.1.2), rest.2)

/-- Lay the operands one after the other from byte 256 on, each at a multiple of 4; the last flag is OVERFLOW. The answer lists
offset, bytes and poison. -/
def layOperands (s : State) (r : Release) : List Nat → Nat → List (Nat × List Byte × List Bool) × Bool
  | [], _ => ([], false)
  | i :: is, at_ =>
    let b := admitParts (operandParts s r i) (14336 - at_)
    let rest := layOperands s r is (at_ + (b.1.1.length + 3) / 4 * 4)
    ((at_, b.1.1, b.1.2) :: rest.1, b.2 || rest.2)

/-- The foyer image of a release (Table 9), with the bytes that carry poison. Assumption 85 (DESIGN CHOICE). -/
def foyerImage (s : State) (r : Release) : List Byte × List Bool :=
  let lay := layOperands s r (List.range 15) 256
  let f := flagsOf s r.task
  let head := leBytes 4 r.task ++ leBytes 4 (treadsOf r.deadline) ++ leBytes 6 (secondsOf r.deadline) ++
    leBytes 1 (getF s (Reg.TASK_FUNC r.task)) ++ leBytes 1 (f.1.toNat + 2 * f.2.toNat + 4 * lay.2.toNat) ++
    leBytes 4 (objectOf s r.task) ++ leBytes 8 r.flight ++ leBytes 4 0
  let dir := ((List.range 15).zip lay.1).flatMap fun e =>
    let st := match r.ops.getD e.1 .absent with
      | .present p _ => 1 + 4 * p.toNat
      | .absent => 2
      | .waiting => 0
    leBytes 2 (if e.2.2.1.isEmpty then 0 else e.2.1) ++ leBytes 2 e.2.2.1.length ++ leBytes 1 st ++ leBytes 3 0
  let pad := fun (l : List Byte) n => l ++ List.replicate (n - l.length) 0
  let data := lay.1.foldl (fun a e => if e.2.1.isEmpty then a else pad a e.1 ++ e.2.1) (pad (head ++ dir) 256)
  let bad := lay.1.foldl (fun a e => if e.2.2.isEmpty then a else (a ++ List.replicate (e.1 - a.length) false) ++ e.2.2) []
  (data, bad)

/-- Write a foyer's image into a core's memory, clearing the rest of the foyer. -/
def fillFoyer (base : Nat) (img : List Byte × List Bool) (c : Core) : Core :=
  let w0 := base / 4
  let out := fun k => decide (w0 ≤ k) && decide (k < w0 + 0xE00)
  let words := (img.1.length + 3) / 4
  let c := { c with mem := sdrop out c.mem, poisoned := sdrop out c.poisoned }
  (List.range words).foldl (fun c i =>
    { c with mem := ssetC 0 c.mem (w0 + i) (BitVec.ofNat 32 (leAt img.1 (4 * i) 4))
             poisoned := ssetC false c.poisoned (w0 + i) ((List.range 4).any fun j => img.2.getD (4 * i + j) false) }) c

/-- The operands of a release that are present. -/
def presentMask (r : Release) : Nat := opMask (fun o => match o with | .present _ _ => true | _ => false) r.ops

/-- Whether the foyer image of a release can be complete: the trust of every record of its operand is final (R196). -/
def imageReady (s : State) (r : Release) : Bool :=
  decide (10240 ≤ r.task) || (((setOf s .audio r.flight).map (·.recs)).getD []).all fun a => !(recOfTask r.task a && trustOpen a)

/-- The foyer unit fills core n's inactive foyer with the image of a release, unless it stands there (R185). -/
def fillInactive (n : Nat) (r : Release) (s : State) : State :=
  let c := coreOf s n
  if c.filled = some r.entry ∨ !imageReady s r then s
  else
    let c := fillFoyer (foyerBase (1 - c.foyer)) (foyerImage s r) c
    setF (setCore n { c with filled := some r.entry } s) (Reg.LND_CORE_STAT_STAGED n) 1

/-- The release of an engine's staged slot. -/
def stagedOn (s : State) (c n : Nat) : Option Release :=
  s.stw.releases.find? fun r => r.stage == .staged n && getF s (Reg.TASK_CLASS r.task) == c

/-- The release that waits for core n: staged on it, or in its running slot and not entered. -/
def waitingOn (s : State) (n : Nat) : Option Release :=
  match runningOn s 0 n with
  | some r => if (coreOf s n).task.isNone ∧ r.exit.isNone then some r else stagedOn s 0 n
  | none => stagedOn s 0 n

/-- The foyer unit fills what it can: the images of the releases that wait for cores. -/
def fillFoyers (s : State) : State :=
  let ns := (s.stw.releases.filterMap fun r =>
    if getF s (Reg.TASK_CLASS r.task) ≠ 0 then none
    else match r.stage with | .staged e => some e | .running e => some e | _ => none).eraseDups
  ns.foldl (fun s n => match waitingOn s n with | some r => fillInactive n r s | none => s) s

/-- The core's state at the entry of a task (R195). -/
def enterTask (s : State) (r : Release) (foyer pc : Nat) (f : Bool × Bool) (c : Core) : Core :=
  let base := foyerBase foyer
  let gs : List (Nat × Nat) := [(1, base), (2, objectOf s r.task), (3, r.flight), (4, presentMask r)]
  let g := gs.foldl (fun m e => ssetC 0 m e.1 (BitVec.ofNat 32 e.2)) []
  let flags := base / 4 + 3
  { c with
    mem := ssetC 0 c.mem flags (putBits (sgetC 0 c.mem flags) 25 24 (f.1.toNat + 2 * f.2.toNat))
    g := g, acc := [], a := [], ab := [], al := [], am := [], cp := 0, z := false, n := false, c := false, v := false,
    sm := 1, rnd := true, sat := false, poison := false, lc := 0, pc := pc, stack := [],
    scratch := [], hist := 0, wait := .none, rep := none, loaded := none, cycles := 0, foyer := foyer, filled := none,
    task := some r.task, prev := f, flight := r.flight, instant := r.instant }

/-- Core n enters a release whose foyer image is complete. -/
def enterStep (n : Nat) (bad : List (BitVec 13)) (r : Release) (s : State) : State :=
  let c := coreOf s n
  let s := fillInactive n r (setCore n { c with bad := c.bad ++ (bad.map (·.toNat)).filter fun w => !c.bad.contains w } s)
  let c := coreOf s n
  let entry := getF s (Reg.TASK_FUNC r.task)
  if c.filled ≠ some r.entry then s
  else if c.bad.contains entry then fenceCore n entry 7 s
  else
    let foyer := 1 - c.foyer
    let c := enterTask s r foyer ((programWord s entry).toNat % 8192) (flagsOf s r.task) c
    let s := setFlags r.task (false, false) (setCore n c s)
    let s := setF (setF (setF s (Reg.LND_CORE_STAT_STATE n) 1) (Reg.LND_CORE_STAT_FOYER n) foyer) (Reg.LND_CORE_STAT_STAGED n) 0
    setF (setF s (Reg.LND_CORE_TASK_TASK n) r.task) (Reg.LND_CORE_TASK_RUNNING n) 1

/-- CORE_TASK_ENTRY (R195): core n enters the release that its running slot holds, once its foyer image is complete (R201). `bad`
lists the words of its program memory whose parity is bad from now on; a bad word at the entry table fences it (R187).
Assumption 78 (DESIGN CHOICE). -/
def coreTaskEntry (n : Nat) (bad : List (BitVec 13)) (s : State) : State :=
  match runningOn s 0 n with
  | none => s
  | some r =>
    let c := coreOf s n
    if c.task.isSome ∨ c.wait ≠ .none ∨ coreFenced s n ∨ r.exit.isSome then s
    else atInstant r.instant (enterStep n bad r) s

/-- LIMIT_EXCEEDED (R203): core n's task has run for more than LND_LIMIT cycles. -/
def limitExceeded (n cycles : Nat) (s : State) : State :=
  let c := coreOf s n
  let waited := if c.wait = .none then 0 else waitCycles s c.since
  if c.task.isSome ∧ c.rep.isNone ∧ getF s Reg.LND_LIMIT_CYCLES < max (c.cycles + waited) cycles then atInstant c.instant (fenceCore n c.pc 6) s
  else s

/-- PEEK: the read that a write of LND_PEEK_ADDR starts, once no repeat runs. A peek changes no core. -/
def peekCore (s : State) : State :=
  let n := getF s Reg.LND_PEEK_ADDR_CORE
  let w := getF s Reg.LND_PEEK_ADDR_WORD
  let c := coreOf s n
  let open_ := inScratch w && !c.scratch.contains w
  let v := if open_ then scratchWord c w else sgetC 0 c.mem w
  let s := rset s Reg.LND_PEEK_DATA_DATA.addr v
  setF (setF s Reg.LND_PEEK_STAT_DONE 1) Reg.LND_PEEK_STAT_POISON (sgetC false c.poisoned w).toNat

/-- An audio flight starts at the cores: each one's load of the flight that ended (LND_CORE_LOAD, LND_CORE_PEAK). -/
def coreFlight (s : State) : State :=
  s.lnd.cores.foldl (fun s e =>
    let n := e.1
    let s := setF s (Reg.LND_CORE_LOAD_CYCLES n) (min 1600000 e.2.busy)
    let s := setF s (Reg.LND_CORE_PEAK_CYCLES n) (max (getF s (Reg.LND_CORE_PEAK_CYCLES n)) (min 1600000 e.2.busy))
    setCore n { coreOf s n with busy := 0 } s) s

end Sys2Proof.Machine
end

