-- ==== Sys2Proof/Machine/Legs.lean ====
section
/-! DEFINITION. The firmware services of the audio legs: the jitter buffer, concealment and processing of a leg-in task, and
the encoder of a leg-out task (Landing cores, Firmware services). -/

namespace Sys2Proof.Machine

/-- A concealment that has not run. -/
def concealInit : Conceal := ⟨0, 0, [], []⟩

/-- A leg without state. -/
def legInit : LegState := ⟨false, none, [], 0, none, [], [], concealInit, 0, 0, none, none⟩

/-- The firmware's state of a leg. -/
def legOf (s : State) (leg : Nat) : LegState := sgetC legInit s.lnd.legs leg

/-- Replace the firmware's state of a leg. -/
def setLeg (leg : Nat) (x : LegState) (s : State) : State :=
  { s with lnd := { s.lnd with legs := ssetC legInit s.lnd.legs leg x } }

/-- Whether a flight lies at or after one from which a commit acts. -/
def fromFlight (k : Option Nat) (flight : Nat) : Bool := k.any fun f => decide (f ≤ flight)

/-- The state of a leg for a flight: its receiving part fresh, at JB_INIT, where it has none or where a commit by that flight
reinitialises it (R206, R211). -/
def legAt (s : State) (leg flight : Nat) (fresh : Bool) : LegState :=
  let x := legOf s leg
  if fresh ∨ !x.live ∨ fromFlight x.reinit flight then
    { legInit with live := true, depth := cfgF s (flightStart s flight) (Reg.LEG_JB_INIT leg),
                   encReinit := x.encReinit, encFrom := x.encFrom }
  else x

/-- The codec fields of a leg. -/
def codecFields (l : Nat) : List Fld :=
  [Reg.LEG_BITRATE l, Reg.LEG_COMPLEXITY l, Reg.LEG_FEC l, Reg.LEG_DTX l, Reg.LEG_CBR l, Reg.LEG_BANDWIDTH l, Reg.LEG_G722_MODE l]

/-- A commit at the start of a flight changes legs: a change of IN_FMT reinitialises a leg's receiving part, one of OUT_FMT or of a
codec field its encoder (R211). The echo canceller's part, which EC_TAIL reinitialises, holds open values only. Assumption 89
(DEDUCED). -/
def legCommit (old : State) (addrs : List Nat) (s : State) : State :=
  let hit := (addrs.filter fun a => 0x80200000 ≤ a && a < 0x802A0000).map fun a => (a - 0x80200000) / 64
  let f := some (flightNumber s s.now)
  hit.eraseDups.foldl (fun s l =>
    let changed := fun (r : Fld) => getF old r != getF s r
    let x := legOf s l
    setLeg l { x with reinit := if changed (Reg.LEG_IN_FMT l) then f else x.reinit
                      encReinit := if changed (Reg.LEG_OUT_FMT l) || (codecFields l).any changed then f else x.encReinit } s) s

/-! ### Decoding (R208, R209) -/

/-- The 24-bit value of a G.711 µ-law octet. Assumption 158 (PRESUMED). -/
def mulawSample (b : Byte) : Int :=
  let v := (~~~b).toNat
  let m : Int := ((2 * (v % 16) + 33) * 2 ^ (v / 16 % 8) - 33 : Nat)
  (if v < 128 then m else -m) * 1024

/-- The 24-bit value of a G.711 A-law octet. Assumption 158 (PRESUMED). -/
def alawSample (b : Byte) : Int :=
  let v := (b ^^^ 0x55).toNat
  let e := v / 16 % 8
  let m : Int := (if e = 0 then 2 * (v % 16) + 1 else (2 * (v % 16) + 33) * 2 ^ (e - 1) : Nat)
  (if v < 128 then -m else m) * 2048

/-- The samples at 48 kHz of an Opus packet, by its first octets (RFC 6716). -/
def opusLength (p : List Byte) : Nat :=
  let c := byteAt p 0 / 8
  let frame := if c < 12 then [480, 960, 1920, 2880].getD (c % 4) 0 else if c < 16 then [480, 960].getD (c % 2) 0
    else [120, 240, 480, 960].getD (c % 4) 0
  let n := match byteAt p 0 % 4 with | 0 => 1 | 3 => byteAt p 1 % 64 | _ => 2
  if p.isEmpty then 0 else n * frame

/-- The octets of a leg's own channel of a record whose samples are octets. -/
def channelOctets (leg : Nat) (r : ArrRec) : List Byte :=
  let c := max 1 r.chans
  (List.range (r.payload.length / c)).map fun j => r.payload.getD (j * c + (leg - r.object)) 0

/-- A decoder's result, at the length that its format gives. -/
def fitted (n : Nat) (given : List Int) : List Int := (List.range n).map fun i => satTo 24 (given.getD i 0)

/-- A leg's own samples of a record, and their rate in units of 8 kHz. `given` lists what the decoder made of an Opus or G.722
payload. -/
def ownSamples (s : State) (t : Treads) (leg : Nat) (r : ArrRec) (given : List Int) : List Int × Nat :=
  let fmt := cfgF s t (Reg.LEG_IN_FMT leg)
  match fmt with
  | 3 => (if leg < r.object + 2 then fitted (opusLength r.payload) given else [], 6)
  | 4 => (fitted (2 * (channelOctets leg r).length) given, 2)
  | 5 => ((channelOctets leg r).map mulawSample, 1)
  | 6 => ((channelOctets leg r).map alawSample, 1)
  | _ => ((List.range (r.payload.length / (pcmBytes fmt * max 1 r.chans))).map fun j => (recSample r fmt leg j).getD 0,
      if cfgF s t (Reg.LEG_IN_RATE leg) = 1 then 12 else 6)

/-- Fixed-ratio conversion to 48 kHz: six samples for each unit of 8 kHz of the rate (R208). -/
def convertRate (rate : Nat) (before xs : List Int) : List Int :=
  if rate = 6 then xs else (List.range (xs.length * 6 / rate)).map fun i => satTo 24 (Config.convert rate before xs i)

/-! ### Receiving (R205) -/

/-- Treads of one RTP timestamp unit of a leg: 48 kHz, 96 kHz, or the 8 kHz clock of G.722 and G.711. -/
def legUnit (s : State) (t : Treads) (leg : Nat) : Nat :=
  match cfgF s t (Reg.LEG_IN_FMT leg) with
  | 1 => if cfgF s t (Reg.LEG_IN_RATE leg) = 1 then 1470 else 2940
  | 2 => if cfgF s t (Reg.LEG_IN_RATE leg) = 1 then 1470 else 2940
  | 3 => 2940
  | _ => 17640

/-- Capture time of a record's first sample, its timestamp unwrapped to a flight's start. -/
def captureTime (s : State) (t : Treads) (leg : Nat) (r : ArrRec) : Int :=
  unwrapTs ((t / legUnit s t leg : Nat) : Int) r.rtpTs * legUnit s t leg

/-- Samples of one record enter the jitter buffer; the answer counts those that are late. -/
def insertSamples (base : Int) (depth : Nat) (first : Int) : Nat → List Int → Sparse (Option Int) → Sparse (Option Int) × Nat
  | _, [], m => (m, 0)
  | j, x :: xs, m =>
    let num := first + j
    if num + depth < base then
      let r := insertSamples base depth first (j + 1) xs m
      (r.1, r.2 + 1)
    else insertSamples base depth first (j + 1) xs (ssetC none m num.toNat (some x))

/-- One record of a leg enters (R205, R208). -/
def insertRecord (s : State) (leg flight : Nat) (r : ArrRec) (given : List Int) (x : LegState × Nat) : LegState × Nat :=
  let t := flightStart s flight
  let tc := captureTime s t leg r
  let lam := -(((tc - t) / 2940 : Int))
  let own := ownSamples s t leg r given
  let xs := convertRate own.2 x.1.taken own.1
  let res := insertSamples (t / 2940 : Nat) x.1.depth (tc / 2940) 0 xs x.1.jitter
  ({ x.1 with jitter := res.1, lambdas := (x.1.lambdas ++ [lam]).drop (x.1.lambdas.length + 1 - 512),
              taken := (own.1.reverse ++ x.1.taken).take 480 }, x.2 + res.2)

/-! ### Depth (R206) -/

/-- The adaptive target D*: the largest lateness of the last 512 packets. Assumption 89 (DEDUCED). -/
def depthTarget (x : LegState) : Option Int := x.lambdas.foldl (fun m v => some (match m with | some y => max y v | none => v)) none

/-- The way in which the depth wants to move, and whether the leg is held (R206). -/
def depthMove (s : State) (t : Treads) (leg : Nat) (x : LegState) : Int × Bool :=
  let lo := cfgF s t (Reg.LEG_JB_MIN leg)
  let hi := cfgF s t (Reg.LEG_JB_MAX leg)
  let fixed := cfgF s t (Reg.LEG_JB_INIT leg)
  let towards := fun (v : Nat) => if x.depth < v then (1 : Int) else if v < x.depth then -1 else 0
  if cfgF s t (Reg.LEG_JB_ADAPT leg) = 0 then (towards fixed, false)
  else if x.depth < lo then (1, false)
  else if hi < x.depth then (-1, false)
  else match depthTarget x with
    | none => (0, false)
    | some d =>
      let held := decide ((hi : Int) < d)
      if (x.depth : Int) < d ∧ x.depth < hi then (1, held)
      else if d + 48 < x.depth ∧ lo < x.depth then (-1, held)
      else (0, held)

/-! ### Concealment (R207) -/

/-- How a leg conceals: PLC_MODE, PLC_FADE and IN_FMT. -/
structure ConcealBy where
  mode : Nat
  fade : Nat
  fmt  : Nat

/-- How a leg conceals in the flight that starts at an instant. -/
def concealBy (s : State) (t : Treads) (leg : Nat) : ConcealBy :=
  ⟨cfgF s t (Reg.LEG_PLC_MODE leg), cfgF s t (Reg.LEG_PLC_FADE leg), cfgF s t (Reg.LEG_IN_FMT leg)⟩

/-- Sample k of the concealed signal after 10 ms of output: silence in mode 0 and after PLC_FADE samples, the last 480 samples again
and again in mode 1, an extension in mode 2. -/
def concealedAt (b : ConcealBy) (hist : List Int) (k : Nat) : Int :=
  if b.mode = 0 ∨ b.fade ≤ k then 0
  else if b.mode = 1 then satTo 24 (Config.plcFade b.fade k (hist.getD (479 - k % 480) 0))
  else satTo 24 (Config.plcExtend b.fmt hist k)

/-- One output sample: absent, it is concealed; present, it crossfades with the concealed signal through the first 48 samples.
Assumption 169 (DESIGN CHOICE). -/
def concealStep (b : ConcealBy) (x : Option Int) (c : Conceal) : (Int × Bool) × Conceal :=
  let go := fun (v : Int) (hidden : Bool) (c : Conceal) => ((v, hidden), { c with recent := (v :: c.recent).take 480 })
  match x with
  | none =>
    let c := if c.fade = 48 then c else { c with run := 0, hist := c.recent }
    go (concealedAt b c.hist c.run) true { c with run := c.run + 1, fade := 48 }
  | some v =>
    if c.fade = 0 then go v false c
    else
      let old := concealedAt b c.hist c.run
      go ((old * (c.fade - 1 : Nat) + v * (49 - c.fade : Nat)) / 48) false { c with run := c.run + 1, fade := c.fade - 1 }

/-- Conceal what is absent and crossfade back into data; each answer says whether it is concealed. -/
def concealRun (b : ConcealBy) : List (Option Int) → Conceal → List (Int × Bool) × Conceal
  | [], c => ([], c)
  | x :: xs, c =>
    let y := concealStep b x c
    let r := concealRun b xs y.2
    (y.1 :: r.1, r.2)

/-! ### Playing out (R206) -/

/-- What would play at each output sample of a flight at the present depth: the sample, or none. -/
def playing (base : Nat) (x : LegState) (n : Nat) : List (Option Int) :=
  (List.range n).map fun i => if x.depth ≤ base + i then sgetC none x.jitter (base + i - x.depth) else none

/-- The candidate of least magnitude, the earliest of equals, among the samples that meet the spacing: those that play
from data, or all where none does. -/
def changeAt (x : LegState) (ys : List (Int × Bool)) : Option Nat :=
  let spaced := ((List.range ys.length).zip ys).filter fun e => x.sinceChg.all fun k => decide (480 ≤ k + e.1)
  let data := spaced.filter fun e => !e.2.2
  let cand := if data.isEmpty then spaced else data
  (cand.foldl (fun b e =>
    let m := e.2.1.natAbs
    match b with
    | none => some (e.1, m)
    | some (_, k) => if m < k then some (e.1, m) else b) (none : Option (Nat × Nat))).map (·.1)

/-- The samples that play in a flight, with at most one repeat or drop, and the state after it. -/
def playOut (b : ConcealBy) (base n : Nat) (move : Int) (x : LegState) : List (Option Int) × LegState :=
  let ys := playing base x n
  let later := { x with sinceChg := x.sinceChg.map (· + n) }
  if move = 0 then (ys, later)
  else match changeAt x (concealRun b ys x.conceal).1 with
    | none => (ys, later)
    | some i =>
      let y := { x with depth := (x.depth + move).toNat }
      let zs := playing base y n
      (ys.take (if move = 1 then i + 1 else i) ++ zs.drop (if move = 1 then i + 1 else i), { y with sinceChg := some (n - i) })

/-! ### Processing (R208 to R210) -/

/-- Whether a leg's samples pass through a service whose results the manual does not state: drift conversion, echo
canceller, noise suppressor or level control. Assumption 88 (DESIGN CHOICE). -/
def processed (s : State) (t : Treads) (leg : Nat) : Bool :=
  [Reg.LEG_SRC_MODE leg, Reg.LEG_EC_EN leg, Reg.LEG_NS_EN leg, Reg.LEG_AGC_EN leg].any fun f => cfgF s t f == 1

/-- The samples of a leg's flight after those services. -/
def processedSamples (s : State) (t : Treads) (leg flight : Nat) (xs : List (Int × Bool)) : List (Int × Bool) :=
  if processed s t leg then ((List.range xs.length).zip xs).map fun e => (satTo 24 (Config.openSample leg flight e.1), e.2.2) else xs

/-- Whether drift tracking needs more than SRC_PPM_MAX (R208). -/
def driftHeld (s : State) (t : Treads) (leg : Nat) (x : LegState) : Bool :=
  cfgF s t (Reg.LEG_SRC_MODE leg) == 1 && decide (cfgF s t (Reg.LEG_SRC_PPM_MAX leg) < (Config.driftPpm x.lambdas).natAbs)

/-- IN_TRIM (R210). -/
def trimmed (g x : Int) : Int := satTo 24 (shrI (x * g + 131072) 18)

/-- A run of flights in a held state: its event after the third (R206). -/
def heldEvent (e : Nat) (held : Bool) (run : Nat) (s : State) : Nat × State :=
  let n := if held then run + 1 else 0
  (n, raiseIf (n == 3) e s)

/-- Write a leg's flight into its input slots. -/
def putSamples (flight leg : Nat) (poison : Bool) (xs : List (Int × Bool)) (s : State) : State :=
  ((List.range xs.length).zip xs).foldl (fun s e =>
    galPut flight leg e.1 (if poison then .poisoned else if e.2.2 then .concealed e.2.1 else .present e.2.1) false s) s

/-- The firmware loads a poisoned word for a task of a leg: the core that the leg is placed on marks it, and the leg's next task
enters with PREV_POISON (R186, R202). -/
def loadPoison (t leg : Nat) (s : State) : State :=
  let s := setFlags t ((flagsOf s t).1, true) s
  match placedOn s 0 leg with
  | some c => corePoison c s
  | none => s

/-- LEG_IN_TASK: the leg-in task of a leg for the flight of its running release (Table 11). `given` lists what the decoder of an
Opus or G.722 leg made of each record. -/
def legInTask (leg : Nat) (given : List (List Int)) (s : State) : State :=
  match workOf s leg with
  | none => s
  | some r =>
    let t := flightStart s r.flight
    let n := flightSamples s
    let fl := takeFlags leg s
    let fresh := fl.1
    let s := fl.2
    let x := legAt s leg r.flight fresh
    let recs := legRecords s leg r.flight
    let poison := recs.any (·.poison) ||
      (cfgF s t (Reg.LEG_EC_EN leg) == 1 && (galleryOperand s leg (r.flight - 1)).2.contains true)
    let ins := ((List.range recs.length).zip recs).foldl (fun a e => insertRecord s leg r.flight e.2 (given.getD e.1 []) a) (x, 0)
    let mv := depthMove s t leg ins.1
    let by_ := concealBy s t leg
    let play := playOut by_ (t / 2940) n mv.1 ins.1
    let y := play.2
    let c := concealRun by_ (if fresh then List.replicate n none else play.1) y.conceal
    let g := cfgS s t 20 (Reg.LEG_IN_TRIM leg)
    let out := (processedSamples s t leg r.flight c.1).map fun e => (trimmed g e.1, e.2)
    let s := if poison then loadPoison leg leg s else s
    let h := heldEvent 0x103 mv.2 y.heldRun s
    let k := heldEvent 0x104 (driftHeld s t leg y) y.srcRun h.2
    let keep := sdrop (fun m => decide (m + y.depth < t / 2940 + n)) y.jitter
    let s := setLeg leg { y with conceal := c.2, heldRun := h.1, srcRun := k.1, jitter := keep } k.2
    let s := putSamples r.flight leg poison out s
    let s := setL (setL s (Reg.LEG_DEPTH leg) y.depth) (Reg.LEG_HELD leg) mv.2.toNat
    let s := addL (addL s (Reg.LEG_LATE leg) ins.2) (Reg.LEG_CONCEALED leg) (c.1.countP (·.2))
    firmwareExit leg s

/-! ### Sending (R209) -/

/-- The segment of a G.711 magnitude: how often it halves before it is at most a bound. -/
def segmentOf : Nat → Nat → Nat → Nat
  | 0, _, _ => 0
  | k + 1, bound, m => if m ≤ bound then 0 else segmentOf k bound (m / 2) + 1

/-- The G.711 µ-law octet of a 24-bit sample. Assumption 158 (PRESUMED). -/
def mulawOctet (x : Int) : Byte :=
  let m := min 8158 (x.natAbs / 1024) + 33
  let e := segmentOf 7 63 m
  ~~~(BitVec.ofNat 8 ((if x < 0 then 128 else 0) + e * 16 + m / 2 ^ (e + 1) % 16))

/-- The G.711 A-law octet of a 24-bit sample. Assumption 158 (PRESUMED). -/
def alawOctet (x : Int) : Byte :=
  let m := min 4095 (x.natAbs / 2048)
  let e := segmentOf 7 31 m
  let v := if e = 0 then m / 2 else e * 16 + m / 2 ^ e % 16
  BitVec.ofNat 8 ((if x < 0 then 0 else 128) + v) ^^^ 0x55

/-- The payload of a codec leg's packet from its output samples at 48 kHz: µ-law or A-law octets of the samples at 8 kHz, G.722
octets of those at 16 kHz, or what the Opus encoder gave; none where discontinuous transmission sends nothing. -/
def encodedPayload (fmt mode : Nat) (dtx : Bool) (xs : List Int) (given : Option (List Byte)) : Option (List Byte) :=
  let down := fun (rate : Nat) => (List.range (xs.length * rate / 6)).map fun i => satTo 24 (Config.convert (6 + rate) [] xs i)
  match fmt with
  | 3 => if dtx then given else some (given.getD [])
  | 4 => some ((List.range (xs.length / 6)).map (Config.g722Octet mode (down 2)))
  | 5 => some ((down 1).map mulawOctet)
  | _ => some ((down 1).map alawOctet)

/-- The output packets of a codec leg whose last sample lies in a flight: their first output times. -/
def codecPackets (s : State) (leg flight : Nat) : List Treads :=
  let t := flightStart s flight
  let p := ptimeTreads (cfgF s t (Reg.LEG_OUT_PTIME leg))
  (((List.range (flightSamples s)).map fun i => t + 2940 * (i + 1)).filter fun e => treadsOf e % p == 0).map fun e => e - p

/-- The outputs of a leg at the output times of a packet. -/
def packetOutputs (s : State) (leg : Nat) (t0 p : Treads) : List OutSample :=
  (List.range (p / 2940)).map fun i => (outAt s leg (t0 + 2940 * i)).getD outSilent

/-- The queues to which a leg's packets go (R140). -/
def legQueues (s : State) (c : Treads) (leg : Nat) : List Nat :=
  (if cfgF s c (Reg.LEG_A_EN leg) = 1 then [cfgF s c (Reg.LEG_QUEUE_A leg)] else []) ++
  (if cfgF s c (Reg.LEG_B_EN leg) = 1 then [cfgF s c (Reg.LEG_QUEUE_B leg)] else [])

/-- One packet of a codec leg leaves (R139, R140, R209). -/
def sendCodec (leg : Nat) (p : Treads) (t0 : Treads) (given : Option (List Byte)) (s : State) : State :=
  let c := flightStart s (flightNumber s t0)
  let xs := (packetOutputs s leg t0 p).map fun o => satTo 24 (outV o 0)
  match encodedPayload (cfgF s c (Reg.LEG_OUT_FMT leg)) (cfgF s c (Reg.LEG_G722_MODE leg)) (cfgF s c (Reg.LEG_DTX leg) == 1) xs given with
  | none => s
  | some bytes =>
    let h : PktPrefix := ⟨audioSlot t0 p (flightLen s), bytes.length,
      (t0 / 2940 + cfgF s c (Reg.LEG_TS_OFS leg)) % 4294967296, false, false⟩
    let bad := (outputLegs s c leg).any fun l => (packetOutputs s l t0 p).any (·.bad)
    (legQueues s c leg).foldl (fun s q => emitPacket q (10240 + leg) h bytes bad s) s

/-- The instant from which a leg's encoder takes samples in a flight (R202, R211). -/
def encoderStart (s : State) (leg flight : Nat) (fresh : Bool) : Treads :=
  let t := flightStart s flight
  let x := legOf s leg
  if fresh ∨ fromFlight x.encReinit flight then t else x.encFrom.getD t

/-- LEG_OUT_TASK: the leg-out task of a codec leg for the flight of its running release (Table 11). `frames` lists what an Opus
encoder gave for each packet that completes, none where discontinuous transmission sends nothing. -/
def legOutTask (leg : Nat) (frames : List (Option (List Byte))) (s : State) : State :=
  match workOf s (10240 + leg) with
  | none => s
  | some r =>
    let t := flightStart s r.flight
    let fl := takeFlags (10240 + leg) s
    let s := fl.2
    let start := encoderStart s leg r.flight fl.1
    let x := legOf s leg
    let s := setLeg leg { x with encFrom := some start, encReinit := if fromFlight x.encReinit r.flight then none else x.encReinit } s
    let poison := (outputLegs s t leg).any fun l => (galleryOperand s l r.flight).2.contains true
    let s := if poison then loadPoison (10240 + leg) leg s else s
    let p := ptimeTreads (cfgF s t (Reg.LEG_OUT_PTIME leg))
    let t0s := codecPackets s leg r.flight
    let s := ((List.range t0s.length).zip t0s).foldl (fun s e =>
      if start ≤ e.2 then sendCodec leg p e.2 ((frames[e.1]?).getD none) s else s) s
    firmwareExit (10240 + leg) s

end Sys2Proof.Machine
end

