-- ==== Sys2Proof/Machine/Commit.lean ====
section
/-! DEFINITION. The epoch commit: merged order, the word limit, each request, what the committed words change in the
units, snapshots, views and completions (R17, R115 to R125, R96, R500, R501). -/

namespace Sys2Proof.Machine

/-! ### Merged order (R119) -/

/-- Sequence of a unit: its first member's. -/
def unitSeq (u : ReqUnit) : Nat := (u.members.head?.map (·.seq)).getD 0

/-- Whether unit a stands before unit b: arrival stamp, then door, then sequence. -/
def unitBefore (a b : ReqUnit) : Bool :=
  if a.stamp ≠ b.stamp then decide (a.stamp < b.stamp)
  else if a.door ≠ b.door then decide (a.door < b.door)
  else decide (unitSeq a < unitSeq b)

/-- Insert a unit in merged order. -/
def insertUnit (u : ReqUnit) : List ReqUnit → List ReqUnit
  | [] => [u]
  | x :: xs => if unitBefore u x then u :: x :: xs else x :: insertUnit u xs

/-- Units in merged order. -/
def mergedOrder : List ReqUnit → List ReqUnit
  | [] => []
  | u :: us => insertUnit u (mergedOrder us)

/-- The instances of an array of words that a list of addresses touches: first address, stride, bytes of one instance from an
offset, count. -/
def touchedOf (base stride lo hi count : Nat) (addrs : List Nat) : List Nat :=
  ((addrs.filter fun a => decide (base ≤ a) && decide (a < base + stride * count) && decide (lo ≤ (a - base) % stride) &&
    decide ((a - base) % stride < hi)).map fun a => (a - base) / stride).eraseDups

/-! ### A door's partition (R86, R96, R121) -/

/-- Identifiers of a kind below a bound that door d owns. -/
def ownedIds (s : State) (d kind bound : Nat) : List Nat :=
  (s.cht.loaded.records.filter fun r => r.kind == kind && r.door == d).flatMap fun r =>
    List.range' r.first (min (r.last + 1) bound - r.first)

/-- Addresses of the instances of a word whose index in each dimension is one of a list. -/
def indexedAddrs (base : Nat) : List (List Nat × Nat) → List Nat
  | [] => [base]
  | (ix, stride) :: ds => ix.flatMap fun k => indexedAddrs (base + stride * k) ds

/-- The instances whose index in dimension i is one of a list. -/
def instancesWith (w : WordDef) (i : Nat) (ix : List Nat) : List Nat :=
  indexedAddrs w.base (((List.range w.dims.length).zip w.dims).map fun e => (if e.1 = i then ix else List.range e.2.1, e.2.2))

/-- Whether a word stands in an input context: those count as objects in the device-owner door's partition (R267). -/
def inputContext (a : Nat) : Bool := decide (0x83430000 ≤ a) && decide (a < 0x83430400)

/-- RWE words of a word definition that lie in door d's partition. -/
def partitionWordsOf (s : State) (d : Nat) (w : WordDef) : List Nat :=
  let n := (w.dims.headD (1, 0)).1
  if !wordHasAcc w .rwe then []
  else match w.guard with
    | .object k i => instancesWith w i (ownedIds s d k ((w.dims.getD i (1, 0)).1))
    | .service => instancesWith w 0 ((List.range n).filter fun v => (s.cht.loaded.services.getD v (4, 4)).2 == d)
    | .taskDescriptor =>
      instancesWith w 0 (((s.regs.filter fun e => decide (0x84000000 ≤ e.1) && decide (e.1 < 0x85000000) && e.1 % 128 == 0).map
        fun e => (e.1 - 0x84000000) / 128).filter fun t => ownsTask s d t)
    | .matchEntry =>
      instancesWith w 0 (((s.regs.filter fun e => decide (0x80000000 ≤ e.1) && decide (e.1 < 0x80200000) && e.1 % 64 == 40 &&
        bitsOf e.2 0 0 == 1).map fun e => (e.1 - 0x80000000) / 64).filter fun m => entryOwned s d m)
    | .crosspoint => instancesWith w 0 ((validXps s).filter fun e => owns s d 5 (getF s (Reg.XP_BUS e)))
    | .tile => instancesWith w 0 ((List.range n).filter fun t => owns s d 4 (getF s (Reg.TILE_COMP t)))
    | .outContext => instancesWith w 0 ((List.range n).filter fun c => owns s d 4 (getF s (Reg.OUTC_COMP c)))
    | .devOwner => if inputContext w.base && d == devOwner s then instancesWith w 0 (List.range n) else []
    | _ => []

/-- RWE words of door d's partition. -/
def partitionWords (s : State) (d : Nat) : List Nat :=
  allBlocks.flatMap fun b => (blockRegs b ++ blockTables b).flatMap (partitionWordsOf s d)

/-- Whether the word at an address lies in door d's partition now. -/
def inPartition (s : State) (d a : Nat) : Bool :=
  match findWord a with
  | none => false
  | some (w, is) =>
    wordHasAcc w .rwe && (match w.guard with
      | .object k i => owns s d k (is.getD i 0)
      | .service => guardAdmits s d w.guard is
      | .taskDescriptor => ownsTask s d (is.headD 0)
      | .matchEntry => getF s (Reg.MATCH_VALID (is.headD 0)) == 1 && entryOwned s d (is.headD 0)
      | .crosspoint => owns s d 5 (getF s (Reg.XP_BUS (is.headD 0)))
      | .tile => owns s d 4 (getF s (Reg.TILE_COMP (is.headD 0)))
      | .outContext => owns s d 4 (getF s (Reg.OUTC_COMP (is.headD 0)))
      | .devOwner => inputContext a && d == devOwner s
      | _ => false)

/-- The charter's state of the device, for the question to whom an entry belongs there. -/
def charterState (s : State) : State := { s with regs := s.cht.charterWords }

/-- The words that the return of door d's partition writes: those in it now, SEQ_SET of its queues among them (R153), and those of
entries that the charter gives it and that no door holds now. -/
def returnedWords (s : State) (d : Nat) : List Nat :=
  let words := s.regs.map (·.1) ++ s.cht.charterWords.map (·.1)
  let seqs := (touchedOf 0x80400000 256 0 256 32768 words).map fun q => (Reg.QUEUE_SEQ_SET q).addr
  let listed := (words ++ seqs).eraseDups
  let home := charterState s
  listed.filter fun a => inPartition s d a ||
    (inPartition home d a && decide (a < 0x80200000) && decide (0x80000000 ≤ a) &&
      getF s (Reg.MATCH_VALID ((a - 0x80000000) / 64)) == 0)

/-- The return of door d's partition to charter state at its commit (R96): its RWE words, its streams, compositions and inputs
started again (R251, R273), its keys (R164), its open releases (R344), its replays, and event 0x042 + d. The words it commits
include those that it leaves unchanged (R121). Assumption 60 (DEDUCED). -/
def returnPartition (d : Nat) (s : State) : List Nat × State :=
  let ws := returnedWords s d
  let blank := (partitionWords s d).filter fun a => !ws.contains a
  let s := ws.foldl (fun s a => commitWord a (charterWord s a) s) s
  let s := (allStreams.filter fun n => owns s d 1 n).foldl (fun s n => restartStream n s) s
  let s := ((List.range 64).filter fun c => owns s d 4 c).foldl (fun s c => setComp c (restartSource s.now (compOf s c)) s) s
  let s := if d = devOwner s then (List.range 16).foldl (fun s i => setInput i (restartSource s.now (inputOf s i)) s) s else s
  (ws ++ blank, raiseEvent (0x042 + d) (stopReplays d (discardDoor d (clearDoorKeys d s))))

/-! ### One request -/

/-- What a request did: its status, its RESULT, the words it wrote, and the state it left (the state before it, where it
fails). -/
structure Ran where
  status : Nat
  result : Nat
  addrs  : List Nat
  state  : State

/-- Writes of door d. -/
def commitWrites (d : Nat) (ws : List (Nat × Nat × Word)) (s : State) : Ran :=
  match checkWrites d ws s with
  | (some f, _) => ⟨f.1, f.2, [], s⟩
  | (none, left) => ⟨stOk, 0, ws.map fun w => w.2.1, left⟩

/-- A status and a state without written words. -/
def ranPlain (old : State) (x : Nat × State) : Ran := ⟨x.1, 0, [], if x.1 = 0 then x.2 else old⟩

/-- An opcode of a video leg (Table 2 of Layer forwarding and egress shaping). -/
def commitVleg (d : Nat) (a : List Byte) (f : Nat → State → State) (s : State) : Ran :=
  let v := argAt a 16 2
  if 2047 < v then ⟨stRange, 0, [], s⟩
  else if !owns s d 2 v then ⟨stPartition, 0, [], s⟩
  else ⟨stOk, 0, [], f v s⟩

/-- A request of door d commits against the state left by those before it (R112, R113, R119). -/
def commitReq (d : Nat) (r : Req) (s : State) : Ran :=
  match r.body with
  | .partitionReturn =>
    let x := returnPartition d s
    ⟨stOk, 0, x.1, x.2⟩
  | .barWrite ps => commitWrites d ((List.range ps.length).zip ps) s
  | .entry op a data =>
    match op with
    | 0x0001 => commitWrites d (stagePairs a) s
    | 0x0110 => ranPlain s (commitJoin a s)
    | 0x0111 => ranPlain s (commitLeave a s)
    | 0x0200 =>
      let x := commitKeyLoad d a data s
      ⟨x.1, x.2.1, [], if x.1 = 0 then x.2.2 else s⟩
    | 0x0201 => ranPlain s (commitKeyClear d a s)
    | 0x0300 => commitVleg d a (fun v s => capSet v (argAt a 20 4) s) s
    | 0x0301 => commitVleg d a refreshLeg s
    | 0x0401 => ranPlain s (commitReplay d a s.epoch.newestAt s)
    | 0x0402 => ⟨stOk, 0, [], endReplay (4 * d + argAt a 17 1) s⟩
    | _ => ⟨stOk, 0, [], s⟩

/-- What a failing request leaves besides its completion: the cipher's events and errors (R162), and the access error of a BAR
write (R501). -/
def failEffects (d : Nat) (r : Req) (status : Nat) (s : State) : State :=
  match r.body with
  | .barWrite ps =>
    let b := blockOf ((ps.head?.map (·.1)).getD 0)
    if status = stPartition then partitionError b d s else configError b d s
  | .entry 0x0200 a _ =>
    if status = stDevice then
      match s.cip.upset with
      | some lane => laneMismatch lane (argAt a 18 1 % 2) (argAt a 16 2) 0x02 2 { s with cip := { s.cip with upset := none } }
      | none => s
    else if status = stUnwrap then raiseEvent 0x0E2 s
    else s
  | _ => s

/-- The words that a request counts (R121). Assumption 163 (DEDUCED). -/
def reqWords (s : State) (d : Nat) (r : Req) : Nat :=
  match r.body with
  | .barWrite ps => ps.length
  | .partitionReturn => (partitionWords s d).length
  | .entry op a _ => if op = 1 then (stagePairs a).length else 1

/-- What the members of a unit did: the words they wrote, the RESULT of each, the member that failed with its status and RESULT, and the
state after them. -/
structure MembersRun where
  addrs   : List Nat
  results : List Nat
  failed  : Option (Nat × Nat × Nat)
  state   : State

/-- The members of a unit in order, each against the state left by those before; at the first failure its status and RESULT,
with the number of the member. -/
def runMembers (d : Nat) : Nat → List Req → State → MembersRun
  | _, [], s => ⟨[], [], none, s⟩
  | i, r :: rs, s =>
    let x := commitReq d r s
    if x.status ≠ 0 then ⟨[], [], some (i, x.status, x.result), s⟩
    else
      let y := runMembers d (i + 1) rs x.state
      { y with addrs := x.addrs ++ y.addrs, results := x.result :: y.results }

/-- Complete a member; a request received at the other twin while this device commits for both is returned to it (R424): after J the
joiner commits its own (R430). -/
def completeReq (d : Nat) (r : Req) (epoch status result : Nat) (s : State) : State :=
  let s := complete d r epoch status result s
  let joined := s.twin.resync.joinFlight.any fun n => decide (n * flightLen s < s.now)
  if r.otherTwin ∧ s.twin.state = .alone ∧ !joined then sendNewel (.completion d ⟨{ r with status := status, result := result }, epoch⟩) s
  else s

/-- The members of a unit that failed at member i complete: that member with its status, the others with GROUP (R115). -/
def completeFailed (d i status result : Nat) : Nat → List Req → State → State
  | _, [], s => s
  | k, r :: rs, s =>
    let s := if k = i then completeReq d r 0 status result (failEffects d r status s) else completeReq d r 0 stGroup 0 s
    completeFailed d i status result (k + 1) rs s

/-- The members of a unit that fails by its entries complete: those that fail with their own status, the others with GROUP
(R115, R500). Assumption 59 (DEDUCED). -/
def completeEntries (d : Nat) (rs : List Req) (s : State) : State :=
  rs.foldl (fun s r => if r.status ≠ 0 then completeReq d r 0 r.status r.result s else completeReq d r 0 stGroup 0 s) s

/-! ### The units of an epoch (R119, R121) -/

/-- What the units of an epoch have done so far: the words they wrote, the words counted, those that pass to the next epoch, and
the state. -/
structure EpochRun where
  addrs   : List Nat
  total   : Nat
  carried : List ReqUnit
  state   : State

/-- Words of one epoch (R121). Assumption 58 (DEDUCED). -/
def epochLimit : Nat := 16384

/-- Units pass to the next epoch; those among them that fail by their entries complete now, since they count no words (R500). -/
def carryUnits (us : List ReqUnit) (x : EpochRun) : EpochRun :=
  { x with
    carried := us.filter fun u => !unitFails u
    state := (us.filter unitFails).foldl (fun s u => completeEntries u.door u.members s) x.state }

/-- A unit commits, fails, or passes to the next epoch with all that follow it; one that stands first in merged order commits
beyond the limit, and nothing after it does (R121). -/
def runUnits : Bool → List ReqUnit → EpochRun → EpochRun
  | _, [], x => x
  | first, u :: us, x =>
    if unitFails u then runUnits false us { x with state := completeEntries u.door u.members x.state }
    else
      let y := runMembers u.door 0 u.members x.state
      match y.failed with
      | some f => runUnits false us { x with state := completeFailed u.door f.1 f.2.1 f.2.2 0 u.members x.state }
      | none =>
        let w := sumOf id (u.members.map (reqWords x.state u.door))
        if epochLimit < x.total + w ∧ !first then carryUnits (u :: us) x
        else
          let s := (u.members.zip y.results).foldl (fun s r => completeReq u.door r.1 s.epoch.newest stOk r.2 s) y.state
          let x := { x with addrs := x.addrs ++ y.addrs, total := x.total + w, state := s }
          if epochLimit < x.total then carryUnits us x else runUnits false us x

/-! ### What committed words change -/

/-- Match entries change: the merge states of the objects that they named and name are fresh (R143). -/
def mergeCommit (old : State) (addrs : List Nat) (s : State) : State :=
  (touchedOf 0x80000000 64 0 64 32768 addrs).foldl (fun s i =>
    freshMerge s i (freshMerge old i s)) s

/-- A queue whose class, port or service changed waits in its new list (R315, R320). Assumption 61 (DEDUCED). -/
def requeue (old : State) (q : Nat) (s : State) : State :=
  let moved := [Reg.QUEUE_PORT q, if tiered s then Reg.QUEUE_SERVICE q else Reg.QUEUE_CLASS q].any fun f => getF old f != getF s f
  if moved ∧ 0 < queuePkts (queueOf s q) ∧ getF s (Reg.QUEUE_NOTIFY q) = 0 then wakeQueue q (leaveLists q s) else s

/-- The words among some addresses that a commit has changed. -/
def changedWords (old s : State) (addrs : List Nat) : List Nat := addrs.filter fun a => rget old a != rget s a

/-- A queue's descriptor changed: SEQ_SET, FLUSH, EN and its limiter (R153, R156, R320). -/
def queueCommit (old : State) (addrs : List Nat) (q : Nat) (s : State) : State :=
  let wrote := fun (f : Fld) => addrs.contains f.addr
  let flush := wrote (Reg.QUEUE_FLUSH q) ∧ getF s (Reg.QUEUE_FLUSH q) = 1
  let s := setF s (Reg.QUEUE_FLUSH q) 0
  let off := getF old (Reg.QUEUE_EN q) = 1 ∧ getF s (Reg.QUEUE_EN q) = 0
  let s := if wrote (Reg.QUEUE_SEQ_SET q) then checkNear q (setTx q (txOf s q) (setF s (Reg.QUEUE_SEQ q) (getF s (Reg.QUEUE_SEQ_SET q)))) else s
  let limits := (touchedOf 0x80400000 256 128 152 32768 (changedWords old s addrs)).contains q
  let s := if limits then
      setSched q { schedOf s q with lim := limReset s.now (getF s (Reg.QUEUE_RESET_TO q) == 1) (schedOf s q).lim (queueLimits s q) } s
    else s
  let s := requeue old q s
  if flush ∨ off then flushAndPump q s else pumpQueue q s

/-- A service entry changed: its limiter, and its list where its class changed (R320). -/
def serviceCommit (old : State) (v : Nat) (s : State) : State :=
  let i := serviceId v
  let s := setSched i { schedOf s i with
    lim := limReset s.now (getF s (Reg.SVC_RESET_TO v) == 1) (schedOf s i).lim (serviceLimits s v) } s
  let c := getF old (Reg.SVC_CLASS v)
  let c' := getF s (Reg.SVC_CLASS v)
  let p := getF s (Reg.SVC_PORT v)
  if c ≠ c' ∧ (listOf s p c).contains i then
    let s := setList p c ((listOf s p c).filter (· != i)) s
    setList p c' (listOf s p c' ++ [i]) (joinSched i (leaveSched i s))
  else s

/-- The rate that a class 2 to 5 task follows, and the engine that its object's context names (R329, R331). -/
def taskFollows (s : State) (t : Nat) : Option (Nat × Option Nat) :=
  if 21704 ≤ t ∧ t < 21960 then some (getF s (Reg.STR_RATE (t - 21704)), some (getF s (Reg.STR_ENGINE (t - 21704))))
  else if 21960 ≤ t ∧ t < 22024 then some (getF s (Reg.COMP_RATE (t - 21960)), none)
  else if 22024 ≤ t ∧ t < 22040 then some (getF s (Reg.INC_RATE (t - 22024)), none)
  else if 22040 ≤ t ∧ t < 22048 then some (getF s (Reg.COMP_RATE (getF s (Reg.OUTC_COMP (t - 22040)))), none)
  else if 22048 ≤ t ∧ t < 22240 then
    some (getF s (Reg.PRG_RATE ((t - 22048) / 3)), some (getF s (Reg.PRG_ENGINE ((t - 22048) / 3) ((t - 22048) % 3))))
  else if 22240 ≤ t ∧ t < 22304 then some (getF s (Reg.PRG_RATE (t - 22240)), none)
  else none

/-- The device sets RATE, DL_OFS and TO_OFS, and ENGINE, of one task (R331). -/
def followTask (t : Nat) (s : State) : State :=
  match taskFollows s t with
  | none => s
  | some (rate, engine) =>
    if getF s (Reg.TASK_VALID t) = 0 then s
    else
      let s := setF (setF (setF s (Reg.TASK_RATE t) rate) (Reg.TASK_DL_OFS t) (ratePeriod rate)) (Reg.TASK_TO_OFS t) 0
      match engine with
      | some e => setF s (Reg.TASK_ENGINE t) e
      | none => s

/-- Tasks 21,704 to 22,303 follow their objects' committed rates. -/
def followTasks (s : State) : State := (List.range 600).foldl (fun s i => followTask (21704 + i) s) s

/-- What a commit of words does in the units; `old` is the state before the epoch, `addrs` the words it wrote. A tone detector that is
disabled or reconfigured keeps its run of blocks and what it last reported: the manual says nothing of them. Assumption 155
(DESIGN CHOICE). -/
def commitEffects (old : State) (addrs : List Nat) (s : State) : State :=
  let s := mergeCommit old addrs s
  let s := legCommit old addrs s
  let s := (touchedOf 0x600400 32 0 32 8 addrs).foldl (fun s n => trigSchedule n s) s
  let s := ((touchedOf 0x701000 64 0 4 64 addrs).filter fun n => rget old (0x701000 + 64 * n) != rget s (0x701000 + 64 * n)).foldl
    (fun s n => decoderCommit n s) s
  let s := if (touchedOf 0x702000 16 0 16 64 addrs).isEmpty then s else generatorCommit s
  let s := (touchedOf 0x80400000 256 0 256 32768 addrs).foldl (fun s q => queueCommit old addrs q s) s
  let moved := changedWords old s addrs
  let s := (touchedOf 0x80C00000 64 0 20 256 moved).foldl (fun s v => serviceCommit old v s) s
  let gates := (touchedOf 0xC00100 32 8 32 4 moved ++ touchedOf 0x80C10000 1024 0 1024 4 moved).eraseDups
  let s := gates.foldl (fun s p => gateCommit p s) s
  let s := decodeCommit old addrs s
  let s := hallCommit old addrs s
  let s := encodeCommit old addrs s
  let s := forwardCommit old addrs s
  stairCommit (if addrs.any fun a => 0x83000000 ≤ a && a < 0x83810000 then followTasks s else s)

/-! ### Snapshots and views (R123 to R125) -/

/-- State words that a commit publishes at most. -/
def publishLimit : Nat := 4096

/-- The words that this commit publishes, and those that stay: skewed ones first, then oldest change first. -/
def publishSplit (s : State) : List (Nat × Word) × List (Nat × Word) :=
  let late := fun (e : Nat × Word) => decide (3 ≤ sgetC 0 s.epoch.skewCount e.1)
  let ws := s.epoch.words.filter late ++ s.epoch.words.filter fun e => !late e
  (ws.take publishLimit, ws.drop publishLimit)

/-- A unit's word has differed at three consecutive commits (R125). Assumption 28 (DEDUCED). -/
def tellSkew (a : Nat) (s : State) : State :=
  let b := blockId (blockOf a)
  let inst := match findWord a with | some x => x.2.headD 0 | none => 0
  let s := setF (setF s Reg.DOR_SKEW_BLOCK b) Reg.DOR_SKEW_INST inst
  let s := raiseEvent 0x05D (incSatF s Reg.DOR_SKEW_COUNT)
  allDoors.foldl (fun s d => if doorEnabled s d then journalAdd d ⟨s.now, 6, 0, 0xFF, 0, b + inst * 4096, 0⟩ s else s) s

/-- Publish state words: the addresses published, and the state. -/
def publishWords (s : State) : List Nat × State :=
  let x := publishSplit s
  let s := x.1.foldl (fun s e => rset s e.1 e.2) s
  let skew := x.2.foldl (fun m e => ssetC 0 m e.1 (sgetC 0 s.epoch.skewCount e.1 + 1)) ([] : Sparse Nat)
  let kept := s.epoch.words.filter fun e => x.2.any fun y => y.1 == e.1
  let s := { s with epoch := { s.epoch with words := kept, skewCount := skew } }
  (x.1.map (·.1), (x.2.filter fun e => sgetC 0 skew e.1 == 3).foldl (fun s e => tellSkew e.1 s) s)

/-- Whether a word without RWE fields belongs to an epoch: the words that chapters mark snapshot. -/
def snapshotRange (a : Nat) : Bool :=
  [(0x80200000, 0x802A0000), (0x80C20000, 0x80C60000), (0x82400000, 0x82540000), (0x83000000, 0x83010000), (0x83400000, 0x83440000),
   (0x83800000, 0x83808000), (0x84000000, 0x85000000), (0x1800048, 0x180004C), (0x2000048, 0x2000100), (0x2400050, 0x240005C),
   (0x2800048, 0x2800180)].any fun r => decide (r.1 ≤ a) && decide (a < r.2)

/-- Whether a word's committed values are what views show (R123). -/
def epochWord (a : Nat) : Bool :=
  snapshotRange a || (decide (0x82700000 ≤ a) && decide (a < 0x82704000) && a % 16 == 0) || (match findWord a with | some x => wordHasAcc x.1 .rwe | none => false)

/-- The words of a commit: those written or published, and those that it changed. -/
def committedWords (old s : State) (addrs : List Nat) : List Nat :=
  let changed := (old.regs.map (·.1) ++ s.regs.map (·.1)).filter fun a => rget old a != rget s a && epochWord a
  (addrs ++ changed).eraseDups

/-- Entries that a retain buffer holds (R124). -/
def retainLimit : Nat := 65536

/-- A door retains what the words of a commit held in its view epoch; beyond the limit its view moves (R124).
Assumption 27 (DEDUCED). -/
def retainDoor (old : State) (ws : List Nat) (s : State) (d : Nat) : State :=
  let x := doorOf s d
  let new := ws.filter fun a => !x.retain.any fun e => e.1 == a
  if x.retain.length + new.length ≤ retainLimit then
    setDoor s d { x with retain := new.foldl (fun m a => sput a (rget old a) true m) x.retain }
  else raiseEvent (0x054 + d) (setF (moveView d s) (Reg.DOR_VIEW_MOVED d) 1)

/-- What the words of this epoch held before, kept for the work of earlier flights, however late it runs (R20, R32, R33). -/
def keepPrior (old : State) (addrs : List Nat) (s : State) : State :=
  let was := (addrs.filter fun a => rget old a != rget s a).eraseDups.map fun a => (a, rget old a)
  if was.isEmpty then s else { s with epoch := { s.epoch with prior := s.epoch.prior ++ [(s.epoch.newestAt, was)] } }

/-! ### The commit (R17, R92, R120 to R126) -/

/-- The record of a commit in every enabled door's journal (Table 6), and its word count. -/
def noteCommit (words : Nat) (s : State) : State :=
  let s := setF s Reg.DOR_COMMIT_STAT_WORDS (min 32767 words)
  allDoors.foldl (fun s d => if doorEnabled s d then journalAdd d ⟨s.now, 2, 0, 0xFF, 0, s.epoch.newest, words⟩ s else s) s

/-- What follows the requests of an epoch: effects, snapshots, retained words; `old` is the state before the epoch. -/
def finishEpoch (old : State) (addrs : List Nat) (words : Nat) (s : State) : State :=
  let s := commitEffects old addrs (galCommit old addrs s)
  let p := publishWords s
  let s := keepPrior old addrs p.2
  let ws := committedWords old s (addrs ++ p.1)
  noteCommit words (allDoors.foldl (fun s d => if doorEnabled s d then retainDoor old ws s d else s) s)

/-- A new epoch begins at this flight start. -/
def openEpoch (s : State) : State :=
  { s with epoch := { s.epoch with
    newest := s.epoch.newest + 1, newestAt := s.now, charterDue := false, cutDone := false, batch := [], carried := []
    deferred := s.epoch.deferred.filter fun u => decide (s.epoch.newest + 1 < u.1) } }

/-- The units of the epoch that begins, in merged order: carried, arrived before the cut, and deferred to it. -/
def epochUnits (s : State) : List ReqUnit :=
  mergedOrder (s.epoch.carried ++ s.epoch.batch ++
    (s.epoch.deferred.filter fun u => decide (u.1 ≤ s.epoch.newest + 1)).map (·.2))

/-- Words passed to the next epoch (R121). -/
def noteCarry (carried : List ReqUnit) (s : State) : State :=
  if carried.isEmpty then s
  else
    let s := incSatF (setF s Reg.DOR_COMMIT_STAT_CARRY 1) Reg.DOR_COMMIT_STAT_CARRIES
    raiseEvent 0x05C { s with epoch := { s.epoch with carried := carried } }

/-- The commit of an epoch of requests at this flight start. -/
def commitEpoch (s : State) : State :=
  let old := s
  let x := runUnits true (epochUnits s) ⟨[], 0, [], openEpoch s⟩
  finishEpoch old x.addrs x.total (noteCarry x.carried x.state)

/-- A device without one configured word: what the units compare the charter state with at the first epoch after a reset. -/
def unconfigured (s : State) : State := { s with regs := [] }

/-- Limiters at the commit of the first epoch after a reset (R320). -/
def startLimiters (s : State) : State :=
  let named := fun (base stride count : Nat) =>
    ((s.regs.filter fun e => decide (base ≤ e.1) && decide (e.1 < base + stride * count)).map fun e => (e.1 - base) / stride).eraseDups
  let s := (named 0x80400000 256 32768).foldl (fun s q =>
    setSched q { schedOf s q with lim := limStart s.now (getF s (Reg.QUEUE_RESET_TO q) == 1) (queueLimits s q) }
      (setTx q (txOf s q) (setF s (Reg.QUEUE_SEQ q) (getF s (Reg.QUEUE_SEQ_SET q))))) s
  let s := (named 0x80C00000 64 256).foldl (fun s v =>
    setSched (serviceId v) { schedOf s (serviceId v) with
      lim := limStart s.now (getF s (Reg.SVC_RESET_TO v) == 1) (serviceLimits s v) } s) s
  { s with shp := { s.shp with portNext := [(0, s.now * 65536), (1, s.now * 65536), (2, s.now * 65536), (3, s.now * 65536)] } }

/-- The commit of the charter state: epoch 1, or the first epoch after a Warm reset (R92, R94). Every view is that epoch
(R123). -/
def commitCharter (s : State) : State :=
  let addrs := s.cht.charterWords.map (·.1)
  let s := openEpoch { s with epoch := { s.epoch with batch := [], carried := [] } }
  let s := commitEffects (unconfigured s) addrs s
  let s := startLimiters s
  let s := (publishWords s).2
  let s := allDoors.foldl (fun s d => if doorEnabled s d then setDoor s d { doorOf s d with view := s.epoch.newest, retain := [] } else s) s
  noteCommit 0 s

end Sys2Proof.Machine
end

