-- ==== Sys2Proof/Machine/Charter.lean ====
section
/-! DEFINITION. The charter loader: the words that the configuration step loads, the staged content checks, the two slots, and
what the seal does (R82, R83, R86, R89, R95, R99, R100, R178, R179, R328 to R331, R337). -/

namespace Sys2Proof.Machine

/-! ### The words of the configuration step (R100)

Each builder works on a device whose registers start at their reset values. -/

/-- IDENTITY, TIMING and the shaping mode in the registers. -/
def loadIdentity (img : List Byte) (s : State) : State :=
  let c := s.cht.loaded
  let id := sectionOf img 1
  let ti := sectionOf img 2
  let s := setF (setF (setF s Reg.CHT_ROLE_TWIN c.twinRole) Reg.CHT_ROLE_TIME_OWNER c.timeOwner) Reg.CHT_ROLE_DEV_OWNER c.devOwner
  let s := setF (setF s Reg.CHT_ROLE_SHAPE c.shapeTiered.toNat) Reg.CHT_ROLE_DOORS c.doors
  let s := setF (setF s Reg.CHT_WAIT_PAIR_WAIT c.pairWait) Reg.CHT_WAIT_PTP_WAIT c.ptpWait
  let s := setF (setF s Reg.CHT_SERIAL_SERIAL_LO (leAt img 0x10 4)) Reg.CHT_SERIAL_SERIAL_HI (leAt img 0x14 4)
  let s := (List.range 12).foldl (fun s i =>
    rset (rset s (Reg.CHT_DIGEST_HASH i).addr (c.digest.getD i 0)) (Reg.CHT_PAIR_DIGEST_HASH i).addr (c.pairDigest.getD i 0)) s
  let s := setF (setF s Reg.NWL_CFG_SKEW_MAX (leAt id 24 2)) Reg.NWL_CFG_DIG_LAG (byteAt id 26)
  let s := setF (setF s Reg.NWL_CFG_MATCH_COUNT (byteAt id 27)) Reg.NWL_CFG_AUTO_RESYNC (byteAt id 28)
  let s := setF (setF s Reg.TIM_FLIGHT_CFG_K c.k) Reg.TIM_FLIGHT_CFG_ARR_MARGIN c.arrMargin
  setF (setF s Reg.TIM_SERVO_CFG_KP (leAt ti 4 2)) Reg.TIM_SERVO_CFG_KI (leAt ti 6 2)

/-- WORLDS (Table 16, R497). -/
def loadWorlds (img : List Byte) (s : State) : State :=
  let b := sectionOf img 4
  let s := setF (setF s Reg.WLD_DOOR_CLOISTER (byteAt b 0)) Reg.WLD_PART_CLOISTER (leAt b 2 2)
  let s := rset s Reg.WLD_ENG_DEC.addr (w32 (leAt b 4 4))
  let s := allBlocks.foldl (fun s blk =>
    if leAt b 8 4 / 2 ^ blockRow blk % 2 = 1 then setF s ⟨blockBase blk + 4, 0, 0⟩ (leAt b 12 4 / 2 ^ blockRow blk % 2) else s) s
  let s := (List.range 8).foldl (fun s w => setF s (Reg.WLD_REGION_CLOISTER w) (leAt b (16 + 4 * w) 4)) s
  (List.range 16).foldl (fun s w => setF s (Reg.WLD_LND_CLOISTER w) (leAt b (48 + 4 * w) 4)) s

/-- Capacity of a DRAM population, GiB (Table 1 of DRAM controller and DMA). -/
def dramGib (density ranks : Nat) : Nat := 128 * (density + 1) * ranks

/-- MEMORY (Table 17). -/
def loadMemory (s : State) : State :=
  let c := s.cht.loaded
  let s := setF (setF s Reg.DRM_CFG_SPEED c.speed) Reg.DRM_CFG_DENSITY c.density
  let s := setF (setF s Reg.DRM_CFG_RANKS (c.ranks - 1)) Reg.DRM_CFG_GRAN c.gran
  let s := setF s Reg.DRM_CFG_SIZE (dramGib c.density c.ranks)
  let s := c.regions.foldl (fun s r =>
    setF (setF (setF s (Reg.DRM_REGION_BASE r.region) r.base) (Reg.DRM_REGION_SIZE r.region) r.size) (Reg.DRM_REGION_HOST r.region) r.host.toNat) s
  (c.areas.filter fun a => decide (a.kind ≤ 3)).foldl (fun s a => setF s (Reg.SHP_POOL_STAT_FREE a.kind) (a.size * 512)) s

/-- Spare regions and data regions of a package (R383). -/
def spareOf (gib : Nat) : Nat := (3 * (gib * 16) + 99) / 100
def logicalGib (gib : Nat) : Nat := gib * 16 - spareOf gib

/-- MEDIA (Table 18), with profile 1 (Table 6 of Undercroft: the archive). -/
def loadMedia (img : List Byte) (s : State) : State :=
  let c := s.cht.loaded
  let b := sectionOf img 6
  let s := setF (setF s Reg.UCR_GEOM_PKG_GIB c.pkgGib) Reg.UCR_GEOM_SPARE_REGIONS (spareOf c.pkgGib)
  let s := setF s Reg.UCR_GEOM_LOGICAL_GIB (logicalGib c.pkgGib)
  let s := setF (setF s Reg.UCR_SCRUB_CFG_REFRESH_AGE (leAt b 4 2)) Reg.UCR_SCRUB_CFG_REFRESH_BITS (byteAt b 6)
  let s := setF (setF s Reg.UCR_WEAR_CFG_GAP_INTERVAL 100) Reg.UCR_WEAR_CFG_HOT_THR 0
  ((List.range c.parts.length).zip c.parts).foldl (fun s x =>
    let s := setF (setF s (Reg.PART_BASE x.1) x.2.base) (Reg.PART_SIZE x.1) x.2.size
    let s := setF s (Reg.PART_HOST_WR x.1) x.2.hostWr.toNat
    setF s (Reg.PART_DOOR x.1) (if x.1 = 0 then 0 else (ownerOf s 8 x.1).getD 0)) s

/-- SHAPER and LANDING (Tables 19 to 21). -/
def loadShaper (img : List Byte) (s : State) : State :=
  let c := s.cht.loaded
  let s := setF (setF s Reg.SHP_MODE_TIERED c.shapeTiered.toNat) Reg.SHP_MODE_SERVICES c.services.length
  let s := ((List.range c.services.length).zip c.services).foldl (fun s x =>
    setF (setF s (Reg.SVC_PORT x.1) x.2.1) (Reg.SVC_DOOR x.1) x.2.2) s
  let s := rset s Reg.LND_FW_BUILD.addr (w32 (leAt (sectionOf img 8) 0 4))
  c.places.foldl (fun s p => incF s (Reg.LND_CORE_STAT_OBJECTS p.core)) s

/-- GALLERY (Table 22). -/
def loadGallery (img : List Byte) (s : State) : State :=
  let b := sectionOf img 9
  let s := (List.range 1024).foldl (fun s n => setF s (Reg.GAL_BUS_GAIN_GAIN n) (leAt b (4 * n) 4)) s
  (galleryWords b).foldl (fun s w => rset s w.1 (w32 w.2)) s

/-- REGISTERS pairs, a later pair in place of an earlier (R100). -/
def loadRegisters (img : List Byte) (s : State) : State :=
  (registerPairs (sectionOf img 10)).foldl (fun s p =>
    rset s p.1 (w32 (((rget s p.1).toNat &&& (4294967295 - registerBits p.1)) ||| p.2))) s

/-- Field by field, the writable part of a word; task descriptors and range entries whole (R328). -/
def loadTableWord (s : State) (w : Nat × Nat) : State :=
  if 0x84000000 ≤ w.1 then
    if w.1 < 0x85000000 ∨ (0x85400000 ≤ w.1 ∧ w.1 < 0x85401000) then rset s w.1 (w32 w.2)
    else match findWord w.1 with
      | some (d, _) => rset s w.1 (writtenWord true (rget s w.1) (w32 w.2) d.fields)
      | none => s
  else match findWord w.1 with
    | some (d, _) => rset s w.1 (writtenWord true (rget s w.1) (w32 w.2) d.fields)
    | none => s

/-! ### Tasks (R328 to R331, Table 1 of Stairwell) -/

/-- Class and object of a fixed task. -/
def fixedTask (t : Nat) : Nat × Nat :=
  if t < 10240 then (0, t)
  else if t < 20480 then (0, t - 10240)
  else if t < 20544 then (0, t - 20480)
  else if t < 20608 then (0, t - 20544)
  else if t < 21632 then (0, t - 20608)
  else if t < 21664 then (1, t - 21632)
  else if t < 21704 then (1, t - 21664)
  else if t < 21960 then (2, t - 21704)
  else if t < 22024 then (3, t - 21960)
  else if t < 22040 then (3, t - 22024)
  else if t < 22048 then (3, t - 22040)
  else if t < 22240 then (4, (t - 22048) / 3)
  else if t < 22304 then (5, t - 22240)
  else (6, t - 22304)

/-- The door that owns a fixed task's object; none for what belongs to no door. -/
def fixedDoor (s : State) (t : Nat) : Option Nat :=
  let n := (fixedTask t).2
  if t < 20480 then ownerOf s 0 n
  else if t < 20544 then ownerOf s 12 n
  else if t < 20608 then ownerOf s 13 n
  else if t < 21632 then ownerOf s 14 n
  else if t < 21704 then none
  else if t < 21960 then ownerOf s 1 n
  else if t < 22024 then ownerOf s 4 n
  else if t < 22048 then none
  else if t < 22304 then ownerOf s 3 n
  else none

/-- The core on which a class 0 task's object is placed (R178). -/
def placedCore (s : State) (t : Nat) : Option Nat :=
  let kind := if t < 20480 then 0 else if t < 20544 then 1 else if t < 20608 then 2 else 3
  (s.cht.loaded.places.find? fun p => p.kind == kind && p.object == (fixedTask t).2).map (·.core)

/-- The fixed tasks whose objects exist: those of owned objects, the Gallery's, the inputs' and outputs' and the ports'. -/
def existingTasks (c : Charter) : List Nat :=
  let ids := assignedIds c.records
  let legs := ids 0
  legs ++ legs.map (10240 + ·) ++ (ids 12).map (20480 + ·) ++ (ids 13).map (20544 + ·) ++ (ids 14).map (20608 + ·) ++
  (List.range 72).map (21632 + ·) ++ (ids 1).map (21704 + ·) ++ (ids 4).map (21960 + ·) ++ (List.range 24).map (22024 + ·) ++
  ((ids 3).flatMap fun p => [0, 1, 2].map fun l => 22048 + 3 * p + l) ++ (ids 3).map (22240 + ·) ++ (List.range 4).map (22304 + ·)

/-- What the device sets of a fixed task whose object exists. -/
def bindTask (s : State) (t : Nat) : State :=
  let x := fixedTask t
  let s := setF (setF (setF s (Reg.TASK_VALID t) 1) (Reg.TASK_CLASS t) x.1) (Reg.TASK_OBJECT t) x.2
  let s := setF s (Reg.TASK_ENGINE t) (if x.1 = 0 then (placedCore s t).getD 0x1FF else 0x1FF)
  let s := match fixedDoor s t with
    | some d => setF (setF s (Reg.TASK_DOOR t) d) (Reg.TASK_OWNED t) 1
    | none => s
  followTask t s

/-- The plan tasks of a door (R330). -/
def planTasks (c : Charter) : List (Nat × Nat) :=
  (c.records.filter fun r => r.kind == 15).flatMap fun r => (List.range (r.last + 1 - r.first)).map fun i => (r.first + i, r.door)

/-- The valid tasks listed in the task table, by their descriptors' first words. -/
def listedTasks (s : State) : List Nat :=
  ((s.regs.filter fun e => decide (0x84000000 ≤ e.1) && decide (e.1 < 0x85000000) && e.1 % 128 == 0).filter
    fun e => bitsOf e.2 0 0 == 1).map fun e => (e.1 - 0x84000000) / 128

/-- Counts and rates that the device derives (R100): streams' slots and rates, declared totals, crosspoints of each bus,
engines. -/
def deriveWords (s : State) : State :=
  let s := (s.cht.loaded.places.filter fun p => p.kind == 0).foldl (fun s p => setF s (Reg.LEG_CORE p.object) p.core) s
  let s := (touchedOf 0x83000000 256 0 256 256 (s.regs.map (·.1))).foldl (fun s n =>
    setF (setF s (Reg.STR_SLOT_BYTES n) ((streamLayout s s.now n).2.2 / 4096)) (Reg.STR_DECL_RATE n) (streamRate s n)) s
  let s := showEncode (showHall (showDecode s))
  let s := setF s Reg.GAL_STAT_ACTIVE_XP (validXps s).length
  let s := (validXps s).foldl (fun s e => addF s (Reg.BST_XPOINTS (getF s (Reg.XP_BUS e))) 1) s
  (List.range 12).foldl (fun s c => setF s (Reg.STW_CLASS_STAT_ENGINES c) (classEngines c)) s

/-- A device that holds nothing but the words that the configuration step loads from an image. -/
def configure (img : List Byte) (s : State) : State :=
  let c := imageCharter img
  let s := { s with regs := [], cht := { s.cht with loaded := c } }
  let s := loadGallery img (loadShaper img (loadMedia img (loadMemory (loadWorlds img (loadIdentity img s)))))
  let s := loadRegisters img s
  let s := ((tableWords img).getD []).foldl loadTableWord s
  let s := (planTasks c).foldl (fun s x => setF (setF s (Reg.TASK_DOOR x.1) x.2) (Reg.TASK_OWNED x.1) 1) s
  deriveWords ((existingTasks c).foldl bindTask s)

/-! ### The staged content checks (R99) -/

/-- Stage 2: TIMING (R55). -/
def timingBad (c : Charter) : Bool :=
  !([1, 2, 4, 8].contains c.k) || decide (c.arrMargin < 2940) || decide (35280 < c.arrMargin) || decide (17640 * c.k / 2 < c.arrMargin) ||
    (c.twinRole != 0 && decide (c.arrMargin < 8820))

/-- Stage 3: assignments (R86). -/
def assignmentBad (c : Charter) : Bool :=
  (c.records.any fun r => c.doors / 2 ^ r.door % 2 == 0) ||
  (List.range 16).any fun k => anyMeet ((c.records.filter fun r => r.kind == k).map fun r => (r.first, r.last + 1 - r.first))

/-- Sum of a quota over the doors. -/
def quotaSum (c : Charter) (f : Quota → Nat) : Nat := c.quotas.foldl (fun n q => n + f q) 0

/-- The quotas of all doors against the device totals (Table 6). -/
def quotasBad (c : Charter) : Bool :=
  decide (8400000000 < quotaSum c (·.decode)) || decide (4200000000 < quotaSum c (·.encode)) || decide (1024 < quotaSum c (·.tiles)) ||
  decide (4096 < quotaSum c (·.codecLegs)) || decide (65536 < quotaSum c (·.matchEnt)) || decide (131072 < quotaSum c (·.tokens))

/-- Table 1 costs of a placed object: cycles per second, peak load in tenths of a cycle per second, resident bytes (R179). -/
def placeCost (p : Placement) : Nat × Nat × Nat :=
  let has := fun (i : Nat) => p.services / 2 ^ i % 2
  match p.kind with
  | 1 => (3000000, 30000000, 512)
  | 2 => (1000000, 10000000, 128)
  | 3 => (500000, 5000000, 128)
  | _ =>
    let codec := 144000000 * has 3 + 40000000 * has 4 + 12000000 * has 5
    let base := if codec = 0 then 6000000 else 0
    let extra := 12000000 * has 0 + 4000000 * has 1 + 2000000 * has 2
    let bytes := (if codec = 0 then 256 + 4 * p.jbCeil else 0) + 1024 * has 0 + 256 * has 1 + 64 * has 2 +
      (3072 + p.jbCeil / 2) * has 3 + (1280 + p.jbCeil / 2) * has 4 + (512 + p.jbCeil / 2) * has 5
    (base + extra + codec, 10 * (base + extra) + 11 * codec, bytes)

/-- A core carries more than R179 allows. -/
def coreBad (c : Charter) (n : Nat) : Bool :=
  let l := c.places.filter fun p => p.core == n
  let sum := fun (f : Nat × Nat × Nat → Nat) => l.foldl (fun a p => a + f (placeCost p)) 0
  decide (1440000000 < sum (·.1)) || decide (15600000000 < sum (·.2.1)) || decide (65024 < sum (·.2.2)) || decide (64 < l.length)

/-- The allocations of the tables against the capacities of R24. Assumption 56 (DEDUCED). -/
def capacityBad (s : State) : Bool :=
  decide (8400000000 < sumOf (streamRate s) (enabledStreams s)) || decide (4200000000 < sumOf (compRate s) (enabledComps s)) ||
  decide (1990656000 < sumOf (inputRate s) (enabledInputs s)) ||
  decide (995328000 < sumOf (fun n => compRate s (getF s (Reg.OUTC_COMP n))) (enabledOutputs s)) ||
  decide (4200000000 < sumOf (programRate s) (enabledPrograms s)) || decide (4096 < (codecLegs s).length) ||
  ((List.range 64).any fun c => decide (256 < tileCount s c))

/-- The matching store and the tokens (R330). -/
def tasksBad (s : State) : Bool :=
  let l := listedTasks s
  let depth := fun (l : List Nat) => sumOf (fun t => getF s (Reg.TASK_DEPTH t) + 1) l
  decide (65536 < depth l) || allDoors.any fun d =>
    let mine := l.filter fun t => ownsTask s d t
    decide ((quotaOf s d).matchEnt < depth mine) || decide ((quotaOf s d).tokens < mine.length)

/-- Stage 4: capacities and quotas, with the queues that tiered mode lacks (R152). -/
def stage4Bad (s : State) : Bool :=
  let c := s.cht.loaded
  quotasBad c || capacityBad s || ((List.range 512).any (coreBad c)) || tasksBad s ||
    (c.shapeTiered && c.records.any fun r => r.kind == 6 && decide (4096 ≤ r.last))

/-- Stage 5: the memory and media layout against the population (R349, R351, R378). Assumption 57 (DEDUCED). -/
def populationBad (c : Charter) (p : Population) : Bool :=
  let top := dramGib c.density c.ranks * 512
  let spans := (c.regions.map fun r => (r.base, r.size)) ++ c.areas.map fun a => (a.base, a.size)
  p.dram != some (c.speed, c.density, c.ranks) || p.media != some (c.pkgGib, c.profile) ||
  anyMeet spans || (spans.any fun x => decide (top < x.1 + x.2)) ||
  anyMeet (c.parts.map fun x => (x.base, x.size)) || (c.parts.any fun x => decide (logicalGib c.pkgGib < x.base + x.size))

/-- Operands of kind RANGE in a descriptor. -/
def rangeOperands (s : State) (t : Nat) : Nat := ((List.range 15).filter fun n => opKind s t n == 3).length

/-- A range whose valid tasks differ in RATE, or that is not a range (R337). -/
def rangeBad (s : State) (tasks : List Nat) (r : Nat) : Bool :=
  let first := getF s (Reg.RNG_FIRST r)
  let last := getF s (Reg.RNG_LAST r)
  let rates := (tasks.filter fun t => decide (first ≤ t) && decide (t ≤ last)).map fun t => getF s (Reg.TASK_RATE t)
  decide (last < first) || rates.any fun x => x != rates.headD x

/-- Stage 6: the task and range tables (R195, R328, R337); `ws` holds the words of the TABLES records. -/
def tablesBad (s : State) (ws : List (Nat × Nat)) : Bool :=
  let tasks := listedTasks s
  let covered := ws.filter fun w => decide (0x84000000 ≤ w.1) && decide (w.1 < 0x85000000)
  (covered.any fun w =>
    let t := (w.1 - 0x84000000) / 128
    let cls := w.2 / 2 % 16
    if 22308 ≤ t then w.1 % 128 == 0 && !(decide (7 ≤ cls) || (cls == 0 && decide (32768 ≤ t)))
    else (w.1 % 128 == 0 && cls != (fixedTask t).1) || (w.1 % 128 == 4 && w.2 != (fixedTask t).2)) ||
  (covered.any fun w => w.1 % 128 == 0 && w.2 / 2 % 16 == 0 && decide (63 < w.2 / 16777216)) ||
  (tasks.any fun t => decide (2 < rangeOperands s t)) || (List.range 256).any (rangeBad s tasks)

/-- The code of the first stage of check 7 that fails; 0 where none does (R99, Table 4). Assumption 54 (DEDUCED). -/
def contentCode (img : List Byte) (p : Population) (s : State) : Nat :=
  if !layoutOk img then 11
  else
    let x := configure img s
    let c := x.cht.loaded
    if timingBad c then 9
    else if assignmentBad c then 8
    else if stage4Bad x then 7
    else if populationBad c p then 10
    else if tablesBad x ((tableWords img).getD []) then 15
    else 0

/-- The code of a slot (R80, R82, Table 4). -/
def slotCode (s : State) (r : SlotRead) : Nat :=
  let img := settledImage r
  let n := imgLength r.image
  if !r.answers then 1
  else if leAt r.image 0 4 ≠ 0x4843465A ∨ leAt r.image 0x440 4 ≠ (crc32c (imgBytes r.image 0 0x440)).toNat then 2
  else if leAt r.image 4 2 ≠ 1 ∨ 67108864 < n then 12
  else if leAt r.image 0x0C 2 ≠ 0x6410 ∨ byteAt r.image 0x0E ≠ 2 ∨ byteAt r.image 0x0F ≠ 1 then 3
  else if !sectionsRead r then 4
  else if s.cht.keyHash.all (· == 0) ∨ digestWords (imgBytes img (n - 256) 96) ≠ s.cht.keyHash then 5
  else if !signatureOk img then 6
  else contentCode img s.cht.population s

/-! ### The two slots (R81, R83) -/

/-- The device stops (R84). -/
def stopDevice (s : State) : State := { s with cht := { s.cht with stopped := true } }

/-- The loader reads the slot at `base`; where the re-read header differs it falls back, with event 0x047 (R81). -/
def readImageSlot (base : Nat) (r : SlotRead) (s : State) : State :=
  let s := { s with out := { s.out with xspi := s.out.xspi ++ slotCommands base r } }
  if r.answers && rereadDiffers r then raiseEvent 0x047 (setF s Reg.CHT_STAT_SLOW 1) else s

/-- A slot that passed is staged; nothing is written into any block (R83). -/
def stageSlot (r : SlotRead) (b : Bool) (s : State) : State :=
  let s := setF s Reg.CHT_STAT_SLOT b.toNat
  let x := configure (settledImage r) s
  { s with cht := { s.cht with staged := some (x.cht.loaded, x.regs) } }

/-- The loader reads slot A, then slot B where A fails; where both fail the device stops. The answer says whether a slot
passed. -/
def loadSlots (a b : SlotRead) (s : State) : Bool × State :=
  let ca := slotCode s a
  let s := readImageSlot 0 a (setF (setF (setF s Reg.CHT_STAT_CODE_A ca) Reg.CHT_STAT_CODE_B 0) Reg.CHT_STAT_SLOW 0)
  if ca = 0 then (true, stageSlot a false s)
  else
    let cb := slotCode s b
    let s := readImageSlot 0x4000000 b (setF s Reg.CHT_STAT_CODE_B cb)
    if cb = 0 then (true, raiseEvent 0x040 (stageSlot b true s)) else (false, stopDevice s)

end Sys2Proof.Machine
end

