-- ==== Sys2Proof/Machine/Startup.lean ====
section
/-! DEFINITION. Start-up: Cold reset, the steps of Table 7, the stopped state's recovery and the owner query (Charter, start-up
and partitions). Instants of the steps come in µs since the release of RESET_N. -/

namespace Sys2Proof.Machine

/-! ### Cold reset (R93, R452, R481, R493) -/

/-- The packages hold their media; wear counts go back to the last checkpoint (R390), and what the controller kept on the chip is
lost. Assumption 49 (DEDUCED). -/
def coldPackages (u : UcrUnit) : UcrUnit :=
  { ucrInit with
    head := u.head
    pkgs := u.pkgs.map fun e => (e.1, { e.2 with
      queue := [], busy := [], ref := 0, eMinus := 0, eZero := 0, ePlus := 0, calReads := 0, heldRun := 0, wear := e.2.saved
      pending := [], hotTable := [], faulted := false, scrubDue := 0, calAt := 0, savedAt := 0 }) }

/-- The trip clears at an assertion of RESET_N with every sensor at 110 °C or less; PWR_MAIN_EN is high with the Keep rails up and
no trip latched (R479, R493). -/
def coldPins (hot : Bool) (p : PinUnit) : PinUnit :=
  let tripped := p.tripped && hot
  { p with resetN := false, tripped := tripped, thermTripN := !tripped, pwrMainEn := p.aonValid && !tripped }

/-- The device in reset: everything at its reset value but the fuses, the media of the packages, the JTAG port, the pins and what
has left the device. -/
def inCold (pins : PinUnit) (s : State) : State :=
  { State.reset with
    pending := s.pending, drawn := s.drawn, ucr := coldPackages s.ucr, pins := pins, jtag := s.jtag, out := s.out
    cht := { charterUnitInit with fuses := s.cht.fuses, keyHash := s.cht.keyHash } }

/-- COLD_RESET (R93): RESET_N is asserted; `hot` says whether a sensor reads above 110 °C. -/
def coldReset (hot : Bool) (s : State) : State := inCold (coldPins hot s.pins) s

/-- BROWN_OUT (R481): PWR_GOOD falls while PWR_MAIN_EN is high, or as the board takes the main rails away after a trip (R493).
Assumption 53 (DEDUCED). -/
def brownOut (s : State) : State :=
  let pins := { s.pins with pwrGood := false }
  if (s.pins.pwrMainEn ∨ s.pins.tripped) ∧ s.pins.pwrGood then inCold pins s else { s with pins := pins }

/-- RESET_N_RELEASE (R88, R489): start-up begins at step 1, with XSPI_RESET_N driven low; a latched trip keeps the device off. -/
def resetRelease (s : State) : State :=
  if !s.cht.inReset ∨ s.pins.tripped then s
  else setCht { s.cht with inReset := false, step := 0, stepStart := 0, xspiReset := true }
    { s with pins := { s.pins with resetN := true } }

/-! ### Steps (R88) -/

/-- Whether step n is the one in progress. -/
def atStep (s : State) (n : Nat) : Bool := !s.cht.inReset && !s.cht.stopped && s.cht.step + 1 == n

/-- Step n completes. Assumption 41 (DEDUCED). -/
def stepDone (n us : Nat) (s : State) : State :=
  setF (setCht { s.cht with step := n, stepStart := us } s) (Reg.CHT_STEP_DONE_US (n - 1)) us

/-- The device stops with a code of the fuse step or of DRAM training (Table 4). Assumption 43 (DESIGN CHOICE). -/
def stopWith (code : Nat) (s : State) : State := stopDevice (setF s Reg.CHT_STAT_CODE_A code)

/-- A phase for every door. -/
def setPhase (p : DoorPhase) (d : Nat) (s : State) : State := setDoor s d { doorOf s d with phase := p }

/-- ISLAND_READY: step 1. -/
def islandReady (us : Nat) (s : State) : State := if atStep s 1 then stepDone 1 us s else s

/-- The fuse array as a start finds it: fuses keep their values, and only the parity of a reading differs. -/
def fuseArray (f : FuseRead) (s : State) : FuseRead :=
  match s.cht.fuses with
  | some g => { g with parityOk := f.parityOk }
  | none => f

/-- FUSE_READ: step 2; a parity error stops the device with code 13. Assumption 157 (DESIGN CHOICE). -/
def fuseRead (us : Nat) (found : FuseRead) (s : State) : State :=
  let f := fuseArray found s
  if !atStep s 2 then s
  else if !f.parityOk then stopWith 13 (setCht { s.cht with fuses := some f, keyHash := f.keyHash } s)
  else
    let s := setF (setF s Reg.PLT_SERIAL_SERIAL_LO (f.serial.toNat % 4294967296)) Reg.PLT_SERIAL_SERIAL_HI (f.serial.toNat / 4294967296)
    let s := setF (setF s Reg.PLT_PART_VARIANT f.variant.toNat) Reg.CIP_STAT_KEK_OK f.kek.isSome.toNat
    stepDone 2 us (setCht { s.cht with fuses := some f, keyHash := f.keyHash } s)

/-- The PLLs whose reference runs. -/
def lockable (s : State) : Nat := (if sourceFails s 0 then 0 else 0x3F) ||| (if sourceFails s 1 then 0 else 0xC0)

/-- What the PLL step does at a Cold reset: the count at 0:0 and the servo UNSET (R41); links begin to train. -/
def pllCold (s : State) : State :=
  let s := setF (setF { s with now := 0 } Reg.CLK_PLL_STAT_LOCK 255) Reg.CLK_PLL_STAT_TREAD_LOCK 1
  let s := (List.range 8).foldl (fun s n => setF s (Reg.NWL_LANE_STAT_STATE n) 1) s
  setServo servoInit { s with tim := { s.tim with flightFirst := 0, firstDue := false, lastFlight := 0, replicas := [] } }

/-- PLL_LOCK: step 3. At a Warm reset only PLLs that are not locked restart, and the count and the servo go on (R94). -/
def pllLock (us : Nat) (p : Population) (s : State) : State :=
  if !atStep s 3 then s
  else
    let s := if s.cht.warm then setF s Reg.CLK_PLL_STAT_LOCK (getF s Reg.CLK_PLL_STAT_LOCK ||| lockable s) else pllCold s
    let s := allDoors.foldl (fun s d => setPhase .shut d s) s
    stepDone 3 us (setCht { s.cht with population := p } s)

/-- CHARTER_LOAD: step 4 (R81 to R83). -/
def charterLoad (us : Nat) (a b : SlotRead) (s : State) : State :=
  if !atStep s 4 then s
  else
    let s := setCht { s.cht with xspiReset := false } s
    match loadSlots a b s with
    | (true, s) => stepDone 4 us s
    | (false, s) => s

/-- Whether an address is a gate's word, whose OPEN bit alone the charter sets. -/
def gateWord (a : Nat) : Bool := decide (0x101000 ≤ a) && decide (a < 0x101150)

/-- The words of the configuration step take the place of what the last charter loaded. -/
def loadWords (ws : Sparse Word) (s : State) : State :=
  let old := s.cht.charterWords
  let kept := s.regs.filter fun e => gateWord e.1 || !(old.any fun o => o.1 == e.1)
  { s with regs := ws.foldl (fun m e => if gateWord e.1 then m else sset resetWord m e.1 e.2) kept }

/-- The doors show their subsystem IDs (R101, Table 11). -/
def showIds (c : Charter) (s : State) : State :=
  allDoors.foldl (fun s d =>
    let n := c.subsys.getD d 0
    setDoor s d { doorOf s d with ids := { (doorOf s d).ids with subVendor := n % 65536, subsystem := n / 65536 } }) s

/-- CONFIGURATION_SEAL: step 5 (R89, R100). A Warm reset whose charter has changed goes on as a Cold start (R95). -/
def configurationSeal (us : Nat) (s : State) : State :=
  match s.cht.staged with
  | none => s
  | some (c, ws) =>
    if !atStep s 5 then s
    else
      let fresh := s.cht.warm && s.cht.loaded.digest != c.digest
      let s := loadWords ws s
      let s := setCht { s.cht with loaded := c, staged := none, charterWords := ws, sealed := true, fresh := fresh } s
      let pair : PairState := if c.twinRole = 0 then .solo else if s.cht.warm && !fresh then .withdrawn else .pairing
      let s := setPair pair (showFences (charterGates (showIds c s)))
      stepDone 5 us s

/-! ### Time, the twin and the doors (R90 to R92) -/

/-- Step 9 begins: a solo device, and one that a Warm reset has withdrawn, completes it at once; a pair exchanges HELLO.
Assumption 36 (DEDUCED). -/
def beginTwin (us : Nat) (s : State) : State :=
  if s.twin.state = .pairing then takeHello (sendHello s) else stepDone 9 us s

/-- Step 8 begins: the time-owner door is in TIME; a count that has been stepped completes it at once. -/
def beginTime (us : Nat) (s : State) : State :=
  let s := setPhase .time (timeOwner s) s
  if s.tim.servo.stepped then beginTwin us (stepDone 8 us s) else s

/-- A sample that made the step completes step 8. -/
def timeStep (us : Nat) (s : State) : State :=
  if atStep s 8 ∧ s.tim.servo.stepped then beginTwin us (stepDone 8 us s) else s

/-- Pairing that has agreed on a start, or a secondary that has begun to join a running primary, completes step 9. -/
def twinStep (us : Nat) (s : State) : State :=
  if atStep s 9 ∧ (s.twin.startFlight.isSome ∨ s.twin.state ≠ .pairing) then stepDone 9 us s else s

/-- DRAM_TRAINING: step 6 (R361); a subchannel without a working setting stops a start with code 14. After a Warm reset DRAM
leaves self-refresh and retrains, and step 7 is skipped with the archive mounted: its staging is stored (R94, R399). -/
def dramTraining (us : Nat) (failed : List Nat) (s : State) : State :=
  if !atStep s 6 then s
  else if s.cht.warm && !s.cht.fresh then
    let s := stepDone 6 us (selfRefreshReset failed s)
    if archiveUp s then beginTime us (stepDone 7 us (storeStaged (flightNumber s s.now) s)) else s
  else
    let s := trainDram failed s
    if failed.isEmpty then stepDone 6 us s else stopWith 14 s

/-- UNDERCROFT_MOUNT: step 7 (R390). Assumption 42 (DEDUCED). -/
def undercroftMount (us : Nat) (trained : List Bool) (s : State) : State :=
  if atStep s 7 then beginTime us (stepDone 7 us (mountArchive trained s)) else s

/-- PTP_WAIT_EXPIRY (R90): event 0x046, once; step 8 continues. Assumption 52 (DEDUCED). -/
def ptpWaitExpiry (us : Nat) (s : State) : State :=
  if atStep s 8 ∧ !s.cht.ptpTold ∧ s.cht.stepStart + 1000 * s.cht.loaded.ptpWait ≤ us then
    raiseEvent 0x046 (setCht { s.cht with ptpTold := true } s)
  else s

/-- PAIR_WAIT_EXPIRY (R91): a primary goes on unpaired, with event 0x045. -/
def pairWaitExpiry (us : Nat) (s : State) : State :=
  if atStep s 9 ∧ isPrimary s ∧ s.twin.startFlight.isNone ∧ s.cht.stepStart + 1000 * s.cht.loaded.pairWait ≤ us then
    raiseEvent 0x045 (stepDone 9 us (setPair .alone s))
  else s

/-- DOORS_OPEN: step 10; every enabled door opens. -/
def doorsOpen (us : Nat) (s : State) : State :=
  if !atStep s 10 then s
  else
    let s := allDoors.foldl (fun s d => setPhase (if doorEnabled s d then .opened else .shut) d s) s
    stepDone 10 us (setCht { s.cht with openedAt := s.now } s)

/-- PWR_GOOD_RISE (R451): during a wake it starts the Warm reset that leaves Keep. -/
def pwrGoodRise (s : State) : State :=
  if !s.pins.pwrMainEn ∨ s.pins.pwrGood then s
  else
    let s := { s with pins := { s.pins with pwrGood := true } }
    if s.clk.power = .waking then beginWarm (setClk { s.clk with wokenDue := true } s) else s

/-! ### The owner query (R86) -/

/-- CHT_OWNER_RESULT for an object. -/
def ownerResult (s : State) (kind id : Nat) : Word :=
  if kindLast kind < id then 0
  else match assignOf s kind id with
    | none => 0x80000000
    | some r => w32 (r.door + 4 + 8 * (r.shared && kind == 5).toNat + 2147483648)

/-- OWNER_QUERY: a write of CHT_OWNER_QUERY by door d. -/
def ownerQuery (d : Nat) (v : Word) (s : State) : State :=
  busWrite d Reg.CHT_OWNER_QUERY_KIND.addr v (fun s =>
    setDoor s d { doorOf s d with ownerResult := ownerResult s (bitsOf v 3 0) (bitsOf v 20 4) }) s

/-! ### Recovery (R84, R85) -/

/-- Bytes of the recovery buffer. -/
def recoveryBuf (s : State) : List Byte := (List.range 64).flatMap fun n => leBytes 4 (getF s (Reg.CHT_REC_BUF_DATA n))

/-- A command is refused. -/
def refuseRecovery (s : State) : State := setF s Reg.CHT_REC_CTRL_ERR 1

/-- The opcodes of a recovery command, all in 1S-1S-1S: a read; a program or an erase with its write enable before it and a status
read after it. -/
def recoveryCommands (cmd addr : Nat) (buf : List Byte) : List XspiCmd :=
  match cmd with
  | 1 => [slowCmd 0x13 (some addr) [] 256]
  | 2 => [slowCmd 0x06 none [] 0, slowCmd 0x12 (some addr) buf 0, slowCmd 0x05 none [] 1]
  | 3 => [slowCmd 0x06 none [] 0, slowCmd 0xDC (some addr) [] 0, slowCmd 0x05 none [] 1]
  | _ => []

/-- A command begins to run. Assumption 50 (DESIGN CHOICE). -/
def runRecovery (cmd : Nat) (s : State) : State :=
  let addr := getF s Reg.CHT_REC_ADDR_ADDR
  let s := setCht { s.cht with recRunning := cmd } (setF s Reg.CHT_REC_CTRL_BUSY 1)
  { s with out := { s.out with xspi := s.out.xspi ++ recoveryCommands cmd addr (recoveryBuf s) } }

/-- GO with a command: dropped while BUSY or outside the stopped state, refused where it is misaligned or the key hash is
programmed. Assumption 51 (DEDUCED). -/
def goRecovery (cmd : Nat) (s : State) : State :=
  let addr := getF s Reg.CHT_REC_ADDR_ADDR
  if !s.cht.stopped ∨ s.cht.recRunning ≠ 0 ∨ cmd = 0 then s
  else if (cmd = 1 ∨ cmd = 2) ∧ addr % 256 ≠ 0 then refuseRecovery s
  else if cmd = 3 ∧ addr % 65536 ≠ 0 then refuseRecovery s
  else if cmd = 4 ∧ s.cht.keyHash.any (· != 0) then refuseRecovery s
  else runRecovery cmd s

/-- A write of CHT_REC_CTRL by door d. -/
def recoveryWrite (d : Nat) (v : Word) (s : State) : State :=
  busWrite d Reg.CHT_REC_CTRL_CMD.addr v (fun s =>
    let s := storeWord Reg.CHT_REC_CTRL_CMD.addr v s
    if bitsOf v 3 3 = 1 then goRecovery (bitsOf v 2 0) s else s) s

/-- RECOVERY_READ, RECOVERY_PROGRAM, RECOVERY_ERASE and KEY_HASH_PROGRAM: door d writes the command with GO. -/
def recoveryRead (d : Nat) (s : State) : State := recoveryWrite d 9 s
def recoveryProgram (d : Nat) (s : State) : State := recoveryWrite d 10 s
def recoveryErase (d : Nat) (s : State) : State := recoveryWrite d 11 s
def keyHashProgram (d : Nat) (s : State) : State := recoveryWrite d 12 s

/-- RECOVERY_DONE: the running command ends; `data` is what the store returned for a read. -/
def recoveryDone (failed : Bool) (data : List Byte) (s : State) : State :=
  let cmd := s.cht.recRunning
  if cmd = 0 then s
  else
    let s := setF (setCht { s.cht with recRunning := 0 } s) Reg.CHT_REC_CTRL_BUSY 0
    let s := setF s Reg.CHT_REC_CTRL_ERR failed.toNat
    if failed then s
    else match cmd with
      | 1 => (List.range 64).foldl (fun s n => setF s (Reg.CHT_REC_BUF_DATA n) (leAt data (4 * n) 4)) s
      | 4 =>
        let h := (List.range 12).map fun n => rget s (Reg.CHT_REC_BUF_DATA n).addr
        setCht { s.cht with keyHash := h, fuses := s.cht.fuses.map fun f => { f with keyHash := h } } s
      | _ => s

end Sys2Proof.Machine
end

