-- ==== Sys2Proof/Machine/ExecClocks.lean ====
section
/-! DEFINITION. The meanings of the commands of clocks, gates and power. -/

namespace Sys2Proof.Machine

/-- MONITOR_WINDOW: the source monitor ends a window (R436). -/
def execMonitorWindow (t : Nat) (sysosc serdes ring : Nat) (failed : List (Fin 16)) (s : State) : Out :=
  acts t (monitorWindow sysosc serdes ring (failed.map (·.val))) s

/-- PLL_LOCK_LOSS: a PLL loses lock (R437). -/
def execPllLockLoss (t : Nat) (p : Fin 8) (s : State) : Out := acts t (pllLockLoss p) s

/-- CLOCK_SWITCH: CLK_SEL (R433, R435). -/
def execClockSwitch (t : Nat) (door : Fin 4) (n : Fin 3) (src : Fin 2) (s : State) : Out := acts t (clockSwitch door n src) s

/-- FORCED_SWITCH: the old clock has given no edge (R434). -/
def execForcedSwitch (t : Nat) (n : Fin 5) (s : State) : Out := acts t (forcedSwitch n) s

/-- GATE_OPEN: CLK_GATE command 1 (R442). -/
def execGateOpen (t : Nat) (door : Fin 4) (n : Fin 84) (s : State) : Out := acts t (gateWrite door n 1 false) s

/-- GATE_CLOSE: CLK_GATE command 2 (R443). -/
def execGateClose (t : Nat) (door : Fin 4) (n : Fin 84) (busy : Bool) (s : State) : Out := acts t (gateWrite door n 2 busy) s

/-- GATE_BUS_IDLE: a held gate closes (R443). -/
def execGateBusIdle (t : Nat) (n : Fin 84) (s : State) : Out := acts t (gateBusIdle n) s

/-- GATE_BUSY_TIMEOUT: a close is refused with BUSY (R443). -/
def execGateBusyTimeout (t : Nat) (n : Fin 84) (s : State) : Out := acts t (gateBusyTimeout n) s

/-- CLOCK_OBSERVE: CLK_OBS (R446). -/
def execClockObserve (t : Nat) (door : Fin 4) (value : Word) (s : State) : Out := acts t (clockObserve door value) s

/-- HOLD_ENTRY: PWR_CTRL.TARGET 1 (R448). -/
def execHoldEntry (t : Nat) (door : Fin 4) (s : State) : Out := acts t (holdEntry door) s

/-- HOLD_EXIT: PWR_CTRL.TARGET 0 (R449). -/
def execHoldExit (t : Nat) (door : Fin 4) (failed : List (Fin 16)) (s : State) : Out :=
  acts t (holdExit door (failed.map (·.val))) s

/-- KEEP_ENTRY: PWR_CTRL.TARGET 2 (R450). -/
def execKeepEntry (t : Nat) (door : Fin 4) (s : State) : Out := acts t (keepEntry door) s

/-- WAKE: a wake condition in Keep (R451): WAKE_N, the alarm, the capture pin. -/
def execWake (t : Nat) (cause : Fin 3) (s : State) : Out := acts t (wake (cause.val + 1)) s

/-- PWR_GOOD_RISE: PWR_GOOD rises (R451). -/
def execPwrGoodRise (t : Nat) (s : State) : Out := acts t pwrGoodRise s

/-- WAKE_FAIL: PWR_GOOD has not risen within 100 ms (R451). -/
def execWakeFail (t : Nat) (s : State) : Out := acts t wakeFail s

/-- BROWN_OUT: PWR_GOOD falls (R481). -/
def execBrownOut (t : Nat) (s : State) : Out := acts t brownOut s

/-- THERMAL_TRIP: a sensor reading (R493). -/
def execThermalTrip (t : Nat) (celsius : Int) (s : State) : Out := acts t (thermalTrip celsius) s

end Sys2Proof.Machine
end

