-- ==== Sys2Proof/Machine/Dma.lean ====
section
/-! DEFINITION. The DMA engine: rings, descriptors, bursts, checksums, completions and withdrawal (DRAM controller and
DMA, R370 to R377). -/

namespace Sys2Proof.Machine

/-- A channel after reset: its first completion carries PHASE 1. -/
def chanInit : DmaChan := ⟨[], none, none, 0, 0, [], 0, false, 0, true, false, false⟩

/-- Channel c. -/
def chanOf (s : State) (c : Nat) : DmaChan := sgetC chanInit s.dma c

/-- Replace channel c. -/
def setChan (c : Nat) (x : DmaChan) (s : State) : State := { s with dma := ssetC chanInit s.dma c x }

/-- The task of channel c (R370). -/
def dmaTask (c : Nat) : Nat := 22308 + c

/-- The requester port of channel c (Table 3). -/
def dmaPort (c : Nat) : Nat := 14 + c / 8

/-! ### Rings (R371) -/

/-- Entries of channel c's rings. -/
def dmaSize (s : State) (c : Nat) : Nat := 2 ^ getF s (Reg.DMA_CH_CFG_LOG2SIZE c)

/-- Descriptors that wait in channel c's ring. -/
def dmaWaiting (s : State) (c : Nat) : Nat :=
  (getF s (Reg.DMA_CH_PTR_TAIL c) + dmaSize s c - getF s (Reg.DMA_CH_PTR_HEAD c) % dmaSize s c) % dmaSize s c

/-- Whether a completion slot is free. -/
def dmaSlotFree (s : State) (c : Nat) : Bool :=
  decide ((getF s (Reg.DMA_CH_CPL_PTR_TAIL c) + dmaSize s c - getF s (Reg.DMA_CH_CPL_PTR_HEAD c) % dmaSize s c) % dmaSize s c
    + (chanOf s c).reserved + 1 < dmaSize s c)

/-- DMA_DOORBELL (R106, R371): a TAIL beyond the ring is dropped with a configuration error. Assumption 112 (DEDUCED). -/
def dmaDoorbell (d c : Nat) (v : Word) (s : State) : State :=
  let a := (Reg.DMA_CH_PTR_TAIL c).addr
  match writeCheck s d a (w32 (v.toNat % 65536)) with
  | some r => dropRecord d a r s
  | none => if dmaSize s c ≤ v.toNat % 65536 then configError .dma d s else setF s (Reg.DMA_CH_PTR_TAIL c) (v.toNat % 65536)

/-! ### Descriptors (Table 6) -/

/-- The fields of a descriptor's 64 bytes. -/
def dmaParse (bs : List Byte) : DmaDesc :=
  let w := leAt bs 0 4
  let bit := fun i => w / 2 ^ i % 2 == 1
  let high := fun n => leAt bs n 4 / 33554432 != 0
  ⟨w % 4, w / 4 % 4, w / 16 % 4, bit 6, bit 7, bit 8, bit 9, leAt bs 4 4, leAt bs 8 8, leAt bs 16 8,
   leAt bs 24 4 % 33554432, leAt bs 28 4 % 33554432, toSigned 32 (leAt bs 32 4),
   leAt bs 36 4 % 33554432, leAt bs 40 4 % 33554432, toSigned 32 (leAt bs 44 4),
   w / 1024 != 0 || leAt bs 48 8 != 0 || leAt bs 56 8 != 0 || high 24 || high 28 || high 36 || high 40⟩

/-- DMA_FETCH (R370, R371): once a completion slot is free the channel of a door fetches its next descriptor, which opens
a release. -/
def dmaFetch (c : Nat) (bytes : List Byte) (s : State) : State :=
  match ownerOf s 9 c with
  | none => s
  | some d =>
    let x := chanOf s c
    if linkUp s d && getF s (Reg.DMA_CH_CFG_EN c) == 1 && !x.idle && x.fetched.isEmpty && x.cur.isNone &&
        decide (0 < dmaWaiting s c) && dmaSlotFree s c then
      let s := setF s (Reg.DMA_CH_PTR_HEAD c) ((getF s (Reg.DMA_CH_PTR_HEAD c) + 1) % dmaSize s c)
      let s := setChan c { x with fetched := [dmaParse bytes], reserved := x.reserved + 1 } s
      settle (deliver deliverFuel (dmaTask c) 0 s.now false (.present false false) [] s)
    else s

/-- Region or partition that an address names, and the place within the device. -/
def dmaPlace (a : Nat) : Nat × Nat := (a / 2 ^ 56, a % 2 ^ 56)

/-- Whether an address has a bit set that its kind leaves zero. -/
def addrBad (kind a : Nat) : Bool :=
  match kind with
  | 1 => a % 2 ^ 56 / 2 ^ 39 != 0
  | 2 => a % 2 ^ 56 / 2 ^ 46 != 0
  | _ => false

/-- Bytes of a descriptor's stream. -/
def dmaTotal (x : DmaDesc) : Nat := x.srcLine * x.srcLines

/-- The BAD_DESC conditions (R372). -/
def descBad (x : DmaDesc) (prevLen : Nat) : Bool :=
  x.srcLine * x.srcLines != x.dstLine * x.dstLines || decide (4294967295 < dmaTotal x) || dmaTotal x == 0 ||
  decide (16777216 < x.srcLine) || decide (16777216 < x.srcLines) || decide (16777216 < x.dstLine) ||
  decide (16777216 < x.dstLines) ||
  (x.srcKind == 0 && x.dstKind == 0) || x.srcKind == 3 || x.dstKind == 3 || x.csum == 3 ||
  x.badZero || addrBad x.srcKind x.srcAddr || addrBad x.dstKind x.dstAddr ||
  (x.srcKind == 2 && (x.srcAddr % 256 != 0 || x.srcLine % 256 != 0)) ||
  (x.dstKind == 2 && (x.dstAddr % 256 != 0 || x.dstLine % 256 != 0)) ||
  (x.cont && x.csum == 2 && prevLen % 4 != 0)

/-- Whether a door owns the region or partition of an address. -/
def placeOwned (s : State) (d kind a : Nat) : Bool :=
  match kind with
  | 1 => owns s d 7 (dmaPlace a).1
  | 2 => owns s d 8 (dmaPlace a).1
  | _ => true

/-- Whether an address lies in a cloister region or partition that door d's world does not reach (R454, R457). -/
def placeHidden (s : State) (d kind a : Nat) : Bool :=
  let n := (dmaPlace a).1
  !doorCloister s d &&
  match kind with
  | 1 => getF s (Reg.WLD_REGION_CLOISTER (n / 32)) / 2 ^ (n % 32) % 2 == 1
  | 2 => getF s Reg.WLD_PART_CLOISTER / 2 ^ n % 2 == 1
  | _ => false

/-- Whether a destination may be written from a host (R372). -/
def placeWritable (s : State) (kind a : Nat) : Bool :=
  match kind with
  | 1 => regionHost s (dmaPlace a).1
  | 2 => getF s (Reg.PART_HOST_WR (dmaPlace a).1) == 1
  | _ => true

/-- Whether the archive is mounted (R391). -/
def mounted (s : State) : Bool := getF s Reg.UCR_STAT_MOUNT == 2

/-- The status with which a descriptor's checks end; 0 where it may run (R372, R391). Assumption 111 (DEDUCED). -/
def descStatus (s : State) (d : Nat) (x : DmaDesc) (prevLen : Nat) : Nat :=
  if descBad x prevLen then 0x1B0
  else if !placeOwned s d x.srcKind x.srcAddr || !placeOwned s d x.dstKind x.dstAddr then stPartition
  else if !placeWritable s x.dstKind x.dstAddr then 0x1B3
  else if placeHidden s d x.srcKind x.srcAddr || placeHidden s d x.dstKind x.dstAddr then stWorld
  else if (x.srcKind == 2 || x.dstKind == 2) && !mounted s then 0x1C2
  else 0

/-! ### Checksums (R374) -/

/-- The checksum registers at the start of a descriptor. -/
def sumStart (x : DmaChan) (d : DmaDesc) : DmaChan :=
  if d.cont then { x with tailBytes := [] }
  else { x with sumA := if d.csum = 1 then 4294967295 else 0, sumB := 0, tailBytes := [] }

/-- Bytes into the checksum registers. -/
def sumFeed (csum : Nat) (bs : List Byte) (x : DmaChan) : DmaChan :=
  match csum with
  | 1 => { x with sumA := (crc32cRun (BitVec.ofNat 32 x.sumA) bs).toNat }
  | 2 =>
    let all := x.tailBytes ++ bs
    let n := all.length / 4 * 4
    let (a, b) := fletcherRun (x.sumA, x.sumB) (all.take n)
    { x with sumA := a, sumB := b, tailBytes := all.drop n }
  | _ => x

/-- The last word, padded with zero, goes into Fletcher-64. -/
def sumFlush (csum : Nat) (x : DmaChan) : DmaChan :=
  if csum = 2 ∧ !x.tailBytes.isEmpty then
    let (a, b) := fletcherRun (x.sumA, x.sumB) x.tailBytes
    { x with sumA := a, sumB := b, tailBytes := [] }
  else x

/-- The checksum's value: CRC-32C after its final XOR, Fletcher-64 as B × 2³² + A. -/
def sumValue (csum : Nat) (x : DmaChan) : Nat :=
  match csum with
  | 1 => (BitVec.ofNat 32 x.sumA ^^^ 0xFFFFFFFF#32).toNat
  | 2 => x.sumB * 4294967296 + x.sumA
  | _ => 0

/-- DMA_CH_CSUM shows the running registers. -/
def showSum (c : Nat) (s : State) : State :=
  let x := chanOf s c
  setF (setF s (Reg.DMA_CH_CSUM_CSUM_LO c) x.sumA) (Reg.DMA_CH_CSUM_CSUM_HI c) x.sumB

/-! ### The stream (R373) -/

/-- Address of stream byte k on one side. -/
def streamAddr (base line : Nat) (stride : Int) (k : Nat) : Nat :=
  (((base : Int) + (k / line : Nat) * stride + (k % line : Nat)) % 2 ^ 64).toNat

/-- Source address of stream byte k. -/
def srcAt (x : DmaDesc) (k : Nat) : Nat := streamAddr x.srcAddr x.srcLine x.srcStride k

/-- Destination address of stream byte k. -/
def dstAt (x : DmaDesc) (k : Nat) : Nat := streamAddr x.dstAddr x.dstLine x.dstStride k

/-- Length of the burst at stream byte k: 512 bytes at most, within 4 KiB and within a line on either side. -/
def burstLen (x : DmaDesc) (k : Nat) : Nat :=
  min (min 512 (dmaTotal x - k))
    (min (min (4096 - srcAt x k % 4096) (4096 - dstAt x k % 4096))
      (min (x.srcLine - k % x.srcLine) (x.dstLine - k % x.dstLine)))

/-! ### Completion (R375, Table 7) -/

/-- The 32 bytes of a completion. -/
def dmaCompletionBytes (s : State) (x : DmaDesc) (csum bytes status : Nat) (poison phase : Bool) : List Byte :=
  leBytes 8 csum ++ leBytes 4 bytes ++ leBytes 4 (treadsOf s.now) ++ leBytes 6 (secondsOf s.now) ++ leBytes 2 0 ++
  leBytes 4 x.tag ++ leBytes 2 status ++ leBytes 1 poison.toNat ++ leBytes 1 phase.toNat

/-- Write the completion of a descriptor in two writes, with the message of IRQ_FULL (R110, R375). -/
def dmaPutCompletion (c d : Nat) (x : DmaDesc) (csum bytes status : Nat) (poison : Bool) (s : State) : State :=
  let ch := chanOf s c
  let t := getF s (Reg.DMA_CH_CPL_PTR_TAIL c)
  let a := get64 s (Reg.DMA_CH_CPL_BASE_BASE_LO c).addr + 32 * t
  let bs := dmaCompletionBytes s x csum bytes status poison ch.phase
  let s := hostWrite d (a + 28) (bs.drop 28) (hostWrite d a (bs.take 28) s)
  let wraps := t + 1 = dmaSize s c
  let s := setF s (Reg.DMA_CH_CPL_PTR_TAIL c) (if wraps then 0 else t + 1)
  let s := setChan c { ch with reserved := ch.reserved - 1, phase := if wraps then !ch.phase else ch.phase } s
  if x.irqFull then ringMsix d (getF s (Reg.DMA_CH_CFG_VECTOR c)) s else s

/-- The channel ends its descriptor with a status: completion, counters, events, and the end of its release. -/
def dmaEnd (c d : Nat) (x : DmaDesc) (status : Nat) (s : State) : State :=
  let ch := chanOf s c
  let moved := getF s (Reg.DMA_CH_DONE_BYTES c)
  let s := dmaPutCompletion c d x (sumValue x.csum ch) moved status ch.poison s
  let ch := chanOf s c
  let s := setChan c { ch with cur := none, burst := none, prevLen := moved, poison := false, withdraw := false
                               idle := ch.idle || status == 0x1B1 } s
  let s := setF s (Reg.DMA_CH_STAT_STATE c) 0
  let s := incF s (Reg.DMA_CNT_COUNT 0)
  let s := if status = 0x1B1 then raiseEvent 0x1E1 (incF s (Reg.DMA_CNT_COUNT 1)) else s
  let s := if status ≠ 0 ∧ status ≠ 0x1B1 then incF s (Reg.DMA_CNT_COUNT 2) else s
  let s := raiseIf (status != 0) 0x1E0 s
  releaseComplete (dmaTask c) 0 s

/-- Store the checksum after the last byte, as if the last line ran on (R374). -/
def storeSum (x : DmaDesc) (ch : DmaChan) (d c : Nat) (s : State) : State :=
  if !x.store || x.csum == 0 then s
  else
    let a := streamAddr x.dstAddr x.dstLine x.dstStride (dmaTotal x - 1) + 1
    let bs := leBytes (if x.csum = 1 then 4 else 8) (sumValue x.csum ch)
    match x.dstKind with
    | 0 => hostWrite d a bs s
    | 1 =>
      let (r, o) := dmaPlace a
      if inRegion s r o bs.length then memStore o bs false s else regionFault (dmaPort c) o s
    | _ => writePart (dmaPlace a).1 (dmaPlace a).2 bs false s

/-- The descriptor's last burst has completed: the checksum, and the status OK, or DEVICE after poison (R377). -/
def dmaFinish (c d : Nat) (x : DmaDesc) (s : State) : State :=
  let ch := sumFlush x.csum (chanOf s c)
  let s := storeSum x ch d c (showSum c (setChan c ch s))
  if ch.poison then
    let s := incF s (Reg.DMA_CNT_COUNT 3)
    dmaEnd c d x stDevice (raiseEvent 0x1E3 (captureError .dma 0x01 2 false c 0 none s))
  else dmaEnd c d x stOk s

/-! ### Bursts (R373, R376, R377) -/

/-- Begin the burst at the stream byte reached: the reads of a DRAM source are queued. -/
def startBurst (c : Nat) (x : DmaDesc) (s : State) : State :=
  let k := getF s (Reg.DMA_CH_DONE_BYTES c)
  let n := burstLen x k
  let (r, a) := dmaPlace (srcAt x k)
  if x.srcKind = 1 then
    if inRegion s r a n then
      let (ids, s) := requestRead (dmaPort c) a n s
      setChan c { chanOf s c with burst := some ⟨k, n, ids, none, false⟩ } s
    else
      regionFault (dmaPort c) a (setChan c { chanOf s c with burst := some ⟨k, n, [], some (List.replicate n 0), true⟩ } s)
  else setChan c { chanOf s c with burst := some ⟨k, n, [], none, false⟩ } s

/-- The burst's data is known: the writes of a DRAM destination are queued. -/
def burstData (c : Nat) (x : DmaDesc) (b : DmaBurst) (bs : List Byte) (poison : Bool) (s : State) : State :=
  let (r, a) := dmaPlace (dstAt x b.from_)
  if x.dstKind = 1 then
    if inRegion s r a b.len then
      let (ids, s) := requestWrite (dmaPort c) a bs poison s
      setChan c { chanOf s c with burst := some { b with data := some bs, poison := poison, ids := ids } } s
    else
      regionFault (dmaPort c) a
        (setChan c { chanOf s c with burst := some { b with data := some bs, poison := poison, ids := [] } } s)
  else setChan c { chanOf s c with burst := some { b with data := some bs, poison := poison, ids := [] } } s

/-- The answers to a burst's requests, where all have been returned. -/
def burstAcks (s : State) (b : DmaBurst) : Option (List DramAck) :=
  let as := b.ids.map fun i => returned s i
  if as.all (·.isSome) then some (as.filterMap id) else none

/-- A DRAM source's data has come back: on to the destination. -/
def dmaAdvance (c : Nat) (s : State) : State :=
  match (chanOf s c).cur, (chanOf s c).burst with
  | some x, some b =>
    if x.srcKind = 1 ∧ b.data.isNone then
      match burstAcks s b with
      | some as =>
        let s := takeAnswers b.ids s
        burstData c x b (as.foldl (fun bs a => bs ++ a.data) []) (as.any (·.bad)) s
      | none => s
    else s
  | _, _ => s

/-- Every channel whose DRAM data has come back goes on. -/
def dmaAdvanceAll (s : State) : State := (List.range 32).foldl (fun s c => dmaAdvance c s) s

/-- The data of a host or Undercroft source is read as the burst completes. -/
def burstSource (c : Nat) (x : DmaDesc) (b : DmaBurst) (h : HostRead) (lads : List Ladder) (s : State) : State :=
  if b.data.isSome then s
  else match x.srcKind, h with
    | 0, .data bs => burstData c x b ((bs ++ List.replicate b.len 0).take b.len) false s
    | 2, _ =>
      let (n, o) := dmaPlace (srcAt x b.from_)
      if o + b.len ≤ partSize s n then
        let ((bs, bads), s) := readPart n o b.len lads false s
        burstData c x b bs (bads.any id) s
      else burstData c x b (List.replicate b.len 0) true s
    | _, _ => s

/-- The burst's bytes have reached their destination: the checksum, the half message, and what comes next. -/
def burstDone (c d : Nat) (x : DmaDesc) (b : DmaBurst) (bs : List Byte) (s : State) : State :=
  let a := dstAt x b.from_
  let s := match x.dstKind with
    | 0 => if b.poison then hostWritePoisoned d a bs s else hostWrite d a bs s
    | 2 => if (dmaPlace a).2 + b.len ≤ partSize s (dmaPlace a).1 then writePart (dmaPlace a).1 (dmaPlace a).2 bs b.poison s else s
    | _ => takeAnswers b.ids s
  let ch := chanOf s c
  let s := showSum c (setChan c { sumFeed x.csum bs ch with burst := none, poison := ch.poison || b.poison } s)
  let moved := b.from_ + b.len
  let half := (dmaTotal x + 1) / 2
  let s := setF s (Reg.DMA_CH_DONE_BYTES c) moved
  let s := if x.irqHalf ∧ b.from_ < half ∧ half ≤ moved then
      ringMsix d (getF s (Reg.DMA_CH_CFG_VECTOR c)) (setF s (Reg.DMA_CH_STAT_HALF c) 1)
    else s
  if moved = dmaTotal x then dmaFinish c d x s
  else if ch.withdraw then dmaEnd c d x 0x1B1 s
  else startBurst c x s

/-- DMA_BURST_COMPLETE (R373 to R377): the burst's source data and destination writes are complete; a host read that
failed ends the descriptor with HOST_ERROR. -/
def dmaBurstComplete (c : Nat) (h : HostRead) (lads : List Ladder) (s : State) : State :=
  match ownerOf s 9 c, (chanOf s c).cur, (chanOf s c).burst with
  | some d, some x, some b =>
    if x.srcKind = 0 ∧ h = .error then
      dmaEnd c d x 0x1B2 (raiseEvent 0x1E2 (captureError .dma 0x02 2 false c 0 none s))
    else
      let s := dmaAdvance c (burstSource c x b h lads s)
      match (chanOf s c).burst with
      | none => s
      | some b =>
        match b.data with
        | none => s
        | some bs => if x.dstKind = 1 ∧ (burstAcks s b).isNone then s else burstDone c d x b bs s
  | _, _, _ => s

/-- DMA_TRANSFER (R372, R373): the channel's release runs and its descriptor is checked; it moves its stream, or
completes at once. -/
def dmaTransfer (c : Nat) (s : State) : State :=
  match ownerOf s 9 c, runningOf s (dmaTask c), (chanOf s c).fetched with
  | some d, some _, x :: rest =>
    let ch := chanOf s c
    if ch.cur.isSome then s
    else
      let st := descStatus s d x ch.prevLen
      let s := setF s (Reg.DMA_CH_DONE_BYTES c) 0
      let s := setChan c { sumStart ch x with fetched := rest, cur := some x, poison := false, withdraw := false } s
      let s := showSum c s
      if st ≠ 0 then dmaEnd c d x st s else startBurst c x (setF s (Reg.DMA_CH_STAT_STATE c) 1)
  | _, _, _ => s

/-- A withdrawal of what channel c moves (R376); without effect while it is idle. -/
def dmaWithdrawNow (c : Nat) (s : State) : State :=
  let ch := chanOf s c
  if ch.cur.isNone then s else setF (setChan c { ch with withdraw := true } s) (Reg.DMA_CH_STAT_STATE c) 2

/-- DMA_WITHDRAW (R376): door d writes 1 to WITHDRAW, or 0 to EN. -/
def dmaWithdraw (d c : Nat) (clearEn : Bool) (s : State) : State :=
  let a := if clearEn then (Reg.DMA_CH_CFG_EN c).addr else (Reg.DMA_CH_CTRL_WITHDRAW c).addr
  let v := if clearEn then putBits (rget s a) 0 0 0 else 1
  match writeCheck s d a v with
  | some r => dropRecord d a r s
  | none => dmaWithdrawNow c (if clearEn then setF s (Reg.DMA_CH_CFG_EN c) 0 else s)

/-- A write of 1 to EN lets a withdrawn channel fetch again. -/
def dmaEnable (c : Nat) (s : State) : State := setChan c { chanOf s c with idle := false } s

end Sys2Proof.Machine
end

