-- ==== Sys2Proof/Machine/Flight.lean ====
section
/-! DEFINITION. The flight level: commit cuts, audio flight starts, the first flight, time restarts and second boundaries (Treads,
flights and network time; Charter, start-up and partitions; Doors, requests and the coherent view). -/

namespace Sys2Proof.Machine

/-! ### The commit cut (R17, R417) -/

/-- The arrivals before a cut are the batch of the epoch that commits at its flight; REQ_SEAL goes to the partner. Where the next
epoch is the charter state, arrivals go on to the one after (R92). A cut whose flight a time restart or Hold took is made anew
for the flight that resumes. -/
def cutAt (cut : Treads) (s : State) : State :=
  if s.epoch.charterDue ∨ (s.epoch.cutDone ∧ s.tim.flights = .running) then s
  else
    let inside := fun (u : ReqUnit) => decide (u.stamp < cut)
    let x := { s.epoch with
      batch := s.epoch.batch ++ s.epoch.arrived.filter inside, arrived := s.epoch.arrived.filter fun u => !inside u, cutDone := true }
    sendReqSeal cut { s with epoch := x }

/-- A joiner that has its image makes a cut that it sealed while it waited: what arrived before the cut takes its place (R430). -/
def lateCut (cut : Treads) (s : State) : State :=
  let inside := fun (u : ReqUnit) => decide (u.stamp < cut)
  let due := s.epoch.arrived.filter inside
  let s := { s with epoch := { s.epoch with arrived := s.epoch.arrived.filter fun u => !inside u, cutDone := true } }
  due.foldl (fun s u => placeUnitAt (s.epoch.newest + 1) true u s) s

/-- Whether an instant is an audio flight boundary. -/
def atBoundary (s : State) (t : Treads) : Bool := decide (0 < flightLen s) && t % flightLen s == 0

/-- COMMIT_CUT: the instant is a flight start minus 4,410 treads, and that flight will run; a joiner that waits for its image seals its
requests at the cuts from J's on (R430). -/
def commitCut (s : State) : State :=
  if !atBoundary s (s.now + 4410) then s
  else if s.twin.state = .copying ∧ sealsRequests s s.now then joinerCut s.now s
  else if s.tim.flights = .running ∧ !boundaryTaken s (s.now + 4410) then cutAt s.now s
  else s

/-! ### A flight starts (R17, R53, R120) -/

/-- What ends with the flight before: its key-frame requests and reports, its misses, its meters, its cores' loads, and the marks
that some events carry once per flight. -/
def endFlight (s : State) : State :=
  let s := coreFlight (galFlight (stairFlight (forwardFlight s.now s)))
  { s with
    shp := { s.shp with lateEvent := false }, ports := { s.ports with stoppedSeen := false }
    evt := { s.evt with accessInFlight := 0, accessEvent := false }, drm := { s.drm with urgentTold := false } }

/-- What begins with a flight, its epoch committed: sets are final and old ones leave, replays play, queues sample, and the tasks of
the flight are released. Assumption 34 (DEDUCED). -/
def beginFlight (missed : Bool) (s : State) : State :=
  let n := flightNumber s s.now
  let s := retireSets (finalizeSets (twinFlight n missed s))
  releaseRate 13 (sampleQueues n (replayClock s))

/-- In lockstep a commit needs the partner's REQ_SEAL for its cut (R417); without it the device goes on alone, or a
resynchronisation ends. -/
def checkSeal (s : State) : State :=
  let cut := s.now - 4410
  if !sealsRequests s cut then s
  else if cutSealed s cut then
    setTwin { s.twin with partnerCuts := s.twin.partnerCuts.filter fun e => decide (cut < e.1) } s
  else match s.twin.state with
    | .lockstep => linkFailure s
    | _ => abortResync true s

/-- Flight s.now starts with an epoch of requests. -/
def runFlight (s : State) : State :=
  let missed := !s.stw.missClass.isEmpty
  let s := checkSeal (cutAt (s.now - 4410) s)
  if !pairFlies s then { s with tim := { s.tim with flights := .stopped } }
  else
    let s := endFlight (noteFlight s.now s)
    beginFlight missed (keepImage (commitEpoch s))

/-- The first boundary from which flights may run after the last step (R47) and after Hold (R449). -/
def resumeFrom (s : State) : Treads :=
  max (nextBoundary (s.tim.servo.stepAt + 141120) (flightLen s)) (s.clk.resumeAt.getD 0)

/-- Flights resume after Hold: the first one runs in Run, with event 0x028, and lines that failed in Keep are spared (R393,
R449). -/
def leaveHold (s : State) : State :=
  sparePending (raiseEvent 0x028 (runFlight (setClk { s.clk with power := .run, resumeAt := none } s)))

/-- AUDIO_FLIGHT_START (R53): at a boundary after the last flight, where STEPPED is 1 and no restart, Hold or withdrawal keeps it
back. -/
def audioFlightStart (s : State) : State :=
  let due : Bool := atBoundary s s.now && !boundaryTaken s s.now && s.tim.servo.stepped
  if !due then s
  else if s.tim.flights = .running then (if s.tim.lastFlight < s.now then runFlight s else s)
  else if s.clk.power = .leavingHold ∧ resumeFrom s ≤ s.now ∧ pairFlies s ∧ 0 < s.epoch.newest ∧ !s.epoch.charterDue then leaveHold s
  else s

/-- An audio flight starts; `fault` is the lane on which the cipher engine's two datapaths disagree while it unwraps a key of the
epoch (R176). -/
def flightWithFault (fault : Option (Fin 8)) (s : State) : State :=
  let lane := (workingLane s fault).map (·.val)
  let s := audioFlightStart { s with cip := { s.cip with upset := lane } }
  { s with cip := { s.cip with upset := none } }

/-! ### The joiner's catch-up (R430) -/

/-- The boundaries of the video rates in the audio flight that starts at an instant, up to another, in time order. -/
def videoBoundaries (s : State) (b now : Treads) : List (Treads × Nat) :=
  let within := (List.range 13).flatMap fun r =>
    let t := nextBoundary b (ratePeriod r)
    if t < b + flightLen s ∧ t ≤ now then [(t, r)] else []
  within.mergeSort fun x y => decide (x.1 ≤ y.1)

/-- The flight of boundary b of a joiner that catches up: its epoch, but for J's own, which the image holds, and the releases of every
rate in it. -/
def lateFlight (first : Bool) (b now : Treads) (s : State) : State :=
  let s := { s with now := b }
  let s := if first then beginFlight false (noteFlight b s) else runFlight (lateCut (b - 4410) s)
  (videoBoundaries s b now).foldl (fun s e => releaseRate e.2 { s with now := e.1 }) s

/-- A joiner in shadowing runs every flight from J to the present, late, and judges what has arrived since the last cut (R33, R430).
Assumption 127 (DESIGN CHOICE). -/
def catchUp (s : State) : State :=
  match s.twin.state, s.twin.resync.joinFlight with
  | .shadowing, some n =>
    let now := s.now
    let j := flightAt s n
    let k := (now - j) / max 1 (flightLen s)
    let s := (List.range (k + 1)).foldl (fun s i => if s.twin.state = .shadowing then lateFlight (i == 0) (flightAt s (n + i)) now s else s) s
    let s := { s with now := now }
    if s.twin.state ≠ .shadowing then s
    else
      let next := flightAt s (n + k + 1)
      let s := if next ≤ now + 4410 then lateCut (next - 4410) s else s
      let rest := s.epoch.arrived
      let s := rest.foldl (fun s u => placeUnit u s) { s with epoch := { s.epoch with arrived := [] } }
      settle (setTwin { s.twin with resync := { s.twin.resync with clean := 0 } } s)
  | _, _ => s

/-- IMAGE: a part of the image; after the last one the joiner catches up. -/
def imageCommand (p : ImagePart) (s : State) : State :=
  if s.twin.state = .copying ∧ p = .complete then catchUp (imageIn p s) else imageIn p s

/-! ### The first flight (R92, R94, R413) -/

/-- The boundary of the first flight: the one that pairing agreed, or the first at least 141,120 treads after step 10. -/
def firstBoundary (s : State) : Treads :=
  match s.twin.startFlight with
  | some n => flightAt s n
  | none => nextBoundary (s.cht.openedAt + 141120) (flightLen s)

/-- The marks of a first flight: step 11, event 0x048 or 0x041, and after Keep event 0x029 with the events held there (R451,
R467). -/
def firstMarks (us : Nat) (s : State) : State :=
  let woken := s.clk.wokenDue
  let warm := s.cht.warm
  let s := stepDone 11 us (setCht { s.cht with warm := false, fresh := false } s)
  let s := setClk { s.clk with power := .run, resumeAt := none, wokenDue := false } s
  let s := raiseIf (s.epoch.newest == 1) 0x048 (raiseIf warm 0x041 s)
  if woken then sparePending (deliverHeld (raiseEvent 0x029 s)) else s

/-- A device that paired enters lockstep at its first flight; arrival agreement begins with the first set whose cut-off falls
after it (R413). -/
def pairStart (s : State) : State :=
  if s.twin.state = .pairing then
    enterLockstep 0x222 (setTwin { s.twin with unionFrom := some (s.now + arrMargin s) } s)
  else setTwin { s.twin with startFlight := none } s

/-- The first flight starts with the charter state. -/
def startFirst (us : Nat) (s : State) : State :=
  beginFlight false (firstMarks us (commitCharter (pairStart (noteFlight s.now s))))

/-- FIRST_FLIGHT: step 11. A device that joined a running partner has its flights already. -/
def firstFlight (us : Nat) (s : State) : State :=
  if !atStep s 11 then s
  else if s.tim.flights = .running then firstMarks us s
  else if s.tim.servo.stepped ∧ (pairFlies s ∨ (s.twin.state = .pairing ∧ s.twin.startFlight.isSome)) ∧
      s.now = firstBoundary s ∧ 0 < flightLen s ∧ !boundaryTaken s s.now then startFirst us s
  else s

/-! ### Time restarts (R47, R48) -/

/-- TIME_RESTART: the time-owner door writes 1 to TIM_CTRL.RESTART; without effect while STEPPED is 0. A device that is paired, or has
agreed on its start flight, withdraws with cause 7 (R48). -/
def timeRestart (d : Nat) (s : State) : State :=
  timeOwnerWrite d Reg.TIM_CTRL_RESTART.addr (fun s =>
    if !s.tim.servo.stepped then s
    else
      let s := if s.twin.state = .lockstep ∨ (s.twin.state = .pairing ∧ s.twin.startFlight.isSome) then withdraw 7 s else s
      beginRestart s) s

/-- FLIGHTS_RESUME: the first boundary at least 141,120 treads after the new step; event 0x068. -/
def flightsResume (s : State) : State :=
  if s.tim.flights = .stopped ∧ s.tim.servo.stepped ∧ s.tim.haltAt.isNone ∧ s.clk.power = .run ∧ s.cht.step = 11 ∧ pairFlies s ∧
      atBoundary s s.now ∧ resumeFrom s ≤ s.now ∧ !boundaryTaken s s.now then
    runFlight s
  else s

/-- Every unit's replica takes the count (R57). -/
def loadReplicas (s : State) : State :=
  { s with tim := { s.tim with replicas := allBlocks.foldl (fun m b => ssetC 0 m (blockRow b) s.now) s.tim.replicas } }

/-- A request as it stands after a step of the count: it has arrived. -/
def unitArrived (now : Treads) (u : ReqUnit) : ReqUnit := { u with stamp := min u.stamp now }

/-- A limiter after a step of the count: what it was filled to and what it waits for lie at most at the present. -/
def limiterStep (now : Treads) (x : Limiter) : Limiter :=
  { x with at_ := min x.at_ now, next := min x.next (now * 65536) }

/-- What the count's step leaves (R47): instants that the device keeps from the count before it lie in the past; a first flight still
to come counts from the step; the replicas load. Assumption 149 (DESIGN CHOICE). -/
def afterStep (s : State) : State :=
  let n := s.now
  let past := fun (o : Option Treads) => o.map (min n)
  let s := ucrStep <| dramStep (stairStep (allDoors.foldl (fun s d => flushJournal d s) s))
  let s := if s.cht.step = 10 then setCht { s.cht with openedAt := n } s else s
  loadReplicas { s with
    epoch := { s.epoch with
      arrived := s.epoch.arrived.map (unitArrived n), batch := s.epoch.batch.map (unitArrived n)
      carried := s.epoch.carried.map (unitArrived n), deferred := s.epoch.deferred.map fun e => (e.1, unitArrived n e.2)
      prior := s.epoch.prior.filter fun p => decide (p.1 ≤ n) }
    doors := s.doors.map fun e => (e.1, { e.2 with immediate := e.2.immediate.map fun q => (q.1, min q.2 n) })
    ports := { s.ports with pathSeen := s.ports.pathSeen.map fun e => (e.1, past e.2) }
    shp := { s.shp with
      sched := s.shp.sched.map fun e => (e.1, { e.2 with lim := limiterStep n e.2.lim }), portBusy := []
      sampleAt := min s.shp.sampleAt n }
    twin := { s.twin with
      withdrawnAt := past s.twin.withdrawnAt, failedAt := past s.twin.failedAt, aliveSeen := past s.twin.aliveSeen } }

/-- OFFSET_SAMPLE with what it may complete: a step of the count, step 8. -/
def offsetCommand (d : Nat) (hi : Word) (us : Nat) (s : State) : State :=
  let gen := s.tim.servo.stepGen
  let s := offsetSample d hi s
  timeStep us (if s.tim.servo.stepGen = gen then s else afterStep s)

/-! ### Second boundaries (R57, R412) -/

/-- SECOND_BOUNDARY: every replica reloads, with event 0x06C for each one that disagreed, engines' loads are published, and a paired
device probes; `disagree` names the units whose replica disagreed. R57 lets the stamps of two units at one instant differ by up to
one tread: in this model every unit stamps with the one count, so they never differ. Assumption 150 (DESIGN CHOICE). -/
def secondBoundary (disagree : List Block) (s : State) : State :=
  if s.now % treadsPerSecond ≠ 0 then s
  else loadReplicas (disagree.foldl (fun s _ => raiseEvent 0x06C s) (secondProbe (engineSecond s)))

end Sys2Proof.Machine
end

