-- ==== Sys2Proof/Machine/RegisterWrite.lean ====
section
/-! DEFINITION. The writes of BAR0 and BAR2: each word's own effect at a write, the staging of RWE words as requests, and the
split of 64-bit writes (Scope and conventions; Doors, requests and the coherent view). -/

namespace Sys2Proof.Machine

/-! ### Rings and the journal (R105, R106, R131) -/

/-- A ring or journal whose CFG word at `cfg` has EN in bit 0. -/
def ringEnabled (s : State) (cfg : Nat) : Bool := (rget s cfg).toNat % 2 == 1

/-- A write of a ring's CFG word (R105, R131): one that changes LOG2SIZE and leaves EN at 1 is dropped; one that clears EN stores
the new size and stops the ring as `stop` says. -/
def ringCfgWrite (b : Block) (d a : Nat) (v : Word) (stop start : State → State) (s : State) : State :=
  let was := ringEnabled s a
  let now := v.toNat % 2 == 1
  if was && now && bitsOf (rget s a) 5 1 != bitsOf v 5 1 then configError b d s
  else
    let s := storeWord a v s
    if was && !now then stop s else if !was && now then start s else s

/-- A write of a ring's BASE words, dropped while EN is 1 (R105). -/
def ringBaseWrite (b : Block) (d cfg a : Nat) (v : Word) (s : State) : State :=
  if ringEnabled s cfg then configError b d s else storeWord a v s

/-- A write of TAIL (R106): one at or above the ring's size is dropped. -/
def tailWrite (b : Block) (d a size : Nat) (v : Word) (s : State) : State :=
  if size ≤ v.toNat % 65536 then configError b d s else storeWord a v s

/-- Whether door d's quota of MSI-X vectors covers a vector (Tables 6 and 14 of Charter, start-up and partitions); vector 0 is every
door's (R103). -/
def vectorHeld (s : State) (d v : Nat) : Bool := v == 0 || decide (v < (quotaOf s d).vectors)

/-- The VECTOR that a write gives a completion ring, a journal or a DMA channel. -/
def vectorOf (a : Nat) (v : Word) : Nat :=
  if 0x3401000 ≤ a then (if a % 0x40 = 8 then bitsOf v (Reg.DMA_CH_CFG_VECTOR 0).hi (Reg.DMA_CH_CFG_VECTOR 0).lo else 0)
  else
    let o := (a - 0x501000) % 0x1000
    if 0x300 ≤ o ∧ o < 0x500 ∧ o % 0x40 = 8 then bitsOf v 16 6 else if o = 0x508 then bitsOf v 24 14 else 0

/-- A write of door d that would take it beyond its quota of vectors is dropped as a write outside its partition (R24, R86, R104).
Assumption 144 (DEDUCED). -/
def vectorWrite (b : Block) (d a : Nat) (v : Word) (f : State → State) (s : State) : State :=
  if vectorHeld s d (vectorOf a v) then f s else partitionError b d s

/-- A write of a word of door d's request rings, completion rings or journal. -/
def doorRingWrite (d a : Nat) (v : Word) (s : State) : State :=
  let o := (a - 0x501000) % 0x1000
  let cfg := a - o + (if o < 0x500 then o / 0x40 * 0x40 else 0x500) + 8
  if o < 0x300 then
    let r := (o - 0x100) / 0x40
    match o % 0x40 with
    | 0x08 => ringCfgWrite .dor d a v (disableRequestRing d r) id s
    | 0x0C => tailWrite .dor d a (rqSize s d r) v s
    | _ => ringBaseWrite .dor d cfg a v s
  else if o < 0x500 then
    let c := (o - 0x300) / 0x40
    match o % 0x40 with
    | 0x08 => ringCfgWrite .dor d a v (disableCompletionRing d c) id s
    | 0x0C => storeWord a v s
    | _ => ringBaseWrite .dor d cfg a v s
  else match o with
    | 0x508 => ringCfgWrite .dor d a v (disableJournal d) id s
    | 0x50C => storeWord a v s
    | _ => ringBaseWrite .dor d cfg a v s

/-- A write of a word of DMA channel c (R371, R376). -/
def dmaChannelWrite (d a : Nat) (v : Word) (s : State) : State :=
  let c := (a - 0x3401000) / 0x40
  let cfg := 0x3401008 + 0x40 * c
  match a % 0x40 with
  | 0x08 => ringCfgWrite .dma d a v (dmaWithdrawNow c) (dmaEnable c) s
  | 0x0C => tailWrite .dma d a (dmaSize s c) v s
  | 0x1C => if v.toNat % 2 = 1 then dmaWithdrawNow c s else s
  | 0x18 | 0x20 => storeWord a v s
  | _ => ringBaseWrite .dma d cfg a v s

/-! ### Interrupts (R103, R462) -/

/-- A write of a vector's control word: an unmasked vector whose pending bit is set sends its message. -/
def msixMaskWrite (d a : Nat) (v : Word) (s : State) : State :=
  let s := storeWord a v s
  let n := (a - 0x508000) % 0x8000 / 16
  let pba := (Reg.MSIX_PBA d (n / 32)).addr
  if v.toNat % 2 = 0 ∧ bitsOf (rget s pba) (n % 32) (n % 32) = 1 ∧ linkUp s d then
    sendMsix d n (rset s pba (putBits (rget s pba) (n % 32) (n % 32) 0))
  else s

/-- A write of a door's word of a route entry: EN with VECTOR 0 is an encoding that R15 drops (R463), and a vector beyond that door's
quota is refused. -/
def routeWrite (d a : Nat) (v : Word) (s : State) : State :=
  if bitsOf v 11 11 = 1 ∧ bitsOf v 10 0 = 0 then configError .evt d s
  else if !vectorHeld s (((routeWord a).map (·.2)).getD 0) (bitsOf v 10 0) then partitionError .evt d s
  else storeWord a v s

/-- The bits of BLK_EVT_EN that a block's events have (R460). -/
def eventMask (b : Block) : Word := BitVec.ofNat 32 (2 ^ (blockEvents b).2 - 1)

/-! ### The trace, the pair and peeks -/

/-- A write of STW_TRACE_CFG: a trace that EN starts begins with its sync record (R345, R346). -/
def traceCfgWrite (a : Nat) (v : Word) (s : State) : State :=
  let was := ringEnabled s a
  let s := storeWord a v s
  if !was && v.toNat % 2 == 1 then traceEnable s else s

/-- A write of STW_TRACE_BASE: dropped while the trace runs, and with an error where the region is not the device owner's.
Assumption 19 (DEDUCED). -/
def traceBaseWrite (d a : Nat) (v : Word) (s : State) : State :=
  if getF s Reg.STW_TRACE_CFG_EN = 1 then s
  else if owns s (devOwner s) 7 (v.toNat % 256) then storeWord a v s
  else configError .stw d s

/-- Draw an open number. -/
def withDraw (f : Nat → State → State) (s : State) : State := f (drawFree s).1 (drawFree s).2

/-- A write of NWL_CTRL: WITHDRAW, RESYNC, ABORT (R424, R427, R431). -/
def pairCtrlWrite (v : Word) (s : State) : State :=
  let s := if bitsOf v 0 0 = 1 then hostWithdraw s else s
  let s := if bitsOf v 1 1 = 1 then withDraw (fun us s => twinStep us (resyncNow s)) s else s
  if bitsOf v 2 2 = 1 then abortNow s else s

/-- Subchannels that an open number marks. -/
def drawnSubs (n : Nat) : List Nat := allSubs.filter fun c => n / 2 ^ c % 2 == 1

/-! ### One 32-bit write -/

/-- The effect of an admitted write of a word that is not staged, beyond what the bits themselves hold; the words of rows of
their own act as those rows say. -/
def wordEffect (d a : Nat) (v : Word) (s : State) : State :=
  if a < 0x4000000 ∧ a = blockBase (blockOf a) + 0x0C then rset s a (v &&& eventMask (blockOf a))
  else if 0x501000 ≤ a ∧ a < 0x505000 ∧ 0x100 ≤ (a - 0x501000) % 0x1000 then vectorWrite .dor d a v (doorRingWrite d a v) s
  else if 0x508000 ≤ a ∧ a < 0x528000 ∧ a % 16 = 12 then msixMaskWrite d a v s
  else if 0x3401000 ≤ a ∧ a < 0x3401800 then vectorWrite .dma d a v (dmaChannelWrite d a v) s
  else if (routeWord a).isSome then routeWrite d a v s
  else if 0x600200 ≤ a ∧ a < 0x600320 ∧ a % 32 = 20 then if v.toNat % 2 = 1 then capturePop ((a - 0x600200) / 32) s else s
  else if 0x701000 ≤ a ∧ a < 0x702000 ∧ a % 64 = 32 then if v.toNat % 2 = 1 then decoderPop ((a - 0x701000) / 64) s else s
  else if 0x708000 ≤ a ∧ a < 0x708080 ∧ a % 32 = 20 then if v.toNat % 2 = 1 then tonePop ((a - 0x708000) / 32) s else s
  else match a with
    | 0x6000D8 => if v.toNat % 2 = 1 then txStampPop s else s
    | 0x600078 => setServo { s.tim.servo with ofsLo := v } s
    | 0x60007C => setServo { s.tim.servo with ofsMid := v } s
    | 0x1400100 => peekCore (storeWord a v s)
    | 0x2C00048 => traceCfgWrite a v s
    | 0x2C00050 => traceBaseWrite d a v s
    | 0x3C00044 => pairCtrlWrite v s
    | _ => storeWord a v s

/-- A write of a word that has a row of its own, with that row's checks; none for any other word. Assumption 13 (DESIGN CHOICE). -/
def rowWrite (d a : Nat) (v : Word) : Option (State → State) :=
  if a < 0x4000000 ∧ a = blockBase (blockOf a) + 0x10 then some (eventClear d (blockOf a) v)
  else if a < 0x4000000 ∧ a = blockBase (blockOf a) + 0x20 then some (errorClear d (blockOf a) v)
  else if 0x100200 ≤ a ∧ a < 0x100230 ∧ a % 16 = 0 then some (clockSwitch d ((a - 0x100200) / 16) v.toNat)
  else if 0x101000 ≤ a ∧ a < 0x101150 then
    some (withDraw fun n => gateWrite d ((a - 0x101000) / 4) (v.toNat % 4) (n % 2 == 1))
  else match a with
    | 0x100044 => some (clockObserve d v)
    | 0x108000 => some (withDraw fun n => powerRequest d (v.toNat % 4) (drawnSubs n))
    | 0x200054 => some (eventTest d v)
    | 0x400150 => some (chtReset d v)
    | 0x400160 => some (ownerQuery d v)
    | 0x400200 => some (recoveryWrite d v)
    | 0x600040 => some fun s => if v.toNat % 2 = 1 then timeRestart d s else timeOwnerWrite d a id s
    | 0x600080 => some (withDraw fun us => offsetCommand d v us)
    | _ => none

/-- Whether a word has a field of access code RWE. -/
def wordStages (a : Nat) : Bool := (findWord a).any fun w => wordHasAcc w.1 .rwe

/-- Whether a word has beside its RWE fields others that a write stores at once. Assumption 14 (DEDUCED). -/
def wordMixed (a : Nat) : Bool := (findWord a).any fun w => w.1.fields.any fun f => f.acc != .rwe && f.acc != .ro

/-- A write to RWE words arrives as one request of door d (R501): TAG 0, no ring. Assumption 12 (DEDUCED). -/
def stageWrite (d : Nat) (pairs : List (Nat × Word)) (s : State) : State :=
  if pairs.isEmpty then s else arriveUnit d 0 [⟨0, none, 0, false, false, none, .barWrite pairs, 0, 0⟩] s

/-- Whether door d's write of an RWE word is staged: its phase and its world admit it, and so do the encodings of the fields
beside it (R15, R456). -/
def stages (s : State) (d a : Nat) (v : Word) : Bool :=
  wordStages a && phaseAdmits s d a true && writeReaches s d a && (!wordMixed a || (writeCheck s d a v).isNone)

/-- A 32-bit write of door d that is not staged, or the part of it that is stored at once. -/
def busWrite32 (d a : Nat) (v : Word) (s : State) : State :=
  if wordStages a then
    if !phaseAdmits s d a true then s
    else if !writeReaches s d a then worldFault d a true s
    else if wordMixed a then busWrite d a v (storeWord a v) s
    else s
  else match rowWrite d a v with
    | some f => f s
    | none => busWrite d a v (wordEffect d a v) s

/-- A 32-bit write of door d: its stored part, then its staged part. -/
def writeBus (d a : Nat) (v : Word) (s : State) : State :=
  let staged := stages s d a v
  let s := busWrite32 d a v s
  if staged then stageWrite d [(a, v)] s else s

/-! ### One access (R12, R499) -/

/-- A BAR0 or BAR2 write of door d: a 64-bit BAR0 write acts as two of 32 bits, the lower offset first; a 64-bit BAR2 write is one
arrival; a misaligned one is malformed. -/
def barAccess (d : Nat) (win : Window) (offset : Nat) (size : AccessSize) (v : BitVec 64) (s : State) : State :=
  let a := codedAddr win offset
  let lo := v.setWidth 32
  let hi := (v >>> 32).setWidth 32
  if !accessAligned size offset then malformedAccess d s
  else match size, win with
    | .word, _ => writeBus d a lo s
    | .dword, .bar0 => writeBus d (a + 4) hi (writeBus d a lo s)
    | .dword, .bar2 =>
      let pairs := [(a, lo), (a + 4, hi)].filter fun p => stages s d p.1 p.2
      stageWrite d pairs (busWrite32 d (a + 4) hi (busWrite32 d a lo s))

end Sys2Proof.Machine
end

