-- ==== Sys2Proof/Machine/ExecDoors.lean ====
section
/-! DEFINITION. The meanings of the commands of rings, completions, journals and the immediate requests. -/

namespace Sys2Proof.Machine

/-- RING_DOORBELL: a write of TAIL (R106). -/
def execRingDoorbell (t : Nat) (door : Fin 4) (ring : Fin 8) (value : Word) (s : State) : Out :=
  acts t (busWrite door (Reg.DOR_RQ_PTR_TAIL door ring).addr value (ringDoorbell door ring value)) s

/-- REQUEST_ARRIVAL: an entry has been received in full (R118). -/
def execRequestArrival (t : Nat) (door : Fin 4) (ring : Fin 8) (entry : RequestEntry) (data : List Byte) (s : State) : Out :=
  acts t (requestArrival door ring entry data) s

/-- RING_DISABLE: EN of a ring or of the journal clears (R131). -/
def execRingDisable (t : Nat) (door : Fin 4) (kind : RingKind) (ring : Fin 8) (s : State) : Out :=
  acts t (disableRing door kind ring) s

/-- COMPLETION_WRITE: the oldest completion is written (R122). -/
def execCompletionWrite (t : Nat) (door : Fin 4) (s : State) : Out := acts t (nextCompletion door) s

/-- JOURNAL_WRITE: a journal record is written (R127). -/
def execJournalWrite (t : Nat) (door : Fin 4) (s : State) : Out := acts t (nextJournal door) s

/-- READ_VIEW: READ_VIEW executes (R114). -/
def execReadView (t : Nat) (door : Fin 4) (s : State) : Out := acts t (readViewNext door) s

/-- TX_FRAME: TX_FRAME executes (R148). -/
def execTxFrame (t : Nat) (door : Fin 4) (s : State) : Out := acts t (txFrame door) s

/-- RX_POST: RX_POST executes (R149). -/
def execRxPost (t : Nat) (door : Fin 4) (s : State) : Out := acts t (rxPost door) s

/-- EXPORT: EXPORT executes (R401). -/
def execExportCmd (t : Nat) (door : Fin 4) (ladders : List Ladder) (s : State) : Out := acts t (exportNext door ladders) s

end Sys2Proof.Machine
end

