-- ==== Sys2Proof/Machine/ExecDram.lean ====
section
/-! DEFINITION. The meanings of the commands of DRAM and DMA. -/

namespace Sys2Proof.Machine

/-- DRAM_COMMAND: a subchannel picks and issues one command (R354). -/
def execDramCommand (t : Nat) (c : Fin 16) (blocked : List Nat) (s : State) : Out := acts t (dramCommand c blocked) s

/-- DRAM_READ_DATA: read data returns (R365, R366). -/
def execDramReadData (t : Nat) (c : Fin 16) (outcome : ReadOutcome) (s : State) : Out := acts t (readData c outcome) s

/-- FENCE: a FENCE of a port (R358). -/
def execFence (t : Nat) (port : Fin 24) (s : State) : Out := acts t (fencePort port) s

/-- DRAM_REFRESH: a same-bank refresh (R359). -/
def execDramRefresh (t : Nat) (c : Fin 16) (rank : Fin 2) (s : State) : Out := acts t (dramRefresh c rank) s

/-- MR4_READ: MR4 is read (R359). -/
def execMr4Read (t : Nat) (c : Fin 16) (hot : Bool) (s : State) : Out := acts t (mr4Read c hot) s

/-- TRIM_PERIOD: the end of a trim period (R362). -/
def execTrimPeriod (t : Nat) (c : Fin 16) (lanes : List LaneTrim) (osc : List Nat) (s : State) : Out := acts t (trimPeriod c lanes osc) s

/-- RETRAIN: a subchannel retrains (R363). -/
def execRetrain (t : Nat) (c : Fin 16) (ok : Bool) (s : State) : Out := acts t (retrainSub c ok) s

/-- PATROL_SCRUB: patrol scrub reads its next line (R369). -/
def execPatrolScrub (t : Nat) (c : Fin 16) (ecs : Nat) (s : State) : Out := acts t (patrolScrub c ecs) s

/-- SELF_REFRESH_ENTRY: self-refresh entry (R360). -/
def execSelfRefreshEntry (t : Nat) (s : State) : Out := acts t selfRefreshEntry s

/-- SELF_REFRESH_EXIT: self-refresh exit (R360). -/
def execSelfRefreshExit (t : Nat) (failed : List (Fin 16)) (s : State) : Out := acts t (selfRefreshExit (failed.map (·.val))) s

/-- DMA_DOORBELL: DMA_CH_PTR.TAIL (R371). -/
def execDmaDoorbell (t : Nat) (door : Fin 4) (c : Fin 32) (value : Word) (s : State) : Out :=
  acts t (dmaDoorbell door c value) s

/-- DMA_FETCH: a channel fetches a descriptor (R370). -/
def execDmaFetch (t : Nat) (c : Fin 32) (bytes : List Byte) (s : State) : Out := acts t (dmaFetch c bytes) s

/-- DMA_TRANSFER: a descriptor is checked and starts to move (R372, R373). -/
def execDmaTransfer (t : Nat) (c : Fin 32) (s : State) : Out := acts t (dmaTransfer c) s

/-- DMA_BURST_COMPLETE: a burst completes (R375). -/
def execDmaBurstComplete (t : Nat) (c : Fin 32) (host : HostRead) (ladders : List Ladder) (s : State) : Out :=
  acts t (dmaBurstComplete c host ladders) s

/-- DMA_WITHDRAW: WITHDRAW, or EN cleared (R376). -/
def execDmaWithdraw (t : Nat) (door : Fin 4) (c : Fin 32) (clearEn : Bool) (s : State) : Out :=
  acts t (dmaWithdraw door c clearEn) s

end Sys2Proof.Machine
end

