-- ==== Sys2Proof/Machine/Jtag.lean ====
section
/-! DEFINITION. The JTAG port (Electrical, thermal and package; R491). The port meets IEEE 1149.1: an instruction selects the
register between TDI and TDO and what drives the pins. -/

namespace Sys2Proof.Machine

/-- The word that IDCODE reads: version 0x2, part 0x6410, manufacturer 0x3C7 (R491). -/
def idCode : Word := 0x2641078F

/-- Whether the board has taken the main rails away after a trip (R480, R493). -/
def railsGone (s : State) : Bool := s.pins.tripped && !s.pins.pwrGood

/-- The port takes an instruction: what its register captured, and whether the boundary register drives the pins or they are
in high impedance. It is powered by VDDIO_MAIN, which is off in Keep (Table 1). Assumption 141 (PRESUMED). -/
def jtagSelect (i : JtagInstr) (dr : Word) (driving hiZ : Bool) (s : State) : State :=
  if inKeep s ∨ railsGone s then s
  else { s with jtag := { s.jtag with inReset := false, instr := i, dr := dr, driving := driving, hiZ := hiZ } }

/-- BYPASS: the one-bit bypass register, which captures 0. -/
def jtagBypass (s : State) : State := jtagSelect .bypass 0 false false s

/-- IDCODE. -/
def jtagIdcode (s : State) : State := jtagSelect .idcode idCode false false s

/-- The boundary register takes what is shifted in, cell 0 first. -/
def loadCells (cells : List Bool) (s : State) : State :=
  { s with jtag := { s.jtag with boundary := (cells.mapIdx fun i b => (i, b)).filter (·.2) } }

/-- SAMPLE/PRELOAD: the pins keep their functions while the boundary register is loaded. -/
def jtagSamplePreload (cells : List Bool) (s : State) : State :=
  if inKeep s ∨ railsGone s then s else loadCells cells (jtagSelect .samplePreload 0 false false s)

/-- EXTEST: the boundary register, with what is shifted into it, drives the pins. -/
def jtagExtest (cells : List Bool) (s : State) : State :=
  if inKeep s ∨ railsGone s then s else loadCells cells (jtagSelect .extest 0 true false s)

/-- CLAMP: the boundary register holds the pins with the bypass register selected. -/
def jtagClamp (s : State) : State := jtagSelect .clamp 0 true false s

/-- HIGHZ: the outputs are in high impedance with the bypass register selected. -/
def jtagHighz (s : State) : State := jtagSelect .highz 0 false true s

/-- TEST_LOGIC_RESET: TRST_N low holds the port in Test-Logic-Reset, where IDCODE is selected and the pins have their
functions. -/
def jtagReset (s : State) : State :=
  { s with jtag := { s.jtag with inReset := true, instr := .idcode, dr := 0, driving := false, hiZ := false } }

end Sys2Proof.Machine
end

