-- ==== Sys2Proof/Machine/ExecEvents.lean ====
section
/-! DEFINITION. The meanings of the commands of events and errors, links, the JTAG port and pins. -/

namespace Sys2Proof.Machine

/-- EVENT_TEST: EVT_TEST (R468). -/
def execEventTest (t : Nat) (door : Fin 4) (value : Word) (s : State) : Out := acts t (eventTest door value) s

/-- EVENT_CLEAR: BLK_EVT_STAT (R461). -/
def execEventClear (t : Nat) (door : Fin 4) (block : Block) (value : Word) (s : State) : Out :=
  acts t (eventClear door block value) s

/-- ERROR_CLEAR: BLK_ERR_FIRST (R472). -/
def execErrorClear (t : Nat) (door : Fin 4) (block : Block) (value : Word) (s : State) : Out :=
  acts t (errorClear door block value) s

/-- ALERT_CLEAR: EVT_ALERT (R464). -/
def execAlertClear (t : Nat) (door : Fin 4) (value : Word) (s : State) : Out := acts t (alertClear door value) s

/-- DOOR_LINK_CHANGE: a door's PCIe link changes (R101). -/
def execDoorLinkChange (t : Nat) (door : Fin 4) (up : Bool) (speed : Fin 8) (width : Fin 16) (s : State) : Out :=
  acts t (doorLinkChange door up speed width) s

/-- BYPASS: BYPASS (R491). -/
def execJtagBypass (s : State) : Out := .next (jtagBypass s)

/-- IDCODE: IDCODE (R491). -/
def execJtagIdcode (s : State) : Out := .next (jtagIdcode s)

/-- SAMPLE_PRELOAD: SAMPLE/PRELOAD (R491). -/
def execJtagSamplePreload (cells : List Bool) (s : State) : Out := .next (jtagSamplePreload cells s)

/-- EXTEST: EXTEST (R491). -/
def execJtagExtest (cells : List Bool) (s : State) : Out := .next (jtagExtest cells s)

/-- CLAMP: CLAMP (R491). -/
def execJtagClamp (s : State) : Out := .next (jtagClamp s)

/-- HIGHZ: HIGHZ (R491). -/
def execJtagHighz (s : State) : Out := .next (jtagHighz s)

/-- TEST_LOGIC_RESET: TRST_N low (R491). -/
def execTestLogicReset (s : State) : Out := .next (jtagReset s)

/-- RESET_N_RELEASE: RESET_N is released (R88). -/
def execResetRelease (t : Nat) (s : State) : Out := acts t resetRelease s

/-- KEEP_RAILS_POWER_UP: VDDIO_AON comes within tolerance (R479). -/
def execKeepRailsPowerUp (t : Nat) (s : State) : Out := acts t keepRailsUp s

/-- PLL_MONOSC_RELOCK: PLL_DRAM and PLL_UCR lock to MONOSC (R438). -/
def execPllMonoscRelock (t : Nat) (s : State) : Out := acts t pllMonoscRelock s

/-- DDR5_CA_PARITY_ALERT: a DDR5 CA parity alert (R367). -/
def execDdr5CaParityAlert (t : Nat) (c : Fin 16) (window : List Nat) (repeats : Bool) (s : State) : Out :=
  acts t (caParityAlert c window repeats) s

/-- ROW_IDLE_TIMEOUT: an idle row closes (R356). -/
def execRowIdleTimeout (t : Nat) (c : Fin 16) (bank : Fin 64) (s : State) : Out := acts t (rowIdle c bank) s

/-- FEC_UNCORRECTABLE_CODEWORD: an RS-FEC codeword that cannot be corrected (R132). -/
def execFecUncorrectable (t : Nat) (port : Fin 4) (hiSer : Bool) (s : State) : Out := acts t (fecUncorrectable port hiSer) s

end Sys2Proof.Machine
end

