-- ==== Sys2Proof/Machine/Rtcp.lean ====
section
/-! DEFINITION. The RTCP that the ports generate: sender reports, receiver reports, RFC 8888 feedback, PLI and FIR (R146,
Table 6 of Media ports and leg queues). -/

namespace Sys2Proof.Machine

/-- NTP seconds and fraction of an instant: RFC 3550 counts seconds from 1900. -/
def ntpOf (t : Treads) : Nat × Nat := ((secondsOf t + 2208988800) % 4294967296, treadsOf t * 4294967296 / treadsPerSecond)

/-- The middle 32 bits of an instant's NTP time. -/
def ntpMid (t : Treads) : Nat := (ntpOf t).1 % 65536 * 65536 + (ntpOf t).2 / 65536

/-- The header of an RTCP packet: count, type and length in words less one. -/
def rtcpHead (count pt words : Nat) : List Byte := beBytes 1 (128 + count) ++ beBytes 1 pt ++ beBytes 2 (words - 1)

/-- The CNAME that ETH_CNAME spells: up to its first zero byte. -/
def cname (s : State) : List Byte :=
  ((List.range 4).flatMap fun n => leBytes 4 (getF s (Reg.ETH_CNAME_TEXT n))).takeWhile (· != 0)

/-- An SDES packet with the CNAME, padded to a word. -/
def sdes (s : State) (ssrc : Nat) : List Byte :=
  let items := beBytes 1 1 ++ beBytes 1 (cname s).length ++ cname s
  let body := beBytes 4 ssrc ++ items ++ List.replicate (4 - items.length % 4) 0
  rtcpHead 1 202 (1 + body.length / 4) ++ body

/-- A sender report without report blocks. -/
def senderReport (s : State) (q : Nat) : List Byte :=
  let x := queueOf s q
  rtcpHead 0 200 7 ++ beBytes 4 (templateSsrc s q) ++ beBytes 4 (ntpOf x.lastSlot).1 ++ beBytes 4 (ntpOf x.lastSlot).2 ++
  beBytes 4 x.lastTs ++ beBytes 4 x.enqueued ++ beBytes 4 x.octets

/-- Packets that a source's sequences expect. -/
def expectedOf (x : RxStats) : Nat := x.top + 1 - x.base

/-- Fraction lost since the last report, in 1/256 (RFC 3550 A.3). -/
def fractionLost (x : RxStats) : Nat :=
  let e := expectedOf x - x.lastExp
  let r := x.received - x.lastRecv
  if e ≤ r then 0 else (e - r) * 256 / e

/-- The report block of a source (RFC 3550 §6.4.1); LSR and DLSR from the last SR kept. -/
def reportBlock (s : State) (key : Nat) (x : RxStats) (at_ : Treads) : List Byte :=
  let lost : Int := clampI (-8388608) 8388607 ((expectedOf x : Int) - x.received)
  let (lsr, dlsr) := match sgetC none s.ports.senderSr key with
    | some (mid, t) => (mid, (at_ - t) * 65536 / treadsPerSecond)
    | none => (0, 0)
  beBytes 4 x.ssrc ++ beBytes 1 (fractionLost x) ++ beBytes 3 (ofSigned 24 lost) ++ beBytes 4 x.top ++
  beBytes 4 (x.jitter / 16) ++ beBytes 4 lsr ++ beBytes 4 dlsr

/-- A receiver report with a source's block, or with none. -/
def receiverReport (ssrc : Nat) (block : List Byte) : List Byte :=
  rtcpHead (block.length / 24) 201 (2 + block.length / 4) ++ beBytes 4 ssrc ++ block

/-- One metric block of RFC 8888: R, ECN 0 and the arrival time offset in 1/1,024 s, 0x1FFE where it is larger. -/
def metricBlock (at_ : Treads) (stamp : Option Treads) : List Byte :=
  match stamp with
  | none => beBytes 2 0
  | some t => beBytes 2 (32768 + min 8190 ((at_ - t) * 1024 / treadsPerSecond))

/-- RFC 8888 feedback over the set of a stream's flight, reported at the flight's start; an empty set has no report block. -/
def ccfbPacket (ssrc : Nat) (x : FeedbackDue) : List Byte :=
  match x.recs with
  | [] =>
    let body := beBytes 4 ssrc ++ beBytes 4 (ntpMid x.start)
    rtcpHead 11 205 (1 + body.length / 4) ++ body
  | (q0, _) :: _ =>
    let ds := x.recs.map fun r => (seqDistance r.1 q0, r.2)
    let lo := ds.foldl (fun m d => min m d.1) 0
    let hi := ds.foldl (fun m d => max m d.1) 0
    let n := (hi - lo).toNat + 1
    let blocks := (List.range n).flatMap fun (i : Nat) =>
      metricBlock x.start ((ds.find? fun d => d.1 == lo + ((i : Nat) : Int)).map (·.2))
    let body := beBytes 4 ssrc ++ beBytes 4 x.ssrc ++ beBytes 2 (ofSigned 16 ((q0 : Int) + lo)) ++ beBytes 2 n ++
      blocks ++ List.replicate (blocks.length % 4) 0 ++ beBytes 4 (ntpMid x.start)
    rtcpHead 11 205 (1 + body.length / 4) ++ body

/-- A PLI (RFC 4585). -/
def pliPacket (ssrc media : Nat) : List Byte := rtcpHead 1 206 3 ++ beBytes 4 ssrc ++ beBytes 4 media

/-- A FIR with its sequence number (RFC 5104). -/
def firPacket (ssrc media seq : Nat) : List Byte :=
  rtcpHead 4 206 5 ++ beBytes 4 ssrc ++ beBytes 4 0 ++ beBytes 4 media ++ beBytes 1 seq ++ [0, 0, 0]

/-- A compound packet enters the control queue of its queue's port under that queue's header, its UDP destination port
plus one; SRTCP where the queue's context holds a key, with the next SRTCP index, which a packet beyond 2³¹ − 1 would pass
(R146, R172). -/
def sendRtcp (q : Nat) (compound : List Byte) (s : State) : State :=
  let hdr := hdrBytes s q
  let udp := ipAt hdr + ipLen hdr
  let h := hdr.take (udp + 8)
  let h := putAt h (udp + 2) (beBytes 2 (beNat ((h.drop (udp + 2)).take 2) + 1))
  let x := txOf s q
  let p := getF s (Reg.QUEUE_PORT q)
  let csum := getF s (Reg.QUEUE_CSUM q) == 1
  match x.key with
  | none => pushControl p ⟨fillFrame h compound csum, s.now, none, none, none⟩ s
  | some k =>
    if 2147483648 ≤ x.srtcp then incF s (Reg.CIP_CNT_COUNT 5)
    else
      let body := protectRtcp k x.srtcp compound
      pushControl p ⟨fillFrame h body csum, s.now, none, none, some q⟩ (setTx q { x with srtcp := x.srtcp + 1 } s)

/-- The queue whose header the RTCP of a received object uses: a leg's own queue, path A's before path B's, and with neither
path enabled QUEUE_A where its header is valid; the manual names none for a stream or an input, whose queue is open
(Config.rtcpQueue). Assumption 168 (DESIGN CHOICE). -/
def objectQueue (s : State) (key : Nat) : Option Nat :=
  let object := key % 65536
  if key / 65536 = 1 then
    if getF s (Reg.LEG_A_EN object) = 1 then some (getF s (Reg.LEG_QUEUE_A object))
    else if getF s (Reg.LEG_B_EN object) = 1 then some (getF s (Reg.LEG_QUEUE_B object))
    else if queueTemplateOk s (getF s (Reg.LEG_QUEUE_A object)) then some (getF s (Reg.LEG_QUEUE_A object))
    else none
  else some (Config.rtcpQueue key % 32768)

/-- Whether an object's RTCP leaves through port p. -/
def objectPort (s : State) (p key : Nat) : Bool := (objectQueue s key).any fun q => getF s (Reg.QUEUE_PORT q) == p

/-- The queues that generate sender reports on port p. -/
def srQueues (s : State) (p : Nat) : List Nat :=
  (s.regs.filterMap fun e =>
    if 0x80400000 ≤ e.1 ∧ e.1 < 0x80C00000 ∧ e.1 % 256 = 0 then some ((e.1 - 0x80400000) / 256) else none).filter fun q =>
      getF s (Reg.QUEUE_EN q) == 1 && getF s (Reg.QUEUE_RTCP q) == 1 && getF s (Reg.QUEUE_PORT q) == p

/-- Whether a report of a number falls due in audio flight n. -/
def reportDue (s : State) (n i : Nat) : Bool :=
  let v := getF s Reg.ETH_RTCP_CFG_INTERVAL
  v != 0 && (n + i) % v == 0

/-- The receiver report of an object at audio flight n. -/
def sendRr (n key : Nat) (s : State) : State :=
  match sgetC none s.ports.rxStats key, objectQueue s key with
  | some x, some q =>
    let ssrc := templateSsrc s q
    let c := receiverReport ssrc (reportBlock s key x (n * flightLen s)) ++ sdes s ssrc
    let x := { x with lastExp := expectedOf x, lastRecv := x.received }
    sendRtcp q c { s with ports := { s.ports with rxStats := ssetC none s.ports.rxStats key (some x) } }
  | _, _ => s

/-- The SSRC of a stream's source. -/
def streamSsrc (s : State) (n : Nat) : Nat := match sgetC none s.ports.rxStats (objKey 2 n) with | some x => x.ssrc | none => 0

/-- One stream's feedback. -/
def sendFeedback (x : FeedbackDue) (s : State) : State :=
  match objectQueue s (objKey 2 x.stream) with
  | some q =>
    let ssrc := templateSsrc s q
    sendRtcp q (receiverReport ssrc [] ++ sdes s ssrc ++ ccfbPacket ssrc x) s
  | none => s

/-- One key-frame request of a stream (R146, R247). -/
def sendKeyRequest (n : Nat) (fir : Bool) (s : State) : State :=
  match objectQueue s (objKey 2 n) with
  | some q =>
    let ssrc := templateSsrc s q
    let head := receiverReport ssrc [] ++ sdes s ssrc
    if fir then
      let k := sgetC 0 s.ports.firSeq n
      sendRtcp q (head ++ firPacket ssrc (streamSsrc s n) k)
        { s with ports := { s.ports with firSeq := ssetC 0 s.ports.firSeq n ((k + 1) % 256) } }
    else sendRtcp q (head ++ pliPacket ssrc (streamSsrc s n)) s
  | none => s

/-- What port p generates in audio flight n (Table 6). -/
def generateRtcp (p n : Nat) (s : State) : State :=
  let at_ := n * flightLen s
  let s := ((srQueues s p).filter fun q => reportDue s n q).foldl
    (fun s q => sendRtcp q (senderReport s q ++ sdes s (templateSsrc s q)) s) s
  let s := ((s.ports.rxStats.map (·.1)).filter fun k => objectPort s p k && reportDue s n (k % 65536)).foldl
    (fun s k => sendRr n k s) s
  let mine := fun (x : FeedbackDue) => objectPort s p (objKey 2 x.stream) && decide (x.start ≤ at_)
  let due := s.ports.feedback.filter mine
  let s := { s with ports := { s.ports with feedback := s.ports.feedback.filter fun x => !due.contains x } }
  let s := due.foldl (fun s x => sendFeedback x s) s
  let reqs := s.ports.rtcpDue.filter fun r => objectPort s p (objKey 2 r.1) && decide (r.2.2 < at_)
  let s := { s with ports := { s.ports with rtcpDue := s.ports.rtcpDue.filter fun r => !reqs.contains r } }
  reqs.foldl (fun s r => sendKeyRequest r.1 r.2.1 s) s

/-- RTCP_GENERATION_TASK (R146): the running release of port p's task. -/
def rtcpTask (p : Nat) (s : State) : State :=
  match runningOf s (22304 + p) with
  | some r => setExit (22304 + p) 0 (generateRtcp p r.flight s)
  | none => s

end Sys2Proof.Machine
end

