-- ==== Sys2Proof/Machine/ExecMedia.lean ====
section
/-! DEFINITION. The meanings of the commands of Landing cores beyond their instructions, and the media tasks. -/

namespace Sys2Proof.Machine

/-- CORE_TASK_ENTRY: core n enters its task (R195). -/
def execCoreTaskEntry (t : Nat) (n : Fin 512) (bad : List (BitVec 13)) (s : State) : Out := acts t (coreTaskEntry n bad) s

/-- PUT_DELIVERY: the oldest PUT of core n is delivered (R198). -/
def execPutDelivery (t : Nat) (n : Fin 512) (s : State) : Out := acts t (putDelivery n) s

/-- LIMIT_EXCEEDED: core n runs beyond LND_LIMIT (R203). -/
def execLimitExceeded (t : Nat) (n : Fin 512) (cycles : Nat) (s : State) : Out := acts t (limitExceeded n cycles) s

/-- PEEK: LND_PEEK_ADDR (R194). -/
def execPeek (t : Nat) (door : Fin 4) (value : Word) (s : State) : Out :=
  acts t (busWrite door Reg.LND_PEEK_ADDR_WORD.addr value (fun s => peekCore (storeWord Reg.LND_PEEK_ADDR_WORD.addr value s))) s

/-- LEG_IN_TASK: a leg-in task (R205). -/
def execLegInTask (t : Nat) (leg : Fin 10240) (given : List (List Int)) (s : State) : Out :=
  acts t (asRelease leg (legInTask leg given)) s

/-- LEG_OUT_TASK: a codec leg-out task (R204). -/
def execLegOutTask (t : Nat) (leg : Fin 10240) (frames : List (Option (List Byte))) (s : State) : Out :=
  acts t (asRelease (10240 + leg.val) (legOutTask leg frames)) s

/-- BUS_TASK: a bus task (R215). -/
def execBusTask (t : Nat) (n : Fin 32) (faults : List (GalWord × Bool)) (s : State) : Out :=
  acts t (asRelease (21632 + n.val) (busTask n faults)) s

/-- RECIPE_TASK: a recipe task (R219). -/
def execRecipeTask (t : Nat) (n : Fin 40) (faults : List (GalWord × Bool)) (s : State) : Out :=
  acts t (asRelease (21664 + n.val) (recipeTask n faults)) s

/-- SIDETONE_PACKET_WRITE: a packet with side-tone (R224). -/
def execSidetonePacketWrite (t : Nat) (leg : Fin 10240) (s : State) : Out := acts t (sidetonePacketWrite leg) s

/-- DECODE_TASK: a decode task (R240). -/
def execDecodeTask (t : Nat) (n : Fin 256) (starts : List Nat) (results : List AuResult) (sram : Nat) (s : State) : Out :=
  acts t (asRelease (21704 + n.val) (decodeTask n starts results sram)) s

/-- KEY_FRAME_REQUEST: a decode task's PLI or FIR (R247). -/
def execKeyFrameRequest (t : Nat) (n : Fin 256) (s : State) : Out := acts t (keyFrameRequest n) s

/-- DECODE_TIMEOUT: a decode task runs too long (R249). -/
def execDecodeTimeout (t : Nat) (n : Fin 256) (starts : List Nat) (s : State) : Out :=
  acts t (asRelease (21704 + n.val) (decodeTimeout n starts)) s

/-- COMPOSITION_TASK: a composition task (R260). -/
def execCompositionTask (t : Nat) (c : Fin 64) (sram : Nat) (bad : List (Nat × Option Nat)) (s : State) : Out :=
  acts t (asRelease (21960 + c.val) (compositionTask c sram bad)) s

/-- INPUT_TASK: an input task (R268). -/
def execInputTask (t : Nat) (inp : Fin 16) (sram : Nat) (badRows : List Nat) (s : State) : Out :=
  acts t (asRelease (22024 + inp.val) (inputTask inp sram badRows)) s

/-- OUTPUT_TASK: an output task (R271). -/
def execOutputTask (t : Nat) (n : Fin 8) (sram : Nat) (badRows : List Nat) (s : State) : Out :=
  acts t (asRelease (22040 + n.val) (outputTask n sram badRows)) s

/-- HALL_TIMEOUT: a Hall task runs too long (R272). -/
def execHallTimeout (t : Nat) (n : Fin 88) (s : State) : Out := acts t (asRelease (21960 + n.val) (hallTimeout (21960 + n.val))) s

/-- ENCODE_TASK: an encode task (R280). -/
def execEncodeTask (t : Nat) (p : Fin 64) (l : Fin 3) (sram : Nat) (s : State) : Out :=
  acts t (asRelease (22048 + 3 * p.val + l.val) (encodeTask p l sram)) s

/-- ENCODE_TIMEOUT: an encode task runs too long (R301). -/
def execEncodeTimeout (t : Nat) (p : Fin 64) (l : Fin 3) (s : State) : Out :=
  acts t (asRelease (22048 + 3 * p.val + l.val) (encodeTimeout p l)) s

/-- FORWARDING_TASK: a forwarding task (R303). -/
def execForwardingTask (t : Nat) (p : Fin 64) (errors : List FwdError) (s : State) : Out :=
  acts t (asRelease (22240 + p.val) (forwardingTask p errors)) s

/-- RTCP_GENERATION_TASK: a port's RTCP task (R146). -/
def execRtcpGenerationTask (t : Nat) (port : Fin 4) (s : State) : Out := acts t (asRelease (22304 + port.val) (rtcpTask port)) s

end Sys2Proof.Machine
end

