-- ==== Sys2Proof/Machine/ExecPorts.lean ====
section
/-! DEFINITION. The meanings of the commands of ports, leg queues, the shaper, gates and the cipher engine. -/

namespace Sys2Proof.Machine

/-- FRAME_RECEIVE: an ingress frame (R133). -/
def execFrameReceive (t : Nat) (frame : RxFrame) (s : State) : Out := acts t (frameReceive frame) s

/-- PATH_TIMEOUT: a merge path goes down (R141). -/
def execPathTimeout (t : Nat) (kind : Fin 8) (otype : Fin 4) (object : BitVec 16) (path : Fin 2) (s : State) : Out :=
  acts t (pathTimeoutAt kind otype object.toNat path) s

/-- PORT_LINK_CHANGE: a media port's link changes (R132). -/
def execPortLinkChange (t : Nat) (port : Fin 4) (up hiSer : Bool) (s : State) : Out := acts t (portLinkChange port up hiSer) s

/-- QUEUE_WORD_ACCEPT: a producer presents a word (R154). -/
def execQueueWordAccept (t : Nat) (q : Fin 32768) (w : QWord) (s : State) : Out := acts t (queueWordAccept q w) s

/-- STALL_LIMIT_EXPIRY: a producer has waited longer than STALL_LIMIT (R154). -/
def execStallLimitExpiry (t : Nat) (q : Fin 32768) (s : State) : Out := acts t (stallLimitExpiry q) s

/-- SCHEDULER_PICK: an idle port picks (R314). -/
def execSchedulerPick (t : Nat) (port : Fin 4) (delay : Nat) (fault : Option (Fin 8)) (word : PoisonCause)
    (errors : List ShpError) (s : State) : Out :=
  acts t (schedulerPick port delay fault word errors) s

/-- EMISSION_WINDOW_EXPIRY: head packets beyond their window (R321). -/
def execEmissionWindowExpiry (t : Nat) (q : Fin 32768) (s : State) : Out := acts t (emissionWindowExpiry q) s

/-- GATE_ENTRY_CHANGE: the next entry of a gate list (R322). -/
def execGateEntryChange (t : Nat) (port : Fin 4) (s : State) : Out := acts t (gateEntryChange port) s

/-- GATE_LIST_START: a committed gate list comes into force (R323). -/
def execGateListStart (t : Nat) (port : Fin 4) (s : State) : Out := acts t (gateListStart port) s

/-- CIPHER_RECEIVE_PASS: the CIPHER records of a final set (R168). -/
def execCipherReceivePass (t : Nat) (owner : SetOwner) (flight : Nat) (s : State) : Out :=
  acts t (cipherReceivePass owner flight) s

/-- TAG_CHECK: a tag check completes (R171). -/
def execTagCheck (t : Nat) (owner : SetOwner) (flight n : Nat) (fault : Option (Fin 8)) (s : State) : Out :=
  acts t (fun s => fillFoyers (tagCheck owner flight n fault s)) s

/-- ENTROPY_FAIL: the entropy source fails its test (R174). -/
def execEntropyFail (t : Nat) (s : State) : Out := acts t entropyFail s

/-- ENTROPY_PASS: the entropy source passes again (R174). -/
def execEntropyPass (t : Nat) (s : State) : Out := acts t entropyPass s

end Sys2Proof.Machine
end

