-- ==== Sys2Proof/Machine/ExecStairwell.lean ====
section
/-! DEFINITION. The meanings of the commands of the Stairwell. -/

namespace Sys2Proof.Machine

/-- RELEASE_INSTANT: a release opens or overruns (R331). -/
def execReleaseInstant (t : Nat) (task : Fin 131072) (s : State) : Out := acts t (releaseInstant task) s

/-- OPERAND_DELIVERY: a delivery (R334). -/
def execOperandDelivery (t : Nat) (task : Fin 131072) (op : Fin 16) (src : Nat) (next present poison : Bool) (s : State) : Out :=
  acts t (operandDelivery task op src next present poison) s

/-- OPERAND_TIMEOUT: operands that wait become absent (R336). -/
def execOperandTimeout (t : Nat) (task : Fin 131072) (flight : Nat) (s : State) : Out := acts t (operandTimeout task flight) s

/-- RELEASE_STAGE: a ready release is staged (R339). -/
def execReleaseStage (t : Nat) (cls : Fin 12) (sram : StairError) (s : State) : Out := acts t (fun s => fillFoyers (releaseStage cls sram s)) s

/-- RELEASE_START: a staged release runs (R340). -/
def execReleaseStart (t : Nat) (cls : Fin 12) (engine : Fin 512) (s : State) : Out := acts t (fun s => fillFoyers (releaseStart cls engine s)) s

/-- RELEASE_COMPLETE: an engine reports an exit code (R341). -/
def execReleaseComplete (t : Nat) (task : Fin 131072) (code : BitVec 8) (s : State) : Out :=
  acts t (completeRelease task code.toNat) s

/-- DEADLINE_MISS: a release has not completed in time (R343). -/
def execDeadlineMiss (t : Nat) (task : Fin 131072) (flight : Nat) (s : State) : Out := acts t (deadlineMiss task flight) s

end Sys2Proof.Machine
end

