-- ==== Sys2Proof/Machine/ExecStart.lean ====
section
/-! DEFINITION. The meanings of the commands of start-up, resets, the owner query and recovery. -/

namespace Sys2Proof.Machine

/-- COLD_RESET: RESET_N is asserted (R93). -/
def execColdReset (t : Nat) (hot : Bool) (s : State) : Out := acts t (coldReset hot) s

/-- ISLAND_READY: step 1 (R88). -/
def execIslandReady (t : Nat) (us : Nat) (s : State) : Out := acts t (islandReady us) s

/-- FUSE_READ: step 2 (R88). -/
def execFuseRead (t : Nat) (us : Nat) (fuse : FuseRead) (s : State) : Out := acts t (fuseRead us fuse) s

/-- PLL_LOCK: step 3 (R88). -/
def execPllLock (t : Nat) (us : Nat) (found : Population) (s : State) : Out := acts t (pllLock us found) s

/-- CHARTER_LOAD: step 4 (R82, R83). -/
def execCharterLoad (t : Nat) (us : Nat) (slotA slotB : SlotRead) (s : State) : Out := acts t (charterLoad us slotA slotB) s

/-- CONFIGURATION_SEAL: step 5 (R89). -/
def execConfigurationSeal (t : Nat) (us : Nat) (s : State) : Out := acts t (configurationSeal us) s

/-- DRAM_TRAINING: step 6 (R361). -/
def execDramTraining (t : Nat) (us : Nat) (failed : List (Fin 16)) (s : State) : Out :=
  acts t (dramTraining us (failed.map (·.val))) s

/-- UNDERCROFT_MOUNT: step 7 (R390). -/
def execUndercroftMount (t : Nat) (us : Nat) (trained : List Bool) (s : State) : Out := acts t (undercroftMount us trained) s

/-- PTP_WAIT_EXPIRY: PTP_WAIT has passed in step 8 (R90). -/
def execPtpWaitExpiry (t : Nat) (us : Nat) (s : State) : Out := acts t (ptpWaitExpiry us) s

/-- PAIR_WAIT_EXPIRY: PAIR_WAIT has passed in step 9 (R91). -/
def execPairWaitExpiry (t : Nat) (us : Nat) (s : State) : Out := acts t (pairWaitExpiry us) s

/-- DOORS_OPEN: step 10 (R90). -/
def execDoorsOpen (t : Nat) (us : Nat) (s : State) : Out := acts t (doorsOpen us) s

/-- FIRST_FLIGHT: step 11: the first audio flight (R92). -/
def execFirstFlight (t : Nat) (us : Nat) (s : State) : Out := acts t (firstFlight us) s

/-- WARM_RESET: CHT_RESET.WARM (R94, R97). -/
def execWarmReset (t : Nat) (door : Fin 4) (s : State) : Out := acts t (warmReset door) s

/-- DOOR_RESET: a reset of one door (R96). -/
def execDoorReset (t : Nat) (door : Fin 4) (cause : DoorResetCause) (s : State) : Out := acts t (doorResetBy door cause) s

/-- OWNER_QUERY: CHT_OWNER_QUERY (R86). -/
def execOwnerQuery (t : Nat) (door : Fin 4) (value : Word) (s : State) : Out := acts t (ownerQuery door value) s

/-- RECOVERY_READ: CHT_REC_CTRL command 1 (R84). -/
def execRecoveryRead (t : Nat) (door : Fin 4) (s : State) : Out := acts t (recoveryRead door) s

/-- RECOVERY_PROGRAM: CHT_REC_CTRL command 2 (R84). -/
def execRecoveryProgram (t : Nat) (door : Fin 4) (s : State) : Out := acts t (recoveryProgram door) s

/-- RECOVERY_ERASE: CHT_REC_CTRL command 3 (R84). -/
def execRecoveryErase (t : Nat) (door : Fin 4) (s : State) : Out := acts t (recoveryErase door) s

/-- KEY_HASH_PROGRAM: CHT_REC_CTRL command 4 (R85). -/
def execKeyHashProgram (t : Nat) (door : Fin 4) (s : State) : Out := acts t (keyHashProgram door) s

/-- RECOVERY_DONE: a running recovery command completes (R84). -/
def execRecoveryDone (t : Nat) (failed : Bool) (data : List Byte) (s : State) : Out := acts t (recoveryDone failed data) s

end Sys2Proof.Machine
end

