-- ==== Sys2Proof/Machine/ExecSystem.lean ====
section
/-! DEFINITION. The meanings of the commands of registers, epochs, time and the modem. -/

namespace Sys2Proof.Machine

/-- REGISTER_WRITE: a write of a word with no row of its own is checked and stored or dropped (R12, R15, R104, R456); a word that has a row acts as its row. -/
def execRegisterWrite (t : Nat) (door : Fin 4) (win : Window) (offset : BitVec 30) (size : AccessSize) (value : BitVec 64) (s : State) : Out :=
  acts t (barAccess door win offset.toNat size value) s

/-- MALFORMED_ACCESS: an access of unsupported size or alignment; `read` is where it reads, none for a write (R12, R129). -/
def execMalformedAccess (t : Nat) (door : Fin 4) (read : Option (Window × BitVec 30)) (s : State) : Out :=
  acts t (match read with
    | some r => malformedRead door (codedAddr r.1 r.2.toNat)
    | none => malformedAccess door) s

/-- SNAPSHOT_READ: a read of BAR0, with the snapshot of a wide quantity at its lowest word (R13). -/
def execSnapshotRead (t : Nat) (door : Fin 4) (offset : BitVec 26) (size : AccessSize) (s : State) : Out :=
  acts t (snapshotRead door offset.toNat size) s

/-- RWE_WRITE: a write of an RWE word arrives as a request of the door (R17, R501). -/
def execRweWrite (t : Nat) (door : Fin 4) (win : Window) (offset : BitVec 30) (size : AccessSize) (value : BitVec 64) (s : State) : Out :=
  acts t (barAccess door win offset.toNat size value) s

/-- VIEW_READ: the view moves to the newest epoch (R123). -/
def execViewRead (t : Nat) (door : Fin 4) (s : State) : Out := acts t (viewRead door) s

/-- COMMIT_CUT: what has been staged and received is closed into the next epoch (R17, R417). -/
def execCommitCut (t : Nat) (s : State) : Out := acts t commitCut s

/-- AUDIO_FLIGHT_START: an audio flight starts: commit and releases (R53). -/
def execAudioFlightStart (t : Nat) (unwrapFault : Option (Fin 8)) (s : State) : Out := acts t (flightWithFault unwrapFault) s

/-- ARRIVAL_SET_CLOSE: an arrival set closes (R144). -/
def execArrivalSetClose (t : Nat) (owner : SetOwner) (flight : Nat) (s : State) : Out := acts t (arrivalSetClose owner flight) s

/-- SECOND_BOUNDARY: replicas reload and a paired device probes (R57, R412). -/
def execSecondBoundary (t : Nat) (disagree : List Block) (s : State) : Out := acts t (secondBoundary disagree) s

/-- OFFSET_SAMPLE: a write of the highest word of TIM_SERVO_OFS (R43, R44); `us` is the time of step 8 where the sample completes it. -/
def execOffsetSample (t : Nat) (door : Fin 4) (ofsHi : Word) (us : Nat) (s : State) : Out :=
  acts t (offsetCommand door ofsHi us) s

/-- HOLDOVER: HOLD_TIMEOUT treads have passed without a sample (R44). -/
def execHoldover (t : Nat) (s : State) : Out := acts t holdover s

/-- TIME_RESTART: TIM_CTRL.RESTART (R47). -/
def execTimeRestart (t : Nat) (door : Fin 4) (s : State) : Out := acts t (timeRestart door) s

/-- FLIGHTS_HALT: the boundary after a time restart (R47). -/
def execFlightsHalt (t : Nat) (s : State) : Out := acts t flightsHalt s

/-- FLIGHTS_RESUME: flights resume after the new step (R47). -/
def execFlightsResume (t : Nat) (s : State) : Out := acts t flightsResume s

/-- CAPTURE_EDGE: an accepted edge of a capture input (R58). -/
def execCaptureEdge (t : Nat) (ch : Fin 9) (stamp : Nat) (falling : Bool) (s : State) : Out :=
  acts t (captureEdge ch stamp falling) s

/-- CAPTURE_POP: TIM_CAP_POP (R59). -/
def execCapturePop (t : Nat) (door : Fin 4) (ch : Fin 9) (s : State) : Out :=
  acts t (busWrite door (Reg.TIM_CAP_POP_POP ch).addr 1 (capturePop ch)) s

/-- TX_STAMP_APPEND: the stamp of a message that has left (R64). -/
def execTxStampAppend (t : Nat) (s : State) : Out := acts t txStampNext s

/-- TX_STAMP_POP: TIM_TXQ_POP (R65). -/
def execTxStampPop (t : Nat) (door : Fin 4) (s : State) : Out := acts t (busWrite door Reg.TIM_TXQ_POP_POP.addr 1 txStampPop) s

/-- TRIGGER_CONFIG_APPLY: a committed configuration of TRIG_OUT[n] takes effect (R61). -/
def execTriggerConfigApply (t : Nat) (n : Fin 8) (s : State) : Out := acts t (trigSettle n) s

/-- TRIGGER_EDGE: an edge instant of TRIG_OUT[n] (R60). -/
def execTriggerEdge (t : Nat) (n : Fin 8) (s : State) : Out := acts t (triggerEdge n) s

/-- TRIGGER_PULSE_END: TRIG_OUT[n] returns inactive (R60). -/
def execTriggerPulseEnd (t : Nat) (n : Fin 8) (s : State) : Out := acts t (triggerPulseEnd n) s

/-- LTC_DECODER_TASK: decoder n scans its leg (R68 to R71). -/
def execLtcDecoderTask (t : Nat) (n : Fin 64) (s : State) : Out := acts t (asRelease (20480 + n.val) (ltcDecoderTask n)) s

/-- LTC_GENERATOR_TASK: generator n writes its leg (R73). -/
def execLtcGeneratorTask (t : Nat) (n : Fin 64) (s : State) : Out := acts t (asRelease (20544 + n.val) (ltcGeneratorTask n)) s

/-- TONE_DETECTOR_TASK: detector n tests its blocks (R76). -/
def execToneDetectorTask (t : Nat) (n : Fin 1024) (s : State) : Out := acts t (asRelease (20608 + n.val) (toneDetectorTask n)) s

/-- DECODER_POP: TCM_DEC_POP (R72). -/
def execDecoderPop (t : Nat) (door : Fin 4) (n : Fin 64) (s : State) : Out :=
  acts t (busWrite door (Reg.TCM_DEC_POP_POP n).addr 1 (decoderPop n)) s

/-- TONE_POP: TCM_TONE_POP (R77). -/
def execTonePop (t : Nat) (door : Fin 4) (s : State) : Out :=
  acts t (busWrite door (Reg.TCM_TONE_POP_POP door).addr 1 (tonePop door)) s

end Sys2Proof.Machine
end

