-- ==== Sys2Proof/Machine/ExecTwin.lean ====
section
/-! DEFINITION. The meanings of the commands of the Newel link and the pair. -/

namespace Sys2Proof.Machine

/-- NEWEL_LINK_UP: every lane has trained (R407). -/
def execNewelLinkUp (t : Nat) (lanes : List (Bool × Fin 8 × BitVec 8)) (s : State) : Out := acts t (newelLinkUp lanes) s

/-- NEWEL_LINK_DOWN: the link goes down (R409). -/
def execNewelLinkDown (t : Nat) (s : State) : Out := acts t newelLinkDown s

/-- FLIT_RECEIVE: a flit (R408, R409). -/
def execFlitReceive (t : Nat) (symbols : List Nat) (bad : Bool) (seq ack : BitVec 9) (nak idle : Bool) (badMsgs : Nat) (s : State) : Out :=
  acts t (flitReceive symbols bad seq ack nak idle badMsgs) s

/-- HELLO: a received HELLO (R411). -/
def execHello (t : Nat) (role : Fin 3) (digest : List Word) (letter digit : Nat) (s : State) : Out :=
  acts t (whileUp (hello role digest letter digit)) s

/-- START: a received START (R413). -/
def execStartMessage (t : Nat) (n0 : Nat) (us : Nat) (s : State) : Out := acts t (whileUp (fun s => twinStep us (start n0 s))) s

/-- PROBE: a received PROBE (R412). -/
def execProbe (t : Nat) (seq : Word) (t1 : Nat) (answer : Option (Nat × Nat)) (us : Nat) (s : State) : Out :=
  acts t (whileUp (fun s => twinStep us (probe_ seq.toNat t1 answer s))) s

/-- SUMMARY: a received SUMMARY (R414). -/
def execSummary (t : Nat) (cutoff : Nat) (ids : List RecIdent) (s : State) : Out := acts t (whileUp (summary cutoff ids)) s

/-- COPY: a received COPY (R414). -/
def execCopyMessage (t : Nat) (cutoff : Nat) (rec : ArrRec) (s : State) : Out := acts t (whileUp (copyIn cutoff rec)) s

/-- SEAL_TIMER: cut-off plus 5,000 treads (R415). -/
def execSealTimer (t : Nat) (cutoff : Nat) (s : State) : Out := acts t (sealTimer cutoff) s

/-- SEAL: a received SEAL (R415). -/
def execSealMessage (t : Nat) (cutoff : Nat) (missing : List RecIdent) (s : State) : Out :=
  acts t (whileUp (sealIn cutoff missing)) s

/-- REQUEST: a received REQUEST (R417). -/
def execRequestMessage (t : Nat) (unit : ReqUnit) (s : State) : Out := acts t (whileUp (request unit)) s

/-- REQ_SEAL: a received REQ_SEAL (R417). -/
def execReqSeal (t : Nat) (cut count : Nat) (s : State) : Out := acts t (whileUp (reqSeal cut count)) s

/-- COMPLETION: a received COMPLETION (R424). -/
def execCompletionMessage (t : Nat) (door : Fin 4) (seq status result epoch : Nat) (late : Bool) (s : State) : Out :=
  acts t (whileUp (completionIn door seq status result epoch late)) s

/-- DIGEST: a received DIGEST (R420). -/
def execDigest (t : Nat) (sum : GroupSum) (s : State) : Out := acts t (whileUp (digest sum)) s

/-- FAULT: a received FAULT (R422, R423). -/
def execFaultMessage (t : Nat) (group : Nat) (counted takeover : Bool) (s : State) : Out :=
  acts t (whileUp (faultIn group counted takeover)) s

/-- ALERT: a received ALERT (R426). -/
def execAlertMessage (t : Nat) (event : Fin 1536) (stamp : Nat) (s : State) : Out := acts t (whileUp (alertIn event stamp)) s

/-- WITHDRAW: a received WITHDRAW (R424). -/
def execWithdrawMessage (t : Nat) (cause : Fin 16) (s : State) : Out := acts t (whileUp (withdrawIn cause)) s

/-- IMAGE: a received IMAGE (R429). -/
def execImage (t : Nat) (part : ImagePart) (s : State) : Out := acts t (whileUp (imageCommand part)) s

/-- JOIN_MESSAGE: a received JOIN (R430). -/
def execJoinMessage (t : Nat) (phase : Fin 4) (value : Nat) (s : State) : Out := acts t (whileUp (joinMessage phase value)) s

/-- PARTNER_DEADLINE_EXPIRY: a message has missed its limit (R425). -/
def execPartnerDeadline (t : Nat) (owed : Owed) (s : State) : Out := acts t (partnerDeadline owed) s

/-- ALIVE_EDGE: an edge on NWL_ALIVE_IN (R425). -/
def execAliveEdge (t : Nat) (s : State) : Out := acts t aliveEdge s

/-- ALIVE_TIMEOUT: 2L + 17,640 treads after a link failure (R425). -/
def execAliveTimeout (t : Nat) (s : State) : Out := acts t aliveTimeout s

/-- PAIRING_DEADLINE: N0 - 141,120 with step 10 incomplete (R413). -/
def execPairingDeadline (t : Nat) (s : State) : Out := acts t pairingDeadline s

/-- HOST_WITHDRAW: NWL_CTRL.WITHDRAW (R424). -/
def execHostWithdraw (t : Nat) (door : Fin 4) (s : State) : Out :=
  acts t (busWrite door Reg.NWL_CTRL_WITHDRAW.addr 1 hostWithdraw) s

/-- RESYNC: NWL_CTRL.RESYNC (R427). -/
def execResync (t : Nat) (door : Fin 4) (us : Nat) (s : State) : Out :=
  acts t (busWrite door Reg.NWL_CTRL_RESYNC.addr 2 (fun s => twinStep us (resyncNow s))) s

/-- AUTO_RESYNC: AUTO_RESYNC one second after a withdrawal (R427). -/
def execAutoResync (t : Nat) (us : Nat) (s : State) : Out := acts t (fun s => twinStep us (autoResync s)) s

/-- ABORT: NWL_CTRL.ABORT (R431). -/
def execAbort (t : Nat) (door : Fin 4) (s : State) : Out := acts t (busWrite door Reg.NWL_CTRL_ABORT.addr 4 abortNow) s

/-- RESYNC_PASS_END: a copy pass ends (R428). -/
def execResyncPassEnd (t : Nat) (s : State) : Out := acts t passEnd s

/-- FINAL_PASS: the final pass (R429). -/
def execFinalPass (t : Nat) (s : State) : Out := acts t finalPass s

/-- RESYNC_TIMEOUT: no lockstep 10 s after J (R431). -/
def execResyncTimeout (t : Nat) (s : State) : Out := acts t resyncTimeout s

end Sys2Proof.Machine
end

