-- ==== Sys2Proof/Machine/ExecUndercroft.lean ====
section
/-! DEFINITION. The meanings of the commands of the Undercroft and the archive. -/

namespace Sys2Proof.Machine

/-- The Undercroft channels stop from the loss of their PLL until the reference returns (R438). -/
def whileUcr (f : State → State) (s : State) : State :=
  if getF s Reg.CLK_PLL_STAT_UCR_ALT = 1 ∨ getF s (Reg.CLK_SW_STAT_CUR 4) = 1 ∨ getF s (Reg.CLK_SW_STAT_BUSY 4) = 1 then s else f s

/-- READ: READ (R382). -/
def execUcrRead (t : Nat) (k : Fin 16) (line : Nat) (ladder : Ladder) (s : State) : Out :=
  acts t (whileUcr (ucrRead k line ladder)) s

/-- PROG: PROG (R380). -/
def execUcrProg (t : Nat) (k : Fin 16) (s : State) : Out := acts t (whileUcr (ucrProg k)) s

/-- STATUS: STATUS (R387). -/
def execUcrStatus (t : Nat) (k : Fin 16) (bank : Fin 16) (busy fail : Bool) (s : State) : Out :=
  acts t (whileUcr (ucrStatus k bank busy fail)) s

/-- MRW: MRW (R379). -/
def execUcrMrw (t : Nat) (k : Fin 16) (reg value : Byte) (s : State) : Out := acts t (whileUcr (ucrMrw k reg.toNat value)) s

/-- MRR: MRR (R379). -/
def execUcrMrr (t : Nat) (k : Fin 16) (reg : Byte) (s : State) : Out := acts t (whileUcr (ucrMrr k reg.toNat)) s

/-- ID: ID (R378). -/
def execUcrId (t : Nat) (k : Fin 16) (rest : List Byte) (s : State) : Out := acts t (whileUcr (ucrId k rest)) s

/-- CA_PARITY_ALERT: a package reports a parity error (R379). -/
def execUcrParityAlert (t : Nat) (k : Fin 16) (repeats : Bool) (s : State) : Out :=
  acts t (whileUcr (ucrParityAlert k repeats)) s

/-- GAP_MOVE: the start-gap moves by one line (R385). -/
def execGapMove (t : Nat) (k : Fin 16) (region : Nat) (s : State) : Out := acts t (whileUcr (gapMove k region)) s

/-- HOT_MOVE: a hot line moves (R386). -/
def execHotMove (t : Nat) (k : Fin 16) (line : Nat) (s : State) : Out := acts t (whileUcr (hotMove k line)) s

/-- CHECKPOINT: a map checkpoint (R389). -/
def execCheckpoint (t : Nat) (k : Fin 16) (s : State) : Out := acts t (whileUcr (checkpointDue k)) s

/-- REFRESH_SCRUB: the scrubber takes its next line (R392). -/
def execRefreshScrub (t : Nat) (k : Fin 16) (ladder : Ladder) (s : State) : Out := acts t (whileUcr (refreshScrub k ladder)) s

/-- CALIBRATION_PERIOD: the end of CAL_PERIOD (R394). -/
def execCalibrationPeriod (t : Nat) (k : Fin 16) (s : State) : Out := acts t (whileUcr (calibrationPeriod k)) s

/-- PACKAGE_TIMEOUT: a package does not answer (R406). -/
def execPackageTimeout (t : Nat) (k : Fin 16) (s : State) : Out := acts t (whileUcr (packageTimeout k)) s

/-- RECORD_RELEASE: a record release (R397). -/
def execRecordRelease (t : Nat) (n : Fin 8) (s : State) : Out :=
  acts t (whileUcr (asRelease (22340 + n.val) (recordRelease n))) s

/-- REPLAY_TASK: a replay release (R405). -/
def execReplayTask (t : Nat) (k : Fin 16) (ladders : List Ladder) (s : State) : Out :=
  acts t (whileUcr (asRelease (22348 + k.val) (replayTask k ladders))) s

end Sys2Proof.Machine
end

