-- ==== Sys2Proof/Machine/Dispatch.lean ====
section
/-! DEFINITION. One arm per command: a call of its meaning. -/

namespace Sys2Proof.Machine

/-- What a command does to everything but the queue of commands that wait. -/
def exec (i : Instr) (s : State) : Host.Outcome State Fault Refusal :=
  match i with
  | .registerWrite t door win offset size value => Sys2Proof.Machine.execRegisterWrite t door win offset size value s
  | .malformedAccess t door read => Sys2Proof.Machine.execMalformedAccess t door read s
  | .snapshotRead t door offset size => Sys2Proof.Machine.execSnapshotRead t door offset size s
  | .rweWrite t door win offset size value => Sys2Proof.Machine.execRweWrite t door win offset size value s
  | .viewRead t door => Sys2Proof.Machine.execViewRead t door s
  | .commitCut t => Sys2Proof.Machine.execCommitCut t s
  | .audioFlightStart t unwrapFault => Sys2Proof.Machine.execAudioFlightStart t unwrapFault s
  | .arrivalSetClose t owner flight => Sys2Proof.Machine.execArrivalSetClose t owner flight s
  | .secondBoundary t disagree => Sys2Proof.Machine.execSecondBoundary t disagree s
  | .offsetSample t door ofsHi us => Sys2Proof.Machine.execOffsetSample t door ofsHi us s
  | .holdover t => Sys2Proof.Machine.execHoldover t s
  | .timeRestart t door => Sys2Proof.Machine.execTimeRestart t door s
  | .flightsHalt t => Sys2Proof.Machine.execFlightsHalt t s
  | .flightsResume t => Sys2Proof.Machine.execFlightsResume t s
  | .captureEdge t ch stamp falling => Sys2Proof.Machine.execCaptureEdge t ch stamp falling s
  | .capturePop t door ch => Sys2Proof.Machine.execCapturePop t door ch s
  | .txStampAppend t => Sys2Proof.Machine.execTxStampAppend t s
  | .txStampPop t door => Sys2Proof.Machine.execTxStampPop t door s
  | .triggerConfigApply t n => Sys2Proof.Machine.execTriggerConfigApply t n s
  | .triggerEdge t n => Sys2Proof.Machine.execTriggerEdge t n s
  | .triggerPulseEnd t n => Sys2Proof.Machine.execTriggerPulseEnd t n s
  | .ltcDecoderTask t n => Sys2Proof.Machine.execLtcDecoderTask t n s
  | .ltcGeneratorTask t n => Sys2Proof.Machine.execLtcGeneratorTask t n s
  | .toneDetectorTask t n => Sys2Proof.Machine.execToneDetectorTask t n s
  | .decoderPop t door n => Sys2Proof.Machine.execDecoderPop t door n s
  | .tonePop t door => Sys2Proof.Machine.execTonePop t door s
  | .coldReset t hot => Sys2Proof.Machine.execColdReset t hot s
  | .islandReady t us => Sys2Proof.Machine.execIslandReady t us s
  | .fuseRead t us fuse => Sys2Proof.Machine.execFuseRead t us fuse s
  | .pllLock t us found => Sys2Proof.Machine.execPllLock t us found s
  | .charterLoad t us slotA slotB => Sys2Proof.Machine.execCharterLoad t us slotA slotB s
  | .configurationSeal t us => Sys2Proof.Machine.execConfigurationSeal t us s
  | .dramTraining t us failed => Sys2Proof.Machine.execDramTraining t us failed s
  | .undercroftMount t us trained => Sys2Proof.Machine.execUndercroftMount t us trained s
  | .ptpWaitExpiry t us => Sys2Proof.Machine.execPtpWaitExpiry t us s
  | .pairWaitExpiry t us => Sys2Proof.Machine.execPairWaitExpiry t us s
  | .doorsOpen t us => Sys2Proof.Machine.execDoorsOpen t us s
  | .firstFlight t us => Sys2Proof.Machine.execFirstFlight t us s
  | .warmReset t door => Sys2Proof.Machine.execWarmReset t door s
  | .doorReset t door cause => Sys2Proof.Machine.execDoorReset t door cause s
  | .ownerQuery t door value => Sys2Proof.Machine.execOwnerQuery t door value s
  | .recoveryRead t door => Sys2Proof.Machine.execRecoveryRead t door s
  | .recoveryProgram t door => Sys2Proof.Machine.execRecoveryProgram t door s
  | .recoveryErase t door => Sys2Proof.Machine.execRecoveryErase t door s
  | .keyHashProgram t door => Sys2Proof.Machine.execKeyHashProgram t door s
  | .recoveryDone t failed data => Sys2Proof.Machine.execRecoveryDone t failed data s
  | .ringDoorbell t door ring value => Sys2Proof.Machine.execRingDoorbell t door ring value s
  | .requestArrival t door ring entry data => Sys2Proof.Machine.execRequestArrival t door ring entry data s
  | .ringDisable t door kind ring => Sys2Proof.Machine.execRingDisable t door kind ring s
  | .completionWrite t door => Sys2Proof.Machine.execCompletionWrite t door s
  | .journalWrite t door => Sys2Proof.Machine.execJournalWrite t door s
  | .readView t door => Sys2Proof.Machine.execReadView t door s
  | .txFrame t door => Sys2Proof.Machine.execTxFrame t door s
  | .rxPost t door => Sys2Proof.Machine.execRxPost t door s
  | .exportCmd t door ladders => Sys2Proof.Machine.execExportCmd t door ladders s
  | .frameReceive t frame => Sys2Proof.Machine.execFrameReceive t frame s
  | .pathTimeout t kind otype object path => Sys2Proof.Machine.execPathTimeout t kind otype object path s
  | .portLinkChange t port up hiSer => Sys2Proof.Machine.execPortLinkChange t port up hiSer s
  | .queueWordAccept t q w => Sys2Proof.Machine.execQueueWordAccept t q w s
  | .stallLimitExpiry t q => Sys2Proof.Machine.execStallLimitExpiry t q s
  | .schedulerPick t port delay fault word errors => Sys2Proof.Machine.execSchedulerPick t port delay fault word errors s
  | .emissionWindowExpiry t q => Sys2Proof.Machine.execEmissionWindowExpiry t q s
  | .gateEntryChange t port => Sys2Proof.Machine.execGateEntryChange t port s
  | .gateListStart t port => Sys2Proof.Machine.execGateListStart t port s
  | .cipherReceivePass t owner flight => Sys2Proof.Machine.execCipherReceivePass t owner flight s
  | .tagCheck t owner flight n fault => Sys2Proof.Machine.execTagCheck t owner flight n fault s
  | .entropyFail t => Sys2Proof.Machine.execEntropyFail t s
  | .entropyPass t => Sys2Proof.Machine.execEntropyPass t s
  | .coreTaskEntry t n bad => Sys2Proof.Machine.execCoreTaskEntry t n bad s
  | .add t n d a b => Sys2Proof.Machine.execAdd t n d a b s
  | .sub t n d a b => Sys2Proof.Machine.execSub t n d a b s
  | .adds t n d a b => Sys2Proof.Machine.execAdds t n d a b s
  | .subs t n d a b => Sys2Proof.Machine.execSubs t n d a b s
  | .and t n d a b => Sys2Proof.Machine.execAnd t n d a b s
  | .or t n d a b => Sys2Proof.Machine.execOr t n d a b s
  | .xor t n d a b => Sys2Proof.Machine.execXor t n d a b s
  | .shl t n d a b => Sys2Proof.Machine.execShl t n d a b s
  | .shr t n d a b => Sys2Proof.Machine.execShr t n d a b s
  | .sra t n d a b => Sys2Proof.Machine.execSra t n d a b s
  | .min t n d a b => Sys2Proof.Machine.execMin t n d a b s
  | .max t n d a b => Sys2Proof.Machine.execMax t n d a b s
  | .cmp t n a b => Sys2Proof.Machine.execCmp t n a b s
  | .norm t n d a => Sys2Proof.Machine.execNorm t n d a s
  | .abs t n d a => Sys2Proof.Machine.execAbs t n d a s
  | .addi t n d a imm => Sys2Proof.Machine.execAddi t n d a imm s
  | .andi t n d a imm => Sys2Proof.Machine.execAndi t n d a imm s
  | .ori t n d a imm => Sys2Proof.Machine.execOri t n d a imm s
  | .xori t n d a imm => Sys2Proof.Machine.execXori t n d a imm s
  | .shli t n d a imm => Sys2Proof.Machine.execShli t n d a imm s
  | .shri t n d a imm => Sys2Proof.Machine.execShri t n d a imm s
  | .srai t n d a imm => Sys2Proof.Machine.execSrai t n d a imm s
  | .lui t n d imm => Sys2Proof.Machine.execLui t n d imm s
  | .cmpi t n a imm => Sys2Proof.Machine.execCmpi t n a imm s
  | .ldh t n g a mode disp ecc => Sys2Proof.Machine.execLdh t n g a mode disp ecc s
  | .ldhu t n g a mode disp ecc => Sys2Proof.Machine.execLdhu t n g a mode disp ecc s
  | .ldw t n g a mode disp ecc => Sys2Proof.Machine.execLdw t n g a mode disp ecc s
  | .sth t n g a mode disp => Sys2Proof.Machine.execSth t n g a mode disp s
  | .stw t n g a mode disp => Sys2Proof.Machine.execStw t n g a mode disp s
  | .ldhh t n g a mode disp ecc => Sys2Proof.Machine.execLdhh t n g a mode disp ecc s
  | .mpy t n acc a ah b bh => Sys2Proof.Machine.execMpy t n acc a ah b bh s
  | .mac t n acc a ah b bh => Sys2Proof.Machine.execMac t n acc a ah b bh s
  | .msu t n acc a ah b bh => Sys2Proof.Machine.execMsu t n acc a ah b bh s
  | .macm t n acc x y modeX modeY eccX eccY => Sys2Proof.Machine.execMacm t n acc x y modeX modeY eccX eccY s
  | .msum t n acc x y modeX modeY eccX eccY => Sys2Proof.Machine.execMsum t n acc x y modeX modeY eccX eccY s
  | .clra t n acc => Sys2Proof.Machine.execClra t n acc s
  | .lda t n acc g => Sys2Proof.Machine.execLda t n acc g s
  | .mva t n acc g => Sys2Proof.Machine.execMva t n acc g s
  | .mvah t n acc g => Sys2Proof.Machine.execMvah t n acc g s
  | .sta t n acc a mode => Sys2Proof.Machine.execSta t n acc a mode s
  | .stah t n acc a mode => Sys2Proof.Machine.execStah t n acc a mode s
  | .adda t n acc acc2 => Sys2Proof.Machine.execAdda t n acc acc2 s
  | .sha t n acc shift => Sys2Proof.Machine.execSha t n acc shift s
  | .nega t n acc => Sys2Proof.Machine.execNega t n acc s
  | .cpa t n acc acc2 => Sys2Proof.Machine.execCpa t n acc acc2 s
  | .tap t n acc a circ sub ecc => Sys2Proof.Machine.execTap t n acc a circ sub ecc s
  | .nopInstruction t n => Sys2Proof.Machine.execNopInstruction t n s
  | .br t n cond target => Sys2Proof.Machine.execBr t n cond target s
  | .call t n target => Sys2Proof.Machine.execCall t n target s
  | .ret t n => Sys2Proof.Machine.execRet t n s
  | .rpt t n imm => Sys2Proof.Machine.execRpt t n imm s
  | .rptg t n g => Sys2Proof.Machine.execRptg t n g s
  | .exit t n code => Sys2Proof.Machine.execExit t n code s
  | .waitp t n => Sys2Proof.Machine.execWaitp t n s
  | .setAFromG t n a g => Sys2Proof.Machine.execSetAFromG t n a g s
  | .setAImmediate t n a imm => Sys2Proof.Machine.execSetAImmediate t n a imm s
  | .setAbImmediate t n a imm => Sys2Proof.Machine.execSetAbImmediate t n a imm s
  | .setAlImmediate t n a imm => Sys2Proof.Machine.execSetAlImmediate t n a imm s
  | .setAmImmediate t n a imm => Sys2Proof.Machine.execSetAmImmediate t n a imm s
  | .setGFromA t n a g => Sys2Proof.Machine.execSetGFromA t n a g s
  | .putg t n g tr => Sys2Proof.Machine.execPutg t n g tr s
  | .putgc t n g tr => Sys2Proof.Machine.execPutgc t n g tr s
  | .putq t n tr a ecc => Sys2Proof.Machine.execPutq t n tr a ecc s
  | .puto t n tr a imm ecc => Sys2Proof.Machine.execPuto t n tr a imm ecc s
  | .putt t n a ecc => Sys2Proof.Machine.execPutt t n a ecc s
  | .corr t n g tr imm => Sys2Proof.Machine.execCorr t n g tr imm s
  | .mfs t n g spr => Sys2Proof.Machine.execMfs t n g spr s
  | .mts t n g spr => Sys2Proof.Machine.execMts t n g spr s
  | .putDelivery t n => Sys2Proof.Machine.execPutDelivery t n s
  | .limitExceeded t n cycles => Sys2Proof.Machine.execLimitExceeded t n cycles s
  | .peek t door value => Sys2Proof.Machine.execPeek t door value s
  | .legInTask t leg given => Sys2Proof.Machine.execLegInTask t leg given s
  | .legOutTask t leg frames => Sys2Proof.Machine.execLegOutTask t leg frames s
  | .busTask t n faults => Sys2Proof.Machine.execBusTask t n faults s
  | .recipeTask t n faults => Sys2Proof.Machine.execRecipeTask t n faults s
  | .sidetonePacketWrite t leg => Sys2Proof.Machine.execSidetonePacketWrite t leg s
  | .decodeTask t n starts results sram => Sys2Proof.Machine.execDecodeTask t n starts results sram s
  | .keyFrameRequest t n => Sys2Proof.Machine.execKeyFrameRequest t n s
  | .decodeTimeout t n starts => Sys2Proof.Machine.execDecodeTimeout t n starts s
  | .compositionTask t c sram bad => Sys2Proof.Machine.execCompositionTask t c sram bad s
  | .inputTask t inp sram badRows => Sys2Proof.Machine.execInputTask t inp sram badRows s
  | .outputTask t n sram badRows => Sys2Proof.Machine.execOutputTask t n sram badRows s
  | .hallTimeout t n => Sys2Proof.Machine.execHallTimeout t n s
  | .encodeTask t p l sram => Sys2Proof.Machine.execEncodeTask t p l sram s
  | .encodeTimeout t p l => Sys2Proof.Machine.execEncodeTimeout t p l s
  | .forwardingTask t p errors => Sys2Proof.Machine.execForwardingTask t p errors s
  | .rtcpGenerationTask t port => Sys2Proof.Machine.execRtcpGenerationTask t port s
  | .releaseInstant t task => Sys2Proof.Machine.execReleaseInstant t task s
  | .operandDelivery t task op src next present poison => Sys2Proof.Machine.execOperandDelivery t task op src next present poison s
  | .operandTimeout t task flight => Sys2Proof.Machine.execOperandTimeout t task flight s
  | .releaseStage t cls sram => Sys2Proof.Machine.execReleaseStage t cls sram s
  | .releaseStart t cls engine => Sys2Proof.Machine.execReleaseStart t cls engine s
  | .releaseComplete t task code => Sys2Proof.Machine.execReleaseComplete t task code s
  | .deadlineMiss t task flight => Sys2Proof.Machine.execDeadlineMiss t task flight s
  | .dramCommand t c blocked => Sys2Proof.Machine.execDramCommand t c blocked s
  | .dramReadData t c outcome => Sys2Proof.Machine.execDramReadData t c outcome s
  | .fence t port => Sys2Proof.Machine.execFence t port s
  | .dramRefresh t c rank => Sys2Proof.Machine.execDramRefresh t c rank s
  | .mr4Read t c hot => Sys2Proof.Machine.execMr4Read t c hot s
  | .trimPeriod t c lanes osc => Sys2Proof.Machine.execTrimPeriod t c lanes osc s
  | .retrain t c ok => Sys2Proof.Machine.execRetrain t c ok s
  | .patrolScrub t c ecs => Sys2Proof.Machine.execPatrolScrub t c ecs s
  | .selfRefreshEntry t => Sys2Proof.Machine.execSelfRefreshEntry t s
  | .selfRefreshExit t failed => Sys2Proof.Machine.execSelfRefreshExit t failed s
  | .dmaDoorbell t door c value => Sys2Proof.Machine.execDmaDoorbell t door c value s
  | .dmaFetch t c bytes => Sys2Proof.Machine.execDmaFetch t c bytes s
  | .dmaTransfer t c => Sys2Proof.Machine.execDmaTransfer t c s
  | .dmaBurstComplete t c host ladders => Sys2Proof.Machine.execDmaBurstComplete t c host ladders s
  | .dmaWithdraw t door c clearEn => Sys2Proof.Machine.execDmaWithdraw t door c clearEn s
  | .ucrRead t k line ladder => Sys2Proof.Machine.execUcrRead t k line ladder s
  | .ucrProg t k => Sys2Proof.Machine.execUcrProg t k s
  | .ucrStatus t k bank busy fail => Sys2Proof.Machine.execUcrStatus t k bank busy fail s
  | .ucrMrw t k reg value => Sys2Proof.Machine.execUcrMrw t k reg value s
  | .ucrMrr t k reg => Sys2Proof.Machine.execUcrMrr t k reg s
  | .ucrId t k rest => Sys2Proof.Machine.execUcrId t k rest s
  | .ucrParityAlert t k repeats => Sys2Proof.Machine.execUcrParityAlert t k repeats s
  | .gapMove t k region => Sys2Proof.Machine.execGapMove t k region s
  | .hotMove t k line => Sys2Proof.Machine.execHotMove t k line s
  | .checkpoint t k => Sys2Proof.Machine.execCheckpoint t k s
  | .refreshScrub t k ladder => Sys2Proof.Machine.execRefreshScrub t k ladder s
  | .calibrationPeriod t k => Sys2Proof.Machine.execCalibrationPeriod t k s
  | .packageTimeout t k => Sys2Proof.Machine.execPackageTimeout t k s
  | .recordRelease t n => Sys2Proof.Machine.execRecordRelease t n s
  | .replayTask t k ladders => Sys2Proof.Machine.execReplayTask t k ladders s
  | .newelLinkUp t lanes => Sys2Proof.Machine.execNewelLinkUp t lanes s
  | .newelLinkDown t => Sys2Proof.Machine.execNewelLinkDown t s
  | .flitReceive t symbols bad seq ack nak idle badMsgs => Sys2Proof.Machine.execFlitReceive t symbols bad seq ack nak idle badMsgs s
  | .hello t role digest letter digit => Sys2Proof.Machine.execHello t role digest letter digit s
  | .startMessage t n0 us => Sys2Proof.Machine.execStartMessage t n0 us s
  | .probe t seq t1 answer us => Sys2Proof.Machine.execProbe t seq t1 answer us s
  | .summary t cutoff ids => Sys2Proof.Machine.execSummary t cutoff ids s
  | .copyMessage t cutoff rec => Sys2Proof.Machine.execCopyMessage t cutoff rec s
  | .sealTimer t cutoff => Sys2Proof.Machine.execSealTimer t cutoff s
  | .sealMessage t cutoff missing => Sys2Proof.Machine.execSealMessage t cutoff missing s
  | .requestMessage t unit => Sys2Proof.Machine.execRequestMessage t unit s
  | .reqSeal t cut count => Sys2Proof.Machine.execReqSeal t cut count s
  | .completionMessage t door seq status result epoch late => Sys2Proof.Machine.execCompletionMessage t door seq status result epoch late s
  | .digest t sum => Sys2Proof.Machine.execDigest t sum s
  | .faultMessage t group counted takeover => Sys2Proof.Machine.execFaultMessage t group counted takeover s
  | .alertMessage t event stamp => Sys2Proof.Machine.execAlertMessage t event stamp s
  | .withdrawMessage t cause => Sys2Proof.Machine.execWithdrawMessage t cause s
  | .image t part => Sys2Proof.Machine.execImage t part s
  | .joinMessage t phase value => Sys2Proof.Machine.execJoinMessage t phase value s
  | .partnerDeadline t owed => Sys2Proof.Machine.execPartnerDeadline t owed s
  | .aliveEdge t => Sys2Proof.Machine.execAliveEdge t s
  | .aliveTimeout t => Sys2Proof.Machine.execAliveTimeout t s
  | .pairingDeadline t => Sys2Proof.Machine.execPairingDeadline t s
  | .hostWithdraw t door => Sys2Proof.Machine.execHostWithdraw t door s
  | .resync t door us => Sys2Proof.Machine.execResync t door us s
  | .autoResync t us => Sys2Proof.Machine.execAutoResync t us s
  | .abort t door => Sys2Proof.Machine.execAbort t door s
  | .resyncPassEnd t => Sys2Proof.Machine.execResyncPassEnd t s
  | .finalPass t => Sys2Proof.Machine.execFinalPass t s
  | .resyncTimeout t => Sys2Proof.Machine.execResyncTimeout t s
  | .monitorWindow t sysosc serdes ring failed => Sys2Proof.Machine.execMonitorWindow t sysosc serdes ring failed s
  | .pllLockLoss t p => Sys2Proof.Machine.execPllLockLoss t p s
  | .clockSwitch t door n src => Sys2Proof.Machine.execClockSwitch t door n src s
  | .forcedSwitch t n => Sys2Proof.Machine.execForcedSwitch t n s
  | .gateOpen t door n => Sys2Proof.Machine.execGateOpen t door n s
  | .gateClose t door n busy => Sys2Proof.Machine.execGateClose t door n busy s
  | .gateBusIdle t n => Sys2Proof.Machine.execGateBusIdle t n s
  | .gateBusyTimeout t n => Sys2Proof.Machine.execGateBusyTimeout t n s
  | .clockObserve t door value => Sys2Proof.Machine.execClockObserve t door value s
  | .holdEntry t door => Sys2Proof.Machine.execHoldEntry t door s
  | .holdExit t door failed => Sys2Proof.Machine.execHoldExit t door failed s
  | .keepEntry t door => Sys2Proof.Machine.execKeepEntry t door s
  | .wake t cause => Sys2Proof.Machine.execWake t cause s
  | .pwrGoodRise t => Sys2Proof.Machine.execPwrGoodRise t s
  | .wakeFail t => Sys2Proof.Machine.execWakeFail t s
  | .brownOut t => Sys2Proof.Machine.execBrownOut t s
  | .thermalTrip t celsius => Sys2Proof.Machine.execThermalTrip t celsius s
  | .eventTest t door value => Sys2Proof.Machine.execEventTest t door value s
  | .eventClear t door block value => Sys2Proof.Machine.execEventClear t door block value s
  | .errorClear t door block value => Sys2Proof.Machine.execErrorClear t door block value s
  | .alertClear t door value => Sys2Proof.Machine.execAlertClear t door value s
  | .doorLinkChange t door up speed width => Sys2Proof.Machine.execDoorLinkChange t door up speed width s
  | .jtagBypass => Sys2Proof.Machine.execJtagBypass s
  | .jtagIdcode => Sys2Proof.Machine.execJtagIdcode s
  | .jtagSamplePreload cells => Sys2Proof.Machine.execJtagSamplePreload cells s
  | .jtagExtest cells => Sys2Proof.Machine.execJtagExtest cells s
  | .jtagClamp => Sys2Proof.Machine.execJtagClamp s
  | .jtagHighz => Sys2Proof.Machine.execJtagHighz s
  | .testLogicReset => Sys2Proof.Machine.execTestLogicReset s
  | .resetRelease t => Sys2Proof.Machine.execResetRelease t s
  | .keepRailsPowerUp t => Sys2Proof.Machine.execKeepRailsPowerUp t s
  | .pllMonoscRelock t => Sys2Proof.Machine.execPllMonoscRelock t s
  | .ddr5CaParityAlert t c window repeats => Sys2Proof.Machine.execDdr5CaParityAlert t c window repeats s
  | .rowIdleTimeout t c bank => Sys2Proof.Machine.execRowIdleTimeout t c bank s
  | .fecUncorrectable t port hiSer => Sys2Proof.Machine.execFecUncorrectable t port hiSer s

end Sys2Proof.Machine
end

