-- ==== Sys2Proof/Machine/Step.lean ====
section
/-! DEFINITION. One step: the command at the front of the queue happens. -/

namespace Sys2Proof.Machine

/-- The count while nothing is commanded: one tread passes. Assumption 2 (DESIGN CHOICE). -/
def idle (s : State) : State := { s with now := s.now + 1 }

/-- One step: the oldest command that waits happens with the queue's rest; with none, a tread passes. Assumption 4 (DESIGN CHOICE). -/
def step (s : State) : Host.Outcome State Fault Refusal :=
  match s.pending with
  | [] => .next (idle s)
  | c :: rest => exec c { s with pending := rest }

/-- The state with the command that a word spells at the front of its queue; the table gives no row any bits, so none. -/
def State.withFetchWord (s : State) (nbits w : Nat) : State :=
  match decodeTableWord nbits w with
  | some c => { s with pending := c :: s.pending }
  | none => s

end Sys2Proof.Machine
end

