-- ==== Sys2Proof/WellFormed.lean ====
section
/-! DEFINITION. What a command's operands satisfy beyond their types: lengths and ranges that the manual fixes. The meanings are
defined on every operand; a host asks only for well-formed commands. -/

namespace Sys2Proof

/-- Bytes of BAR0 (R102): 64 MiB. -/
def bar0Bytes : Nat := 0x4000000

/-- Whether an access lies in its window and is aligned to its size (R12, R102, R499); any other is MALFORMED_ACCESS.
Assumption 143 (DESIGN CHOICE). -/
def accessFits (win : Window) (offset : Nat) (size : AccessSize) : Bool :=
  (match win with
    | .bar0 => decide (offset < bar0Bytes)
    | .bar2 => true) &&
  (match size with
    | .word => offset % 4 == 0
    | .dword => offset % 8 == 0)

/-- Whether a packet word has a size that a queue takes (Table 8 of Media ports and leg queues): 32 payload bytes after a prefix, else 64. -/
def queueWordFits (w : QWord) : Bool := decide (w.bytes.length ≤ if w.first.isSome then 32 else 64)

/-- Whether a command is well formed. Assumption 6 (DESIGN CHOICE). -/
def Instr.wellFormed : Instr → Bool
  | .registerWrite _ _ win offset size _ => accessFits win offset.toNat size
  | .rweWrite _ _ win offset size _ => accessFits win offset.toNat size
  | .snapshotRead _ _ offset size => accessFits .bar0 offset.toNat size
  | .captureEdge t _ stamp _ => decide (stamp ≤ t)
  | .undercroftMount _ _ trained => trained.length == 16
  | .recoveryDone _ failed data => failed || data.length == 256
  | .requestArrival _ _ _ entry _ => entry.args.length == 48
  | .queueWordAccept _ _ w => queueWordFits w
  | .dmaFetch _ _ bytes => bytes.length == 64
  | .ucrId _ _ rest => rest.length == 56
  | .newelLinkUp _ lanes => lanes.length == 8
  | .flitReceive _ symbols _ _ _ _ _ _ => decide (symbols.length ≤ 8)
  | .hello _ _ words _ _ => words.length == 12
  | .releaseStart _ cls engine => decide (engine.val < engineCount cls.val)
  | _ => true

end Sys2Proof
end

