-- ==== Sys2Proof/Safety.lean ====
section
/-! DEFINITION. The terms in which claims are stated: the state that a command leaves, when nothing but the command itself
happens, what reports may change, when a Landing core runs its next instruction, and the invariant of every step. -/

namespace Sys2Proof.Machine

/-! ### What a command leaves -/

/-- The state after a command at instant t that does f: the count comes to t, a Warm reset that is due takes place, the command
does f, and the takeover and power watchers follow; the queue stays. -/
def after (t : Treads) (f : State → State) (s : State) : State := { actAt t f s with pending := s.pending }

/-- Nothing waits for a watcher: no power request, no Hold entry, no takeover recommendation, no overflow of the staging of a
resynchronisation, no event of a flight that ended, no trace record held for its order. -/
def quiet (s : State) : Bool :=
  s.clk.request.isNone && s.clk.power != .enteringHold && !s.twin.recommend && !s.twin.resync.overflow &&
  (s.tim.flights == .running || s.gal.due.isEmpty) && s.stw.traceHeld.isEmpty

/-- Only the command itself happens at instant t: the state is quiet, and no Warm reset is due by then. -/
def calm (t : Treads) (s : State) : Bool :=
  quiet s && !(s.cht.warmAt.any fun b => decide (b ≤ max s.now t))

/-! ### Reports -/

/-- What events and captured errors change: registers, the doors' held records and snapshots, the event unit, the messages to
the partner and what left the device; everything else is as it was. -/
def Reports (s s' : State) : Prop :=
  s' = { s with regs := s'.regs, doors := s'.doors, evt := s'.evt, twin := s'.twin, out := s'.out } ∧
  s'.twin = { s.twin with
    sent := s'.twin.sent, waiting := s'.twin.waiting, txSeq := s'.twin.txSeq, unacked := s'.twin.unacked
    recommend := s'.twin.recommend, logged := s'.twin.logged }

/-- The events held in Keep, the events' RAW bits and counts: whether bit i of a block's EVT_RAW is set. -/
def rawBit (s : State) (b : Block) (i : Nat) : Bool := (rget s (blockBase b + 0x08)).getLsbD i

/-! ### Landing cores -/

/-- Core n runs a task, waits for nothing and is not fenced, and no partner's image of the units is kept for a resynchronisation. -/
def working (s : State) (n : Nat) : Bool :=
  (coreOf s n).task.isSome && (coreOf s n).wait == .none && !coreFenced s n && s.twin.resync.kept.isNone

/-- Core n works, no RPT stands before its next instruction, and that instruction's word keeps its parity and is one of Table 7's. -/
def running (s : State) (n : Nat) : Bool :=
  working s n && (coreOf s n).rep.isNone && !(coreOf s n).bad.contains (coreOf s n).pc &&
  landingWordLegal (programWord s (coreOf s n).pc)

/-- A core as the next instruction finds it: fetched, one cycle and a load stall counted (R190). -/
def fetched (c : Core) (reads : List Nat) : Core :=
  let stall := if c.loaded.any fun g => reads.contains g then 1 else 0
  { c with pc := (c.pc + 1) % 8192, loaded := none, rep := none, lc := 0,
           cycles := c.cycles + stall + 1, busy := c.busy + stall + 1 }

/-- A core with w in G[d] and Z and N after it (R189). -/
def resultIn (d : Nat) (w : Word) (c : Core) : Core := { c with g := ssetC 0 c.g d w, z := w == 0, n := w.msb }

/-- A core with x in accumulator i and SAT kept or set. -/
def accIn (i : Nat) (x : Int) (sat : Bool) (c : Core) : Core := { c with acc := ssetC 0 c.acc i x, sat := c.sat || sat }

/-- An integer clamped to 40 bits (R189). -/
def sat40 (x : Int) : Int := if x < -549755813888 then -549755813888 else if 549755813887 < x then 549755813887 else x

/-- Whether an integer lies in an accumulator's 40 bits. -/
def fits40 (x : Int) : Bool := decide (-549755813888 ≤ x) && decide (x ≤ 549755813887)

/-- The signed half of a register that a multiply reads. -/
def signedHalf (w : Word) (hi : Bool) : Int := if hi then (w.extractLsb' 16 16).toInt else (w.extractLsb' 0 16).toInt

/-- A word of a core's memory that a load reads whole: its task has written it where it is scratch, and it is not poisoned. -/
def readable (c : Core) (w : Nat) : Bool :=
  (!inScratch w || c.scratch.contains w) && !sgetC false c.poisoned w

/-- Every word of a run of bytes is one that a load reads whole. -/
def readableRun (c : Core) (addr len : Nat) : Bool :=
  (List.range ((addr % 4 + len + 3) / 4)).all fun i => readable c (addr / 4 + i)

/-- A core whose memory word w holds v: written whole, so no longer poisoned; a scratch word counts as written (R183, R186). -/
def wordIn (w : Nat) (v : Word) (c : Core) : Core :=
  { c with mem := ssetC 0 c.mem w v, poisoned := ssetC false c.poisoned w false
           scratch := if inScratch w && !c.scratch.contains w then c.scratch ++ [w] else c.scratch }

/-! ### The invariant of every step -/

/-- Every command that waits is well formed, and no takeover recommendation outlives the command that made it. -/
def Inv (s : State) : Bool := s.pending.all Instr.wellFormed && !s.twin.recommend

/-- A safe run: no step of it stops the machine, and the device is not in the stopped state. -/
def Safe (s : State) : Prop := !s.cht.stopped ∧ ∃ s', step s = .next s'

end Sys2Proof.Machine
end

