-- ==== Sys2Proof/Certificates/Slice0/Obligations.lean ====
section
/-! DEFINITION. The statements for the provers, by chapter of the manual. `after t f s` is the state that a command at instant t leaves when
its effect is f (Safety); `calm t s` says that nothing but the command happens. -/

open Sys2Proof Sys2Proof.Machine

/-! ### Steps -/

/-- A step runs the command at the front of the queue on the state with the queue's rest.
The model's choice (assumption 2): with no command waiting, one tread passes and nothing else happens. -/
def Obligations.Steps : Prop :=
  (∀ (c : Instr) (rest : List Instr) (s : State), s.pending = c :: rest → step s = exec c { s with pending := rest }) ∧
  (∀ s : State, s.pending = [] → step s = .next { s with now := s.now + 1 })

/-- Every command, on every state, answers a next state, which leaves the queue to the step.
The model's own choices in it: assumption 7. -/
def Obligations.EveryCommandAnswers : Prop :=
  ∀ (c : Instr) (s : State), ∃ u, exec c s = .next u ∧ u.pending = s.pending

/-- Every step keeps the invariant: the commands that wait are well formed, and no takeover recommendation (R423) outlives the command
that raised it.
The model's own choices in it: assumption 125. -/
def Obligations.StepKeepsInvariant : Prop :=
  ∀ s s' : State, Inv s = true → step s = .next s' → Inv s' = true

/-- The device right after reset: the count at 0:0 (R41), every word at its reset value, every door SHUT with its next sequence 1
(R118), the servo UNSET with nothing else in it (R41), no epoch, no captured error, no waiting command; and the invariant.
The model's own choices in it: assumptions 8, 9. -/
def Obligations.ResetState : Prop :=
  let s := State.reset
  s.pending = [] ∧ s.now = 0 ∧ (∀ a, rget s a = resetWord a) ∧ Inv s = true ∧
  (∀ d, (doorOf s d).phase = .shut ∧ (doorOf s d).seq = 1) ∧
  s.tim.servo = ⟨.unset, false, 0, 0, 0, 0, [], 0, 0, 0, 0, 0, false, false, 0, 0⟩ ∧ s.tim.flights = .stopped ∧
  s.epoch.newest = 0 ∧ s.evt.log = [] ∧ (∀ b, firstOf s b = none) ∧ s.cht.sealed = false

/-! ### Words and fields -/

/-- A store into a field changes its bits, modulo its width, and no other bit of its word and no other word.
What a word holds after a write that reaches it (Table 4 of Scope and conventions): a field of code RW, RWS or RWL takes the
written value, W1C loses the ones that are written, W1S gains them, and RO, WO and RWE keep theirs. -/
def Obligations.StoredWords : Prop :=
  (∀ (s : State) (f : Fld) (v : Nat), swf resetWord s.regs = true → f.lo ≤ f.hi → f.hi < 32 →
    let u := setF s f v
    swf resetWord u.regs = true ∧ getF u f = v % 2 ^ (f.hi + 1 - f.lo) ∧
    (∀ a, a ≠ f.addr → rget u a = rget s a) ∧
    (∀ i, i < f.lo ∨ f.hi < i → (rget u f.addr).getLsbD i = (rget s f.addr).getLsbD i) ∧
    u = { s with regs := u.regs }) ∧
  (∀ (s : State) (a : Nat) (v : Word) (w : WordDef) (is : List Nat), swf resetWord s.regs = true → findWord a = some (w, is) →
    (w.fields.Pairwise fun f g => f.hi < g.lo ∨ g.hi < f.lo) → (∀ f ∈ w.fields, f.lo ≤ f.hi ∧ f.hi < 32) →
    let u := storeWord a v s
    (∀ b, b ≠ a → rget u b = rget s b) ∧
    (∀ f ∈ w.fields, ∀ i, f.lo ≤ i → i ≤ f.hi → (rget u a).getLsbD i = match f.acc with
      | .rw | .rws | .rwl => v.getLsbD i
      | .w1c => (rget s a).getLsbD i && !v.getLsbD i
      | .w1s => (rget s a).getLsbD i || v.getLsbD i
      | .ro | .wo | .rwe => (rget s a).getLsbD i) ∧
    (∀ i, (∀ f ∈ w.fields, i < f.lo ∨ f.hi < i) → (rget u a).getLsbD i = (rget s a).getLsbD i))

/-- A write to DRAM (Table 2 of DRAM controller and DMA): the bytes that it names take its values, every other byte of memory keeps its
own, and the canonical form stays.
The model's own choices in it: assumption 108. -/
def Obligations.DramBytes : Prop :=
  ∀ (s : State) (a b : Nat) (bs : List Byte) (poison : Bool), Memory.wf s.drm.mem = true →
    let u := memStore a bs poison s
    Memory.wf u.drm.mem = true ∧
    sgetC 0 u.drm.mem b = if a ≤ b ∧ b < a + bs.length then bs.getD (b - a) 0 else sgetC 0 s.drm.mem b

/-! ### Writes and reads of the doors (R12 to R17, R104, R456) -/

/-- A 32-bit write that its door may make to a word without an effect of its own stores the word, field by field; where the word's guard,
its world, its lock or an encoding forbids it, nothing is stored and the reason is recorded.
A misaligned access is malformed (R12, R129): the door counts it, raises event 0x050 + d and captures the error, and a read answers 0;
the command of the row does the same.
The model's own choices in it: assumptions 15, 17, 18. -/
def Obligations.BarWrites : Prop :=
  (∀ (s : State) (t : Nat) (d : Fin 4) (off : BitVec 30) (v : BitVec 64), calm t s = true → off.toNat % 4 = 0 →
    let x := arriveAt t s
    let a := off.toNat
    let w : Word := v.setWidth 32
    wordStages a = false → (rowWrite d a w).isNone = true → (∀ y, wordEffect d a w y = storeWord a w y) →
    (writeCheck x d a w = none → exec (.registerWrite t d .bar0 off .word v) s = .next (storeWord a w x)) ∧
    (∀ r, writeCheck x d a w = some r →
      exec (.registerWrite t d .bar0 off .word v) s = .next (after t (dropRecord d a r) s))) ∧
  (∀ (s : State) (t : Nat) (d : Fin 4) (win : Window) (off : BitVec 30) (v : BitVec 64),
    let malformed := fun x => raiseEvent (0x050 + d) (accessError .dor 0xF3 d (incF x (Reg.DOR_MALFORMED_COUNT d)))
    exec (.malformedAccess t d none) s = .next (after t malformed s) ∧
    exec (.malformedAccess t d (some (win, off))) s =
      .next (after t (fun x => malformed (noteRead d (codedAddr win off.toNat) [0] x)) s) ∧
    (off.toNat % 4 ≠ 0 → exec (.registerWrite t d win off .word v) s = .next (after t malformed s)) ∧
    (off.toNat % 8 ≠ 0 → exec (.registerWrite t d win off .dword v) s = .next (after t malformed s)))

/-- A write of an RWE word arrives as a request of its door and commits with an epoch (R17, R118): until then the word keeps its committed
value. On a device that exchanges no requests with a partner, with no ring request of the door in the same tread (those come after it),
it waits with the epoch's arrivals, under its door's next sequence.
The model's own choices in it: assumption 12. -/
def Obligations.StagedWrites : Prop :=
  ∀ (s : State) (t : Nat) (d : Fin 4) (off : BitVec 30) (v : BitVec 64), calm t s = true → off.toNat % 4 = 0 →
    let x := arriveAt t s
    let a := codedAddr .bar2 off.toNat
    let w : Word := v.setWidth 32
    wordStages a = true → wordMixed a = false → phaseAdmits x d a true = true → writeReaches x d a = true →
    exec (.rweWrite t d .bar2 off .word v) s = .next (after t (stageWrite d [(a, w)]) s) ∧
    (handsOver x = false → exchanges x = false → (∀ r ∈ tiedReqs x d, r.ring = none) →
    ∃ u, exec (.rweWrite t d .bar2 off .word v) s = .next u ∧ u.regs = s.regs ∧
      u.epoch = { s.epoch with arrived := s.epoch.arrived ++
        [⟨d, x.now, 0, [⟨nextSeq s d, none, 0, false, false, none, .barWrite [(a, w)], 0, 0⟩]⟩] } ∧
      u = { x with doors := u.doors, epoch := u.epoch })

/-- The lowest word of DOR_VIEW's epoch (R123): the view moves to the newest epoch and the retained values go; in the SHUT phase the
read answers 0 and moves nothing (R90).
A 64-bit read acts as two of 32 bits, the lower offset first, and a misaligned read is malformed (R12).
Snapshots (R13): a read of the lowest word of a wide quantity keeps all its words for the reading door, and a later read of a higher
word answers from there; without a snapshot it answers the current value, and takes none.
The model's own choices in it: assumption 11. -/
def Obligations.ViewsAndSnapshots : Prop :=
  (∀ (s : State) (t : Nat) (d : Fin 4), calm t s = true → sorted 0 s.doors = true →
    let x := arriveAt t s
    let a := (Reg.DOR_VIEW_EPOCH_LO d).addr
    (phaseAdmits x d a false = true → ∃ u, exec (.viewRead t d) s = .next u ∧ u = { x with doors := u.doors } ∧
      (doorOf u d).view = s.epoch.newest ∧ (doorOf u d).retain = [] ∧ (doorOf u d).seq = (doorOf s d).seq ∧
      ∀ e, e ≠ d.val → doorOf u e = doorOf s e) ∧
    (phaseAdmits x d a false = false →
      exec (.viewRead t d) s = .next (setDoor x d { doorOf s d with lastRead := some (a, [0]) }))) ∧
  (∀ (s : State) (t : Nat) (d : Fin 4) (off : BitVec 26) (base words : Nat), calm t s = true → sorted 0 s.doors = true →
    sorted 0 (doorOf s d).snaps = true →
    let x := arriveAt t s
    let a := off.toNat
    phaseAdmits x d a false = true → reaches x d a = true → msixHidden x d a = false →
    a ≠ (Reg.DOR_VIEW_EPOCH_LO d).addr → wideQuantity a = some (base, words) → (findWord a).isSome = true →
    off.toNat % 4 = 0 → ∃ u, exec (.snapshotRead t d off .word) s = .next u ∧ u = { x with doors := u.doors } ∧
      (∀ e, e ≠ d.val → doorOf u e = doorOf s e) ∧
      (a = base → (∀ i, i < words → snapOf u d (base + 4 * i) = some (currentWord (noteRead d a [currentWord x d a] x) d (base + 4 * i))) ∧
        (doorOf u d).lastRead = some (a, [currentWord x d a])) ∧
      (a ≠ base → (doorOf u d).snaps = (doorOf s d).snaps ∧
        (doorOf u d).lastRead = some (a, [(snapOf s d a).getD (currentWord x d a)]))) ∧
  (∀ (s : State) (t : Nat) (d : Fin 4) (off : BitVec 26), calm t s = true →
    let a := off.toNat
    (off.toNat % 8 = 0 → exec (.snapshotRead t d off .dword) s = .next (after t (fun y =>
      let lo := readOne d a y
      let hi := readOne d (a + 4) lo
      noteRead d a (lastWords lo d ++ lastWords hi d) hi) s)) ∧
    (off.toNat % 4 ≠ 0 → exec (.snapshotRead t d off .word) s = exec (.malformedAccess t d (some (.bar0, off.setWidth 30))) s) ∧
    (off.toNat % 8 ≠ 0 → exec (.snapshotRead t d off .dword) s = exec (.malformedAccess t d (some (.bar0, off.setWidth 30))) s))

/-! ### Events and errors (R460 to R475) -/

/-- An event that is raised outside Keep sets its RAW bit and counts in its route (R461), and touches nothing but what reports may; in
Keep it is held with its stamp (R467).
Delivery (R461 to R463): an event whose EN bit is 1, or that is non-maskable, sets the pending bit of every door that its route
names, or of every door if it is non-maskable; an event that is not enabled sets none.
The model's own choices in it: assumption 138. -/
def Obligations.EventsRaised : Prop :=
  (∀ (s : State) (e : Nat), e < 1536 → swf resetWord s.regs = true →
    let u := raiseEvent e s
    Reports s u ∧
    (inKeep s = true → u = { s with evt := { s.evt with heldEvents := s.evt.heldEvents ++ [(e, s.now)] } }) ∧
    (inKeep s = false → swf resetWord u.regs = true ∧
      getF u (Reg.ROUTE_COUNT e) = (getF s (Reg.ROUTE_COUNT e) + 1) % 2 ^ 32 ∧
      ∀ b i, eventSource e = some (b, i) → rawBit u b i = true ∧
        (∀ j, j ≠ i → rawBit u b j = rawBit s b j) ∧ (∀ c, c ≠ b → ∀ j, rawBit u c j = rawBit s c j))) ∧
  (∀ (s : State) (e d : Nat) (b : Block) (i : Nat), e < 1536 → d < 4 → swf resetWord s.regs = true → inKeep s = false →
    eventSource e = some (b, i) →
    let u := raiseEvent e s
    let a := (Reg.EVT_PEND_PEND d (e / 32)).addr
    let enabled := nonMaskable e || (rget s (blockBase b + 0x0C)).getLsbD i
    let named := nonMaskable e || getF s (Reg.ROUTE_EN e d) == 1
    (rget u a).getLsbD (e % 32) = ((rget s a).getLsbD (e % 32) || (enabled && named)) ∧
    ∀ j, j ≠ e % 32 → (rget u a).getLsbD j = (rget s a).getLsbD j)

/-- Captured errors (R470 to R472): the first error of a block is held whole; a later one leaves it, with CLASS the larger severity. -/
def Obligations.CapturedErrors : Prop :=
  ∀ (s : State) (b : Block) (code sev inst detail : Nat) (takeover : Bool) (door : Option Nat), sorted 0 s.evt.firsts = true →
    sev < 3 → (sev = 0 → s.evt.accessInFlight < 16) → s.evt.log.length < 256 →
    let u := captureError b code sev takeover inst detail door s
    let r : ErrRec := ⟨b, code, sev, takeover, inst, detail, s.now⟩
    Reports s u ∧
    firstOf u b = (match firstOf s b with | none => some ⟨r, sev, false⟩ | some f => some { f with cls := max f.cls sev }) ∧
    (∀ c, c ≠ b → firstOf u c = firstOf s c) ∧
    u.evt.log = s.evt.log ++ [⟨r, (firstOf s b).isNone, s.evt.nextSeq⟩] ∧ u.evt.nextSeq = s.evt.nextSeq + 1 ∧
    u.twin.recommend = (s.twin.recommend || takeover)

/-! ### Time (R41 to R65) -/

/-- The servo's samples (R43, R44), submitted by the time-owner door: a sample of another generation is discarded and counted; one in UNSET,
ACQUIRE or HALTED is rejected, collected, or makes the step; any other one sets the integrator, RATE, the counters and the state. The
count moves only by the step, which also brings what counts by it to the present (R47).
The model's own choices in it: assumptions 30, 31, 149. -/
def Obligations.ServoSamples : Prop :=
  ∀ (s : State) (t : Nat) (d : Fin 4) (hi : Word) (us : Nat), calm t s = true → atStep s 8 = false →
    let x := arriveAt t s
    phaseAdmits x d 0x600080 true = true → reaches x d 0x600080 = true → d.val = timeOwner s →
    let v := s.tim.servo
    let o := offsetOf s hi
    let ki : Int := getF s Reg.TIM_SERVO_CFG_KI
    let kp : Int := getF s Reg.TIM_SERVO_CFG_KP
    let lock := getF s Reg.TIM_LOCK_CFG_LOCK_THR
    let unlock := max lock (getF s Reg.TIM_UNLOCK_CFG_UNLOCK_THR)
    let clamp := fun (y : Int) => max (-140737488355) (min 140737488355 y)
    let step := (o * 441).fdiv (3125 * 65536)
    let w := (v.window ++ [o]).drop (v.window.length + 1 - getF s Reg.TIM_LOCK_CFG_STEP_COUNT)
    let acc := clamp (v.acc + (-o * ki).fdiv 256)
    let rate := clamp (acc + (-o * kp).fdiv 16)
    let near := decide (o.natAbs ≤ lock * 65536)
    let far := !near && decide (unlock * 65536 < o.natAbs)
    let good := if near then v.good + 1 else 0
    let bad := if far then v.bad + 1 else 0
    let st := if v.state = .holdover then .tracking else v.state
    let st := if st = .tracking ∧ getF s Reg.TIM_LOCK_CFG_LOCK_COUNT ≤ good then .locked else st
    let st := if st = .locked ∧ getF s Reg.TIM_LOCK_CFG_UNLOCK_COUNT ≤ bad then .tracking else st
    let collected := { v with state := .acquire, last := x.now }
    ∃ u, exec (.offsetSample t d hi us) s = .next u ∧
      (u.now = x.now ∨ v.state = .unset ∨ v.state = .halted ∨ v.state = .acquire) ∧
      (hi.toNat / 268435456 ≠ v.stepGen → u.tim.servo = { v with discards := (v.discards + 1) % 4294967296 } ∧ u.now = x.now) ∧
      (hi.toNat / 268435456 = v.stepGen → (v.state = .unset ∨ v.state = .halted ∨ v.state = .acquire) →
        ((x.now : Int) - step < 0 → u.tim.servo = { collected with window := [] } ∧ u.now = x.now) ∧
        (0 ≤ (x.now : Int) - step →
          let steps := w.length = getF s Reg.TIM_LOCK_CFG_STEP_COUNT ∧ spread w ≤ (getF s Reg.TIM_SPREAD_CFG_STEP_SPREAD * 65536 : Nat)
          (¬ steps → u.tim.servo = { collected with window := w } ∧ u.now = x.now) ∧
          (steps → u.now = ((x.now : Int) - step + 1).toNat ∧ u.tim.servo = { collected with
            state := .tracking, stepped := true, rate := 0, acc := 0, good := 0, bad := 0, window := []
            stepGen := (v.stepGen + 1) % 16, stepAt := u.now, stepSize := step }))) ∧
      (hi.toNat / 268435456 = v.stepGen → (v.state = .locked ∨ v.state = .tracking ∨ v.state = .holdover) →
        u.tim.servo = { v with
          state := st, last := x.now, acc := acc, rate := rate, good := good, bad := bad
          rateLim := rate == 140737488355 || rate == -140737488355 }) ∧
      ∃ y, y = { x with now := u.now, tim := { s.tim with servo := u.tim.servo, firstDue := u.tim.firstDue }
                        regs := y.regs, doors := y.doors, evt := y.evt, twin := y.twin, out := y.out } ∧
        u = (if u.tim.servo.stepGen = v.stepGen then y else afterStep y)

/-- HOLDOVER (R44, R46): in LOCKED or TRACKING, with no sample for HOLD_TIMEOUT treads, RATE freezes at the integrator; before that, or in
any other state, nothing happens.
A time restart (R42, R47): the time-owner door's write while STEPPED is 1 takes the next audio flight boundary, while it is 0 nothing;
another door's write is dropped with a partition error; at that boundary flights stop, the state is HALTED and STEPPED reads 0, and what
the last flight still owes the Gallery's events is raised (R233).
The model's own choices in it: assumption 31. -/
def Obligations.HoldoverAndRestart : Prop :=
  (∀ (s : State) (t : Nat), calm t s = true →
    let x := arriveAt t s
    let v := s.tim.servo
    let due := (v.state = .locked ∨ v.state = .tracking) ∧ v.last + getF s Reg.TIM_HOLD_CFG_HOLD_TIMEOUT ≤ x.now
    (due → ∃ u, exec (.holdover t) s = .next u ∧ u.tim = { s.tim with servo := { v with state := .holdover, rate := v.acc } } ∧
      u = { x with tim := u.tim, regs := u.regs, doors := u.doors, evt := u.evt, twin := u.twin, out := u.out }) ∧
    (¬ due → exec (.holdover t) s = .next x)) ∧
  (∀ (s : State) (t : Nat) (d : Fin 4), calm t s = true →
    let x := arriveAt t s
    let a := Reg.TIM_CTRL_RESTART.addr
    (phaseAdmits x d a true = true → reaches x d a = true →
      (d.val ≠ timeOwner s → exec (.timeRestart t d) s = .next (after t (partitionError .tim d) s)) ∧
      (d.val = timeOwner s → s.tim.servo.stepped = false → exec (.timeRestart t d) s = .next x) ∧
      (d.val = timeOwner s → s.tim.servo.stepped = true → s.twin.state ≠ .lockstep →
        (s.twin.state = .pairing → s.twin.startFlight = none) → s.tim.haltAt = none →
        exec (.timeRestart t d) s = .next { x with tim := { s.tim with haltAt := some (boundaryAfter s x.now) } })) ∧
    (∀ b, s.tim.haltAt = some b → b ≤ x.now → ∃ u, exec (.flightsHalt t) s = .next u ∧ u.tim.flights = .stopped ∧
      u.tim.haltAt = none ∧ u.tim.servo = { s.tim.servo with state := .halted, stepped := false } ∧
      u = { x with tim := u.tim, gal := { s.gal with due := [] }, regs := u.regs, doors := u.doors, evt := u.evt, twin := u.twin, out := u.out }))

/-- Captures (R58, R59): an accepted edge of a selected polarity enters its channel's FIFO; a full FIFO keeps its entries, sets OVF, counts
the drop and raises event 0x06D + n; a pop removes the head entry, and leaves an empty FIFO empty.
The transmit stamp queue (R64, R65): the earliest stamp whose message has left its port enters the queue of 64; with 64 entries it is
dropped, with OVF set, the drop counted and event 0x06A; a pop removes the head entry. -/
def Obligations.CaptureAndStampFifos : Prop :=
  (∀ (s : State) (t stamp : Nat) (ch : Fin 9) (falling : Bool) (d : Fin 4), calm t s = true → sorted 0 s.tim.captures = true →
    let x := arriveAt t s
    let q := captureFifo s ch
    (edgeSelected s ch falling = true → stamp + getF s (Reg.TIM_CAP_CFG_FILTER ch) ≤ x.now →
      (q.length < 8 → exec (.captureEdge t ch stamp falling) s = .next (setCapture ch (q ++ [⟨stamp, falling⟩]) x)) ∧
      (8 ≤ q.length → exec (.captureEdge t ch stamp falling) s = .next (after t (fun y =>
        raiseEvent (0x06D + ch) (incSatF (setF y (Reg.TIM_CAP_STAT_OVF ch) 1) (Reg.TIM_CAP_STAT_DROPS ch))) s))) ∧
    (edgeSelected s ch falling = false → exec (.captureEdge t ch stamp falling) s = .next x) ∧
    (writeCheck x d (Reg.TIM_CAP_POP_POP ch).addr 1 = none → ∃ u, exec (.capturePop t d ch) s = .next u ∧
      captureFifo u ch = q.tail ∧ (∀ c, c ≠ ch.val → captureFifo u c = captureFifo s c) ∧
      u = { x with tim := { s.tim with captures := u.tim.captures } })) ∧
  (∀ (s : State) (t : Nat) (d : Fin 4) (y : TxStamp), calm t s = true →
    let x := arriveAt t s
    (earliestStamp s.ports.stampsDue = some y → y.stamp ≤ x.now →
      let left := fun z => { z with ports := { s.ports with stampsDue := s.ports.stampsDue.erase y } }
      (s.tim.txq.length < 64 → exec (.txStampAppend t) s = .next (left { x with tim := { s.tim with txq := s.tim.txq ++ [y] } })) ∧
      (64 ≤ s.tim.txq.length → exec (.txStampAppend t) s = .next (after t (fun z =>
        raiseEvent 0x06A (incF (setF (left z) Reg.TIM_TXQ_STAT_OVF 1) Reg.TIM_TXQ_DROP_COUNT)) s))) ∧
    (writeCheck x d Reg.TIM_TXQ_POP_POP.addr 1 = none →
      exec (.txStampPop t d) s = .next { x with tim := { s.tim with txq := s.tim.txq.tail } }))

/-- Trigger outputs (R60 to R63): a committed configuration takes effect at its instant, with BAD where its width is not less than its
period and MISSED for a one-shot that has passed, which never fires; a pulse starts at an edge instant while STEPPED is 1 outside Keep, lasts WIDTH treads,
and ends once they have passed.
The model's own choices in it: assumption 37. -/
def Obligations.TriggerOutputs : Prop :=
  ∀ (s : State) (t at_ e : Nat) (n : Fin 8) (c : TrigCfg), calm t s = true → sorted 0 s.tim.trigs = true →
    let x := arriveAt t s
    let y := trigOf s n
    let missed : Bool := c.mode == 1 && decide (c.oneAt < instant48 at_)
    (y.next = some (at_, c) → at_ ≤ x.now → ∃ u, exec (.triggerConfigApply t n) s = .next u ∧
      trigOf u n = { y with cfg := c, next := none, bad := trigBad s c, missed := missed } ∧
      (∀ m, m ≠ n.val → trigOf u m = trigOf s m) ∧
      (missed = false → trigBad s c = false → u = setTrig n { y with cfg := c, next := none, bad := false, missed := false } x) ∧
      u = { x with tim := { s.tim with trigs := u.tim.trigs }, regs := u.regs, doors := u.doors, evt := u.evt, twin := u.twin,
                   out := u.out }) ∧
    (y.next = none →
      (s.tim.servo.stepped = true → inKeep s = false → trigEdgeNow x y.cfg = true → y.bad = false → y.missed = false →
        exec (.triggerEdge t n) s = .next (setTrig n { y with pulseEnd := some (max (x.now + y.cfg.width) (y.pulseEnd.getD 0)) }
          (if y.cfg.mode = 1 then setF x (Reg.TIM_TOUT_STAT_FIRED n) 1 else x))) ∧
      (s.tim.servo.stepped = false ∨ inKeep s = true ∨ trigEdgeNow x y.cfg = false ∨ y.bad = true ∨ y.missed = true →
        exec (.triggerEdge t n) s = .next x)) ∧
    (y.pulseEnd = some e → exec (.triggerPulseEnd t n) s = .next (if e ≤ x.now then setTrig n { y with pulseEnd := none } x else x))

/-- Flights (R17, R47, R53): the commit cut, 4,410 treads before a flight, closes the epoch's arrivals; a flight starts at its boundary, in the
order cut, marks, end of the flight before, commit, releases; flights resume where resumeFrom allows; at a second boundary each replica
that disagreed raises event 0x06C, and all take the count (R57).
An arrival set closes 705 treads after its cut-off (R55, R144), and not before: from then on its flight's records are fixed. Of the
audio flights' sets, ETH_ARR_STAT keeps the count.
The model's own choices in it: assumptions 33, 34, 150. -/
def Obligations.FlightsAndSets : Prop :=
  (∀ (s : State) (t : Nat) (disagree : List Block) (fault : Option (Fin 8)), calm t s = true → s.twin.resync.active = false →
    let x := arriveAt t s
    let flight := fun (y : State) => beginFlight (!s.stw.missClass.isEmpty)
      (keepImage (commitEpoch (endFlight (noteFlight y.now (cutAt (y.now - 4410) y)))))
    (s.tim.flights = .running → atBoundary s (x.now + 4410) = true → boundaryTaken s (x.now + 4410) = false →
      s.epoch.charterDue = false → s.epoch.cutDone = false → s.twin.unionFrom = none →
      exec (.commitCut t) s = .next { x with
        epoch := { s.epoch with
          batch := s.epoch.batch ++ s.epoch.arrived.filter fun u => decide (u.stamp < x.now)
          arrived := s.epoch.arrived.filter fun u => !decide (u.stamp < x.now), cutDone := true }
        twin := { s.twin with forwarded := 0 } }) ∧
    (atBoundary s x.now = true → boundaryTaken s x.now = false → s.tim.servo.stepped = true → s.tim.flights = .running →
      s.tim.lastFlight < x.now → s.twin.state = .solo → s.twin.unionFrom = none →
      exec (.audioFlightStart t fault) s = .next (after t (fun y =>
        let z := flight { y with cip := { y.cip with upset := (workingLane y fault).map (·.val) } }
        { z with cip := { z.cip with upset := none } }) s)) ∧
    (s.tim.flights = .stopped → s.tim.servo.stepped = true → s.tim.haltAt = none → s.clk.power = .run → s.cht.step = 11 →
      s.twin.state = .solo → s.twin.unionFrom = none → atBoundary s x.now = true → resumeFrom s ≤ x.now →
      boundaryTaken s x.now = false →
      exec (.flightsResume t) s = .next (after t flight s)) ∧
    (x.now % 141120000 = 0 → s.cht.loaded.twinRole = 0 →
      exec (.secondBoundary t disagree) s =
        .next (after t (fun y => loadReplicas (disagree.foldl (fun z _ => raiseEvent 0x06C z) (engineSecond y))) s)) ∧
    (x.now % 141120000 ≠ 0 → exec (.secondBoundary t disagree) s = .next x)) ∧
  (∀ (s : State) (t flight : Nat) (o : SetOwner), calm t s = true → 10 ≤ s.cht.step → s.twin.unionFrom = none →
    let x := arriveAt t s
    let set := setOrNew s o flight
    (∀ y ∈ s.ports.sets, y.closed = true → y.final = true ∨ x.now < setStart s y.owner y.flight) →
    (set.closed = false → setStart s o flight + 705 ≤ x.now + arrMargin s → x.now < setStart s o flight →
      exec (.arrivalSetClose t o flight) s = .next (after t (fun y =>
        let z := putSet { set with closed := true } y
        settle (if o = .audio then setF z Reg.ETH_ARR_STAT_LAST set.recs.length else z)) s)) ∧
    (x.now + arrMargin s < setStart s o flight + 705 → set.closed = false →
      exec (.arrivalSetClose t o flight) s = .next (after t settle s)))

/-- Modem results (R72, R77): a pop of a decoder's or a door's tone FIFO removes its head entry and nothing else.
Modem tasks (R67 to R77) of a running release that has no exit code yet: a decoder works through its leg's samples and then counts the
spans without sync up to the flight's end; a generator writes every sample of the flight in which it is enabled; a detector takes its leg's
samples in order. Each task's release has exit code 0.
The model's own choices in it: assumptions 39, 87. -/
def Obligations.ModemCommands : Prop :=
  (∀ (s : State) (t : Nat) (d : Fin 4) (n : Fin 64), calm t s = true →
    let x := arriveAt t s
    let y := decoderOf s n
    (writeCheck x d (Reg.TCM_DEC_POP_POP n).addr 1 = none →
      exec (.decoderPop t d n) s = .next (setDecoder n { y with fifo := y.fifo.tail } x)) ∧
    (writeCheck x d (Reg.TCM_TONE_POP_POP d).addr 1 = none →
      exec (.tonePop t d) s = .next (setToneFifo d (toneFifo s d).tail x))) ∧
  (∀ (s : State) (t : Nat) (r : Release) (dec gen : Fin 64) (det : Fin 1024), calm t s = true → s.twin.resync.kept = none →
    (workOf s (20480 + dec.val) = some r → (entryFlags s (20480 + dec.val)) = (false, false) →
      exec (.ltcDecoderTask t dec) s = .next (after t (asRelease (20480 + dec.val) fun y =>
        let rate := cfgF y (flightStart y r.flight) (Reg.TCM_DEC_CFG_RATE dec)
        let xs := legInput y r.flight (cfgF y (flightStart y r.flight) (Reg.TCM_DEC_CFG_LEG dec))
        let z := xs.foldl (fun z x => ltcSample dec (ratePeriod rate) rate x.1 x.2 z) (takeFlags (20480 + dec.val) y).2
        firmwareExit (20480 + dec.val) (ltcTimeouts dec (ratePeriod rate) (flightStart z (r.flight + 1)) 16 z)) s)) ∧
    (workOf s (20544 + gen.val) = some r →
      exec (.ltcGeneratorTask t gen) s = .next (after t (asRelease (20544 + gen.val) fun y =>
        let w := (takeFlags (20544 + gen.val) y).2
        firmwareExit (20544 + gen.val) ((List.range (flightSamples w)).foldl (fun z i =>
          let c := genAt (generatorOf y gen) (flightStart z r.flight + 2940 * i)
          let high := ltcHigh gen c (flightStart z r.flight + 2940 * i)
          if c.en then galPut r.flight c.leg i (.present (if high then ltcAmpl c else -ltcAmpl c)) true z else z) w)) s)) ∧
    (workOf s (20608 + det.val) = some r → (entryFlags s (20608 + det.val)) = (false, false) →
      exec (.toneDetectorTask t det) s = .next (after t (asRelease (20608 + det.val) fun y =>
        let from_ := flightStart y r.flight
        let xs := legInput y r.flight (cfgF y from_ (Reg.TCM_TONE_CFG_LEG det))
        firmwareExit (20608 + det.val) (xs.foldl (fun z x => toneSample from_ det x.1 x.2 z) (takeFlags (20608 + det.val) y).2)) s)))

/-! ### Start-up and resets (R84 to R97) -/

/-- The first steps of start-up (R88, R41): a step that is in progress completes with its µs; a fuse parity error stops the device with code
13; the PLL step of a Cold start sets the count to 0:0 and the servo UNSET, and every door is SHUT from there on.
The charter's steps (R81 to R83, R89): a slot that passes its checks completes step 4 and is staged; the configuration step stores its words
and seals the configuration; a pair's device begins in PAIRING, WITHDRAWN after a Warm reset that keeps its configuration, a solo one is SOLO;
DRAM training with a subchannel that found no setting stops a start with code 14; a Warm reset's keeps what DRAM holds.
The model's own choices in it: assumptions 41, 43, 50, 157. -/
def Obligations.StartToCharter : Prop :=
  (∀ (s : State) (t us : Nat) (f : FuseRead) (p : Population), calm t s = true → sorted 0 s.doors = true →
    let x := arriveAt t s
    let at_ := fun n => s.cht.inReset = false ∧ s.cht.stopped = false ∧ s.cht.step + 1 = n
    (s.cht.inReset = true → s.pins.tripped = false → exec (.resetRelease t) s = .next
      { x with cht := { s.cht with inReset := false, step := 0, stepStart := 0, xspiReset := true }
               pins := { s.pins with resetN := true } }) ∧
    (s.pins.tripped = true → exec (.resetRelease t) s = .next x) ∧
    (at_ 1 → exec (.islandReady t us) s = .next (stepDone 1 us x)) ∧
    (at_ 2 → f.parityOk = true → ∃ u, exec (.fuseRead t us f) s = .next u ∧
      u.cht = { s.cht with step := 2, stepStart := us, fuses := some (fuseArray f s), keyHash := (fuseArray f s).keyHash } ∧
      u = { x with cht := u.cht, regs := u.regs }) ∧
    (at_ 2 → f.parityOk = false → ∃ u, exec (.fuseRead t us f) s = .next u ∧ u.cht.stopped = true ∧ u.cht.step = 1) ∧
    (at_ 3 → s.cht.warm = false → ∃ u, exec (.pllLock t us p) s = .next u ∧ u.now = 0 ∧ u.tim.servo = servoInit ∧
      u.cht = { s.cht with step := 3, stepStart := us, population := p } ∧ (∀ d, d < 4 → (doorOf u d).phase = .shut)) ∧
    (at_ 3 → s.cht.warm = true → ∃ u, exec (.pllLock t us p) s = .next u ∧ u.now = x.now ∧ u.tim = s.tim ∧
      u.cht = { s.cht with step := 3, stepStart := us, population := p } ∧ (∀ d, d < 4 → (doorOf u d).phase = .shut))) ∧
  (∀ (s : State) (t us : Nat) (a b : SlotRead) (c : Charter) (ws : Sparse Word) (failed : List (Fin 16)) (trained : List Bool), calm t s = true →
    let x := arriveAt t s
    let at_ := fun n => s.cht.inReset = false ∧ s.cht.stopped = false ∧ s.cht.step + 1 = n
    (at_ 4 → ∀ y, loadSlots a b { x with cht := { s.cht with xspiReset := false } } = (true, y) →
      exec (.charterLoad t us a b) s = .next (after t (fun _ => stepDone 4 us y) s)) ∧
    (at_ 4 → ∀ y, loadSlots a b { x with cht := { s.cht with xspiReset := false } } = (false, y) →
      exec (.charterLoad t us a b) s = .next (after t (fun _ => y) s)) ∧
    (at_ 5 → s.cht.staged = some (c, ws) → ∃ u, exec (.configurationSeal t us) s = .next u ∧
      u.cht.sealed = true ∧ u.cht.loaded = c ∧ u.cht.staged = none ∧ u.cht.step = 5 ∧
      u.cht.fresh = (s.cht.warm && s.cht.loaded.digest != c.digest) ∧
      u.twin.state = (if c.twinRole = 0 then .solo else if s.cht.warm && s.cht.loaded.digest == c.digest then .withdrawn
        else .pairing)) ∧
    (at_ 6 → s.cht.warm = true → s.cht.fresh = false →
      exec (.dramTraining t us failed) s = .next (after t (fun y =>
        let z := stepDone 6 us (selfRefreshReset (failed.map (·.val)) y)
        if archiveUp z then beginTime us (stepDone 7 us (storeStaged (flightNumber z z.now) z)) else z) s)) ∧
    (at_ 6 → s.cht.warm = false ∨ s.cht.fresh = true → failed = [] →
      exec (.dramTraining t us failed) s = .next (after t (fun y => stepDone 6 us (trainDram [] y)) s)) ∧
    (at_ 6 → s.cht.warm = false ∨ s.cht.fresh = true → failed ≠ [] →
      exec (.dramTraining t us failed) s = .next (after t (fun y => stopWith 14 (trainDram (failed.map (·.val)) y)) s)) ∧
    (at_ 7 → exec (.undercroftMount t us trained) s =
      .next (after t (fun y => beginTime us (stepDone 7 us (mountArchive trained y))) s)))

/-- The last steps (R90 to R92): the waits raise their events once and a primary goes on alone; opening the doors opens the enabled ones;
the first flight of a solo device starts with the charter state at its boundary, and not before it.
The model's own choices in it: assumptions 35, 52. -/
def Obligations.LateStartSteps : Prop :=
  ∀ (s : State) (t us : Nat), calm t s = true → sorted 0 s.doors = true →
    let x := arriveAt t s
    let at_ := fun n => s.cht.inReset = false ∧ s.cht.stopped = false ∧ s.cht.step + 1 = n
    (at_ 8 → s.cht.ptpTold = false → s.cht.stepStart + 1000 * s.cht.loaded.ptpWait ≤ us →
      exec (.ptpWaitExpiry t us) s = .next (after t (fun y => raiseEvent 0x046 { y with cht := { s.cht with ptpTold := true } }) s)) ∧
    (s.cht.ptpTold = true → exec (.ptpWaitExpiry t us) s = .next x) ∧
    (at_ 9 → s.cht.loaded.twinRole = 1 → s.twin.startFlight = none → s.cht.stepStart + 1000 * s.cht.loaded.pairWait ≤ us →
      ∃ u, exec (.pairWaitExpiry t us) s = .next u ∧ u.twin.state = .alone ∧ u.cht = { s.cht with step := 9, stepStart := us }) ∧
    (at_ 10 → ∃ u, exec (.doorsOpen t us) s = .next u ∧ u.cht = { s.cht with step := 10, stepStart := us, openedAt := x.now } ∧
      (∀ d, d < 4 → (doorOf u d) = { doorOf s d with phase := if doorEnabled s d then .opened else .shut }) ∧
      u = { x with cht := u.cht, doors := u.doors, regs := u.regs }) ∧
    (at_ 11 → s.tim.flights = .stopped → s.tim.servo.stepped = true → s.twin.state = .solo → s.twin.startFlight = none →
      0 < flightLen s → boundaryTaken s x.now = false →
      (x.now = nextBoundary (s.cht.openedAt + 141120) (flightLen s) → exec (.firstFlight t us) s =
        .next (after t (fun y => beginFlight false (firstMarks us (commitCharter (pairStart (noteFlight y.now y))))) s)) ∧
      (x.now ≠ nextBoundary (s.cht.openedAt + 141120) (flightLen s) → exec (.firstFlight t us) s = .next x))

/-- Cold reset and brown-out (R93, R481), and the loss of the main rails after a trip (R493): everything returns to its reset value but the
packages' media, the fuses with the programmed key hash, the JTAG port, the pins and what has left the device.
Warm and Door resets (R94 to R97): only the device-owner door may ask for a Warm reset, and only once an epoch has committed; it takes
place at the next audio flight boundary, or at once where no flights run; a reset of a door's link or function resets that door, and in
SHUT nothing.
The model's own choices in it: assumptions 40, 45, 46, 48, 49, 53, 157. -/
def Obligations.Resets : Prop :=
  (∀ (s : State) (t : Nat) (hot : Bool), calm t s = true →
    let x := arriveAt t s
    let cold := fun pins => { State.reset with
      pending := s.pending, drawn := s.drawn, ucr := coldPackages s.ucr, pins := pins, jtag := s.jtag, out := s.out
      cht := { charterUnitInit with fuses := s.cht.fuses, keyHash := s.cht.keyHash } }
    exec (.coldReset t hot) s = .next (cold { s.pins with
      resetN := false, tripped := s.pins.tripped && hot, thermTripN := !(s.pins.tripped && hot)
      pwrMainEn := s.pins.aonValid && !(s.pins.tripped && hot) }) ∧
    (s.pins.pwrMainEn = true ∨ s.pins.tripped = true → s.pins.pwrGood = true →
      exec (.brownOut t) s = .next (cold { s.pins with pwrGood := false })) ∧
    ((s.pins.pwrMainEn = false ∧ s.pins.tripped = false) ∨ s.pins.pwrGood = false →
      exec (.brownOut t) s = .next { x with pins := { s.pins with pwrGood := false } }) ∧
    (s.pins.pwrMainEn = true → s.pins.pwrGood = false → s.clk.power ≠ .waking →
      exec (.pwrGoodRise t) s = .next { x with pins := { s.pins with pwrGood := true } }) ∧
    (s.pins.pwrMainEn = false ∨ s.pins.pwrGood = true → exec (.pwrGoodRise t) s = .next x)) ∧
  (∀ (s : State) (t : Nat) (d w : Fin 4), calm t s = true →
    let x := arriveAt t s
    let a := Reg.CHT_RESET_WARM.addr
    let askDoor : Word := BitVec.ofNat 32 (2 + 4 * d.val)
    (writeCheck x d a 1 = none →
      (d.val ≠ devOwner s → exec (.warmReset t d) s = .next (after t (partitionError .cht d) s)) ∧
      (d.val = devOwner s → s.epoch.newest = 0 → exec (.warmReset t d) s = .next (after t (configError .cht d) s)) ∧
      (d.val = devOwner s → 0 < s.epoch.newest → s.cht.warmAt = none → s.tim.flights = .running →
        exec (.warmReset t d) s = .next { x with cht := { s.cht with warmAt := some (boundaryAfter s x.now) } }) ∧
      (d.val = devOwner s → 0 < s.epoch.newest → s.cht.warmAt = none → s.tim.flights = .stopped →
        exec (.warmReset t d) s = .next (after t beginWarm s))) ∧
    (writeCheck x w a askDoor = none → w.val ≠ d.val → w.val ≠ devOwner s →
      exec (.doorReset t d (.register w)) s = .next (after t (partitionError .cht w) s)) ∧
    (writeCheck x w a askDoor = none → (w.val = d.val ∨ w.val = devOwner s) → doorEnabled s d = true →
      exec (.doorReset t d (.register w)) s = .next (after t (resetDoor d) s)) ∧
    ((doorOf s d).phase = .shut → exec (.doorReset t d .functionLevel) s = .next x) ∧
    ((doorOf s d).phase ≠ .shut → exec (.doorReset t d .functionLevel) s = .next (after t (doorReset d) s)))

/-- A write of CHT_RESET is judged whole (R97): of the reasons to drop it the first that applies is recorded, and nothing that it requests is
taken; otherwise a Warm reset is taken, and the door reset only where no Warm reset is asked for (in SHUT it does nothing). -/
def Obligations.ResetWrites : Prop :=
  ∀ (s : State) (t : Nat) (d : Fin 4) (v : BitVec 64), calm t s = true →
    let w : Word := v.setWidth 32
    let warm := w.getLsbD 0 = true
    let door := w.getLsbD 1 = true
    let target := (w.extractLsb' 2 2).toNat
    let owner := d.val = devOwner s
    let does := fun f => exec (.registerWrite t d .bar0 0x400150 .word v) s = .next (after t f s)
    let drop1 := warm ∧ ¬ owner
    let drop2 := warm ∧ owner ∧ s.epoch.newest = 0
    let drop3 := door ∧ target ≠ d.val ∧ ¬ owner
    let drop4 := door ∧ doorEnabled s target = false
    writeCheck (arriveAt t s) d 0x400150 w = none →
    (drop1 → does (partitionError .cht d)) ∧
    (drop2 → does (configError .cht d)) ∧
    (¬ drop1 → ¬ drop2 → drop3 → does (partitionError .cht d)) ∧
    (¬ drop1 → ¬ drop2 → ¬ drop3 → drop4 → does (configError .cht d)) ∧
    (¬ drop1 → ¬ drop2 → ¬ drop3 → ¬ drop4 → warm → does askWarm) ∧
    (¬ drop1 → ¬ drop2 → ¬ drop3 → ¬ drop4 → ¬ warm → door → does (resetDoor target)) ∧
    (¬ warm → ¬ door → does id)

/-- The owner query (R86) and the recovery registers of a stopped device (R84, R85): a command runs with its address aligned, a key hash
only where none is programmed; another is refused with ERR; a read, a program or an erase goes to the store, the last two between a write
enable and a read of the status; a read's data fills the buffer, and a programmed key hash stays in the fuses.
The model's own choices in it: assumptions 50, 51. -/
def Obligations.QueryAndRecovery : Prop :=
  ∀ (s : State) (t : Nat) (d : Fin 4) (v : Word) (data : List Byte), calm t s = true → sorted 0 s.doors = true →
    let x := arriveAt t s
    let a := Reg.CHT_REC_CTRL_CMD.addr
    let addr := getF s Reg.CHT_REC_ADDR_ADDR
    let wrote := fun (v : Word) (y : State) => storeWord a v y
    (writeCheck x d Reg.CHT_OWNER_QUERY_KIND.addr v = none →
      exec (.ownerQuery t d v) s = .next (setDoor x d { doorOf s d with
        ownerResult := ownerResult s (v.extractLsb' 0 4).toNat (v.extractLsb' 4 17).toNat })) ∧
    (s.cht.stopped = true → s.cht.recRunning = 0 → swf resetWord s.regs = true →
      (writeCheck x d a 9 = none → addr % 256 = 0 →
        exec (.recoveryRead t d) s = .next { setF (wrote 9 x) Reg.CHT_REC_CTRL_BUSY 1 with
          cht := { s.cht with recRunning := 1 }, out := { s.out with xspi := s.out.xspi ++ [slowCmd 0x13 (some addr) [] 256] } }) ∧
      (writeCheck x d a 9 = none → addr % 256 ≠ 0 →
        exec (.recoveryRead t d) s = .next (setF (wrote 9 x) Reg.CHT_REC_CTRL_ERR 1)) ∧
      (writeCheck x d a 10 = none → addr % 256 = 0 → exec (.recoveryProgram t d) s = .next
        { setF (wrote 10 x) Reg.CHT_REC_CTRL_BUSY 1 with
          cht := { s.cht with recRunning := 2 }, out := { s.out with xspi := s.out.xspi ++
            [slowCmd 0x06 none [] 0, slowCmd 0x12 (some addr) (recoveryBuf s) 0, slowCmd 0x05 none [] 1] } }) ∧
      (writeCheck x d a 11 = none → addr % 65536 = 0 → exec (.recoveryErase t d) s = .next
        { setF (wrote 11 x) Reg.CHT_REC_CTRL_BUSY 1 with
          cht := { s.cht with recRunning := 3 }, out := { s.out with xspi := s.out.xspi ++
            [slowCmd 0x06 none [] 0, slowCmd 0xDC (some addr) [] 0, slowCmd 0x05 none [] 1] } }) ∧
      (writeCheck x d a 12 = none → (∀ h ∈ s.cht.keyHash, h = 0) → exec (.keyHashProgram t d) s = .next
        { setF (wrote 12 x) Reg.CHT_REC_CTRL_BUSY 1 with cht := { s.cht with recRunning := 4 } }) ∧
      (writeCheck x d a 12 = none → (∃ h ∈ s.cht.keyHash, h ≠ 0) →
        exec (.keyHashProgram t d) s = .next (setF (wrote 12 x) Reg.CHT_REC_CTRL_ERR 1))) ∧
    (s.cht.recRunning = 1 → swf resetWord s.regs = true → ∃ u, exec (.recoveryDone t false data) s = .next u ∧ u.cht.recRunning = 0 ∧
      getF u Reg.CHT_REC_CTRL_BUSY = 0 ∧ getF u Reg.CHT_REC_CTRL_ERR = 0 ∧
      ∀ n, n < 64 → getF u (Reg.CHT_REC_BUF_DATA n) = leAt data (4 * n) 4) ∧
    (s.cht.recRunning = 4 → swf resetWord s.regs = true → ∃ u, exec (.recoveryDone t false data) s = .next u ∧ u.cht.recRunning = 0 ∧
      u.cht.keyHash = (List.range 12).map (fun n => rget s (Reg.CHT_REC_BUF_DATA n).addr) ∧
      u.cht.fuses = s.cht.fuses.map fun f => { f with keyHash := u.cht.keyHash }) ∧
    (s.cht.recRunning ≠ 0 → exec (.recoveryDone t true data) s = .next
      (setF (setF { x with cht := { s.cht with recRunning := 0 } } Reg.CHT_REC_CTRL_BUSY 0) Reg.CHT_REC_CTRL_ERR 1))

/-! ### Rings, requests and journals (R105 to R131) -/

/-- Rings: a doorbell within the ring stores TAIL (R106) and one beyond it is dropped with a configuration error; an entry that the door may
fetch is taken and received, with its completion slot reserved (R109, R118), and where the door may not fetch nothing arrives; clearing EN
stops the ring or the journal and its indexes return to 0 (R131).
The model's own choices in it: assumption 24. -/
def Obligations.Rings : Prop :=
  ∀ (s : State) (t : Nat) (d : Fin 4) (r : Fin 8) (v : Word) (e : RequestEntry) (data : List Byte), calm t s = true →
    swf resetWord s.regs = true →
    let x := arriveAt t s
    let tail := Reg.DOR_RQ_PTR_TAIL d r
    (writeCheck x d tail.addr v = none → phaseAdmits x d tail.addr true = true →
      (v.toNat % 65536 < rqSize s d r → exec (.ringDoorbell t d r v) s = .next (setF x tail (v.toNat % 65536))) ∧
      (rqSize s d r ≤ v.toNat % 65536 → exec (.ringDoorbell t d r v) s = .next (after t (configError .dor d) s))) ∧
    (canFetch s d r = true → exec (.requestArrival t d r e data) s = .next (after t (receiveEntry d r e data) s)) ∧
    (canFetch s d r = false → exec (.requestArrival t d r e data) s = .next x) ∧
    (getF s (Reg.DOR_CQ_CFG_EN d r) = 1 → phaseAdmits x d (Reg.DOR_CQ_CFG_EN d r).addr true = true →
      ∃ u, exec (.ringDisable t d .completion r) s = .next u ∧ u = { x with regs := u.regs, doors := u.doors } ∧
        getF u (Reg.DOR_CQ_CFG_EN d r) = 0 ∧ getF u (Reg.DOR_CQ_PTR_TAIL d r) = 0 ∧ getF u (Reg.DOR_CQ_PTR_HEAD d r) = 0 ∧
        (0 < cqReservedOf s d r → getF u (Reg.DOR_CQ_CFG_LOST d r) = 1)) ∧
    (getF s (Reg.DOR_JRN_CFG_EN d) = 1 → phaseAdmits x d (Reg.DOR_JRN_CFG_EN d).addr true = true →
      ∃ u, exec (.ringDisable t d .journal r) s = .next u ∧ u = { x with regs := u.regs, doors := u.doors } ∧
        getF u (Reg.DOR_JRN_CFG_EN d) = 0 ∧ getF u (Reg.DOR_JRN_TAIL_TAIL d) = 0 ∧ getF u (Reg.DOR_JRN_HEAD_HEAD d) = 0) ∧
    (getF s (Reg.DOR_RQ_CFG_EN d r) = 1 → phaseAdmits x d (Reg.DOR_RQ_CFG_EN d r).addr true = true →
      openGroup s d r = [] → exec (.ringDisable t d .request r) s =
        .next (setGroup d r [] (setF (setF (setF x (Reg.DOR_RQ_CFG_EN d r) 0) tail 0) (Reg.DOR_RQ_PTR_HEAD d r) 0)))

/-- Answers (R114, R122, R127, R148, R149, R401): a door writes its oldest completion, its first held journal record once its hold has
passed, and executes the oldest immediate request of each opcode. With none, nothing happens.
The model's own choices in it: assumptions 29, 118. -/
def Obligations.AnswersAndImmediates : Prop :=
  ∀ (s : State) (t : Nat) (d : Fin 4) (y : Completion) (ys : List Completion) (j : JournalRec) (js : List JournalRec) (r : Req)
    (i : Treads) (rest : List (Req × Treads)) (op : Nat) (a data : List Byte) (lads : List Ladder), calm t s = true →
    let x := arriveAt t s
    let rest_ := fun z => setDoor z d { doorOf z d with immediate := rest }
    ((doorOf s d).completions = y :: ys → exec (.completionWrite t d) s =
      .next (after t (fun z => writeCompletion d y (setDoor z d { doorOf z d with completions := ys })) s)) ∧
    ((doorOf s d).completions = [] → exec (.completionWrite t d) s = .next x) ∧
    ((doorOf s d).held = j :: js → j.stamp + 8820 ≤ x.now → exec (.journalWrite t d) s =
      .next (after t (fun z => journalWrite d j (setDoor z d { doorOf z d with held := js })) s)) ∧
    ((doorOf s d).held = j :: js → x.now < j.stamp + 8820 → exec (.journalWrite t d) s = .next x) ∧
    (r.body = .entry op a data → (doorOf s d).immediate = (r, i) :: rest →
      (op = 0x0002 → exec (.readView t d) s = .next (after t (fun z => doReadView d r a (rest_ z)) s)) ∧
      (op = 0x0100 → exec (.txFrame t d) s = .next (after t (fun z =>
        if 4 ≤ argAt a 16 1 then complete d r 0 stRange 0 (rest_ z)
        else pushHost (argAt a 16 1) ⟨data.take (argAt a 20 2), x.now, some (d.val, r),
          if argAt a 17 1 % 2 = 1 then some (argAt a 18 2) else none, none⟩ (rest_ z)) s)) ∧
      (op = 0x0101 → exec (.rxPost t d) s = .next (after t (fun z =>
        if 256 ≤ (postedOf s d).length then complete d r 0 0x103 0 (rest_ z)
        else setPosted d (postedOf s d ++ [⟨r, argAt a 24 8⟩]) (rest_ z)) s)) ∧
      (op = 0x0400 → exec (.exportCmd t d lads) s = .next (after t (fun z => doExport d lads r a (rest_ z)) s))) ∧
    ((doorOf s d).immediate = [] → exec (.readView t d) s = .next x ∧ exec (.txFrame t d) s = .next x ∧
      exec (.rxPost t d) s = .next x ∧ exec (.exportCmd t d lads) s = .next x)

/-! ### Ports, queues, the shaper and the cipher engine (R132 to R176, R313 to R327) -/

/-- Ports: a frame at a disabled port leaves no trace, and at an enabled one counts and passes the checks of Table 2 (R132); a path without a
frame for PATH_TIMEOUT goes down, and not before (R141); a link's change shows in ETH_PORT_STAT and raises event 0x0A0 + p, an uncorrectable
codeword counts at an enabled port and raises 0x0A4 + p.
The model's own choices in it: assumption 66. -/
def Obligations.PortCommands : Prop :=
  ∀ (s : State) (t : Nat) (f : RxFrame) (kind : Fin 8) (otype : Fin 4) (object : BitVec 16) (path : Fin 2) (p : Fin 4)
    (up hiSer : Bool) (seen : Treads), calm t s = true → swf resetWord s.regs = true →
    let x := arriveAt t s
    let key := mergeKey kind otype object.toNat
    let down := fun z => pathChange kind object.toNat path (objectChans z kind object.toNat) false
      { z with ports := { s.ports with pathSeen := ssetC none s.ports.pathSeen (2 * key + path) none } }
    (getF s (Reg.ETH_PORT_CFG_EN f.port) = 0 → exec (.frameReceive t f) s = .next x) ∧
    (getF s (Reg.ETH_PORT_CFG_EN f.port) ≠ 0 →
      let counted := fun z => ethCount f.port 0 (addF z (Reg.ETH_CNT_COUNT f.port 14) f.corrected)
      exec (.frameReceive t f) s = .next (after t (fun z => ingress f (counted z)) s) ∧
      (f.fcsOk = false → exec (.frameReceive t f) s = .next (ethCount f.port 1 (counted x))) ∧
      (f.fcsOk = true → f.raw.length + 4 < 64 → exec (.frameReceive t f) s = .next (ethCount f.port 2 (counted x)))) ∧
    (pathOf s key path = some seen → seen + getF s Reg.ETH_MERGE_CFG_PATH_TIMEOUT * 8820 ≤ x.now →
      exec (.pathTimeout t kind otype object path) s = .next (after t down s)) ∧
    (pathOf s key path = some seen → x.now < seen + getF s Reg.ETH_MERGE_CFG_PATH_TIMEOUT * 8820 →
      exec (.pathTimeout t kind otype object path) s = .next x) ∧
    (pathOf s key path = none → exec (.pathTimeout t kind otype object path) s = .next x) ∧
    (let stat := fun (z : State) => setF (setF (setF (setF z (Reg.ETH_PORT_STAT_HI_SER p) hiSer.toNat) (Reg.ETH_PORT_STAT_LINK p) up.toNat)
        (Reg.ETH_PORT_STAT_ALIGN p) up.toNat) (Reg.ETH_PORT_STAT_FEC_LOCK p) up.toNat
     exec (.portLinkChange t p up hiSer) s = .next (after t (fun z => raiseEvent (0x0A0 + p) (stat z)) s) ∧
     getF (stat x) (Reg.ETH_PORT_STAT_LINK p) = up.toNat ∧ getF (stat x) (Reg.ETH_PORT_STAT_FEC_LOCK p) = up.toNat) ∧
    (let told := fun (z : State) => setF z (Reg.ETH_PORT_STAT_HI_SER p) hiSer.toNat
     exec (.fecUncorrectable t p hiSer) s = .next (after t (fun z => raiseEvent (0x0A4 + p)
       (if getF (told z) (Reg.ETH_PORT_CFG_EN p) = 1 then ethCount p 15 (told z) else told z)) s))

/-- Leg queues (R153 to R156, R321): a word joins those that its queue takes, in order; each producer's wait longer than STALL_LIMIT raises event
0x0C2 once; head packets beyond their window leave, but not those of a packet task's queue.
The scheduler and the gates (R313, R314, R322, R323): a busy or disabled port, or one that its limiter holds, picks nothing; another one
picks among its queues' head packets, late ones first taken away; a waiting gate list comes into force once its start has come, with event 0x0C6, and not before; an entry change shows the entry in force.
The model's own choices in it: assumptions 67, 70, 75. -/
def Obligations.QueuesAndGates : Prop :=
  (∀ (s : State) (t : Nat) (q : Fin 32768) (w : QWord), calm t s = true →
    let x := arriveAt t s
    let y := queueOf s q
    let outlasted := fun (v : QWait) => decide (v.since + getF s Reg.SHP_Q_CFG_STALL_LIMIT < x.now) && !v.told
    exec (.queueWordAccept t q w) s =
      .next (after t (fun z => pumpQueue q (setQueue q { y with backlog := y.backlog ++ [w] } z)) s) ∧
    exec (.stallLimitExpiry t q) s = .next (after t (fun z => (y.waits.filter outlasted).foldl (fun z _ => raiseEvent 0x0C2 z)
      (setQueue q { y with waits := y.waits.map fun v => if outlasted v then { v with told := true } else v } z)) s) ∧
    ((∀ v ∈ y.waits, outlasted v = false) → exec (.stallLimitExpiry t q) s = .next (setQueue q y x)) ∧
    (getF s (Reg.QUEUE_NOTIFY q) = 1 → exec (.emissionWindowExpiry t q) s = .next x) ∧
    (getF s (Reg.QUEUE_NOTIFY q) = 0 → windowPast x q = false → exec (.emissionWindowExpiry t q) s = .next x) ∧
    (getF s (Reg.QUEUE_NOTIFY q) = 0 → exec (.emissionWindowExpiry t q) s = .next (after t (expireFuel q y.pkts.length) s))) ∧
  (∀ (s : State) (t delay : Nat) (p : Fin 4) (fault : Option (Fin 8)) (at_ : Treads) (g : GateList) (word : PoisonCause)
      (errs : List ShpError), calm t s = true →
    let x := arriveAt t s
    ((gatesOf s p).next = some (at_, g) → at_ ≤ x.now → exec (.gateListStart t p) s = .next (after t (fun y =>
      raiseEvent 0x0C6 (showGates p (setGates p ⟨g, at_, none⟩ y))) s)) ∧
    ((gatesOf s p).next = some (at_, g) → x.now < at_ → exec (.gateListStart t p) s = .next x) ∧
    ((gatesOf s p).next = none →
      exec (.gateListStart t p) s = .next x ∧ exec (.gateEntryChange t p) s = .next (showGates p x) ∧
      (getF s (Reg.ETH_PORT_CFG_EN p) = 0 ∨ x.now < sgetC 0 s.shp.portBusy p ∨ portAllows x p = false →
        exec (.schedulerPick t p delay fault word errs) s = .next x) ∧
      (getF s (Reg.ETH_PORT_CFG_EN p) ≠ 0 → sgetC 0 s.shp.portBusy p ≤ x.now → portAllows x p = true →
        exec (.schedulerPick t p delay fault word errs) s = .next (after t (fun y =>
          let z := errs.foldl (fun z e => pickError e z) y
          let z := (portQueues z p).foldl (fun z q => emissionWindowExpiry q z) z
          pickFuel p delay fault (((portQueues z p).map fun q => (queueOf z q).pkts.length).foldl (· + ·) 1) word z) s))))

/-- The cipher engine (R168 to R174): a final set is passed once, after those before it, its waiting records in the order of the pass, each
then pending or untrusted; a tag check decides a pending record once no earlier one waits: a replay, a tag that fails (counted, with event
0x0E0), a disagreement of a lane's datapaths, or trust, with what a received RTCP packet then does. ENTROPY_FAIL and ENTROPY_PASS: the
entropy source's tests show in CIP_STAT, a failure with event 0x0E8.
The model's own choices in it: assumption 74. -/
def Obligations.CipherEngine : Prop :=
  (∀ (s : State) (t flight : Nat) (o : SetOwner) (y : ArrSet), calm t s = true → s.twin.resync.kept = none →
    let x := arriveAt t s
    (setOf s o flight = none → exec (.cipherReceivePass t o flight) s = .next x) ∧
    (setOf s o flight = some y →
      (y.final = false ∨ y.passed = true ∨ passWaits x o (setStart s o flight) = true →
        exec (.cipherReceivePass t o flight) s = .next x) ∧
      (y.final = true → y.passed = false → passWaits x o (setStart s o flight) = false → s.twin.state ≠ .copying →
        exec (.cipherReceivePass t o flight) s = .next (after t (fun z =>
          let f := setStart z o flight
          let todo := ((indexed 0 y.recs).filter fun r => r.2.trust == .waiting).foldl (fun l r => passInsert z f r l) []
          let w := todo.foldl (fun (acc : List ArrRec × State) r =>
            (acc.1.set r.1 (passRecord f r.2 acc.2).1, (passRecord f r.2 acc.2).2)) (y.recs, z)
          settle (putSet { y with recs := w.1, passed := true } w.2)) s) ∧
        ((y.recs.all fun r => r.trust != .waiting) = true → exec (.cipherReceivePass t o flight) s =
          .next (after t (fun z => settle (putSet { y with passed := true } z)) s))))) ∧
  (∀ (s : State) (t flight n i : Nat) (o : SetOwner) (y : ArrSet) (r : ArrRec) (k use : RxKey) (from_ : Option Treads)
      (fault : Option (Fin 8)) (lane : Fin 8), calm t s = true → s.twin.resync.kept = none →
    setOf s o flight = some y → y.recs[n]? = some r → r.trust = .pending i →
    let x := arriveAt t s
    let f := setStart s y.owner y.flight
    let does := fun (g : State → State) => exec (.tagCheck t o flight n fault) s = .next (after t (fun z => fillFoyers (settle (g z))) s)
    let bad := putRecord y n { r with trust := .untrusted }
    (tagWaits x y n r i = true → exec (.tagCheck t o flight n fault) s = .next (after t fillFoyers s)) ∧
    (tagWaits x y n r i = false → workingLane s fault = some lane → does (fun z => bad (laneMismatch lane 0 r.cix 0x01 1 z))) ∧
    (tagWaits x y n r i = false → workingLane s fault = none → rxKeyAt (rxOf s r.cix) f = some k →
      keyFor (rxOf s r.cix) f i = some (use, from_) →
      (recReplayed s k r i = true → does (fun z => bad (replayHit r.cix z))) ∧
      (recReplayed s k r i = false → (openRecord use r i).2 = false →
        does (fun z => bad (raiseEvent 0x0E0 (incF (incF z (Reg.RXC_AUTH_FAIL r.cix)) (Reg.CIP_CNT_COUNT 1))))) ∧
      (recReplayed s k r i = false → (openRecord use r i).2 = true →
        does (fun z => rtcpRecord { r with trust := .trusted } y.flight
          (putRecord y n { r with trust := .trusted } (trustRecord (setStart z y.owner y.flight) { r with trust := .trusted } i z)))))) ∧
  (∀ (s : State) (t : Nat), calm t s = true →
    exec (.entropyFail t) s = .next (after t (fun z =>
      raiseEvent 0x0E8 (captureError .cip 0x05 1 false 0 0 none (setF z Reg.CIP_STAT_ENTROPY_OK 0))) s) ∧
    exec (.entropyPass t) s = .next (setF (arriveAt t s) Reg.CIP_STAT_ENTROPY_OK 1))

/-! ### Landing cores and media tasks (R194 to R203, R204 to R312) -/

/-- A core enters the release that its running slot holds (R185, R195), once the inactive foyer can be filled: registers as Table 9 gives them,
its program counter from the entry table, the other foyer; a parity failure of the entry's word fences it (R203). With no such release, or
with a task in progress, nothing happens.
The model's own choices in it: assumptions 78, 84, 85. -/
def Obligations.TaskEntry : Prop :=
  ∀ (s : State) (t : Nat) (n : Fin 512) (r : Release) (bad : List (BitVec 13)), calm t s = true → swf resetWord s.regs = true →
    s.twin.resync.kept = none →
    let x := arriveAt t s
    let c := coreOf s n
    (runningOn s 0 n = none → exec (.coreTaskEntry t n bad) s = .next x) ∧
    (c.task.isSome = true → exec (.coreTaskEntry t n bad) s = .next x) ∧
    (runningOn s 0 n = some r → c.task = none → c.wait = .none → coreFenced s n = false → r.exit = none →
      let entry := getF s (Reg.TASK_FUNC r.task)
      let known := c.bad ++ (bad.map (·.toNat)).filter fun w => !c.bad.contains w
      let ready := c.filled = some r.entry ∨ imageReady s r = true
      (¬ ready → exec (.coreTaskEntry t n bad) s = .next (setCore n { c with bad := known } x)) ∧
      (ready → known.contains entry = true → exec (.coreTaskEntry t n bad) s =
        .next (after t (fun y => fenceCore n entry 7 (fillInactive n r (setCore n { c with bad := known } y))) s)) ∧
      (ready → known.contains entry = false → ∃ u, exec (.coreTaskEntry t n bad) s = .next u ∧
        u = { x with lnd := u.lnd, regs := u.regs } ∧
        let c' := coreOf u n
        c'.task = some r.task ∧ c'.flight = r.flight ∧ c'.pc = (programWord s entry).toNat % 8192 ∧ c'.foyer = 1 - c.foyer ∧
        gOf c' 1 = BitVec.ofNat 32 (foyerBase (1 - c.foyer)) ∧ gOf c' 2 = BitVec.ofNat 32 (objectOf s r.task) ∧
        gOf c' 3 = BitVec.ofNat 32 r.flight ∧ gOf c' 4 = BitVec.ofNat 32 (presentMask r) ∧
        (∀ i, i ≠ 1 → i ≠ 2 → i ≠ 3 → i ≠ 4 → gOf c' i = 0) ∧ (∀ i, accOf c' i = 0 ∧ aOf c' i = 0) ∧
        c'.stack = [] ∧ c'.lc = 0 ∧ c'.cp = 0 ∧ c'.hist = 0 ∧ c'.sm = 1 ∧ c'.rnd = true ∧ c'.sat = false ∧
        getF u (Reg.LND_CORE_STAT_STATE n) = 1 ∧ getF u (Reg.LND_CORE_TASK_RUNNING n) = 1))

/-- PUTs, the limit and peeks (R194, R198, R203): the oldest PUT leaves the buffer once its destination takes it; a core that waits to leave does
so with an empty buffer; a task beyond LND_LIMIT cycles, those it waited among them, fences its core outside a repeat, another not; a peek
reads one word and changes no core.
The model's own choices in it: assumption 86. -/
def Obligations.CoreServices : Prop :=
  ∀ (s : State) (t : Nat) (n : Fin 512) (e : PutEntry) (es : List PutEntry) (cycles : Nat) (d : Fin 4) (v : Word), calm t s = true →
    s.twin.resync.kept = none →
    let x := arriveAt t s
    let c := coreOf s n
    let used := max (c.cycles + (if c.wait = .none then 0 else waitCycles x c.since)) cycles
    (c.puts = e :: es →
      (∀ q bs last poison, e.put = .queue q bs last poison →
        let held := fun (z : State) => (queueOf z q).backlog.any fun w => w.src == e.task
        (c.putOut = false → exec (.putDelivery t n) s = .next (after t (fun y =>
          let z := presentPut n e.task q bs last poison y
          if held z then z else popPut n z) s)) ∧
        (c.putOut = true → held s = true → exec (.putDelivery t n) s = .next x) ∧
        (c.putOut = true → held s = false → exec (.putDelivery t n) s = .next (after t (popPut n) s))) ∧
      ((∀ q bs last poison, e.put ≠ .queue q bs last poison) →
        exec (.putDelivery t n) s = .next (after t (fun y => popPut n (deliverPut e y)) s))) ∧
    (c.puts = [] →
      (c.wait = .none → exec (.putDelivery t n) s = .next x) ∧
      (c.wait = .drain → exec (.putDelivery t n) s = .next (stopWait n x)) ∧
      (c.wait = .held → exec (.putDelivery t n) s = .next (stopWait n x)) ∧
      (∀ code, c.wait = .leave code → exec (.putDelivery t n) s = .next (after t (fun y => leaveTask n code (stopWait n y)) s))) ∧
    (c.task.isSome = true → c.rep = none → getF s Reg.LND_LIMIT_CYCLES < used →
      exec (.limitExceeded t n cycles) s = .next (after t (fenceCore n c.pc 6) s)) ∧
    (c.task = none ∨ c.rep.isSome = true ∨ used ≤ getF s Reg.LND_LIMIT_CYCLES →
      exec (.limitExceeded t n cycles) s = .next x) ∧
    (writeCheck x d Reg.LND_PEEK_ADDR_WORD.addr v = none → swf resetWord s.regs = true →
      let z := storeWord Reg.LND_PEEK_ADDR_WORD.addr v x
      let k := coreOf s (getF z Reg.LND_PEEK_ADDR_CORE)
      let w := getF z Reg.LND_PEEK_ADDR_WORD
      ∃ u, exec (.peek t d v) s = .next u ∧ u = { x with regs := u.regs } ∧
        rget u Reg.LND_PEEK_DATA_DATA.addr =
          (if inScratch w && !k.scratch.contains w then scratchWord k w else sgetC 0 k.mem w) ∧
        getF u Reg.LND_PEEK_STAT_DONE = 1 ∧ getF u Reg.LND_PEEK_STAT_POISON = (sgetC false k.poisoned w).toNat)

/-- Audio tasks (R204 to R224) for the flight of their running release: a leg-in task ends with exit code 0 and changes the leg, the Gallery's
inputs and the reports alone; a bus or recipe task runs once for its flight; a packet with side-tone is written from 1,470 treads before its
slot, once it is ready. With no running release nothing happens.
The model's own choices in it: assumptions 87, 90, 94. -/
def Obligations.AudioTasks : Prop :=
  ∀ (s : State) (t : Nat) (leg : Fin 10240) (given : List (List Int)) (frames : List (Option (List Byte)))
    (b : Fin 32) (n : Fin 40) (faults : List (GalWord × Bool)) (r : Release) (p : OutPkt), calm t s = true → s.drm.issuer = none →
    s.twin.resync.kept = none →
    let x := arriveAt t s
    (runningOf s leg = none → exec (.legInTask t leg given) s = .next x) ∧
    (runningOf s (10240 + leg.val) = none → exec (.legOutTask t leg frames) s = .next x) ∧
    (runningOf s (21632 + b.val) = none → exec (.busTask t b faults) s = .next x) ∧
    (runningOf s (21664 + n.val) = none → exec (.recipeTask t n faults) s = .next x) ∧
    (runningOf s leg = some r → r.exit = none → (s.lnd.cores.find? fun e => e.2.task == some leg.val) = none →
      ∃ u, exec (.legInTask t leg given) s = .next u ∧
        u.stw = { s.stw with releases := s.stw.releases.map fun q => if q.entry = r.entry then { r with exit := some 0 } else q } ∧
        u = { x with regs := u.regs, doors := u.doors, evt := u.evt, twin := u.twin, out := u.out
                     epoch := { s.epoch with words := u.epoch.words }, lnd := u.lnd, gal := u.gal, stw := u.stw }) ∧
    (runningOf s (10240 + leg.val) = some r → r.exit = none →
      exec (.legOutTask t leg frames) s = .next (after t (asRelease (10240 + leg.val) fun y =>
        let f := flightStart y r.flight
        let flags := takeFlags (10240 + leg.val) y
        let z := flags.2
        let start := encoderStart z leg r.flight flags.1
        let l := legOf z leg
        let z := setLeg leg { l with
          encFrom := some start, encReinit := if fromFlight l.encReinit r.flight then none else l.encReinit } z
        let poison := (outputLegs z f leg).any fun l => (galleryOperand z l r.flight).2.contains true
        let z := if poison then loadPoison (10240 + leg.val) leg z else z
        let p := ptimeTreads (cfgF z f (Reg.LEG_OUT_PTIME leg))
        let starts := codecPackets z leg r.flight
        firmwareExit (10240 + leg.val) (((List.range starts.length).zip starts).foldl (fun z e =>
          if start ≤ e.2 then
            let c := flightStart z (flightNumber z e.2)
            let xs := (packetOutputs z leg e.2 p).map fun o => satTo 24 (outV o 0)
            match encodedPayload (cfgF z c (Reg.LEG_OUT_FMT leg)) (cfgF z c (Reg.LEG_G722_MODE leg)) (cfgF z c (Reg.LEG_DTX leg) == 1)
                xs ((frames[e.1]?).getD none) with
            | none => z
            | some bytes =>
              let head : PktPrefix := ⟨audioSlot e.2 p (flightLen z), bytes.length,
                (e.2 / 2940 + cfgF z c (Reg.LEG_TS_OFS leg)) % 4294967296, false, false⟩
              let bad := (outputLegs z c leg).any fun l => (packetOutputs z l e.2 p).any (·.bad)
              (legQueues z c leg).foldl (fun z q => emitPacket q (10240 + leg.val) head bytes bad z) z
          else z) z)) s)) ∧
    (runningOf s (21632 + b.val) = some r → s.gal.busDone.contains (r.flight, b.val) = false →
      exec (.busTask t b faults) s = .next (after t (asRelease (21632 + b.val) fun y =>
        let g := galFaults faults (busTaskReads y b r.flight) y
        let z := (List.range 32).foldl (fun z i => runBus r.flight (32 * b + i) g.1 z) g.2
        let z := setL z Reg.GAL_STAT_ACTIVE_XP (activeXps z ((r.flight + 1) * flightSamples z - 1)).length
        setExit (21632 + b.val) 0 (setGal { z.gal with busDone := z.gal.busDone ++ [(r.flight, b.val)] } z)) s)) ∧
    (runningOf s (21632 + b.val) = some r → s.gal.busDone.contains (r.flight, b.val) = true → exec (.busTask t b faults) s = .next x) ∧
    (runningOf s (21664 + n.val) = some r → s.gal.recDone.contains (r.flight, n.val) = false →
      exec (.recipeTask t n faults) s = .next (after t (asRelease (21664 + n.val) fun y =>
        let g := galFaults faults (recipeTaskReads n) y
        let z := addF g.2 (Reg.GAL_CNT_COUNT 0) (absentCount g.2 n r.flight)
        let work := recipeWork z n r.flight
        let z := work.foldl (fun z l => beginPackets r.flight l z) (work.foldl (fun z l => runRecipe r.flight l g.1 z) z)
        let z := setExit (21664 + n.val) 0 (writeReady (setGal { z.gal with recDone := z.gal.recDone ++ [(r.flight, n.val)] } z))
        if recipesDone z r.flight then publishAll (setGal { z.gal with meterDue := z.gal.meterDue ++ [r.flight] } z) else z) s)) ∧
    ((s.gal.packets.find? fun q => q.side && q.leg == leg.val) = some p →
      (audioSlot p.t0 p.ptime (flightLen s) ≤ x.now + 1470 → pktReady s p = true →
        exec (.sidetonePacketWrite t leg) s = .next (after t (fun y => publishAll (writePacket p y)) s)) ∧
      (x.now + 1470 < audioSlot p.t0 p.ptime (flightLen s) → exec (.sidetonePacketWrite t leg) s = .next x)) ∧
    ((s.gal.packets.find? fun q => q.side && q.leg == leg.val) = none → exec (.sidetonePacketWrite t leg) s = .next x)

/-- Video, Hall and port tasks (R146, R240 to R312) for the instant of their running release: each ends its release with exit code 0 after its
work, and waits for the trust of its records where it reads a set; a task beyond its TIMEOUT ends with 0xFF and publishes nothing, and one
within it goes on; a stream's key frame requests that are due go to the ports.
The model's own choices in it: assumptions 95, 97, 100. -/
def Obligations.VideoTasks : Prop :=
  ∀ (s : State) (t sram : Nat) (n : Fin 256) (c : Fin 64) (i : Fin 16) (o : Fin 8) (h : Fin 88) (l : Fin 3) (port : Fin 4)
    (starts : List Nat) (results : List AuResult) (bad : List (Nat × Option Nat)) (rows : List Nat) (errs : List FwdError)
    (r : Release), calm t s = true → s.twin.resync.kept = none → r.exit = none →
    let x := arriveAt t s
    (runningOf s (21704 + n.val) = some r →
      (trustFinal s (.stream n) r.flight = true → exec (.decodeTask t n starts results sram) s = .next (after t
        (asRelease (21704 + n.val) fun y =>
          let y := if sram = 1 then raiseEvent 0x148 (captureError .dec 0x01 1 false n 0 none y) else y
          let y := if sram = 2 then raiseEvent 0x149 (decError n (runsOn r) 2 y) else y
          setExit (21704 + n.val) 0 (decodeWork n (runsOn r) r starts results (sram == 2) y)) s)) ∧
      (trustFinal s (.stream n) r.flight = false → s.drm.issuer = none →
        exec (.decodeTask t n starts results sram) s = .next x) ∧
      (r.started + getF s Reg.DEC_CFG_TIMEOUT < x.now → exec (.decodeTimeout t n starts) s = .next (after t
        (asRelease (21704 + n.val) fun y => setExit (21704 + n.val) 0xFF
          (decodeWork n (runsOn r) r starts [] true (raiseEvent 0x14A (decError n (runsOn r) 4 y)))) s)) ∧
      (x.now ≤ r.started + getF s Reg.DEC_CFG_TIMEOUT → s.drm.issuer = none → exec (.decodeTimeout t n starts) s = .next x)) ∧
    (let due := fun (q : Bool × Treads) => decide (q.2 ≤ x.now)
     exec (.keyFrameRequest t n) s = .next { setStream n { streamOf s n with
        requests := (streamOf s n).requests.filter fun q => !due q } x with
       ports := { s.ports with rtcpDue := s.ports.rtcpDue ++ ((streamOf s n).requests.filter due).map fun q => (n.val, q.1, q.2) } }) ∧
    (runningOf s (21960 + c.val) = some r → exec (.compositionTask t c sram bad) s = .next (after t
      (asRelease (21960 + c.val) fun y => setExit (21960 + c.val) 0 (composeFrame c r (if sram = 2 then bad else [])
        (halSram sram ((bad.head?.map (·.1)).getD 0) c y))) s)) ∧
    (runningOf s (22024 + i.val) = some r → trustFinal s (.input i) r.flight = true → exec (.inputTask t i sram rows) s = .next (after t
      (asRelease (22024 + i.val) fun y =>
        let recs := (((setOf y (.input i) r.flight).map (·.recs)).getD []).filter fun a => recUsable a && a.kind == 3
        setExit (22024 + i.val) 0 (inputEnd i r (if sram = 2 then rows else []) (recs.foldl
          (fun z a => inputRecord i r.flight r.instant a z) (setInput i (sourceFor r.instant (inputOf y i)) (halSram sram 0 0 y))))) s)) ∧
    (runningOf s (22040 + o.val) = some r →
      let shown := compAt s r.instant (cfgF s r.instant (Reg.OUTC_COMP o))
      (shown = none → exec (.outputTask t o 0 rows) s = .next (after t
        (asRelease (22040 + o.val) fun y => setExit (22040 + o.val) 0 (raiseEvent 0x163 y)) s)) ∧
      (∀ p, shown = some p → exec (.outputTask t o 0 rows) s = .next (after t
        (asRelease (22040 + o.val) fun y => setExit (22040 + o.val) 0 (outputFrame o r.flight r.instant p [] y)) s)) ∧
      exec (.outputTask t o sram rows) s = .next (after t (asRelease (22040 + o.val) fun y =>
        let z := halSram sram 0 (cfgF y r.instant (Reg.OUTC_COMP o)) y
        setExit (22040 + o.val) 0 (match compAt z r.instant (cfgF z r.instant (Reg.OUTC_COMP o)) with
          | none => raiseEvent 0x163 z
          | some p => outputFrame o r.flight r.instant p (if sram = 2 then rows else []) z)) s)) ∧
    (runningOf s (21960 + h.val) = some r →
      (r.started + getF s Reg.HAL_CFG_TIMEOUT < x.now → exec (.hallTimeout t h) s = .next (after t (asRelease (21960 + h.val) fun y =>
        setExit (21960 + h.val) 0xFF (raiseEvent 0x167 (halError 0x04 0 (if h.val < 64 then h.val else 0) y))) s)) ∧
      (x.now ≤ r.started + getF s Reg.HAL_CFG_TIMEOUT → s.drm.issuer = none → exec (.hallTimeout t h) s = .next x)) ∧
    (runningOf s (22048 + 3 * c.val + l.val) = some r →
      let dead := (programOf s c).dead.contains r.instant
      (dead = false → exec (.encodeTask t c l sram) s = .next (after t (asRelease (22048 + 3 * c.val + l.val) fun y =>
        let y := setF (setF y (Reg.ENC_ENGINE_STAT_PROGRAM (runsOn r)) c) (Reg.ENC_ENGINE_STAT_LAYER (runsOn r)) l
        let y := if sram = 1 then raiseEvent 0x185 (captureError .enc 0x01 1 false c 0 none y) else y
        let y := if sram = 2 then raiseEvent 0x186 (encError 0x02 c l (runsOn r) y) else y
        let f := flightFor c r.instant r.deadline y
        setExit (22048 + 3 * c.val + l.val) 0 (layerPicture c l (runsOn r) f.1 sram f.2)) s)) ∧
      (dead = true → exec (.encodeTask t c l sram) s = .next (after t
        (asRelease (22048 + 3 * c.val + l.val) (setExit (22048 + 3 * c.val + l.val) 0xFF)) s)) ∧
      (r.started + getF s Reg.ENC_CFG_TIMEOUT < x.now → exec (.encodeTimeout t c l) s = .next (after t (asRelease (22048 + 3 * c.val + l.val) fun y =>
        setExit (22048 + 3 * c.val + l.val) 0xFF (raiseEvent 0x187 (encError 0x04 c l (runsOn r) (setProgram c { programOf s c with
          dead := r.instant :: (programOf s c).dead.filter fun a => decide (oldestInstant y ≤ a)
          current := (programOf s c).current.filter fun f => f.start != r.instant, forceKey := true } y)))) s)) ∧
      (x.now ≤ r.started + getF s Reg.ENC_CFG_TIMEOUT → s.drm.issuer = none → exec (.encodeTimeout t c l) s = .next x)) ∧
    (runningOf s (22240 + c.val) = some r → ((programOf s c).pubs.find? fun q => q.start == r.instant) = none →
      exec (.forwardingTask t c []) s = .next (after t (asRelease (22240 + c.val) (setExit (22240 + c.val) 0)) s)) ∧
    (∀ pub, runningOf s (22240 + c.val) = some r → ((programOf s c).pubs.find? fun q => q.start == r.instant) = some pub →
      exec (.forwardingTask t c []) s = .next (after t (asRelease (22240 + c.val) fun y =>
        let a := outSlot y r.instant c pub.slot
        let size := outSlotBytes y r.instant c
        setExit (22240 + c.val) 0 ((programLegs y r.instant c).foldl (fun z v =>
          forwardLeg r.instant r.deadline c pub (readSlot y a (a + size) (size / 16)) v z) y)) s)) ∧
    (runningOf s (22240 + c.val) = some r → exec (.forwardingTask t c errs) s =
      .next (after t (asRelease (22240 + c.val) fun y => forwardingTask c [] (errs.foldl (fun z e => forwardError e z) y)) s)) ∧
    (runningOf s (22304 + port.val) = some r → exec (.rtcpGenerationTask t port) s = .next (after t
      (asRelease (22304 + port.val) fun y => setExit (22304 + port.val) 0 (generateRtcp port r.flight y)) s))

/-! ### Landing instructions -/

/-- ALU functions of two registers (R189, Table 7 of Landing cores): the result, the flags, and nothing else of the device.
ALU functions of a register and an immediate (R189, Table 7 of Landing cores).
The model's own choices in it: assumptions 77, 79. -/
def Obligations.AluInstructions : Prop :=
  (∀ (s : State) (t : Nat) (n : Fin 512) (d a b : Fin 16), calm t s = true → running s n = true →
    let x := gOf (coreOf s n) a
    let y := gOf (coreOf s n) b
    let c := fetched (coreOf s n) [a, b]
    let c1 := fetched (coreOf s n) [(a : Nat)]
    let leaves := fun c' => Host.Outcome.next (setCore n c' (arriveAt t s))
    exec (.add t n d a b) s = leaves { resultIn d (x + y) c with c := x.uaddOverflow y, v := x.saddOverflow y } ∧
    exec (.sub t n d a b) s = leaves { resultIn d (x - y) c with c := !x.usubOverflow y, v := x.ssubOverflow y } ∧
    exec (.cmp t n a b) s =
      leaves { c with z := x - y == 0, n := (x - y).msb, c := !x.usubOverflow y, v := x.ssubOverflow y } ∧
    exec (.adds t n d a b) s = leaves { resultIn d
      (if x.saddOverflow y then (if x.msb then 0x80000000 else 0x7FFFFFFF) else x + y) c with
      sat := c.sat || x.saddOverflow y } ∧
    exec (.subs t n d a b) s = leaves { resultIn d
      (if x.ssubOverflow y then (if x.msb then 0x80000000 else 0x7FFFFFFF) else x - y) c with
      sat := c.sat || x.ssubOverflow y } ∧
    exec (.and t n d a b) s = leaves (resultIn d (x &&& y) c) ∧
    exec (.or t n d a b) s = leaves (resultIn d (x ||| y) c) ∧
    exec (.xor t n d a b) s = leaves (resultIn d (x ^^^ y) c) ∧
    exec (.shl t n d a b) s = leaves (resultIn d (x <<< (y.extractLsb' 0 5)) c) ∧
    exec (.shr t n d a b) s = leaves (resultIn d (x >>> (y.extractLsb' 0 5)) c) ∧
    exec (.sra t n d a b) s = leaves (resultIn d (x.sshiftRight' (y.extractLsb' 0 5)) c) ∧
    exec (.min t n d a b) s = leaves (resultIn d (if x.slt y then x else y) c) ∧
    exec (.max t n d a b) s = leaves (resultIn d (if x.slt y then y else x) c) ∧
    exec (.abs t n d a) s = leaves { resultIn d (if x = 0x80000000 then 0x7FFFFFFF else if x.msb then -x else x) c1 with
      sat := c1.sat || x == 0x80000000 } ∧
    exec (.norm t n d a) s =
      leaves (resultIn d (BitVec.ofNat 32 ((List.range 31).filter fun i => x.getLsbD i == x.getLsbD 31).length) c1)) ∧
  (∀ (s : State) (t : Nat) (n : Fin 512) (d a : Fin 16) (imm : BitVec 16), calm t s = true → running s n = true →
    let x := gOf (coreOf s n) a
    let k := imm.signExtend 32
    let c := fetched (coreOf s n) [(a : Nat)]
    let leaves := fun c' => Host.Outcome.next (setCore n c' (arriveAt t s))
    exec (.addi t n d a imm) s = leaves { resultIn d (x + k) c with c := x.uaddOverflow k, v := x.saddOverflow k } ∧
    exec (.cmpi t n a imm) s =
      leaves { c with z := x - k == 0, n := (x - k).msb, c := !x.usubOverflow k, v := x.ssubOverflow k } ∧
    exec (.andi t n d a imm) s = leaves (resultIn d (x &&& (imm.zeroExtend 32)) c) ∧
    exec (.ori t n d a imm) s = leaves (resultIn d (x ||| (imm.zeroExtend 32)) c) ∧
    exec (.xori t n d a imm) s = leaves (resultIn d (x ^^^ (imm.zeroExtend 32)) c) ∧
    exec (.shli t n d a imm) s = leaves (resultIn d (x <<< (imm.extractLsb' 0 5)) c) ∧
    exec (.shri t n d a imm) s = leaves (resultIn d (x >>> (imm.extractLsb' 0 5)) c) ∧
    exec (.srai t n d a imm) s = leaves (resultIn d (x.sshiftRight' (imm.extractLsb' 0 5)) c) ∧
    exec (.lui t n d imm) s = leaves (resultIn d (imm.zeroExtend 32 <<< 16) (fetched (coreOf s n) [])))

/-- The multiplier and the accumulators (R189, R192): products of signed halves, sums that clamp to 40 bits and note it in SAT;
CLRA, LDA, CPA and MPY never clamp.
Scaled moves of an accumulator (R192): into a register, or into memory at the address that the address registers give.
The model's own choices in it: assumptions 77, 80. -/
def Obligations.AccumulatorMoves : Prop :=
  (∀ (s : State) (t : Nat) (n : Fin 512) (acc acc2 : Fin 4) (a b g : Fin 16) (ah bh : Bool) (shift : BitVec 8),
    calm t s = true → running s n = true →
    let p := signedHalf (gOf (coreOf s n) a) ah * signedHalf (gOf (coreOf s n) b) bh
    let x := accOf (coreOf s n) acc
    let y := accOf (coreOf s n) acc2
    let c := fetched (coreOf s n) [a, b]
    let c0 := fetched (coreOf s n) []
    let clamped := fun v c => accIn acc (sat40 v) (!fits40 v) c
    let leaves := fun c' => Host.Outcome.next (setCore n c' (arriveAt t s))
    exec (.mpy t n acc a ah b bh) s = leaves (accIn acc p false c) ∧
    exec (.mac t n acc a ah b bh) s = leaves (clamped (x + p) c) ∧
    exec (.msu t n acc a ah b bh) s = leaves (clamped (x - p) c) ∧
    exec (.clra t n acc) s = leaves (accIn acc 0 false c0) ∧
    exec (.lda t n acc g) s = leaves (accIn acc (gOf (coreOf s n) g).toInt false (fetched (coreOf s n) [(g : Nat)])) ∧
    exec (.adda t n acc acc2) s = leaves (clamped (x + y) c0) ∧
    exec (.nega t n acc) s = leaves (clamped (-x) c0) ∧
    (fits40 y = true → exec (.cpa t n acc acc2) s = leaves (accIn acc y false c0)) ∧
    (-32 ≤ shift.toInt → shift.toInt ≤ 32 → exec (.sha t n acc shift) s =
      leaves (clamped (if 0 ≤ shift.toInt then x * 2 ^ shift.toInt.toNat else x.fdiv (2 ^ (-shift.toInt).toNat)) c0))) ∧
  (∀ (s : State) (t : Nat) (n : Fin 512) (acc a : Fin 4) (g : Fin 16) (mode : Fin 8) (addr : Nat) (na : Int),
    calm t s = true → running s n = true →
    let c := fetched (coreOf s n) []
    let moved := fun (z : Nat) (k : Int) => -- the value of an accumulator scaled to z bits, by the shift k of its scale mode
      let x := accOf c acc
      let r := 32 - (z : Int) - k
      let v := if 0 < r then (x + if c.rnd then 2 ^ (r - 1).toNat else 0).fdiv (2 ^ r.toNat) else x * 2 ^ (-r).toNat
      if v < -(2 ^ (z - 1)) then -(2 ^ (z - 1)) else if 2 ^ (z - 1) - 1 < v then 2 ^ (z - 1) - 1 else v
    let clamps := fun (z : Nat) (k : Int) =>
      let x := accOf c acc
      let r := 32 - (z : Int) - k
      let v := if 0 < r then (x + if c.rnd then 2 ^ (r - 1).toNat else 0).fdiv (2 ^ r.toNat) else x * 2 ^ (-r).toNat
      decide (v < -(2 ^ (z - 1))) || decide (2 ^ (z - 1) - 1 < v)
    let k := scaleShift c.sm
    let leaves := fun c' => Host.Outcome.next (setCore n c' (arriveAt t s))
    exec (.mva t n acc g) s =
      leaves { c with g := ssetC 0 c.g g (BitVec.ofInt 32 (moved 32 k)), sat := c.sat || clamps 32 k } ∧
    exec (.mvah t n acc g) s =
      leaves { c with g := ssetC 0 c.g g (BitVec.ofInt 32 (moved 16 k)), sat := c.sat || clamps 16 k } ∧
    (agu c a mode 4 0 = .ok (addr, na) → accessFault c addr 4 4 = none →
      exec (.sta t n acc a mode) s =
        leaves (wordIn (addr / 4) (BitVec.ofInt 32 (moved 32 k)) { setA a na c with sat := c.sat || clamps 32 k })) ∧
    (agu c a mode 2 0 = .ok (addr, na) → accessFault c addr 2 2 = none → readable c (addr / 4) = true →
      exec (.stah t n acc a mode) s = leaves { setA a na c with
        mem := ssetC 0 c.mem (addr / 4) (if addr % 4 = 2
          then (BitVec.ofInt 16 (moved 16 k)) ++ (sgetC 0 c.mem (addr / 4)).extractLsb' 0 16
          else (sgetC 0 c.mem (addr / 4)).extractLsb' 16 16 ++ (BitVec.ofInt 16 (moved 16 k)))
        sat := c.sat || clamps 16 k }))

/-- Loads and stores (Table 7 and R188 of Landing cores): an aligned access to the core's own memory that meets no error. The address
register steps as the addressing mode says, and a loaded register makes the next reader wait (R190).
Products of memory (Table 7, R184, R189): both halfwords are at the addresses found before the instruction; X's address register steps, then
Y's, which may be the same one; mode 4 names no displacement here and is a program fault of cause 1.
The model's own choices in it: assumptions 77, 80, 81, 83. -/
def Obligations.MemoryAccesses : Prop :=
  (∀ (s : State) (t : Nat) (n : Fin 512) (g : Fin 16) (a : Fin 4) (mode : Fin 8) (disp : BitVec 16) (addr size : Nat) (na : Int),
    calm t s = true → running s n = true →
    agu (coreOf s n) a mode size disp.toNat = .ok (addr, na) → accessFault (coreOf s n) addr size size = none →
    let c := fetched (coreOf s n) []
    let c1 := fetched (coreOf s n) [(g : Nat)]
    let old := sgetC 0 c.mem (addr / 4)
    let half : BitVec 16 := if addr % 4 = 2 then old.extractLsb' 16 16 else old.extractLsb' 0 16
    let loads := fun w => Host.Outcome.next
      (setCore n { setA a na c with g := ssetC 0 c.g g w, loaded := some (g : Nat) } (arriveAt t s))
    (size = 4 → readable c (addr / 4) = true → exec (.ldw t n g a mode disp []) s = loads old) ∧
    (size = 2 → readable c (addr / 4) = true →
      exec (.ldh t n g a mode disp []) s = loads (half.signExtend 32) ∧
      exec (.ldhu t n g a mode disp []) s = loads (half.zeroExtend 32) ∧
      exec (.ldhh t n g a mode disp []) s = loads (half.zeroExtend 32 <<< 16)) ∧
    (size = 4 → exec (.stw t n g a mode disp) s =
      .next (setCore n (wordIn (addr / 4) (gOf (coreOf s n) g) (setA a na c1)) (arriveAt t s))) ∧
    (size = 2 → readable c (addr / 4) = true → exec (.sth t n g a mode disp) s =
      .next (setCore n { setA a na c1 with mem := ssetC 0 c.mem (addr / 4) (if addr % 4 = 2
        then (gOf (coreOf s n) g).extractLsb' 0 16 ++ old.extractLsb' 0 16
        else old.extractLsb' 16 16 ++ (gOf (coreOf s n) g).extractLsb' 0 16) } (arriveAt t s)))) ∧
  (∀ (s : State) (t : Nat) (n : Fin 512) (acc x y : Fin 4) (modeX modeY : Fin 8) (ax ay az : Nat) (nx ny nz : Int),
    calm t s = true → running s n = true →
    let c := fetched (coreOf s n) []
    let half := fun (addr : Nat) => signedHalf (sgetC 0 c.mem (addr / 4)) (decide (addr % 4 = 2))
    let p := half ax * half ay
    let leaves := fun v => Host.Outcome.next
      (setCore n (accIn acc (sat40 v) (!fits40 v) (setA y nz (setA x nx c))) (arriveAt t s))
    let traps := Host.Outcome.next (after t (fun z => programFault n (coreOf s n).pc 1 (setCore n c z)) s)
    (modeX.val ≠ 4 → modeY.val ≠ 4 → agu c x modeX 2 0 = .ok (ax, nx) → agu c y modeY 2 0 = .ok (ay, ny) →
      agu (setA x nx c) y modeY 2 0 = .ok (az, nz) →
      accessFault c ax 2 2 = none → accessFault c ay 2 2 = none → readable c (ax / 4) = true → readable c (ay / 4) = true →
      exec (.macm t n acc x y modeX modeY [] []) s = leaves (accOf c acc + p) ∧
      exec (.msum t n acc x y modeX modeY [] []) s = leaves (accOf c acc - p)) ∧
    (modeX.val = 4 ∨ modeY.val = 4 →
      exec (.macm t n acc x y modeX modeY [] []) s = traps ∧ exec (.msum t n acc x y modeX modeY [] []) s = traps))

/-- TAP (R193): the halfword at A[a] moves up two bytes, around the buffer where CIRC is 1, its product with the coefficient at CP enters
the accumulator, A[a] steps down and CP steps up, by two bytes each. -/
def Obligations.FilterTap : Prop :=
  ∀ (s : State) (t : Nat) (n : Fin 512) (acc a : Fin 4) (circ sub : Bool),
    calm t s = true → running s n = true →
    let c := fetched (coreOf s n) []
    let src := aOf c a
    let base : Int := (sgetC 0 c.ab a : Nat)
    let len : Int := (sgetC 0 c.al a : Nat)
    let moved := fun (k : Int) => if circ then base + ((src : Int) - base + k) % len else (src : Int) + k
    let dst := (moved 2 % 131072).toNat
    (circ = true → sgetC 0 c.al a ≠ 0) →
    accessFault c src 2 2 = none → accessFault c dst 2 2 = none → readable c (src / 4) = true → readable c (dst / 4) = true → c.bad.contains (c.cp / 4) = false →
    let old := sgetC 0 c.mem (dst / 4)
    let word := sgetC 0 c.mem (src / 4)
    let half : BitVec 16 := if src % 4 = 2 then word.extractLsb' 16 16 else word.extractLsb' 0 16
    let p := half.toInt * coefAt s c.cp
    let v := if sub then accOf c acc - p else accOf c acc + p
    exec (.tap t n acc a circ sub []) s = .next (setCore n { accIn acc (sat40 v) (!fits40 v) (setA a (moved (-2)) c) with
      mem := ssetC 0 c.mem (dst / 4) (if dst % 4 = 2 then half ++ old.extractLsb' 0 16 else old.extractLsb' 16 16 ++ half)
      cp := (c.cp + 2) % 32768 } (arriveAt t s))

/-- Control (R189, R190, R191, R194): a taken branch, a call and a return take two cycles more; an untaken branch and a NOP take one;
RPT and RPTG set the count of the next instruction.
The model's own choices in it: assumptions 77, 80. -/
def Obligations.ControlInstructions : Prop :=
  ∀ (s : State) (t : Nat) (n : Fin 512) (cond : Fin 16) (target : BitVec 13) (imm : BitVec 16) (g : Fin 16) (back : Nat) (rest : List Nat),
    calm t s = true → running s n = true →
    let c := fetched (coreOf s n) []
    let goes := fun c' (pc : Nat) => Host.Outcome.next
      (setCore n { c' with pc := pc % 8192, cycles := c.cycles + 2, busy := c.busy + 2 } (arriveAt t s))
    let holds : Nat → Bool := fun k => match k with
      | 0 => true | 1 => c.z | 2 => !c.z | 3 => c.n | 4 => !c.n | 5 => !(c.z || c.n)
      | 6 => c.z || c.n | 7 => c.c | 8 => !c.c | 9 => c.v | _ => c.sat
    exec (.nopInstruction t n) s = .next (setCore n c (arriveAt t s)) ∧
    (cond.val ≤ 10 → exec (.br t n cond target) s =
      if holds cond then goes c target.toNat else .next (setCore n c (arriveAt t s))) ∧
    (c.stack.length < 8 → exec (.call t n target) s = goes { c with stack := c.pc :: c.stack } target.toNat) ∧
    (c.stack = back :: rest → exec (.ret t n) s = goes { c with stack := rest } back) ∧
    exec (.rpt t n imm) s =
      .next (setCore n { c with rep := some (imm.toNat + 1), lc := imm.toNat + 1 } (arriveAt t s)) ∧
    (let c1 := fetched (coreOf s n) [(g : Nat)]
     let k := (gOf c1 g).toNat % 65536 + 1
     exec (.rptg t n g) s = .next (setCore n { c1 with rep := some k, lc := k } (arriveAt t s)))

/-- The call stack and the program counter (R191): a CALL with eight return indexes on the stack, and a RET with none, is a program fault of
cause 4; the instruction after the one at 8,191 is the one at 0. -/
def Obligations.CallDepth : Prop :=
  ∀ (s : State) (t : Nat) (n : Fin 512) (target : BitVec 13), calm t s = true → running s n = true →
    let c := fetched (coreOf s n) []
    let traps := Host.Outcome.next (after t (fun x => programFault n (coreOf s n).pc 4 (setCore n c x)) s)
    (c.stack.length = 8 → exec (.call t n target) s = traps) ∧
    (c.stack = [] → exec (.ret t n) s = traps) ∧
    ((coreOf s n).pc = 8191 → ∃ u, exec (.nopInstruction t n) s = .next u ∧ (coreOf u n).pc = 0 ∧ u = setCore n (coreOf u n) (arriveAt t s)) ∧
    ((coreOf s n).pc < 8191 → ∃ u, exec (.nopInstruction t n) s = .next u ∧ (coreOf u n).pc = (coreOf s n).pc + 1)

/-- Waiting for the PUT buffer (R198, R201): WAITP with a full buffer waits and with an empty one goes on; EXIT with one that is not
empty waits, with its eight cycles counted.
EXIT with nothing in the PUT buffer (R201, R202): the core's task ends, its poison is kept for the object's next task, and LAST_EXIT
holds the code. -/
def Obligations.WaitAndExit : Prop :=
  (∀ (s : State) (t : Nat) (n : Fin 512) (code : BitVec 8), calm t s = true → running s n = true →
    let c := fetched (coreOf s n) []
    let c := { c with since := (arriveAt t s).now }
    (c.puts = [] → exec (.waitp t n) s = .next (setCore n c (arriveAt t s))) ∧
    (c.puts ≠ [] → exec (.waitp t n) s = .next (setCore n { c with wait := .drain } (arriveAt t s))) ∧
    (c.puts ≠ [] → exec (.exit t n code) s =
      .next (setCore n { c with wait := .leave code.toNat, cycles := c.cycles + 7, busy := c.busy + 7 } (arriveAt t s)))) ∧
  (∀ (s : State) (t : Nat) (n : Fin 512) (code : BitVec 8) (task : Nat), calm t s = true → running s n = true →
    (coreOf s n).puts = [] → (coreOf s n).task = some task → swf resetWord s.regs = true → sorted 0 s.lnd.flags = true →
    ∃ u, exec (.exit t n code) s = .next u ∧
      (coreOf u n).task = none ∧ (coreOf u n).wait = .none ∧ (coreOf u n).g = (coreOf s n).g ∧
      (flagsOf u task).1 = (flagsOf s task).1 ∧ (flagsOf u task).2 = ((flagsOf s task).2 || (coreOf s n).poison) ∧
      getF u (Reg.LND_CORE_STAT_LAST_EXIT n) = code.toNat ∧ getF u (Reg.LND_CORE_STAT_STATE n) = 0 ∧
      getF u (Reg.LND_CORE_TASK_RUNNING n) = 0 ∧ u.stw = (setExit task code.toNat s).stw ∧
      u = { arriveAt t s with lnd := u.lnd, regs := u.regs, stw := u.stw })

/-- Address registers (Table 7 of Landing cores): each form sets the one register that it names, 17 bits wide.
Address generation (R188): a circular step stays inside the buffer and differs from the plain step by whole buffers, and every
address that an access uses is the register's own but in mode 4. -/
def Obligations.AddressRegisters : Prop :=
  (∀ (s : State) (t : Nat) (n : Fin 512) (a : Fin 4) (g : Fin 16) (imm : BitVec 17), calm t s = true → running s n = true →
    let c := fetched (coreOf s n) []
    let c1 := fetched (coreOf s n) [(g : Nat)]
    let leaves := fun c' => Host.Outcome.next (setCore n c' (arriveAt t s))
    exec (.setAFromG t n a g) s = leaves { c1 with a := ssetC 0 c1.a a ((gOf c1 g).extractLsb' 0 17).toNat } ∧
    exec (.setAImmediate t n a imm) s = leaves { c with a := ssetC 0 c.a a imm.toNat } ∧
    exec (.setAbImmediate t n a imm) s = leaves { c with ab := ssetC 0 c.ab a imm.toNat } ∧
    exec (.setAlImmediate t n a imm) s = leaves { c with al := ssetC 0 c.al a imm.toNat } ∧
    exec (.setAmImmediate t n a imm) s = leaves { c with am := ssetC 0 c.am a imm.toNat } ∧
    (sgetC 0 c.a a < 131072 →
      exec (.setGFromA t n a g) s = leaves { c with g := ssetC 0 c.g g (BitVec.ofNat 32 (sgetC 0 c.a a)) })) ∧
  (∀ (c : Core) (i size addr : Nat) (na : Int), agu c i 5 size 0 = .ok (addr, na) →
    let AB := sgetC 0 c.ab i
    let AL := sgetC 0 c.al i
    let AM : Int := if sgetC 0 c.am i % 131072 < 65536 then sgetC 0 c.am i % 131072 else sgetC 0 c.am i % 131072 - 131072
    addr = aOf c i ∧ (AB : Int) ≤ na ∧ na < AB + AL ∧ (AL : Int) ∣ na - (aOf c i + AM))

/-- Special registers (R181, Table 4 of Landing cores): SR as its bits, the address registers whole, a read of an index outside the
table 0, and a write of a read-only or unlisted index nothing. -/
def Obligations.SpecialRegisters : Prop :=
  ∀ (s : State) (t : Nat) (n : Fin 512) (g : Fin 16) (spr : BitVec 8), calm t s = true → running s n = true →
    let c := fetched (coreOf s n) []
    let c1 := fetched (coreOf s n) [(g : Nat)]
    let w := gOf c1 g
    let i := spr.toNat
    let reads := fun (v : Word) => exec (.mfs t n g spr) s = .next (setCore n { c with g := ssetC 0 c.g g v } (arriveAt t s))
    let writes := fun c' => exec (.mts t n g spr) s = .next (setCore n c' (arriveAt t s))
    (i = 0 → c.sm < 8 → reads (0#22 ++ BitVec.ofBool c.poison ++ BitVec.ofBool c.sat ++ BitVec.ofBool c.rnd ++ BitVec.ofNat 3 c.sm ++
      BitVec.ofBool c.v ++ BitVec.ofBool c.c ++ BitVec.ofBool c.n ++ BitVec.ofBool c.z)) ∧
    (i = 1 → reads (BitVec.ofNat 32 c.cp)) ∧ (i = 2 → reads (BitVec.ofNat 32 c.lc)) ∧
    (i = 3 → reads (BitVec.ofNat 32 c.stack.length)) ∧ (4 ≤ i → i < 8 → reads (BitVec.ofNat 32 (sgetC 0 c.ab (i - 4)))) ∧
    (8 ≤ i → i < 12 → reads (BitVec.ofNat 32 (sgetC 0 c.al (i - 8)))) ∧
    (12 ≤ i → i < 16 → reads (BitVec.ofNat 32 (sgetC 0 c.am (i - 12)))) ∧
    (i = 16 → reads (BitVec.ofNat 32 (c.task.getD 0))) ∧ (i = 17 → reads (BitVec.ofNat 32 c.flight)) ∧
    (i = 18 → reads (BitVec.ofNat 32 (c.flight / 4294967296))) ∧ (19 ≤ i → reads 0) ∧
    (i = 0 → writes { c1 with
      z := w.getLsbD 0, n := w.getLsbD 1, c := w.getLsbD 2, v := w.getLsbD 3, sm := (w.extractLsb' 4 3).toNat, rnd := w.getLsbD 7
      sat := w.getLsbD 8, poison := c1.poison || w.getLsbD 9 }) ∧
    (i = 1 → writes { c1 with cp := (w.extractLsb' 0 15).toNat }) ∧
    (4 ≤ i → i < 8 → writes { c1 with ab := ssetC 0 c1.ab (i - 4) (w.extractLsb' 0 17).toNat }) ∧
    (8 ≤ i → i < 12 → writes { c1 with al := ssetC 0 c1.al (i - 8) (w.extractLsb' 0 17).toNat }) ∧
    (12 ≤ i → i < 16 → writes { c1 with am := ssetC 0 c1.am (i - 12) (w.extractLsb' 0 17).toNat }) ∧
    (i = 2 ∨ i = 3 ∨ 16 ≤ i → writes c1)

/-- PUTs into a buffer with room (R198, Table 10 of Landing cores), and the correlator (R200). A PUTQ whose queue holds its word waits with
it in the buffer; a PUT that finds the buffer full waits for room.
The model's own choices in it: assumptions 77, 81. -/
def Obligations.PutsAndCorrelator : Prop :=
  (∀ (s : State) (t : Nat) (n : Fin 512) (g tr : Fin 16) (a : Fin 4) (imm : BitVec 14) (task : Nat),
    calm t s = true → running s n = true → (coreOf s n).task = some task → (coreOf s n).puts.length < 16 →
    let c := fetched (coreOf s n) [(g : Nat), tr]
    let ct := fetched (coreOf s n) [(tr : Nat)]
    let c0 := fetched (coreOf s n) []
    let v := (gOf c tr).toNat
    let at_ := aOf c a
    let bytes := fun len => (coreBytes c at_ len).1
    let entry := fun (p : Put) => PutEntry.mk p task c.flight c.instant
    let enters := fun c' (p : Put) => Host.Outcome.next (setCore n { c' with puts := c'.puts ++ [entry p] } (arriveAt t s))
    let sample := fun conc => Put.gallery (v % 16384) (v / 16384 % 64) (gOf c g &&& 0xFFFFFF00) conc c.poison
    (placedOn s 0 (v % 16384) = some n.val →
      exec (.putg t n g tr) s = enters c (sample false) ∧ exec (.putgc t n g tr) s = enters c (sample true)) ∧
    (at_ % 64 = 0 → at_ + 64 ≤ 0x10000 → readableRun c at_ 64 = true →
      ((taskLeg s task).any fun l => getF s (Reg.LEG_QUEUE_A l) == v % 32768 || getF s (Reg.LEG_QUEUE_B l) == v % 32768) = true →
      let c1 := { ct with cycles := ct.cycles + 3, busy := ct.busy + 3 }
      let p := Put.queue (v % 32768) (bytes 64) (v / 65536 % 2 == 1) c.poison
      (wordHold s (v % 32768) task = .free → exec (.putq t n tr a []) s = enters c1 p) ∧
      (wordHold s (v % 32768) task ≠ .free →
        exec (.putq t n tr a []) s = enters { c1 with wait := .held, since := (arriveAt t s).now } p)) ∧
    (4 ≤ imm.toNat → imm.toNat ≤ 8192 → at_ + imm.toNat ≤ 0x10000 → readableRun c at_ imm.toNat = true →
      ∃ u, exec (.puto t n tr a imm []) s = .next u ∧
        coreOf u n = { ct with puts := c.puts ++ [entry (.operand (v % 16) (bytes imm.toNat) c.poison)] } ∧
        u = { arriveAt t s with lnd := u.lnd, stw := u.stw }) ∧
    (at_ + 32 ≤ 0x10000 → readableRun c at_ 32 = true → exec (.putt t n a []) s = enters c0 (.timecode (bytes 32) c.poison)) ∧
    exec (.corr t n g tr imm) s =
      (let c := fetched (coreOf s n) [(g : Nat)]
       let steps := (List.range (imm.toNat % 16 + 1)).map fun i => -- the history just after bit i has entered
         ((List.range (i + 1)).foldl (fun h j => (2 * h + ((gOf c g).getLsbD j).toNat) % 65536) c.hist)
       let bits := fun m word => (steps.zipIdx.map fun e => if e.1 = word then 2 ^ (m + e.2) else 0).sum
       .next (setCore n { c with g := ssetC 0 c.g tr (BitVec.ofNat 32 (bits 0 0x3FFD + bits 16 0xBFFC)),
                                 hist := steps.getLast?.getD c.hist } (arriveAt t s)))) ∧
  (∀ (s : State) (t : Nat) (n : Fin 512) (g tr : Fin 16) (a : Fin 4) (task : Nat),
    calm t s = true → running s n = true → (coreOf s n).task = some task → 16 ≤ (coreOf s n).puts.length →
    let c := fetched (coreOf s n) [(g : Nat), tr]
    let c0 := fetched (coreOf s n) []
    let v := (gOf c tr).toNat
    let at_ := aOf c a
    let waits := fun c' (p : Put) => Host.Outcome.next
      (setCore n { c' with wait := .room ⟨p, task, c.flight, c.instant⟩, since := (arriveAt t s).now } (arriveAt t s))
    let sample := fun conc => Put.gallery (v % 16384) (v / 16384 % 64) (gOf c g &&& 0xFFFFFF00) conc c.poison
    (placedOn s 0 (v % 16384) = some n.val →
      exec (.putg t n g tr) s = waits c (sample false) ∧ exec (.putgc t n g tr) s = waits c (sample true)) ∧
    (at_ + 32 ≤ 0x10000 → readableRun c at_ 32 = true →
      exec (.putt t n a []) s = waits c0 (.timecode (coreBytes c at_ 32).1 c.poison)))

/-- Where a branch or an access traps (R188, R189, R202): the task ends with the cause, and nothing else of the instruction happens. A fetch of
a word whose parity fails fences the core (R187, R203).
The model's own choices in it: assumption 80. -/
def Obligations.ProgramFaults : Prop :=
  (∀ (s : State) (t : Nat) (n : Fin 512), calm t s = true → working s n = true →
    (coreOf s n).bad.contains (coreOf s n).pc = true →
    exec (.nopInstruction t n) s = .next (after t (fenceCore n (coreOf s n).pc 7) s)) ∧
  ∀ (s : State) (t : Nat) (n : Fin 512) (cond g : Fin 16) (a : Fin 4) (mode : Fin 8) (disp : BitVec 16) (target : BitVec 13),
    calm t s = true → running s n = true →
    let c := fetched (coreOf s n) []
    let traps := fun cause => Host.Outcome.next
      (after t (fun x => programFault n (coreOf s n).pc cause (setCore n c x)) s)
    (10 < cond.val → exec (.br t n cond target) s = traps 1) ∧
    (mode.val ≠ 4 → disp ≠ 0 → exec (.ldw t n g a mode disp []) s = traps 1) ∧
    (mode.val = 5 → disp = 0 → sgetC 0 c.al a = 0 → exec (.ldw t n g a mode disp []) s = traps 1) ∧
    (mode.val = 6 → disp = 0 → (¬ ∃ k, 2 ≤ k ∧ k ≤ 16 ∧ sgetC 0 c.al a = 2 ^ k) → exec (.ldw t n g a mode disp []) s = traps 1) ∧
    (mode.val = 0 → disp = 0 → aOf c a % 4 ≠ 0 → exec (.ldw t n g a mode disp []) s = traps 2) ∧
    (mode.val = 0 → disp = 0 → aOf c a % 4 = 0 → 0x18000 ≤ aOf c a → exec (.ldw t n g a mode disp []) s = traps 3)

/-! ### The words of program memory (R187, Table 7 of Landing cores) -/

/-- Decode and encode agree: for every Landing instruction of every core, with each register, mode, immediate, displacement, target and
code at every value its field admits, the word that encodes it decodes to it, and to nothing else. (Whether a memory word read fails its
check bits is no part of a word: the decoder says that none does.) -/
def Obligations.LandingEncoding : Prop :=
  ∀ (t : Nat) (n : Fin 512) (d a b : Fin 16) (acc a2 x y : Fin 4) (mode mode2 : Fin 8) (p q : Bool) (imm : BitVec 16) (code : BitVec 8)
    (target : BitVec 13) (i14 : BitVec 14) (i17 : BitVec 17),
    let agrees := fun (i : Instr) => ∃ w, encodeLanding i = some w ∧ decodeLanding t n w = some i
    agrees (.add t n d a b) ∧ agrees (.sub t n d a b) ∧ agrees (.adds t n d a b) ∧ agrees (.subs t n d a b) ∧ agrees (.and t n d a b) ∧
    agrees (.or t n d a b) ∧ agrees (.xor t n d a b) ∧ agrees (.shl t n d a b) ∧ agrees (.shr t n d a b) ∧ agrees (.sra t n d a b) ∧
    agrees (.min t n d a b) ∧ agrees (.max t n d a b) ∧ agrees (.cmp t n a b) ∧ agrees (.norm t n d a) ∧ agrees (.abs t n d a) ∧
    agrees (.addi t n d a imm) ∧ agrees (.andi t n d a imm) ∧ agrees (.ori t n d a imm) ∧ agrees (.xori t n d a imm) ∧
    agrees (.shli t n d a imm) ∧ agrees (.shri t n d a imm) ∧ agrees (.srai t n d a imm) ∧ agrees (.lui t n d imm) ∧
    agrees (.cmpi t n a imm) ∧ agrees (.ldh t n d x mode imm []) ∧ agrees (.ldhu t n d x mode imm []) ∧ agrees (.ldw t n d x mode imm []) ∧
    agrees (.sth t n d x mode imm) ∧ agrees (.stw t n d x mode imm) ∧ agrees (.ldhh t n d x mode imm []) ∧ agrees (.mpy t n acc a p b q) ∧
    agrees (.mac t n acc a p b q) ∧ agrees (.msu t n acc a p b q) ∧ agrees (.macm t n acc x y mode mode2 [] []) ∧
    agrees (.msum t n acc x y mode mode2 [] []) ∧ agrees (.clra t n acc) ∧ agrees (.lda t n acc a) ∧ agrees (.mva t n acc a) ∧
    agrees (.mvah t n acc a) ∧ agrees (.sta t n acc x mode) ∧ agrees (.stah t n acc x mode) ∧ agrees (.adda t n acc a2) ∧
    agrees (.sha t n acc code) ∧ agrees (.nega t n acc) ∧ agrees (.cpa t n acc a2) ∧ agrees (.tap t n acc x p q []) ∧
    agrees (.nopInstruction t n) ∧ agrees (.br t n d target) ∧ agrees (.call t n target) ∧ agrees (.ret t n) ∧ agrees (.rpt t n imm) ∧
    agrees (.rptg t n d) ∧ agrees (.exit t n code) ∧ agrees (.waitp t n) ∧ agrees (.setAFromG t n x d) ∧ agrees (.setAImmediate t n x i17) ∧
    agrees (.setAbImmediate t n x i17) ∧ agrees (.setAlImmediate t n x i17) ∧ agrees (.setAmImmediate t n x i17) ∧
    agrees (.setGFromA t n x d) ∧ agrees (.putg t n d a) ∧ agrees (.putgc t n d a) ∧ agrees (.putq t n d x []) ∧ agrees (.puto t n d x i14 []) ∧
    agrees (.putt t n x []) ∧ agrees (.corr t n d a i14) ∧ agrees (.mfs t n d code) ∧ agrees (.mts t n d code)

/-! ### The Stairwell (R328 to R347) -/

/-- Releases (R331, R332, R334): while flights run, a live periodic task's release opens at each multiple of its period, unless DEPTH releases
are open: then it overruns. A delivery to a task that is disabled raises event 0x1A8, one to a task whose descriptor is lost does nothing,
and one that finds its release decides the waiting operand. -/
def Obligations.ReleasesOpen : Prop :=
  ∀ (s : State) (t src : Nat) (k : Fin 131072) (op : Fin 16) (next present poison : Bool) (r : Release), calm t s = true →
    let x := arriveAt t s
    let p := taskPeriod s k
    let fresh := freshRelease x k (x.now / p) x.now
    let reached := fun y => setStair { s.stw with reached := ssetC none s.stw.reached k (some x.now) } y
    let due := s.tim.flights = .running ∧ boundaryTaken s x.now = false ∧ 0 < p ∧ x.now % p = 0 ∧ taskLive s k = true ∧
      sgetC none s.stw.reached k ≠ some x.now ∧
      ((openOf s k).find? fun q => q.instant == x.now) = none ∧ s.stw.overran.contains (k.val, x.now) = false
    (s.tim.flights ≠ .running ∨ boundaryTaken s x.now = true → exec (.releaseInstant t k) s = .next x) ∧
    (s.tim.flights = .running → boundaryTaken s x.now = false → x.now % p ≠ 0 →
      exec (.releaseInstant t k) s = .next (after t settle s)) ∧
    (due → (openOf s k).length < taskDepth s k →
      exec (.releaseInstant t k) s = .next (after t (fun y => settle (openRelease fresh (reached y))) s)) ∧
    (due → taskDepth s k ≤ (openOf s k).length → exec (.releaseInstant t k) s =
      .next (after t (fun y => settle (deliverAbsent fresh (noteOverrun fresh (reached y)))) s)) ∧
    (taskOn s k = false → exec (.operandDelivery t k op src next present poison) s =
      .next (after t (fun y => settle (raiseEvent 0x1A8 y)) s)) ∧
    (taskOn s k = true → taskLost s k = true →
      exec (.operandDelivery t k op src next present poison) s = .next (after t settle s)) ∧
    (taskLive s k = true → 0 < p →
      ((openOf s k).find? fun q => q.instant == nextBoundary src p + if next then p else 0) = some r →
      r.ops.getD op .absent = .waiting → exec (.operandDelivery t k op src next present poison) s = .next (after t (fun y =>
        settle (putRelease { r with ops := r.ops.set op (if present then .present poison false else .absent)
                                    timed := r.timed.filter (· != op.val) } y)) s))

/-- From ready to complete (R336, R339 to R341, R343): of the ready releases of a class that an engine may take, the one with the earliest
deadline, then the lowest task number, then the lowest flight is staged; a staged release starts where its engine's running slot is empty;
a running one completes with the exit code of its work once no queue holds its words; a Stairwell memory error at the staging poisons the
operands or loses the task (R347); a release that is open past its deadline is a miss, once; waiting operands
become absent at the time-out.
The model's own choices in it: assumptions 104, 107. -/
def Obligations.ReleasesRun : Prop :=
  ∀ (s : State) (t flight e : Nat) (cls : Fin 12) (eng : Fin 512) (k : Fin 131072) (code : BitVec 8) (r : Release), calm t s = true →
    let x := arriveAt t s
    (let z := settle x
     let may := fun (q : Release) => q.stage = .ready ∧ getF z (Reg.TASK_CLASS q.task) = cls.val ∧ (engineFor z cls q).isSome = true
     let staged := fun (q : Release) (y : State) =>
       trace 3 { q with stage := .staged e } false 0 (incF (putRelease { q with stage := .staged e } y) (Reg.STW_CNT_COUNT 1))
     let stages := fun x (y : State) => exec (.releaseStage t cls x) s = .next (after t (fun _ => fillFoyers y) s)
     ((∀ q ∈ z.stw.releases, ¬ may q) → ∀ x, stages x z) ∧
     (r ∈ z.stw.releases → may r → engineFor z cls r = some e →
       (∀ q ∈ z.stw.releases, may q → q = r ∨ readyBefore r q = true) →
       stages .none (staged r z) ∧
       stages .corrected (staged r (raiseEvent 0x1A6 (captureError .stw 0x01 1 false r.task 0 none (incF z (Reg.STW_CNT_COUNT 7))))) ∧
       stages .entry (staged { r with ops := r.ops.map poisonOp } (stairFault 3 r.task false z)) ∧
       stages .descriptor (settle (loseTask r.task z)))) ∧
    (let staged := s.stw.releases.find? fun q => q.stage == .staged eng.val && getF s (Reg.TASK_CLASS q.task) == cls.val
     (runningOn s cls eng = none → staged = some r →
       let r' := { r with stage := .running eng.val, started := x.now }
       exec (.releaseStart t cls eng) s = .next (after t (fun y => fillFoyers (trace 4 r' false 0 (putRelease r' y))) s)) ∧
     ((runningOn s cls eng).isSome = true ∨ staged = none →
       exec (.releaseStart t cls eng) s = .next (after t fillFoyers s))) ∧
    (runningOf s k = some r → producerHeld s k = false → exec (.releaseComplete t k code) s =
      .next (after t (fun y => sweepNotified (settle (finishRelease r (r.exit.getD code.toNat) y))) s)) ∧
    (producerHeld s k = true → exec (.releaseComplete t k code) s = .next x) ∧
    (runningOf s k = none → producerHeld s k = false →
      exec (.releaseComplete t k code) s = .next (after t sweepNotified s)) ∧
    (let mine := (openOf s k).find? fun q => q.flight == flight
     (mine = none → exec (.deadlineMiss t k flight) s = .next x) ∧
     (mine = some r → (r.missed = true ∨ x.now ≤ r.deadline → exec (.deadlineMiss t k flight) s = .next x) ∧
       (r.missed = false → r.deadline < x.now → traceTakes s 7 k = false → s.stw.missEvent = true →
         getF s (Reg.TASK_CLASS k) < 12 → getF s (Reg.TASK_CLASS k) ≠ 8 → r.task = k.val → swf resetWord s.regs = true →
         ∃ u, exec (.deadlineMiss t k flight) s = .next u ∧
           u.stw.releases = s.stw.releases.map (fun q => if q.entry = r.entry then { r with missed := true } else q) ∧
           getF s (Reg.TASK_CLASS k) ∈ u.stw.missClass ∧
           u = { x with regs := u.regs, epoch := u.epoch, stw := u.stw }))) ∧
    (let z := settle x
     ((openOf z k).find? fun q => q.flight == flight) = none →
       exec (.operandTimeout t k flight) s = .next (after t settle s)) ∧
    (let z := settle x
     let due := (List.range 15).filter fun n => r.ops.getD n .absent == .waiting && decide (2 ≤ opKind z k n)
     ((openOf z k).find? fun q => q.flight == flight) = some r → (∃ at_, r.timeout = some at_ ∧ at_ ≤ z.now) → due ≠ [] →
       let r' := { r with ops := due.foldl (fun ops n => ops.set n .absent) r.ops, timed := due }
       exec (.operandTimeout t k flight) s = .next (after t (fun _ =>
         let y := incF (incL (putRelease r' z) (Reg.TASK_TIMEOUTS k)) (Reg.STW_CNT_COUNT 3)
         let y := incF y (Reg.STW_CLASS_TIMEOUT_COUNT (getF y (Reg.TASK_CLASS k)))
         settle (raiseEvent 0x1A1 (trace 6 r' false due.length y))) s))

/-! ### DRAM and DMA (R350 to R377) -/

/-- A subchannel's commands (R354, R356): a request whose row is open is served, a write of a whole line changing its own bytes and no other; a bank that holds
another row closes it, and a closed one opens the row; none is issued where none may be. A row that no request hits closes after IDLE
cycles.
Read data and fences (R357, R358, R364 to R368): a read without error answers the line's bytes, marked where the line is poisoned; a write of
less than a line then changes its own bytes; one whose tag fails twice is a command error; a fence is counted for its port once nothing earlier of the port is owed; an alert of a window of
commands counts, and where it repeats the commands of the window answer with an error.
The model's own choices in it: assumptions 108, 110. -/
def Obligations.DramCommandsAndAnswers : Prop :=
  (∀ (s : State) (t : Nat) (c : Fin 16) (blocked : List Nat) (r : DramReq) (bank : Fin 64) (row last : Nat), calm t s = true →
    let x := arriveAt t s
    let z := noteDrain c (noteUrgency c x)
    let open_ := openRow (subAt z c) (bankOf z (lineOf z r.line))
    (subRunning s c = false → exec (.dramCommand t c blocked) s = .next x) ∧
    (subRunning s c = true → pick z c blocked = none →
      exec (.dramCommand t c blocked) s = .next (after t (fun y => noteDrain c (noteUrgency c y)) s)) ∧
    (subRunning s c = true → pick z c blocked = some r → s.twin.resync.active = false → Memory.wf s.drm.mem = true →
      ∃ u, exec (.dramCommand t c blocked) s = .next u ∧ Memory.wf u.drm.mem = true ∧
        ∀ a, sgetC 0 u.drm.mem a =
          if r.write = true ∧ r.bytes.length = 64 ∧ open_ = some (rowOf z (lineOf z r.line)) ∧ r.line + r.ofs ≤ a ∧ a < r.line + r.ofs + r.bytes.length
          then r.bytes.getD (a - (r.line + r.ofs)) 0 else sgetC 0 s.drm.mem a) ∧
    (sgetC none (subAt s c).rows bank = some (row, last) →
      ((subAt s c).queue.any fun q => bankOf s (lineOf s q.line) == bank.val && rowOf s (lineOf s q.line) == row) = false →
      (last + getF s Reg.DRM_PAGE_CFG_IDLE ≤ cycleOf s x.now → exec (.rowIdleTimeout t c bank) s =
        .next (setSub c { subAt s c with rows := ssetC none (subAt s c).rows bank none } x)) ∧
      (cycleOf s x.now < last + getF s Reg.DRM_PAGE_CFG_IDLE → exec (.rowIdleTimeout t c bank) s = .next x)) ∧
    (sgetC none (subAt s c).rows bank = none → exec (.rowIdleTimeout t c bank) s = .next x)) ∧
  (∀ (s : State) (t : Nat) (c : Fin 16) (r : DramReq) (rest : List DramReq) (o : ReadOutcome) (port : Fin 24) (window : List Nat),
    calm t s = true →
    let x := arriveAt t s
    let taken := fun y => setSub c { subAt s c with reading := rest } y
    let want := addrTag s r.line
    ((subAt s c).reading = [] → exec (.dramReadData t c o) s = .next x) ∧
    ((subAt s c).reading = r :: rest → r.port ≠ 23 →
      let answers := fun (f : State → State) => exec (.dramReadData t c o) s = .next (after t (fun y => settleFences (f (taken y))) s)
      let got := fun lost => ((lineRead x r lost).drop r.ofs).take r.bytes.length
      let own := memBytes x (r.line + r.ofs) r.bytes.length
      (o.tag = want → o.lost = [] → r.write = false → r.ofs + r.bytes.length ≤ 64 →
        (o.corrected = false → answers (answer r own (linePoisoned s r.line))) ∧
        (o.corrected = true → linePoisoned s r.line = false → answers fun y => answer r own false (correctable c r y))) ∧
      (o.tag ≠ want → o.retryTag = want → o.lost = [] → o.corrected = false → r.write = false → r.ofs + r.bytes.length ≤ 64 →
        answers fun y => answer r own (linePoisoned s r.line) (incF y (Reg.DRM_CNT_COUNT 2))) ∧
      (o.tag = want → o.lost ≠ [] → r.write = false → linePoisoned s r.line = false →
        answers fun y => answer r (got o.lost) true (uncorrectable c r o.lost y)) ∧
      (o.tag = want → o.lost = [] → o.corrected = false → r.write = true → linePoisoned s r.line = false →
        answers fun y => answer r [] false (writeLine (r.line + r.ofs) r.bytes r.poison y)) ∧
      (o.tag ≠ want → o.retryTag ≠ want →
        let lost := lineRead x r [0, 1, 2, 3, 4, 5, 6, 7]
        let noted := fun y => commandError c r.port r.line (incF y (Reg.DRM_CNT_COUNT 2))
        (r.write = false → answers fun y => answer r ((lost.drop r.ofs).take r.bytes.length) true (noted y)) ∧
        (r.write = true → answers fun y => answer r [] true (writeLine r.line (patchBytes lost r.ofs r.bytes) true (noted y))))) ∧
    (s.drm.fences = [] → portOwes s port s.drm.nextId = false → exec (.fence t port) s =
      .next { x with drm := { s.drm with fenced := ssetC 0 s.drm.fenced port (sgetC 0 s.drm.fenced port + 1) } }) ∧
    (portOwes s port s.drm.nextId = true → (∀ f ∈ s.drm.fences, portOwes s f.1 f.2 = true) → exec (.fence t port) s =
      .next { x with drm := { s.drm with fences := s.drm.fences ++ [(port.val, s.drm.nextId)] } }) ∧
    exec (.ddr5CaParityAlert t c window false) s = .next (incF x (Reg.DRM_CNT_COUNT 2)) ∧
    (let hit := ((subAt s c).queue ++ (subAt s c).reading).filter fun r => window.contains r.id
     exec (.ddr5CaParityAlert t c window true) s = .next (after t (fun y =>
      let y := setSub c { subAt s c with
        queue := (subAt s c).queue.filter (fun r => !window.contains r.id)
        reading := (subAt s c).reading.filter fun r => !window.contains r.id } (incF y (Reg.DRM_CNT_COUNT 2))
      let y := hit.foldl (fun z r => answer r (if r.write then []
        else ((lineRead z r [0, 1, 2, 3, 4, 5, 6, 7]).drop r.ofs).take r.bytes.length) true z) (admitWaiting y)
      settleFences (commandError c ((hit.head?.map (·.port)).getD 0) ((hit.head?.map (·.line)).getD 0) y)) s)))

/-- The upkeep of a running subchannel (R359 to R363, R369): refreshes, which are postponed for an urgent request and pulled in while idle; the
rate that MR4 gives; trim once a period, by one step of a lane at most; retraining while the subchannel retrains; the patrol scrub's next
line when it is due; self-refresh once nothing is outstanding and nothing retrains.
The model's own choices in it: assumption 110. -/
def Obligations.DramUpkeep : Prop :=
  ∀ (s : State) (t ecs : Nat) (c : Fin 16) (rank : Fin 2) (hot : Bool) (lanes : List LaneTrim) (osc : List Nat), calm t s = true →
    swf resetWord s.regs = true → sorted 0 s.drm.subs = true →
    let x := arriveAt t s
    let y := subAt s c
    let cyc := cycleOf s x.now
    let urgent := y.queue.any fun r => urgency x r cyc == 3
    (subRunning s c = false → exec (.dramRefresh t c rank) s = .next x ∧ exec (.patrolScrub t c ecs) s = .next x) ∧
    (x.now < y.trimAt + getF s Reg.DRM_TRIM_PERIOD_PERIOD → exec (.trimPeriod t c lanes osc) s = .next x) ∧
    (y.trimAt + getF s Reg.DRM_TRIM_PERIOD_PERIOD ≤ x.now → getF s Reg.DRM_TRIM_CFG_EN = 0 ∨ subRunning s c = false →
      exec (.trimPeriod t c lanes osc) s = .next (setSub c { y with corrected := 0, trimAt := x.now } x)) ∧
    (x.now < y.scrubDue → exec (.patrolScrub t c ecs) s = .next x) ∧
    (subRunning s c = true → sgetC 0 y.refDue rank ≤ cyc →
      let due := sgetC 0 y.refDue rank
      let y' := { y with refDue := ssetC 0 y.refDue rank ((if due = 0 then cyc else due) + refreshInterval s c) }
      (0 < sgetC 0 y.pulled rank → exec (.dramRefresh t c rank) s = .next
        (setSub c { y' with pulled := ssetC 0 y.pulled rank (sgetC 0 y.pulled rank - 1) } (setSub c y' x))) ∧
      (sgetC 0 y.pulled rank = 0 → urgent = false ∨ getF s Reg.DRM_REFRESH_CFG_POSTPONE ≤ sgetC 0 y.postponed rank →
        exec (.dramRefresh t c rank) s = .next (issueRefresh c rank (setSub c y' x))) ∧
      (sgetC 0 y.pulled rank = 0 → urgent = true → sgetC 0 y.postponed rank < getF s Reg.DRM_REFRESH_CFG_POSTPONE →
        exec (.dramRefresh t c rank) s = .next (incF (setSub c
          { y' with postponed := ssetC 0 y.postponed rank (sgetC 0 y.postponed rank + 1) } (setSub c y' x)) (Reg.DRM_CNT_COUNT 5)))) ∧
    (let hots := fun z => setF (setF z (Reg.DRM_SUB_STAT_HOT c) hot.toNat) Reg.DRM_REFRESH_CFG_HOT
        (allSubs.any fun i => getF (setF z (Reg.DRM_SUB_STAT_HOT c) hot.toNat) (Reg.DRM_SUB_STAT_HOT i) == 1).toNat
     getF (hots x) (Reg.DRM_SUB_STAT_HOT c) = hot.toNat ∧
     (getF s (Reg.DRM_SUB_STAT_HOT c) = hot.toNat → exec (.mr4Read t c hot) s = .next (hots x)) ∧
     (getF s (Reg.DRM_SUB_STAT_HOT c) ≠ hot.toNat →
       exec (.mr4Read t c hot) s = .next (after t (fun z => raiseEvent 0x1C7 (hots z)) s))) ∧
    (subRunning s c = true → getF s Reg.DRM_TRIM_CFG_EN ≠ 0 → y.trimAt + getF s Reg.DRM_TRIM_PERIOD_PERIOD ≤ x.now →
      sorted 0 y.lanes = true →
      ∃ u, exec (.trimPeriod t c lanes osc) s = .next u ∧ (subAt u c).trimAt = x.now ∧ (subAt u c).corrected = 0 ∧
        (∀ i, ((sgetC ⟨0, false⟩ (subAt u c).lanes i).pos - (sgetC ⟨0, false⟩ y.lanes i).pos).natAbs ≤ 1) ∧
        (∀ b, b ≠ c.val → subAt u b = subAt s b) ∧
        u = { x with regs := u.regs, doors := u.doors, evt := u.evt, twin := u.twin, out := u.out, drm := { s.drm with subs := u.drm.subs } }) ∧
    (getF s (Reg.DRM_SUB_STAT_STATE c) = 2 →
      let again := fun y' z => incSatF (incF (setSub c y' z) (Reg.DRM_CNT_COUNT 6)) (Reg.DRM_SUB_TRIM_RETRAINS c)
      let done := { y with retrain := false, corrected := 0, rows := [] }
      exec (.retrain t c true) s = .next (after t (fun z => setF (raiseEvent 0x1C4 (setF (again { done with lanes := [], writeTrim := [] } z)
        (Reg.DRM_SUB_STAT_TRIM_EDGE c) 0)) (Reg.DRM_SUB_STAT_STATE c) (if y.degraded then 3 else 1)) s) ∧
      exec (.retrain t c false) s = .next (after t (fun z => degrade c (raiseEvent 0x1C4 (again done z))) s)) ∧
    (getF s (Reg.DRM_SUB_STAT_STATE c) ≠ 2 → ∀ ok, exec (.retrain t c ok) s = .next x) ∧
    (subRunning s c = true → y.scrubDue ≤ x.now →
      let asked := fun z => (enqueue 23 false (addrOfLine z c y.scrubLine) 0 (List.replicate 64 0) false z).2
      let due := y.scrubDue + lineGap x c y.scrubLine
      (y.scrubLine + 1 < subLines s → exec (.patrolScrub t c ecs) s = .next (after t (fun z =>
        setSub c { subAt (asked z) c with scrubLine := y.scrubLine + 1, scrubDue := due, quick := y.quick } (asked z)) s)) ∧
      (subLines s ≤ y.scrubLine + 1 → exec (.patrolScrub t c ecs) s = .next (after t (fun z =>
        setF (incSatF (setSub c { subAt (asked z) c with scrubLine := 0, scrubDue := due, quick := false } (asked z))
          (Reg.DRM_SUB_SCRUB_PASSES c)) (Reg.DRM_SUB_SCRUB_ECS_MAX c) ecs) s))) ∧
    (allSubs.any (fun c => !subQuiet s c) = true →
      exec (.selfRefreshEntry t) s = .next { x with drm := { s.drm with accepting := false } }) ∧
    (allSubs.any (fun c => !subQuiet s c) = false →
      ∃ u, exec (.selfRefreshEntry t) s = .next u ∧ u.drm.accepting = false ∧ u.drm.mem = s.drm.mem ∧
        (∀ b : Fin 16, getF u (Reg.DRM_SUB_STAT_STATE b) = 4 ∧ (subAt u b).rows = []) ∧ u = { x with regs := u.regs, drm := u.drm }) ∧
    (∃ u, exec (.selfRefreshExit t []) s = .next u ∧ u.drm.accepting = true ∧ u.drm.mem = s.drm.mem ∧
      (s.drm.waiting = [] → u.drm = { s.drm with accepting := true }) ∧
      (∀ b : Fin 16, getF s (Reg.DRM_SUB_STAT_STATE b) = 4 →
        getF u (Reg.DRM_SUB_STAT_STATE b) = if (subAt s b).degraded then 3 else 1) ∧
      u = { x with regs := u.regs, drm := u.drm }) ∧
    (∀ failed, ∃ u, exec (.selfRefreshExit t failed) s = .next u ∧ u.drm.accepting = true ∧ u.drm.mem = s.drm.mem)

/-- DMA (R370 to R377): a doorbell within the ring stores TAIL; a channel that may fetch takes its next descriptor with a completion slot and
opens its release, and another does not; a descriptor that fails its checks completes at once with that status, a good one starts its first
burst; a host read that failed ends it with HOST_ERROR; a withdrawal stops what moves and is without effect on an idle channel.
The model's own choices in it: assumption 111. -/
def Obligations.DmaChannels : Prop :=
  ∀ (s : State) (t : Nat) (door : Fin 4) (c : Fin 32) (v : Word) (bytes : List Byte) (r : Release) (y : DmaDesc) (rest : List DmaDesc)
    (b : DmaBurst) (d : Nat) (lads : List Ladder), calm t s = true →
    let x := arriveAt t s
    let ch := chanOf s c
    let tail := Reg.DMA_CH_PTR_TAIL c
    let n := v.toNat % 65536
    let fetches := linkUp s d && getF s (Reg.DMA_CH_CFG_EN c) == 1 && !ch.idle && ch.fetched.isEmpty && ch.cur.isNone &&
      decide (0 < dmaWaiting s c) && dmaSlotFree s c
    (writeCheck x door tail.addr (w32 n) = none →
      (n < dmaSize s c → exec (.dmaDoorbell t door c v) s = .next (setF x tail n)) ∧
      (dmaSize s c ≤ n → exec (.dmaDoorbell t door c v) s = .next (after t (configError .dma door) s))) ∧
    (ownerOf s 9 c = none → exec (.dmaFetch t c bytes) s = .next x ∧ exec (.dmaTransfer t c) s = .next x ∧
      ∀ h, exec (.dmaBurstComplete t c h lads) s = .next x) ∧
    (ownerOf s 9 c = some d →
      (fetches = false → exec (.dmaFetch t c bytes) s = .next x) ∧
      (fetches = true → exec (.dmaFetch t c bytes) s = .next (after t (fun z =>
        let z := setF z (Reg.DMA_CH_PTR_HEAD c) ((getF z (Reg.DMA_CH_PTR_HEAD c) + 1) % dmaSize z c)
        settle (deliver 64 (dmaTask c) 0 x.now false (.present false false) []
          (setChan c { ch with fetched := [dmaParse bytes], reserved := ch.reserved + 1 } z))) s)) ∧
      (runningOf s (dmaTask c) = some r → ch.fetched = y :: rest → ch.cur = none →
        let begun := fun z => showSum c (setChan c { sumStart ch y with fetched := rest, cur := some y, poison := false, withdraw := false }
          (setF z (Reg.DMA_CH_DONE_BYTES c) 0))
        (descStatus s d y ch.prevLen ≠ 0 → exec (.dmaTransfer t c) s =
          .next (after t (fun z => dmaEnd c d y (descStatus s d y ch.prevLen) (begun z)) s)) ∧
        (descStatus s d y ch.prevLen = 0 → exec (.dmaTransfer t c) s =
          .next (after t (fun z => startBurst c y (setF (begun z) (Reg.DMA_CH_STAT_STATE c) 1)) s))) ∧
      (runningOf s (dmaTask c) = none → exec (.dmaTransfer t c) s = .next x) ∧
      (ch.cur = some y → ch.burst = some b → y.srcKind = 0 →
        exec (.dmaBurstComplete t c .error lads) s = .next (after t (fun z =>
          dmaEnd c d y 0x1B2 (raiseEvent 0x1E2 (captureError .dma 0x02 2 false c 0 none z))) s) ∧
        (∀ bs, y.dstKind = 2 → b.data = none → bs.length = b.len → exec (.dmaBurstComplete t c (.data bs) lads) s =
          .next (after t (fun z => burstDone c d y { b with data := some bs, poison := false, ids := [] } bs
            (setChan c { ch with burst := some { b with data := some bs, poison := false, ids := [] } } z)) s))) ∧
      (ch.burst = none → ∀ h, exec (.dmaBurstComplete t c h lads) s = .next x)) ∧
    (writeCheck x door (Reg.DMA_CH_CTRL_WITHDRAW c).addr 1 = none →
      (ch.cur.isSome = true → exec (.dmaWithdraw t door c false) s =
        .next (setF (setChan c { ch with withdraw := true } x) (Reg.DMA_CH_STAT_STATE c) 2)) ∧
      (ch.cur = none → exec (.dmaWithdraw t door c false) s = .next x)) ∧
    (let en := Reg.DMA_CH_CFG_EN c
     writeCheck x door en.addr (putBits (rget x en.addr) 0 0 0) = none → ch.cur = none →
      exec (.dmaWithdraw t door c true) s = .next (setF x en 0))

/-! ### The Undercroft (R378 to R406) -/

/-- Channel commands (R378 to R382, R387, R406) while the Undercroft is present: a program takes its idle bank, a status frees it, a failed
program is retried once; a read of an idle bank answers a line; mode registers keep what is written; an alert that repeats, or a package
that stays silent, is a fault. Without the Undercroft nothing happens.
The model's own choices in it: assumptions 113, 114, 136. -/
def Obligations.UndercroftChannel : Prop :=
  ∀ (s : State) (t line : Nat) (k : Fin 16) (bank : Fin 16) (reg value : Byte) (lad : Ladder) (rest : List Byte) (g : UcrProg)
    (busy fail : Bool), calm t s = true → sorted 0 s.ucr.pkgs = true →
    let x := arriveAt t s
    let y := pkgOf s k
    let frame := fun (bs : List Byte) z => setUcr { z.ucr with answer := some (k.val, bs) } z
    let off := getF s Reg.CLK_PLL_STAT_UCR_ALT = 1 ∨ getF s (Reg.CLK_SW_STAT_CUR 4) = 1 ∨ getF s (Reg.CLK_SW_STAT_BUSY 4) = 1
    (off → exec (.ucrRead t k line lad) s = .next x ∧ exec (.ucrProg t k) s = .next x ∧
      exec (.ucrStatus t k bank busy fail) s = .next x ∧ exec (.ucrMrw t k reg value) s = .next x ∧ exec (.ucrMrr t k reg) s = .next x ∧
      exec (.ucrId t k rest) s = .next x ∧ exec (.packageTimeout t k) s = .next x ∧ ∀ again, exec (.ucrParityAlert t k again) s = .next x) ∧
    (¬ off →
      ((sgetC none y.busy (line % 16)).isSome = true → exec (.ucrRead t k line lad) s = .next x) ∧
      (sgetC none y.busy (line % 16) = none → exec (.ucrRead t k line lad) s = .next (after t (fun z =>
        let got := readPhys k line lad z
        frame (lineImage { lineAt y line with data := got.1.1, poison := got.1.2.1 }) got.2) s)) ∧
      (y.faulted = false → (y.queue.find? fun g => (sgetC none y.busy (g.line % 16)).isNone) = some g →
        exec (.ucrProg t k) s = .next (setPkg k { y with
          queue := y.queue.erase g, busy := ssetC none y.busy (g.line % 16) (some g) }
          (issueFrame k 2 g.line 0 (lineImage (lineAt y g.line)) x))) ∧
      (y.faulted = true ∨ (y.queue.find? fun g => (sgetC none y.busy (g.line % 16)).isNone) = none →
        exec (.ucrProg t k) s = .next x) ∧
      let sent := fun op addr z => issueFrame k op addr 0 [] z
      let x3 := sent 3 bank.val x
      (sgetC none y.busy bank = none → exec (.ucrStatus t k bank busy fail) s = .next (frame (List.replicate 8 0) x3)) ∧
      (sgetC none y.busy bank = some g →
        let status := leBytes 4 (busy.toNat + 2 * fail.toNat) ++ leBytes 4 (if fail then g.line else 0)
        let freed := { y with busy := ssetC none y.busy bank none }
        (busy = true → exec (.ucrStatus t k bank busy fail) s = .next (frame status x3)) ∧
        (busy = false → fail = false → exec (.ucrStatus t k bank busy fail) s = .next (setPkg k freed (frame status x3))) ∧
        (busy = false → fail = true → g.retried = false → exec (.ucrStatus t k bank busy fail) s =
          .next (setPkg k { freed with queue := ⟨g.line, true⟩ :: y.queue } (setPkg k freed (frame status x3)))) ∧
        (busy = false → fail = true → g.retried = true → inKeep s = false → exec (.ucrStatus t k bank busy fail) s =
          .next (after t (fun z => spareLine k g.line (setPkg k freed (frame status (sent 3 bank.val z)))) s))) ∧
      exec (.ucrMrw t k reg value) s =
        .next (setPkg k { y with modes := ssetC 0 y.modes reg.toNat value } (sent 4 (reg.toNat + 256 * value.toNat) x)) ∧
      exec (.ucrMrr t k reg) s = .next (frame (leBytes 8 (sgetC 0 y.modes reg.toNat).toNat) (sent 5 reg.toNat x)) ∧
      exec (.ucrId t k rest) s = .next (frame (leBytes 4 (getF s Reg.UCR_GEOM_PKG_GIB) ++ leBytes 2 16 ++
        leBytes 2 s.cht.loaded.profile ++ rest) (sent 6 0 x)) ∧
      (let counted := fun z => setUcr { z.ucr with alerted := ssetC 0 z.ucr.alerted (k.val / 2) (sgetC 0 z.ucr.alerted (k.val / 2) + 1) } (replayFrame k z)
       exec (.ucrParityAlert t k false) s = .next (counted x) ∧
       exec (.ucrParityAlert t k true) s = .next (after t (fun z => faultPackage k (counted z)) s)) ∧
      (y.faulted = true → exec (.packageTimeout t k) s = .next x) ∧
      (y.faulted = false → exec (.packageTimeout t k) s = .next (after t (faultPackage k) s)))

/-- Upkeep and the archive (R385 to R405): gap and hot moves when they are due and not before; a checkpoint once a second keeps the wear counts; the scrubber
passes to the next line when it is due; calibration, once a period, moves REF towards the fewer errors; a record release stores the sets of the flight before its own
with its last task, without an archive counting them NOT_STORED; a replay release reads ahead and places its records.
The model's own choices in it: assumptions 113, 117. -/
def Obligations.UndercroftUpkeep : Prop :=
  ∀ (s : State) (t line region : Nat) (k : Fin 16) (n : Fin 8) (lad : Ladder) (lads : List Ladder) (r : Release) (play : Replay),
    calm t s = true → s.twin.resync.kept = none →
    let x := arriveAt t s
    let off := getF s Reg.CLK_PLL_STAT_UCR_ALT = 1 ∨ getF s (Reg.CLK_SW_STAT_CUR 4) = 1 ∨ getF s (Reg.CLK_SW_STAT_BUSY 4) = 1
    (off → exec (.gapMove t k region) s = .next x ∧ exec (.hotMove t k line) s = .next x ∧ exec (.checkpoint t k) s = .next x ∧
      exec (.refreshScrub t k lad) s = .next x ∧ exec (.calibrationPeriod t k) s = .next x ∧ exec (.recordRelease t n) s = .next x ∧
      exec (.replayTask t k lads) s = .next x) ∧
    (¬ off →
    let y := pkgOf s k
    let thr := getF s Reg.UCR_CAL_CFG_CAL_THR
    (gapDue s k region = false → exec (.gapMove t k region) s = .next x) ∧
    (gapDue s k region = true → exec (.gapMove t k region) s = .next (after t (fun z =>
      let gap := sgetC regionLines y.gap region
      let z := copySlot k region (if gap = 0 then regionLines else gap - 1) gap (incF z (Reg.UCR_CNT_COUNT 7))
      let p := pkgOf z k
      setPkg k { p with
        gap := ssetC regionLines p.gap region (if gap = 0 then regionLines else gap - 1), sinceGap := ssetC 0 p.sinceGap region 0
        start := if gap = 0 then ssetC 0 p.start region ((sgetC 0 p.start region + 1) % regionLines) else p.start } z) s)) ∧
    (hotDue s k line = false → exec (.hotMove t k line) s = .next x) ∧
    (hotDue s k line = true → exec (.hotMove t k line) s = .next (after t (moveHot k line) s)) ∧
    (x.now < y.savedAt + 141120000 → exec (.checkpoint t k) s = .next x) ∧
    (y.savedAt + 141120000 ≤ x.now → exec (.checkpoint t k) s = .next (setPkg k { y with saved := y.wear, savedAt := x.now } x)) ∧
    (x.now < y.scrubDue → exec (.refreshScrub t k lad) s = .next x) ∧
    (let next := fun z => setPkg k { y with
       scrubAt := if y.scrubAt + 1 < pkgRegions s * regionLines then y.scrubAt + 1 else 0, scrubDue := y.scrubDue + scrubGap s y.scrubAt } z
     (y.scrubDue ≤ x.now → y.faulted = true → exec (.refreshScrub t k lad) s = .next (next x)) ∧
     (y.scrubDue ≤ x.now → y.faulted = false → exec (.refreshScrub t k lad) s =
       .next (after t (fun z => scrubLineNow k y.scrubAt (lineAt y y.scrubAt) lad (next z)) s))) ∧
    (x.now < y.calAt + getF s Reg.UCR_CAL_PERIOD_PERIOD → exec (.calibrationPeriod t k) s = .next x) ∧
    (y.calAt + getF s Reg.UCR_CAL_PERIOD_PERIOD ≤ x.now →
      let moves := fun d => exec (.calibrationPeriod t k) s =
        .next (after t (fun z => moveRef k d (setPkg k { y with calAt := x.now } z)) s)
      (y.eMinus + thr < y.eZero → y.eMinus ≤ y.ePlus → moves (-1)) ∧
      (y.ePlus + thr < y.eZero → y.ePlus < y.eMinus → moves 1) ∧
      (y.eZero ≤ y.eMinus + thr → y.eZero ≤ y.ePlus + thr → moves 0)) ∧
    (runningOf s (22340 + n.val) = some r → r.exit = none → ((setsToStore s r.instant).any fun z => z.recs.any trustOpen) = false →
      (otherRecordsDone s n r.flight = false →
        exec (.recordRelease t n) s = .next (after t (asRelease (22340 + n.val) (setExit (22340 + n.val) 0)) s)) ∧
      (otherRecordsDone s n r.flight = true → exec (.recordRelease t n) s = .next (after t (asRelease (22340 + n.val) fun z =>
        let st := stageSets z (setsToStore z r.instant)
        retireSets (setExit (22340 + n.val) 0 (markStored (setsToStore z r.instant)
          (if archiveUp z then storeStaged r.flight (stageRecs st z) else addF z (Reg.UCR_CNT_COUNT 1) st.length)))) s))) ∧
    (runningOf s (22348 + k.val) = some r → r.exit = none →
      (replayOf s k = none → exec (.replayTask t k lads) s =
        .next (after t (asRelease (22348 + k.val) fun z => setExit (22348 + k.val) 0 (replayClock z)) s)) ∧
      (replayOf s k = some play → exec (.replayTask t k lads) s = .next (after t (asRelease (22348 + k.val) fun z =>
        setExit (22348 + k.val) 0 (replayWork k play (r.instant + flightLen s) lads (replayClock z))) s))))

/-! ### The Newel link and the pair (R407 to R431) -/

/-- The link (R407 to R409): training brings it up with every lane in state 2 and event 0x220; a link that goes down trains again, which in
lockstep is a link failure; an accepted flit advances the sequence, its ACK frees what it covers and its NAK replays the rest; a flit out
of sequence or uncorrectable is discarded and NAKed once.
The model's own choices in it: assumption 120. -/
def Obligations.NewelLink : Prop :=
  ∀ (s : State) (t : Nat) (lanes : List (Bool × Fin 8 × BitVec 8)) (symbols : List Nat) (seq ack : BitVec 9) (nak idle : Bool)
    (badMsgs : Nat), calm t s = true →
    let x := arriveAt t s
    let lost := fun y => setTwin { s.twin with
      linkUp := false, waiting := [], unacked := [], nakDue := false, helloSent := false, helloOk := false, helloKept := none, probesOk := 0 }
      ((List.range 8).foldl (fun z n => setF z (Reg.NWL_LANE_STAT_STATE n) 1) y)
    let counted := fun y =>
      let z := (List.range 8).foldl (fun z n => setF z (Reg.NWL_LANE_STAT_SYMBOLS n)
        (min (fieldMax (Reg.NWL_LANE_STAT_SYMBOLS n)) (getF z (Reg.NWL_LANE_STAT_SYMBOLS n) + symbols.getD n 0))) y
      if symbols.any (0 < ·) then incF z (Reg.NWL_CNT_COUNT 1) else z
    (s.twin.linkUp = true → exec (.newelLinkUp t lanes) s = .next x) ∧
    (s.twin.linkUp = false → exec (.newelLinkUp t lanes) s = .next (after t (fun y =>
      let z := (List.range 8).foldl (fun z n =>
        let l := lanes.getD n (false, 0, 0)
        setF (setF (setF (setF z (Reg.NWL_LANE_STAT_STATE n) 2) (Reg.NWL_LANE_STAT_INVERTED n) l.1.toNat)
          (Reg.NWL_LANE_STAT_SOURCE n) l.2.1.val) (Reg.NWL_LANE_STAT_EYE n) l.2.2.toNat) y
      sendHello (raiseEvent 0x220 (setTwin { s.twin with
        linkUp := true, waiting := [], txSeq := 511, rxSeq := 511, unacked := [], nakDue := false, replays := 0 } z))) s)) ∧
    (s.twin.linkUp = false → exec (.newelLinkDown t) s = .next x ∧
      ∀ bad, exec (.flitReceive t symbols bad seq ack nak idle badMsgs) s = .next x) ∧
    (s.twin.linkUp = true →
      (s.twin.state = .lockstep → exec (.newelLinkDown t) s = .next (after t (fun y => linkFailure (lost y)) s)) ∧
      (s.twin.state = .withdrawn → exec (.newelLinkDown t) s =
        .next (after t (fun y => failAway (raiseEvent 0x221 (lost y))) s)) ∧
      (s.twin.state ≠ .lockstep → s.twin.state ≠ .withdrawn → s.twin.resync.active = false → exec (.newelLinkDown t) s =
        .next (after t (fun y => raiseEvent 0x221 (lost y)) s)) ∧
      (s.twin.nakDue = true → exec (.flitReceive t symbols true seq ack nak idle badMsgs) s = .next x) ∧
      (s.twin.nakDue = false → s.twin.replays < 64 → exec (.flitReceive t symbols true seq ack nak idle badMsgs) s =
        .next { x with twin := { s.twin with nakDue := true, replays := s.twin.replays + 1 } }) ∧
      (s.twin.nakDue = false → 64 ≤ s.twin.replays → exec (.flitReceive t symbols true seq ack nak idle badMsgs) s =
        .next (after t (fun y => linkDown (setTwin { s.twin with nakDue := true, replays := s.twin.replays + 1 } y)) s)) ∧
      (idle = false → seq.toNat ≠ (s.twin.rxSeq + 1) % 512 → exec (.flitReceive t symbols false seq ack nak idle badMsgs) s =
        .next (after t (fun y => discardFlit (counted y)) s)) ∧
      (idle = true ∨ seq.toNat = (s.twin.rxSeq + 1) % 512 → exec (.flitReceive t symbols false seq ack nak idle badMsgs) s =
        .next (after t (fun y =>
          let z := counted y
          let z := if idle then z else setTwin { z.twin with rxSeq := seq.toNat, nakDue := false } z
          let z := ackFlits ack.toNat z
          addF (if nak then replayFlits z else z) (Reg.NWL_CNT_COUNT 7) badMsgs) s)))

/-- Pairing and clocks (R91, R411 to R413): a HELLO that comes before step 9 is kept for it; one that comes in it is checked for its digest, its role and its stepping in this order, and refused with the code of
the first that fails; START names N0 to the secondary; a PROBE is answered, and an answer shows the latency and the offset; a device
that is late for N0 ends the pairing.
The model's own choices in it: assumption 123. -/
def Obligations.Pairing : Prop :=
  ∀ (s : State) (t n0 us t1 t2 t3 : Nat) (role : Fin 3) (digest : List Word) (letter digit : Nat) (seq : Word), calm t s = true →
    let x := arriveAt t s
    let waits := s.twin.state = .pairing ∧ s.cht.step = 8 ∧ s.twin.startFlight = none
    let refused := fun c => Host.Outcome.next (after t (fun y => raiseEvent 0x223 (setTwin { s.twin with helloOk := false, probesOk := 0 }
      (setF y Reg.NWL_STAT_REFUSE c))) s)
    let fits := (isPrimary s && role.val == 2) || (isSecondary s && role.val == 1)
    (s.twin.linkUp = false → exec (.hello t role digest letter digit) s = .next x ∧ exec (.startMessage t n0 us) s = .next x ∧
      ∀ a, exec (.probe t seq t1 a us) s = .next x) ∧
    (s.twin.linkUp = true →
      (s.cht.step < 8 → exec (.hello t role digest letter digit) s =
        .next { x with twin := { s.twin with helloKept := some (role, digest, letter, digit) } }) ∧
      (8 ≤ s.cht.step → ¬ waits → exec (.hello t role digest letter digit) s = .next x) ∧
      (waits → digest ≠ s.cht.loaded.pairDigest → exec (.hello t role digest letter digit) s = refused 1) ∧
      (waits → digest = s.cht.loaded.pairDigest → fits = false → exec (.hello t role digest letter digit) s = refused 2) ∧
      (waits → digest = s.cht.loaded.pairDigest → fits = true → ¬ (letter = 2 ∧ digit = 1) →
        exec (.hello t role digest letter digit) s = refused 3) ∧
      (waits → digest = s.cht.loaded.pairDigest → fits = true → letter = 2 → digit = 1 →
        exec (.hello t role digest letter digit) s =
          .next (after t (fun y => sendProbe (sendHello (setTwin { s.twin with helloOk := true, probesOk := 0 } y))) s)) ∧
      (isSecondary s = true → s.twin.state = .pairing → s.cht.step = 8 → exec (.startMessage t n0 us) s =
        .next (after t (fun y => twinStep us (setTwin { s.twin with startFlight := some n0 } y)) s)) ∧
      exec (.probe t seq t1 none us) s =
        .next (after t (fun y => twinStep us (sendNewel (.probe seq.toNat t1 (some (x.now, x.now))) y)) s) ∧
      (s.twin.state = .lockstep →
        let off := Int.tdiv (((t2 : Int) - t1) - ((x.now : Int) - t3)) 2
        exec (.probe t seq t1 (some (t2, t3)) us) s = .next (after t (fun y => twinStep us (skewProbe off
          (setF (setF y Reg.NWL_LAT_LAT (ofSigned 16 (Int.tdiv (((t2 : Int) - t1) + ((x.now : Int) - t3)) 2)))
            Reg.NWL_SKEW_OFFSET (ofSigned 32 off)))) s))) ∧
    (s.twin.startFlight = some n0 → s.twin.state = .pairing → s.cht.step < 10 → n0 * flightLen s ≤ x.now + 141120 →
      (isPrimary s = true → exec (.pairingDeadline t) s = .next (after t (fun y =>
        raiseEvent 0x045 (enterAlone (sendNewel (.withdraw 9 x.now) (setF y Reg.NWL_STAT_CAUSE 9)))) s)) ∧
      (isPrimary s = false → exec (.pairingDeadline t) s = .next (after t (withdraw 9) s))) ∧
    (s.twin.startFlight = none ∨ s.twin.state ≠ .pairing → exec (.pairingDeadline t) s = .next x)

/-- Agreement on arrivals and requests (R414 to R417, R424): a SUMMARY is kept and answered with copies; a COPY counts and enters its set with
PATH 2; at the cut-off plus 5,000 treads the device seals, listing what it misses, and both SEALs complete the union; a REQUEST is
journalled and waits for its REQ_SEAL where the two exchange requests, and is placed at once where this device runs alone, as is one of
before the exchange that a resynchronisation begins; a COMPLETION answers the request that this device forwarded.
The model's own choices in it: assumptions 121, 122. -/
def Obligations.Agreement : Prop :=
  ∀ (s : State) (t c cut count : Nat) (ids : List RecIdent) (r : ArrRec) (u : ReqUnit) (d : Fin 4) (seq status result epoch : Nat)
    (late : Bool) (q : Nat × Req), calm t s = true →
    let x := arriveAt t s
    (s.twin.linkUp = false → exec (.summary t c ids) s = .next x ∧ exec (.copyMessage t c r) s = .next x ∧
      exec (.sealMessage t c ids) s = .next x ∧ exec (.requestMessage t u) s = .next x ∧ exec (.reqSeal t cut count) s = .next x ∧
      exec (.completionMessage t d seq status result epoch late) s = .next x) ∧
    (s.twin.linkUp = true → s.twin.unionFrom.isSome = true →
      (atCutoff s.twin.partnerIds c = none → exec (.summary t c ids) s = .next (after t (fun y =>
        sendCopies c (setTwin { s.twin with partnerIds := s.twin.partnerIds ++ [(c, ids)] } y)) s)) ∧
      ((atCutoff s.twin.partnerIds c).isSome = true → exec (.summary t c ids) s = .next x) ∧
      (atCutoff s.twin.sealed c = none → exec (.copyMessage t c r) s = .next (after t (fun y =>
        let r' := { r with path := 2, port := 4 }
        let z := incF y (Reg.NWL_CNT_COUNT 2)
        copyToSet c r' (if r.kind = 1 ∧ r.trust = .plain
          then setGal { z.gal with stRecs := sideInsert r' z.gal.stRecs } z else z)) s)) ∧
      ((atCutoff s.twin.sealed c).isSome = true → exec (.copyMessage t c r) s = .next x) ∧
      (atCutoff s.twin.partnerSeals c = none → exec (.sealMessage t c ids) s = .next (after t (fun y =>
        sealBoth c (setTwin { s.twin with partnerSeals := s.twin.partnerSeals ++ [(c, ids)] } y)) s))) ∧
    (s.twin.unionFrom.isSome = true → atCutoff s.twin.sealed c = none → c + 5000 ≤ x.now →
      let missing := ((atCutoff s.twin.partnerIds c).getD []).filter fun i => !((recsAt s c).map identOf).contains i
      exec (.sealTimer t c) s = .next (after t (fun y =>
        let z := sendNewel (.seal c ((recsAt s c).countP fun r => r.path == 2) missing) y
        sealBoth c (setTwin { z.twin with sealed := z.twin.sealed ++ [(c, missing)] } z)) s)) ∧
    (s.twin.unionFrom = none ∨ x.now < c + 5000 ∨ (atCutoff s.twin.sealed c).isSome = true → exec (.sealTimer t c) s = .next x) ∧
    (s.twin.linkUp = true →
      let v := { u with members := u.members.map fun r => { r with otherTwin := true, slot := none } }
      let heard := fun y =>
        let z := v.members.foldl (fun z r => journalRequest v.door ⟨v.stamp, 1, 2, v.door, 0, r.seq, r.tag.toNat⟩ z) y
        setTwin { z.twin with received := z.twin.received + v.members.length } z
      let early := s.twin.resync.joinFlight.any fun n => decide (u.stamp + flightLen s + 4410 < n * flightLen s)
      (exchanges x = true → early = false → exec (.requestMessage t u) s = .next (after t (fun y =>
        let z := heard y
        setTwin { z.twin with inbox := z.twin.inbox ++ [v] } z) s)) ∧
      (exchanges x = false ∨ early = true → s.twin.state = .alone →
        exec (.requestMessage t u) s = .next (after t (fun y => placeUnit v (heard y)) s)) ∧
      (exchanges x = false ∨ early = true → s.twin.state ≠ .alone → exec (.requestMessage t u) s = .next (after t heard s)) ∧
      (exchanges x = true → s.twin.inbox = [] → exec (.reqSeal t cut count) s = .next { x with twin := { s.twin with
        received := s.twin.received - count, partnerCuts := s.twin.partnerCuts ++ [(cut, count)] } })) ∧
    (s.twin.linkUp = true → exchanges x = false → exec (.reqSeal t cut count) s = .next x) ∧
    (s.twin.linkUp = true →
      let mine := s.twin.away.find? fun e => e.1 == d.val && e.2.seq == seq
      (mine = none → exec (.completionMessage t d seq status result epoch late) s = .next x) ∧
      (mine = some q → exec (.completionMessage t d seq status result epoch late) s = .next (complete d { q.2 with late := late }
        epoch status result { x with twin := { s.twin with
          away := s.twin.away.filter fun e => !(e.1 == d.val && e.2.seq == seq) } })))

/-- Lockstep and its ends (R420 to R426): a DIGEST meets the own one of its group or waits for it; a FAULT is kept for the decision; an ALERT raises
event 0x22C; a partner that withdraws leaves this device alone; a withdrawal by the host acts in lockstep only; a message that is overdue
in lockstep is a link failure; the edges of NWL_ALIVE_IN are watched after one.
The model's own choices in it: assumptions 124, 125, 126. -/
def Obligations.LockstepEnds : Prop :=
  ∀ (s : State) (t group f : Nat) (sum own : GroupSum) (counted : Bool) (event : Fin 1536) (stamp : Nat) (cause : Fin 16) (d : Fin 4)
    (owed : Owed), calm t s = true →
    let x := arriveAt t s
    (s.twin.linkUp = false → exec (.digest t sum) s = .next x ∧ (∀ b, exec (.faultMessage t group counted b) s = .next x) ∧
      exec (.alertMessage t event stamp) s = .next x ∧ exec (.withdrawMessage t cause) s = .next x) ∧
    (s.twin.linkUp = true →
      ((s.twin.closed.find? fun y => y.group == sum.group) = none → exec (.digest t sum) s =
        .next { x with twin := { s.twin with partnerDigests := lastN 64 (s.twin.partnerDigests ++ [sum]) } }) ∧
      ((s.twin.closed.find? fun y => y.group == sum.group) = some own → exec (.digest t sum) s = .next (after t (fun y =>
        compareGroup own sum (setTwin { s.twin with closed := s.twin.closed.filter fun z => z.group != sum.group } y)) s)) ∧
      exec (.faultMessage t group counted false) s =
        .next (after t (fun y => decideFault (setTwin { s.twin with partnerFault := some (group, counted) } y)) s) ∧
      (s.twin.state ≠ .withdrawn → exec (.faultMessage t group counted true) s =
        .next { x with twin := { s.twin with partnerTakeover := true } }) ∧
      exec (.alertMessage t event stamp) s = .next (after t (fun y =>
        allDoors.foldl (fun z d => journalAdd d ⟨stamp, 5, 2, 0xFF, event, 0, 0⟩ z) (raiseEvent 0x22C y)) s) ∧
      (s.twin.state = .lockstep → exec (.withdrawMessage t cause) s =
        .next (after t (fun y => raiseEvent 0x226 (enterAlone y)) s)) ∧
      (s.twin.state = .withdrawn ∨ s.twin.state = .solo → exec (.withdrawMessage t cause) s = .next x)) ∧
    (writeCheck x d Reg.NWL_CTRL_WITHDRAW.addr 1 = none →
      (s.twin.state = .lockstep → exec (.hostWithdraw t d) s = .next (after t (withdraw 6) s)) ∧
      (s.twin.state ≠ .lockstep → exec (.hostWithdraw t d) s = .next x)) ∧
    (overdue x owed = false → exec (.partnerDeadline t owed) s = .next x) ∧
    (overdue x owed = true → s.twin.state = .lockstep → exec (.partnerDeadline t owed) s = .next (after t linkFailure s)) ∧
    exec (.aliveEdge t) s = .next { x with twin := { s.twin with aliveSeen := some x.now } } ∧
    (s.twin.failedAt = some f →
      (x.now < f + 2 * flightLen s + 17640 → exec (.aliveTimeout t) s = .next x) ∧
      (f + 2 * flightLen s + 17640 ≤ x.now →
        let edges := s.twin.aliveSeen.any fun e => decide (f < e)
        (edges = true → s.twin.state = .alone → exec (.aliveTimeout t) s =
          .next (after t (fun y => withdraw 4 (setTwin { s.twin with failedAt := none } y)) s)) ∧
        (edges = false ∨ s.twin.state ≠ .alone →
          exec (.aliveTimeout t) s = .next { x with twin := { s.twin with failedAt := none } }))) ∧
    (s.twin.failedAt = none → exec (.aliveTimeout t) s = .next x)

/-- Resynchronisation (R427 to R431): a device that may join clears its media state and asks for the image; a source that is alone sends its
blocks; passes end with fewer marked blocks or with J; the final pass waits for every release before J; IMAGE parts take their places on
the joiner, which then runs from J; J and E come with JOIN; the host, a second without lockstep, and a partner that gives up end it.
The model's own choices in it: assumptions 125, 127, 128. -/
def Obligations.Resynchronisation : Prop :=
  ∀ (s : State) (t us n value : Nat) (d : Fin 4) (part : ImagePart) (q : Sparse LegQueue) (bs : List Byte) (bad : List Nat),
    calm t s = true →
    let x := arriveAt t s
    let r := s.twin.resync
    let joins := fun y => sendNewel (.join 0 0) (raiseEvent 0x227 (showResync (setTwin { y.twin with
      state := .copying, emitting := false, resync := { resyncInit with active := true } } y)))
    let begun := fun (y : State) => twinStep us (joins (clearMedia { y with tim := { s.tim with flights := .stopped } }))
    (writeCheck x d Reg.NWL_CTRL_RESYNC.addr 2 = none →
      (canJoin s = true → exec (.resync t d us) s = .next (after t begun s)) ∧
      (canJoin s = false → s.cht.step = 11 → exec (.resync t d us) s = .next x)) ∧
    (s.twin.withdrawnAt = some n → s.cht.step = 11 →
      (getF s Reg.NWL_CFG_AUTO_RESYNC = 1 → s.twin.state = .withdrawn → n + 141120000 ≤ x.now → canJoin s = true →
        exec (.autoResync t us) s = .next (after t begun s)) ∧
      (getF s Reg.NWL_CFG_AUTO_RESYNC ≠ 1 ∨ s.twin.state ≠ .withdrawn ∨ x.now < n + 141120000 →
        exec (.autoResync t us) s = .next x)) ∧
    (writeCheck x d Reg.NWL_CTRL_ABORT.addr 4 = none →
      (r.active = false → exec (.abort t d) s = .next x) ∧
      (r.active = true → exec (.abort t d) s = .next (after t (abortResync true) s))) ∧
    (r.active = false ∨ r.source = false ∨ r.joinFlight.isSome = true → exec (.resyncPassEnd t) s = .next x) ∧
    (r.active = true → r.source = true → r.joinFlight = none →
      let shown := fun y => setF y Reg.NWL_RESYNC_DIRTY (min 0xFFFFFF r.dirty.length)
      (r.dirty.length ≤ 4096 → exec (.resyncPassEnd t) s = .next (after t (fun y =>
        let j := flightFrom s (x.now + 141120)
        showResync (sendNewel (.join 1 j) (setTwin { s.twin with
          resync := { r with joinFlight := some j }, unionFrom := some (j * flightLen s) } (shown y)))) s)) ∧
      (4096 < r.dirty.length → exec (.resyncPassEnd t) s = .next (after t (fun y =>
        sendBlocks r.dirty (setTwin { s.twin with resync := { r with pass := (r.pass + 1) % 256, dirty := [] } } (shown y))) s))) ∧
    (r.kept = none → exec (.finalPass t) s = .next x) ∧
    (r.joinFlight = none → exec (.finalPass t) s = .next x ∧ exec (.resyncTimeout t) s = .next x) ∧
    (r.joinFlight = some n →
      (s.stw.releases.any (fun y => decide (y.instant < n * flightLen s)) = true → exec (.finalPass t) s = .next x) ∧
      (∀ v, r.kept = some v → r.active = true → r.source = true → r.done = false → n * flightLen s ≤ x.now →
        s.stw.releases.any (fun y => decide (y.instant < n * flightLen s)) = false →
        exec (.finalPass t) s = .next (after t (fun y =>
          let z := sendBlocks (r.dirty ++ (r.saved.map (·.1)).filter fun b => !r.dirty.contains b) y
          let parts : List ImagePart :=
            [.words (sgetC z.epoch.newest z.twin.groupEpochs n) (imageWords v),
             .releases { v.stw with releases := v.stw.releases.filter fun q => decide (n * flightLen s ≤ q.instant) } r.given,
             .waiting v.carried v.deferred, .landing v.lnd, .gallery v.gal, .decode v.dec, .hall v.hal, .encode v.enc, .cipher v.cip,
             .queues v.queues, .shaper v.shp, .modem v.modem, .ports v.ports, .complete]
          let z := parts.foldl (fun z p => sendNewel (.image p) z) z
          setTwin { z.twin with resync :=
            { z.twin.resync with done := true, dirty := [], saved := [], kept := none, given := [] } } z) s)) ∧
      (n * flightLen s + 1411200000 ≤ x.now → r.active = true →
        exec (.resyncTimeout t) s = .next (after t (abortResync true) s)) ∧
      (x.now < n * flightLen s + 1411200000 → exec (.resyncTimeout t) s = .next x)) ∧
    (s.twin.linkUp = false ∨ s.twin.state ≠ .copying → exec (.image t part) s = .next x) ∧
    (s.twin.linkUp = true → s.twin.state = .copying →
      exec (.image t (.queues q)) s = .next (after t (fun y => { showResync (setTwin s.twin y) with queues := q }) s) ∧
      exec (.image t (.block n bs bad)) s = .next (after t (fun y => (lineParts (n * 65536) bs.length bs.length).foldl
        (fun z l => writeLine l.1 ((bs.drop (l.1 - n * 65536)).take l.2) (bad.contains (l.1 % 65536 / 64)) z)
        (showResync (setTwin { s.twin with resync := { r with bytes := r.bytes + bs.length } } y))) s) ∧
      (let shown := fun y => showResync (setTwin s.twin y)
       (∀ v, exec (.image t (.decode v)) s = .next (after t (fun y => { shown y with dec := v }) s)) ∧
       (∀ v, exec (.image t (.hall v)) s = .next (after t (fun y => { shown y with hal := v }) s)) ∧
       (∀ v, exec (.image t (.encode v)) s = .next (after t (fun y => { shown y with enc := v }) s)) ∧
       (∀ v, exec (.image t (.shaper v)) s = .next (after t (fun y => { shown y with shp := v }) s)) ∧
       (∀ v, exec (.image t (.modem v)) s = .next (after t (fun y => { shown y with modem := v }) s)) ∧
       (∀ v given, exec (.image t (.releases v given)) s = .next (after t (fun y =>
         let z := shown y
         setTwin { z.twin with resync := { z.twin.resync with given := given } } (setStair { s.stw with
           releases := v.releases, reached := v.reached, overran := v.overran, opened := v.opened } z)) s)) ∧
       exec (.image t .complete) s = .next (after t (fun y => catchUp (enterShadowing (shown y))) s))) ∧
    (s.twin.linkUp = true → r.active = false →
      (s.twin.state = .alone → exec (.joinMessage t 0 value) s = .next (after t (fun y => raiseEvent 0x227 (sendBlocks (blocksInUse s)
        (setTwin { s.twin with resync := { resyncInit with active := true, source := true } } y))) s)) ∧
      (s.twin.state ≠ .alone → exec (.joinMessage t 0 value) s = .next x) ∧ exec (.joinMessage t 3 value) s = .next x) ∧
    (s.twin.linkUp = true → s.twin.state = .copying → r.joinFlight = none → exec (.joinMessage t 1 value) s =
      .next (after t (fun y => showResync (setTwin { s.twin with
        resync := { r with joinFlight := some value }, unionFrom := some (value * flightLen s) } y)) s)) ∧
    (s.twin.linkUp = true → s.twin.state = .shadowing → exec (.joinMessage t 2 value) s =
      .next { x with twin := { s.twin with resync := { r with emitGroup := some value }, emitFrom := value * flightLen s } })

/-! ### Clocks and power (R432 to R453, R479, R493) -/

/-- Sources and domains (R433 to R440, R446): a window that passes for every source shows its counts and nothing else; a lock that is lost
takes the PLL's domain with it; a switch is done at once where the old clock runs, else waits to be forced; no switch is requested while
flights run, and one to a PLL without lock waits for it; CLKOBS starts again with a write of CLK_OBS; a lost PLL_UCR or PLL_DRAM locks to MONOSC.
The model's own choices in it: assumptions 132, 133. -/
def Obligations.ClockSources : Prop :=
  ∀ (s : State) (t a b c src : Nat) (failed : List (Fin 16)) (p : Fin 8) (d : Fin 4) (n : Fin 3) (m : Fin 5) (dst : Fin 2) (v : Word),
    calm t s = true → swf resetWord s.regs = true →
    let x := arriveAt t s
    let lock := getF s Reg.CLK_PLL_STAT_LOCK
    let sel := (Reg.CLK_SEL_SRC n).addr
    exec (.monitorWindow t a b c failed) s = .next (after t (fun y =>
      let z := ringWindow c y
      if sourceFails z 2 then z else sourceWindow 1 b (failed.map (·.val)) (sourceWindow 0 a (failed.map (·.val)) z)) s) ∧
    (windowPasses 0 a = true → windowPasses 1 b = true → windowPasses 2 c = true → sourceFails s 0 = false → sourceFails s 1 = false →
      exec (.monitorWindow t a b c failed) s = .next (setF (setF (setF (setF x (Reg.CLK_MON_STAT_COUNT 2) c)
        (Reg.CLK_MON_STAT_FAIL 2) 0) (Reg.CLK_MON_STAT_COUNT 0) a) (Reg.CLK_MON_STAT_COUNT 1) b)) ∧
    (lock / 2 ^ p.val % 2 = 0 → exec (.pllLockLoss t p) s = .next x) ∧
    (lock / 2 ^ p.val % 2 = 1 → sourceFails s (pllSource p) = false → exec (.pllLockLoss t p) s = .next (after t (fun y =>
      pllDomain p (raiseEvent 0x023 (captureError .clk 0x02 3 true p 0 none (setF y Reg.CLK_PLL_STAT_LOCK (lock - 2 ^ p.val))))) s)) ∧
    (writeCheck x d sel (BitVec.ofNat 32 dst.val) = none →
      (s.tim.flights = .running → exec (.clockSwitch t d n dst) s = .next (after t (configError .clk d) s)) ∧
      (s.tim.flights = .stopped →
        (dst.val = 1 ∨ lock / 2 ^ n.val % 2 = 1 → exec (.clockSwitch t d n dst) s =
          .next (requestSwitch n dst (storeWord sel (BitVec.ofNat 32 dst.val) x))) ∧
        (dst.val = 0 → lock / 2 ^ n.val % 2 = 0 → exec (.clockSwitch t d n dst) s =
          .next (storeWord sel (BitVec.ofNat 32 dst.val) x)))) ∧
    (∀ y, sgetC none y.clk.switchTo m = none → getF y (Reg.CLK_SW_STAT_CUR m) ≠ src →
      requestSwitch m src y = if oldClockRuns y m then switchDone m src y
        else setClk { y.clk with switchTo := ssetC none y.clk.switchTo m (some src) } (setF y (Reg.CLK_SW_STAT_BUSY m) 1)) ∧
    (sgetC none s.clk.switchTo m = none → exec (.forcedSwitch t m) s = .next x) ∧
    (sgetC none s.clk.switchTo m = some src → sgetC none s.clk.switchNext m = none → exec (.forcedSwitch t m) s =
      .next (after t (fun y => raiseEvent 0x025 (setF (switchDone m src y) (Reg.CLK_SW_STAT_FORCED m) 1)) s)) ∧
    (writeCheck x d Reg.CLK_OBS_SRC.addr v = none → exec (.clockObserve t d v) s =
      .next { storeWord Reg.CLK_OBS_SRC.addr v x with clk := { s.clk with obsPhase := 0 } }) ∧
    ((sourceFails s 0 = false ∧ lock / 2 ^ 3 % 2 = 1 ∧ lock / 2 ^ 4 % 2 = 1) → exec (.pllMonoscRelock t) s = .next x) ∧
    ((sourceFails s 0 = false ∧ lock / 2 ^ 3 % 2 = 1 ∧ lock / 2 ^ 4 % 2 = 0) → exec (.pllMonoscRelock t) s = .next (after t (fun y =>
      requestSwitch 4 0 (setF (setF y Reg.CLK_PLL_STAT_LOCK (lock ||| 16)) Reg.CLK_PLL_STAT_UCR_ALT 1)) s)) ∧
    (sourceFails s 0 = true ∨ lock / 2 ^ 3 % 2 = 0 → exec (.pllMonoscRelock t) s = .next (after t (fun y =>
      let one := fun (k : Nat) (alt : Fld) z =>
        requestSwitch k 0 (setF (setF z Reg.CLK_PLL_STAT_LOCK (getF z Reg.CLK_PLL_STAT_LOCK ||| 2 ^ k)) alt 1)
      let z := if sourceFails s 0 = true ∨ lock / 2 ^ 4 % 2 = 0 then one 4 Reg.CLK_PLL_STAT_UCR_ALT y else y
      selfRefreshEntry (countMissed (one 3 Reg.CLK_PLL_STAT_DRAM_ALT z))) s))

/-- The gate tree (R441 to R445): an open request under a closed parent is refused with status 3, another opens; a close request is refused
FIXED, CHILD_ON or IN_USE in this order, held while its block is busy, or done; a held gate closes when its block is idle, or is refused
BUSY after 4,096 fabric cycles. Each refusal raises event 0x026.
The model's own choices in it: assumption 134. -/
def Obligations.ClockGates : Prop :=
  ∀ (s : State) (t since : Nat) (d : Fin 4) (n : Fin 84), calm t s = true →
    let x := arriveAt t s
    let a := (Reg.CLK_GATE_CMD n).addr
    let parent := (gatePlace n).2
    let fixed := n.val = 0 ∨ n.val = 3 ∨ n.val = 7
    let child := (gateChildren n).any (gateOpen s)
    let forgets := s.clk.held.filter fun h => h.1 != n.val
    let sets := fun open_ => Host.Outcome.next { setF (setF (setF x (Reg.CLK_GATE_STATUS n) 0) (Reg.CLK_GATE_HELD n) 0)
      (Reg.CLK_GATE_OPEN n) open_ with clk := { s.clk with held := forgets } }
    let refused := fun status => Host.Outcome.next (after t (fun y => raiseEvent 0x026 (setF y (Reg.CLK_GATE_STATUS n) status)) s)
    (writeCheck x d a 1 = none → gateExists n = true →
      (parent ≠ 0x7F → gateOpen s parent = false → exec (.gateOpen t d n) s = refused 3) ∧
      (parent = 0x7F ∨ gateOpen s parent = true → exec (.gateOpen t d n) s = sets 1)) ∧
    (writeCheck x d a 1 = none → gateExists n = false → exec (.gateOpen t d n) s = .next x) ∧
    (writeCheck x d a 2 = none → gateExists n = true → ∀ busy,
      (fixed → exec (.gateClose t d n busy) s = refused 5) ∧
      (¬ fixed → child = true → exec (.gateClose t d n busy) s = refused 2) ∧
      (¬ fixed → child = false → gateInUse s n = true → exec (.gateClose t d n busy) s = refused 4) ∧
      (¬ fixed → child = false → gateInUse s n = false →
        exec (.gateClose t d n false) s = sets 0 ∧
        exec (.gateClose t d n true) s = .next { setF (setF x (Reg.CLK_GATE_STATUS n) 7) (Reg.CLK_GATE_HELD n) 1 with
          clk := { s.clk with held := forgets ++ [(n.val, x.now)] } })) ∧
    (s.clk.held.any (fun h => h.1 == n.val) = true → exec (.gateBusIdle t n) s = sets 0) ∧
    (s.clk.held.any (fun h => h.1 == n.val) = false →
      exec (.gateBusIdle t n) s = .next x ∧ exec (.gateBusyTimeout t n) s = .next x) ∧
    ((s.clk.held.find? fun h => h.1 == n.val) = some (n.val, since) →
      (x.now < since + busyTreads s → exec (.gateBusyTimeout t n) s = .next x) ∧
      (since + busyTreads s ≤ x.now → exec (.gateBusyTimeout t n) s = .next (after t (fun y => raiseEvent 0x026
        (setF (setF (setClk { s.clk with held := forgets } y) (Reg.CLK_GATE_HELD n) 0) (Reg.CLK_GATE_STATUS n) 1)) s)))

/-- Power (R447 to R451, R479, R493): a request for Hold or Keep in Run sets the entry at a flight boundary 4,410 treads ahead or more; Run from
Hold retrains DRAM, returns the gates and sets the flights' resumption, or waits for SYSOSC and the reference clock; nothing before epoch 1. An enabled wake condition in Keep raises
PWR_MAIN_EN, which falls again after 100 ms without PWR_GOOD; a reading of 125 °C or more trips; the rails of Keep come up outside a
trip.
The model's own choices in it: assumptions 135, 137. -/
def Obligations.PowerStates : Prop :=
  ∀ (s : State) (t : Nat) (d : Fin 4) (failed : List (Fin 16)) (cause : Fin 3) (celsius : Int), calm t s = true →
    let x := arriveAt t s
    let a := Reg.PWR_CTRL_TARGET.addr
    let entry := some (nextBoundary (x.now + 4410) (flightLen s))
    (0 < s.epoch.newest → s.clk.power = .run → s.twin.state ≠ .lockstep → s.tim.flights = .running → 0 < flightLen s →
      (writeCheck x d a 1 = none → exec (.holdEntry t d) s =
        .next { x with clk := { s.clk with power := .enteringHold, request := none, holdAt := entry } }) ∧
      (writeCheck x d a 2 = none → exec (.keepEntry t d) s =
        .next { x with clk := { s.clk with power := .enteringHold, request := some .keep, holdAt := entry } })) ∧
    (s.epoch.newest = 0 →
      (writeCheck x d a 0 = none → exec (.holdExit t d failed) s = .next x) ∧
      (writeCheck x d a 1 = none → exec (.holdEntry t d) s = .next x) ∧
      (writeCheck x d a 2 = none → exec (.keepEntry t d) s = .next x)) ∧
    (writeCheck x d a 0 = none → 0 < s.epoch.newest → s.clk.power = .hold → sourceFails s 0 = true ∨ sourceFails s 1 = true →
      exec (.holdExit t d failed) s = .next { x with clk := { s.clk with request := some .run } }) ∧
    (writeCheck x d a 0 = none → 0 < s.epoch.newest → s.clk.power = .hold → sourceFails s 0 = false → sourceFails s 1 = false →
      exec (.holdExit t d failed) s = .next (after t (fun y =>
        let z := charterGates (selfRefreshExit (failed.map (·.val)) y)
        setClk { z.clk with power := .leavingHold, request := none
                            resumeAt := some (nextBoundary (z.now + 141120) (flightLen z)) } z) s)) ∧
    (let enabled : Bool := match cause.val with
       | 0 => getF s Reg.PWR_WAKE_CFG_PIN_EN == 1
       | 1 => getF s Reg.PWR_WAKE_CFG_ALARM_EN == 1 && wakeHolds x
       | _ => getF s Reg.PWR_WAKE_CFG_CAP_EN == 1
     (s.clk.power = .keep → enabled = true → ∃ u, exec (.wake t cause) s = .next u ∧ u.clk = { s.clk with power := .waking, wakeAt := x.now } ∧
       u.pins = { s.pins with pwrMainEn := !s.pins.tripped } ∧ u = { setF x Reg.PWR_STAT_WAKE (cause.val + 1) with clk := u.clk, pins := u.pins }) ∧
     (s.clk.power ≠ .keep ∨ enabled = false → exec (.wake t cause) s = .next x)) ∧
    (s.clk.power = .waking → s.pins.pwrGood = false →
      (s.clk.wakeAt + 14112000 ≤ x.now → exec (.wakeFail t) s = .next { setF x Reg.PWR_STAT_WAKE_FAIL 1 with
        clk := { s.clk with power := .keep }, pins := { s.pins with pwrMainEn := false } }) ∧
      (x.now < s.clk.wakeAt + 14112000 → exec (.wakeFail t) s = .next x)) ∧
    (celsius < 125 → exec (.thermalTrip t celsius) s = .next x) ∧
    (125 ≤ celsius → exec (.thermalTrip t celsius) s =
      .next { x with pins := { s.pins with thermTripN := false, tripped := true, pwrMainEn := false } }) ∧
    exec (.keepRailsPowerUp t) s =
      .next { x with pins := { s.pins with aonValid := true, pwrMainEn := s.clk.power != .keep && !s.pins.tripped } }

/-! ### Commands on events, links and JTAG (R101, R461 to R472, R491) -/

/-- Clears and the test raise (R461, R464, R468, R472): EVT_TEST raises its event with TEST set; a 1 in BLK_EVT_STAT clears that bit and its RAW
bit and no other; a 1 in VALID clears a block's error record, which its oldest waiting log entry fills again; a door's link shows in
DOR_STAT with event 0x05F, at a rate and a width that Table 1 of Doors and epochs gives.
The model's own choices in it: assumption 140. -/
def Obligations.EventCommands : Prop :=
  ∀ (s : State) (t : Nat) (d : Fin 4) (b : Block) (v : Word) (up : Bool) (speed : Fin 8) (width : Fin 16) (l : LogEntry),
    calm t s = true → swf resetWord s.regs = true →
    let x := arriveAt t s
    let stat := blockBase b + 0x10
    let raw := blockBase b + 0x08
    let waits := fun (y : LogEntry) => y.err.block == b && !y.first
    (writeCheck x d Reg.EVT_TEST_EVENT.addr v = none →
      exec (.eventTest t d v) s = .next (after t (raiseNow (v.toNat % 2048) true) s)) ∧
    (writeCheck x d stat v = none → ∃ u, exec (.eventClear t d b v) s = .next u ∧ rget u stat = rget s stat &&& ~~~v ∧
      rget u raw = rget s raw &&& ~~~v ∧ (∀ a, a ≠ stat → a ≠ raw → rget u a = rget s a) ∧ u = { x with regs := u.regs }) ∧
    (writeCheck x d (blockBase b + 0x20) v = none →
      (v.toNat / 2147483648 % 2 = 0 → exec (.errorClear t d b v) s = .next x) ∧
      (v.toNat / 2147483648 % 2 = 1 → s.evt.log.find? waits = none → exec (.errorClear t d b v) s = .next (setFirst x b none)) ∧
      (v.toNat / 2147483648 % 2 = 1 → s.evt.log.find? waits = some l → exec (.errorClear t d b v) s =
        .next (setFirst { x with evt := { s.evt with log := s.evt.log.map fun y => if y.seq = l.seq then { y with first := true } else y } }
          b (some ⟨l.err, (s.evt.log.filter waits).foldl (fun m y => max m y.err.sev) 0, true⟩)))) ∧
    (writeCheck x d Reg.EVT_ALERT_ACTIVE.addr v = none →
      exec (.alertClear t d v) s = .next (storeWord Reg.EVT_ALERT_ACTIVE.addr v x)) ∧
    (let listed := 1 ≤ speed.val ∧ speed.val ≤ 5 ∧ (width.val = 1 ∨ width.val = 2 ∨ width.val = 4 ∨ width.val = 8)
     (up = false ∨ listed → exec (.doorLinkChange t d up speed width) s = .next (after t (fun y => raiseEvent 0x05F
      (setF (setF (setF y (Reg.DOR_STAT_LINK d) up.toNat) (Reg.DOR_STAT_SPEED d) (if up then speed.val else 0))
        (Reg.DOR_STAT_WIDTH d) (if up then width.val else 0))) s)) ∧
     (up = true → ¬ listed → exec (.doorLinkChange t d up speed width) s = .next x))

/-- The JTAG port (R491) outside Keep: each instruction selects its register, IDCODE captures 0x2641078F, and EXTEST and CLAMP drive the pins;
SAMPLE/PRELOAD and EXTEST load the boundary register, and no other instruction does; reset selects IDCODE. In Keep, and after a trip has taken the main
rails, the port is without power, and an instruction does nothing.
The model's own choices in it: assumption 141. -/
def Obligations.JtagPort : Prop :=
  ∀ (s : State) (cells : List Bool),
    let loaded := (cells.mapIdx fun i b => (i, b)).filter (·.2)
    let port := fun i dr driving hiZ boundary => Host.Outcome.next { s with jtag := ⟨false, i, dr, boundary, driving, hiZ⟩ }
    let off := inKeep s = true ∨ railsGone s = true
    (¬ off →
      exec .jtagBypass s = port .bypass 0 false false s.jtag.boundary ∧
      exec .jtagIdcode s = port .idcode 0x2641078F false false s.jtag.boundary ∧
      exec (.jtagSamplePreload cells) s = port .samplePreload 0 false false loaded ∧
      exec (.jtagExtest cells) s = port .extest 0 true false loaded ∧
      exec .jtagClamp s = port .clamp 0 true false s.jtag.boundary ∧
      exec .jtagHighz s = port .highz 0 false true s.jtag.boundary) ∧
    (off → exec .jtagBypass s = .next s ∧ exec .jtagIdcode s = .next s ∧ exec (.jtagSamplePreload cells) s = .next s ∧
      exec (.jtagExtest cells) s = .next s ∧ exec .jtagClamp s = .next s ∧ exec .jtagHighz s = .next s) ∧
    exec .testLogicReset s = .next { s with jtag := ⟨true, .idcode, 0, s.jtag.boundary, false, false⟩ }
end

