-- ==== Sys2Proof/Laws/State.lean ====
section
/-! SUPPORT. What each updater of the state leaves in each field: one lemma per field, true by definition. -/

namespace Sys2Proof.Machine

variable (s : State)

/-! ### arriveAt -/

@[simp] theorem arriveAt_pending (t : Nat) : (arriveAt t s).pending = s.pending := rfl
@[simp] theorem arriveAt_now (t : Nat) : (arriveAt t s).now = max s.now t := rfl
@[simp] theorem arriveAt_drawn (t : Nat) : (arriveAt t s).drawn = s.drawn := rfl
@[simp] theorem arriveAt_regs (t : Nat) : (arriveAt t s).regs = s.regs := rfl
@[simp] theorem arriveAt_tim (t : Nat) : (arriveAt t s).tim = s.tim := rfl
@[simp] theorem arriveAt_doors (t : Nat) : (arriveAt t s).doors = s.doors := rfl
@[simp] theorem arriveAt_epoch (t : Nat) : (arriveAt t s).epoch = s.epoch := rfl
@[simp] theorem arriveAt_evt (t : Nat) : (arriveAt t s).evt = s.evt := rfl
@[simp] theorem arriveAt_cht (t : Nat) : (arriveAt t s).cht = s.cht := rfl
@[simp] theorem arriveAt_modem (t : Nat) : (arriveAt t s).modem = s.modem := rfl
@[simp] theorem arriveAt_ports (t : Nat) : (arriveAt t s).ports = s.ports := rfl
@[simp] theorem arriveAt_queues (t : Nat) : (arriveAt t s).queues = s.queues := rfl
@[simp] theorem arriveAt_cip (t : Nat) : (arriveAt t s).cip = s.cip := rfl
@[simp] theorem arriveAt_shp (t : Nat) : (arriveAt t s).shp = s.shp := rfl
@[simp] theorem arriveAt_stw (t : Nat) : (arriveAt t s).stw = s.stw := rfl
@[simp] theorem arriveAt_lnd (t : Nat) : (arriveAt t s).lnd = s.lnd := rfl
@[simp] theorem arriveAt_gal (t : Nat) : (arriveAt t s).gal = s.gal := rfl
@[simp] theorem arriveAt_dec (t : Nat) : (arriveAt t s).dec = s.dec := rfl
@[simp] theorem arriveAt_hal (t : Nat) : (arriveAt t s).hal = s.hal := rfl
@[simp] theorem arriveAt_enc (t : Nat) : (arriveAt t s).enc = s.enc := rfl
@[simp] theorem arriveAt_drm (t : Nat) : (arriveAt t s).drm = s.drm := rfl
@[simp] theorem arriveAt_dma (t : Nat) : (arriveAt t s).dma = s.dma := rfl
@[simp] theorem arriveAt_ucr (t : Nat) : (arriveAt t s).ucr = s.ucr := rfl
@[simp] theorem arriveAt_twin (t : Nat) : (arriveAt t s).twin = s.twin := rfl
@[simp] theorem arriveAt_clk (t : Nat) : (arriveAt t s).clk = s.clk := rfl
@[simp] theorem arriveAt_pins (t : Nat) : (arriveAt t s).pins = s.pins := rfl
@[simp] theorem arriveAt_jtag (t : Nat) : (arriveAt t s).jtag = s.jtag := rfl
@[simp] theorem arriveAt_out (t : Nat) : (arriveAt t s).out = s.out := rfl

/-! ### rset -/

@[simp] theorem rset_pending (a : Nat) (w : Word) : (rset s a w).pending = s.pending := rfl
@[simp] theorem rset_now (a : Nat) (w : Word) : (rset s a w).now = s.now := rfl
@[simp] theorem rset_drawn (a : Nat) (w : Word) : (rset s a w).drawn = s.drawn := rfl
@[simp] theorem rset_regs (a : Nat) (w : Word) : (rset s a w).regs = sset resetWord s.regs a w := rfl
@[simp] theorem rset_tim (a : Nat) (w : Word) : (rset s a w).tim = s.tim := rfl
@[simp] theorem rset_doors (a : Nat) (w : Word) : (rset s a w).doors = s.doors := rfl
@[simp] theorem rset_epoch (a : Nat) (w : Word) : (rset s a w).epoch = s.epoch := rfl
@[simp] theorem rset_evt (a : Nat) (w : Word) : (rset s a w).evt = s.evt := rfl
@[simp] theorem rset_cht (a : Nat) (w : Word) : (rset s a w).cht = s.cht := rfl
@[simp] theorem rset_modem (a : Nat) (w : Word) : (rset s a w).modem = s.modem := rfl
@[simp] theorem rset_ports (a : Nat) (w : Word) : (rset s a w).ports = s.ports := rfl
@[simp] theorem rset_queues (a : Nat) (w : Word) : (rset s a w).queues = s.queues := rfl
@[simp] theorem rset_cip (a : Nat) (w : Word) : (rset s a w).cip = s.cip := rfl
@[simp] theorem rset_shp (a : Nat) (w : Word) : (rset s a w).shp = s.shp := rfl
@[simp] theorem rset_stw (a : Nat) (w : Word) : (rset s a w).stw = s.stw := rfl
@[simp] theorem rset_lnd (a : Nat) (w : Word) : (rset s a w).lnd = s.lnd := rfl
@[simp] theorem rset_gal (a : Nat) (w : Word) : (rset s a w).gal = s.gal := rfl
@[simp] theorem rset_dec (a : Nat) (w : Word) : (rset s a w).dec = s.dec := rfl
@[simp] theorem rset_hal (a : Nat) (w : Word) : (rset s a w).hal = s.hal := rfl
@[simp] theorem rset_enc (a : Nat) (w : Word) : (rset s a w).enc = s.enc := rfl
@[simp] theorem rset_drm (a : Nat) (w : Word) : (rset s a w).drm = s.drm := rfl
@[simp] theorem rset_dma (a : Nat) (w : Word) : (rset s a w).dma = s.dma := rfl
@[simp] theorem rset_ucr (a : Nat) (w : Word) : (rset s a w).ucr = s.ucr := rfl
@[simp] theorem rset_twin (a : Nat) (w : Word) : (rset s a w).twin = s.twin := rfl
@[simp] theorem rset_clk (a : Nat) (w : Word) : (rset s a w).clk = s.clk := rfl
@[simp] theorem rset_pins (a : Nat) (w : Word) : (rset s a w).pins = s.pins := rfl
@[simp] theorem rset_jtag (a : Nat) (w : Word) : (rset s a w).jtag = s.jtag := rfl
@[simp] theorem rset_out (a : Nat) (w : Word) : (rset s a w).out = s.out := rfl

/-! ### setF -/

@[simp] theorem setF_pending (f : Fld) (v : Nat) : (setF s f v).pending = s.pending := rfl
@[simp] theorem setF_now (f : Fld) (v : Nat) : (setF s f v).now = s.now := rfl
@[simp] theorem setF_drawn (f : Fld) (v : Nat) : (setF s f v).drawn = s.drawn := rfl
@[simp] theorem setF_regs (f : Fld) (v : Nat) : (setF s f v).regs = sset resetWord s.regs f.addr (putBits (rget s f.addr) f.hi f.lo v) := rfl
@[simp] theorem setF_tim (f : Fld) (v : Nat) : (setF s f v).tim = s.tim := rfl
@[simp] theorem setF_doors (f : Fld) (v : Nat) : (setF s f v).doors = s.doors := rfl
@[simp] theorem setF_epoch (f : Fld) (v : Nat) : (setF s f v).epoch = s.epoch := rfl
@[simp] theorem setF_evt (f : Fld) (v : Nat) : (setF s f v).evt = s.evt := rfl
@[simp] theorem setF_cht (f : Fld) (v : Nat) : (setF s f v).cht = s.cht := rfl
@[simp] theorem setF_modem (f : Fld) (v : Nat) : (setF s f v).modem = s.modem := rfl
@[simp] theorem setF_ports (f : Fld) (v : Nat) : (setF s f v).ports = s.ports := rfl
@[simp] theorem setF_queues (f : Fld) (v : Nat) : (setF s f v).queues = s.queues := rfl
@[simp] theorem setF_cip (f : Fld) (v : Nat) : (setF s f v).cip = s.cip := rfl
@[simp] theorem setF_shp (f : Fld) (v : Nat) : (setF s f v).shp = s.shp := rfl
@[simp] theorem setF_stw (f : Fld) (v : Nat) : (setF s f v).stw = s.stw := rfl
@[simp] theorem setF_lnd (f : Fld) (v : Nat) : (setF s f v).lnd = s.lnd := rfl
@[simp] theorem setF_gal (f : Fld) (v : Nat) : (setF s f v).gal = s.gal := rfl
@[simp] theorem setF_dec (f : Fld) (v : Nat) : (setF s f v).dec = s.dec := rfl
@[simp] theorem setF_hal (f : Fld) (v : Nat) : (setF s f v).hal = s.hal := rfl
@[simp] theorem setF_enc (f : Fld) (v : Nat) : (setF s f v).enc = s.enc := rfl
@[simp] theorem setF_drm (f : Fld) (v : Nat) : (setF s f v).drm = s.drm := rfl
@[simp] theorem setF_dma (f : Fld) (v : Nat) : (setF s f v).dma = s.dma := rfl
@[simp] theorem setF_ucr (f : Fld) (v : Nat) : (setF s f v).ucr = s.ucr := rfl
@[simp] theorem setF_twin (f : Fld) (v : Nat) : (setF s f v).twin = s.twin := rfl
@[simp] theorem setF_clk (f : Fld) (v : Nat) : (setF s f v).clk = s.clk := rfl
@[simp] theorem setF_pins (f : Fld) (v : Nat) : (setF s f v).pins = s.pins := rfl
@[simp] theorem setF_jtag (f : Fld) (v : Nat) : (setF s f v).jtag = s.jtag := rfl
@[simp] theorem setF_out (f : Fld) (v : Nat) : (setF s f v).out = s.out := rfl

/-! ### incF -/

@[simp] theorem incF_pending (f : Fld) : (incF s f).pending = s.pending := rfl
@[simp] theorem incF_now (f : Fld) : (incF s f).now = s.now := rfl
@[simp] theorem incF_drawn (f : Fld) : (incF s f).drawn = s.drawn := rfl
@[simp] theorem incF_regs (f : Fld) : (incF s f).regs = (setF s f (getF s f + 1)).regs := rfl
@[simp] theorem incF_tim (f : Fld) : (incF s f).tim = s.tim := rfl
@[simp] theorem incF_doors (f : Fld) : (incF s f).doors = s.doors := rfl
@[simp] theorem incF_epoch (f : Fld) : (incF s f).epoch = s.epoch := rfl
@[simp] theorem incF_evt (f : Fld) : (incF s f).evt = s.evt := rfl
@[simp] theorem incF_cht (f : Fld) : (incF s f).cht = s.cht := rfl
@[simp] theorem incF_modem (f : Fld) : (incF s f).modem = s.modem := rfl
@[simp] theorem incF_ports (f : Fld) : (incF s f).ports = s.ports := rfl
@[simp] theorem incF_queues (f : Fld) : (incF s f).queues = s.queues := rfl
@[simp] theorem incF_cip (f : Fld) : (incF s f).cip = s.cip := rfl
@[simp] theorem incF_shp (f : Fld) : (incF s f).shp = s.shp := rfl
@[simp] theorem incF_stw (f : Fld) : (incF s f).stw = s.stw := rfl
@[simp] theorem incF_lnd (f : Fld) : (incF s f).lnd = s.lnd := rfl
@[simp] theorem incF_gal (f : Fld) : (incF s f).gal = s.gal := rfl
@[simp] theorem incF_dec (f : Fld) : (incF s f).dec = s.dec := rfl
@[simp] theorem incF_hal (f : Fld) : (incF s f).hal = s.hal := rfl
@[simp] theorem incF_enc (f : Fld) : (incF s f).enc = s.enc := rfl
@[simp] theorem incF_drm (f : Fld) : (incF s f).drm = s.drm := rfl
@[simp] theorem incF_dma (f : Fld) : (incF s f).dma = s.dma := rfl
@[simp] theorem incF_ucr (f : Fld) : (incF s f).ucr = s.ucr := rfl
@[simp] theorem incF_twin (f : Fld) : (incF s f).twin = s.twin := rfl
@[simp] theorem incF_clk (f : Fld) : (incF s f).clk = s.clk := rfl
@[simp] theorem incF_pins (f : Fld) : (incF s f).pins = s.pins := rfl
@[simp] theorem incF_jtag (f : Fld) : (incF s f).jtag = s.jtag := rfl
@[simp] theorem incF_out (f : Fld) : (incF s f).out = s.out := rfl

/-! ### incSatF -/

@[simp] theorem incSatF_pending (f : Fld) : (incSatF s f).pending = s.pending := rfl
@[simp] theorem incSatF_now (f : Fld) : (incSatF s f).now = s.now := rfl
@[simp] theorem incSatF_drawn (f : Fld) : (incSatF s f).drawn = s.drawn := rfl
@[simp] theorem incSatF_regs (f : Fld) : (incSatF s f).regs = (setF s f (min (fieldMax f) (getF s f + 1))).regs := rfl
@[simp] theorem incSatF_tim (f : Fld) : (incSatF s f).tim = s.tim := rfl
@[simp] theorem incSatF_doors (f : Fld) : (incSatF s f).doors = s.doors := rfl
@[simp] theorem incSatF_epoch (f : Fld) : (incSatF s f).epoch = s.epoch := rfl
@[simp] theorem incSatF_evt (f : Fld) : (incSatF s f).evt = s.evt := rfl
@[simp] theorem incSatF_cht (f : Fld) : (incSatF s f).cht = s.cht := rfl
@[simp] theorem incSatF_modem (f : Fld) : (incSatF s f).modem = s.modem := rfl
@[simp] theorem incSatF_ports (f : Fld) : (incSatF s f).ports = s.ports := rfl
@[simp] theorem incSatF_queues (f : Fld) : (incSatF s f).queues = s.queues := rfl
@[simp] theorem incSatF_cip (f : Fld) : (incSatF s f).cip = s.cip := rfl
@[simp] theorem incSatF_shp (f : Fld) : (incSatF s f).shp = s.shp := rfl
@[simp] theorem incSatF_stw (f : Fld) : (incSatF s f).stw = s.stw := rfl
@[simp] theorem incSatF_lnd (f : Fld) : (incSatF s f).lnd = s.lnd := rfl
@[simp] theorem incSatF_gal (f : Fld) : (incSatF s f).gal = s.gal := rfl
@[simp] theorem incSatF_dec (f : Fld) : (incSatF s f).dec = s.dec := rfl
@[simp] theorem incSatF_hal (f : Fld) : (incSatF s f).hal = s.hal := rfl
@[simp] theorem incSatF_enc (f : Fld) : (incSatF s f).enc = s.enc := rfl
@[simp] theorem incSatF_drm (f : Fld) : (incSatF s f).drm = s.drm := rfl
@[simp] theorem incSatF_dma (f : Fld) : (incSatF s f).dma = s.dma := rfl
@[simp] theorem incSatF_ucr (f : Fld) : (incSatF s f).ucr = s.ucr := rfl
@[simp] theorem incSatF_twin (f : Fld) : (incSatF s f).twin = s.twin := rfl
@[simp] theorem incSatF_clk (f : Fld) : (incSatF s f).clk = s.clk := rfl
@[simp] theorem incSatF_pins (f : Fld) : (incSatF s f).pins = s.pins := rfl
@[simp] theorem incSatF_jtag (f : Fld) : (incSatF s f).jtag = s.jtag := rfl
@[simp] theorem incSatF_out (f : Fld) : (incSatF s f).out = s.out := rfl

/-! ### setLive -/

@[simp] theorem setLive_pending (a : Nat) (w : Word) : (setLive a w s).pending = s.pending := rfl
@[simp] theorem setLive_now (a : Nat) (w : Word) : (setLive a w s).now = s.now := rfl
@[simp] theorem setLive_drawn (a : Nat) (w : Word) : (setLive a w s).drawn = s.drawn := rfl
@[simp] theorem setLive_regs (a : Nat) (w : Word) : (setLive a w s).regs = s.regs := rfl
@[simp] theorem setLive_tim (a : Nat) (w : Word) : (setLive a w s).tim = s.tim := rfl
@[simp] theorem setLive_doors (a : Nat) (w : Word) : (setLive a w s).doors = s.doors := rfl
@[simp] theorem setLive_evt (a : Nat) (w : Word) : (setLive a w s).evt = s.evt := rfl
@[simp] theorem setLive_cht (a : Nat) (w : Word) : (setLive a w s).cht = s.cht := rfl
@[simp] theorem setLive_modem (a : Nat) (w : Word) : (setLive a w s).modem = s.modem := rfl
@[simp] theorem setLive_ports (a : Nat) (w : Word) : (setLive a w s).ports = s.ports := rfl
@[simp] theorem setLive_queues (a : Nat) (w : Word) : (setLive a w s).queues = s.queues := rfl
@[simp] theorem setLive_cip (a : Nat) (w : Word) : (setLive a w s).cip = s.cip := rfl
@[simp] theorem setLive_shp (a : Nat) (w : Word) : (setLive a w s).shp = s.shp := rfl
@[simp] theorem setLive_stw (a : Nat) (w : Word) : (setLive a w s).stw = s.stw := rfl
@[simp] theorem setLive_lnd (a : Nat) (w : Word) : (setLive a w s).lnd = s.lnd := rfl
@[simp] theorem setLive_gal (a : Nat) (w : Word) : (setLive a w s).gal = s.gal := rfl
@[simp] theorem setLive_dec (a : Nat) (w : Word) : (setLive a w s).dec = s.dec := rfl
@[simp] theorem setLive_hal (a : Nat) (w : Word) : (setLive a w s).hal = s.hal := rfl
@[simp] theorem setLive_enc (a : Nat) (w : Word) : (setLive a w s).enc = s.enc := rfl
@[simp] theorem setLive_drm (a : Nat) (w : Word) : (setLive a w s).drm = s.drm := rfl
@[simp] theorem setLive_dma (a : Nat) (w : Word) : (setLive a w s).dma = s.dma := rfl
@[simp] theorem setLive_ucr (a : Nat) (w : Word) : (setLive a w s).ucr = s.ucr := rfl
@[simp] theorem setLive_twin (a : Nat) (w : Word) : (setLive a w s).twin = s.twin := rfl
@[simp] theorem setLive_clk (a : Nat) (w : Word) : (setLive a w s).clk = s.clk := rfl
@[simp] theorem setLive_pins (a : Nat) (w : Word) : (setLive a w s).pins = s.pins := rfl
@[simp] theorem setLive_jtag (a : Nat) (w : Word) : (setLive a w s).jtag = s.jtag := rfl
@[simp] theorem setLive_out (a : Nat) (w : Word) : (setLive a w s).out = s.out := rfl

/-! ### setDoor -/

@[simp] theorem setDoor_pending (d : Nat) (x : Door) : (setDoor s d x).pending = s.pending := rfl
@[simp] theorem setDoor_now (d : Nat) (x : Door) : (setDoor s d x).now = s.now := rfl
@[simp] theorem setDoor_drawn (d : Nat) (x : Door) : (setDoor s d x).drawn = s.drawn := rfl
@[simp] theorem setDoor_regs (d : Nat) (x : Door) : (setDoor s d x).regs = s.regs := rfl
@[simp] theorem setDoor_tim (d : Nat) (x : Door) : (setDoor s d x).tim = s.tim := rfl
@[simp] theorem setDoor_doors (d : Nat) (x : Door) : (setDoor s d x).doors = ssetC doorInit s.doors d x := rfl
@[simp] theorem setDoor_epoch (d : Nat) (x : Door) : (setDoor s d x).epoch = s.epoch := rfl
@[simp] theorem setDoor_evt (d : Nat) (x : Door) : (setDoor s d x).evt = s.evt := rfl
@[simp] theorem setDoor_cht (d : Nat) (x : Door) : (setDoor s d x).cht = s.cht := rfl
@[simp] theorem setDoor_modem (d : Nat) (x : Door) : (setDoor s d x).modem = s.modem := rfl
@[simp] theorem setDoor_ports (d : Nat) (x : Door) : (setDoor s d x).ports = s.ports := rfl
@[simp] theorem setDoor_queues (d : Nat) (x : Door) : (setDoor s d x).queues = s.queues := rfl
@[simp] theorem setDoor_cip (d : Nat) (x : Door) : (setDoor s d x).cip = s.cip := rfl
@[simp] theorem setDoor_shp (d : Nat) (x : Door) : (setDoor s d x).shp = s.shp := rfl
@[simp] theorem setDoor_stw (d : Nat) (x : Door) : (setDoor s d x).stw = s.stw := rfl
@[simp] theorem setDoor_lnd (d : Nat) (x : Door) : (setDoor s d x).lnd = s.lnd := rfl
@[simp] theorem setDoor_gal (d : Nat) (x : Door) : (setDoor s d x).gal = s.gal := rfl
@[simp] theorem setDoor_dec (d : Nat) (x : Door) : (setDoor s d x).dec = s.dec := rfl
@[simp] theorem setDoor_hal (d : Nat) (x : Door) : (setDoor s d x).hal = s.hal := rfl
@[simp] theorem setDoor_enc (d : Nat) (x : Door) : (setDoor s d x).enc = s.enc := rfl
@[simp] theorem setDoor_drm (d : Nat) (x : Door) : (setDoor s d x).drm = s.drm := rfl
@[simp] theorem setDoor_dma (d : Nat) (x : Door) : (setDoor s d x).dma = s.dma := rfl
@[simp] theorem setDoor_ucr (d : Nat) (x : Door) : (setDoor s d x).ucr = s.ucr := rfl
@[simp] theorem setDoor_twin (d : Nat) (x : Door) : (setDoor s d x).twin = s.twin := rfl
@[simp] theorem setDoor_clk (d : Nat) (x : Door) : (setDoor s d x).clk = s.clk := rfl
@[simp] theorem setDoor_pins (d : Nat) (x : Door) : (setDoor s d x).pins = s.pins := rfl
@[simp] theorem setDoor_jtag (d : Nat) (x : Door) : (setDoor s d x).jtag = s.jtag := rfl
@[simp] theorem setDoor_out (d : Nat) (x : Door) : (setDoor s d x).out = s.out := rfl

/-! ### setTwin -/

@[simp] theorem setTwin_pending (x : TwinUnit) : (setTwin x s).pending = s.pending := rfl
@[simp] theorem setTwin_now (x : TwinUnit) : (setTwin x s).now = s.now := rfl
@[simp] theorem setTwin_drawn (x : TwinUnit) : (setTwin x s).drawn = s.drawn := rfl
@[simp] theorem setTwin_regs (x : TwinUnit) : (setTwin x s).regs = s.regs := rfl
@[simp] theorem setTwin_tim (x : TwinUnit) : (setTwin x s).tim = s.tim := rfl
@[simp] theorem setTwin_doors (x : TwinUnit) : (setTwin x s).doors = s.doors := rfl
@[simp] theorem setTwin_epoch (x : TwinUnit) : (setTwin x s).epoch = s.epoch := rfl
@[simp] theorem setTwin_evt (x : TwinUnit) : (setTwin x s).evt = s.evt := rfl
@[simp] theorem setTwin_cht (x : TwinUnit) : (setTwin x s).cht = s.cht := rfl
@[simp] theorem setTwin_modem (x : TwinUnit) : (setTwin x s).modem = s.modem := rfl
@[simp] theorem setTwin_ports (x : TwinUnit) : (setTwin x s).ports = s.ports := rfl
@[simp] theorem setTwin_queues (x : TwinUnit) : (setTwin x s).queues = s.queues := rfl
@[simp] theorem setTwin_cip (x : TwinUnit) : (setTwin x s).cip = s.cip := rfl
@[simp] theorem setTwin_shp (x : TwinUnit) : (setTwin x s).shp = s.shp := rfl
@[simp] theorem setTwin_stw (x : TwinUnit) : (setTwin x s).stw = s.stw := rfl
@[simp] theorem setTwin_lnd (x : TwinUnit) : (setTwin x s).lnd = s.lnd := rfl
@[simp] theorem setTwin_gal (x : TwinUnit) : (setTwin x s).gal = s.gal := rfl
@[simp] theorem setTwin_dec (x : TwinUnit) : (setTwin x s).dec = s.dec := rfl
@[simp] theorem setTwin_hal (x : TwinUnit) : (setTwin x s).hal = s.hal := rfl
@[simp] theorem setTwin_enc (x : TwinUnit) : (setTwin x s).enc = s.enc := rfl
@[simp] theorem setTwin_drm (x : TwinUnit) : (setTwin x s).drm = s.drm := rfl
@[simp] theorem setTwin_dma (x : TwinUnit) : (setTwin x s).dma = s.dma := rfl
@[simp] theorem setTwin_ucr (x : TwinUnit) : (setTwin x s).ucr = s.ucr := rfl
@[simp] theorem setTwin_twin (x : TwinUnit) : (setTwin x s).twin = x := rfl
@[simp] theorem setTwin_clk (x : TwinUnit) : (setTwin x s).clk = s.clk := rfl
@[simp] theorem setTwin_pins (x : TwinUnit) : (setTwin x s).pins = s.pins := rfl
@[simp] theorem setTwin_jtag (x : TwinUnit) : (setTwin x s).jtag = s.jtag := rfl
@[simp] theorem setTwin_out (x : TwinUnit) : (setTwin x s).out = s.out := rfl

/-! ### setServo -/

@[simp] theorem setServo_pending (v : Servo) : (setServo v s).pending = s.pending := rfl
@[simp] theorem setServo_now (v : Servo) : (setServo v s).now = s.now := rfl
@[simp] theorem setServo_drawn (v : Servo) : (setServo v s).drawn = s.drawn := rfl
@[simp] theorem setServo_regs (v : Servo) : (setServo v s).regs = s.regs := rfl
@[simp] theorem setServo_tim (v : Servo) : (setServo v s).tim = { s.tim with servo := v } := rfl
@[simp] theorem setServo_doors (v : Servo) : (setServo v s).doors = s.doors := rfl
@[simp] theorem setServo_epoch (v : Servo) : (setServo v s).epoch = s.epoch := rfl
@[simp] theorem setServo_evt (v : Servo) : (setServo v s).evt = s.evt := rfl
@[simp] theorem setServo_cht (v : Servo) : (setServo v s).cht = s.cht := rfl
@[simp] theorem setServo_modem (v : Servo) : (setServo v s).modem = s.modem := rfl
@[simp] theorem setServo_ports (v : Servo) : (setServo v s).ports = s.ports := rfl
@[simp] theorem setServo_queues (v : Servo) : (setServo v s).queues = s.queues := rfl
@[simp] theorem setServo_cip (v : Servo) : (setServo v s).cip = s.cip := rfl
@[simp] theorem setServo_shp (v : Servo) : (setServo v s).shp = s.shp := rfl
@[simp] theorem setServo_stw (v : Servo) : (setServo v s).stw = s.stw := rfl
@[simp] theorem setServo_lnd (v : Servo) : (setServo v s).lnd = s.lnd := rfl
@[simp] theorem setServo_gal (v : Servo) : (setServo v s).gal = s.gal := rfl
@[simp] theorem setServo_dec (v : Servo) : (setServo v s).dec = s.dec := rfl
@[simp] theorem setServo_hal (v : Servo) : (setServo v s).hal = s.hal := rfl
@[simp] theorem setServo_enc (v : Servo) : (setServo v s).enc = s.enc := rfl
@[simp] theorem setServo_drm (v : Servo) : (setServo v s).drm = s.drm := rfl
@[simp] theorem setServo_dma (v : Servo) : (setServo v s).dma = s.dma := rfl
@[simp] theorem setServo_ucr (v : Servo) : (setServo v s).ucr = s.ucr := rfl
@[simp] theorem setServo_twin (v : Servo) : (setServo v s).twin = s.twin := rfl
@[simp] theorem setServo_clk (v : Servo) : (setServo v s).clk = s.clk := rfl
@[simp] theorem setServo_pins (v : Servo) : (setServo v s).pins = s.pins := rfl
@[simp] theorem setServo_jtag (v : Servo) : (setServo v s).jtag = s.jtag := rfl
@[simp] theorem setServo_out (v : Servo) : (setServo v s).out = s.out := rfl

/-! ### setCapture -/

@[simp] theorem setCapture_pending (ch : Nat) (q : List CapEntry) : (setCapture ch q s).pending = s.pending := rfl
@[simp] theorem setCapture_now (ch : Nat) (q : List CapEntry) : (setCapture ch q s).now = s.now := rfl
@[simp] theorem setCapture_drawn (ch : Nat) (q : List CapEntry) : (setCapture ch q s).drawn = s.drawn := rfl
@[simp] theorem setCapture_regs (ch : Nat) (q : List CapEntry) : (setCapture ch q s).regs = s.regs := rfl
@[simp] theorem setCapture_tim (ch : Nat) (q : List CapEntry) : (setCapture ch q s).tim = { s.tim with captures := ssetC [] s.tim.captures ch q } := rfl
@[simp] theorem setCapture_doors (ch : Nat) (q : List CapEntry) : (setCapture ch q s).doors = s.doors := rfl
@[simp] theorem setCapture_epoch (ch : Nat) (q : List CapEntry) : (setCapture ch q s).epoch = s.epoch := rfl
@[simp] theorem setCapture_evt (ch : Nat) (q : List CapEntry) : (setCapture ch q s).evt = s.evt := rfl
@[simp] theorem setCapture_cht (ch : Nat) (q : List CapEntry) : (setCapture ch q s).cht = s.cht := rfl
@[simp] theorem setCapture_modem (ch : Nat) (q : List CapEntry) : (setCapture ch q s).modem = s.modem := rfl
@[simp] theorem setCapture_ports (ch : Nat) (q : List CapEntry) : (setCapture ch q s).ports = s.ports := rfl
@[simp] theorem setCapture_queues (ch : Nat) (q : List CapEntry) : (setCapture ch q s).queues = s.queues := rfl
@[simp] theorem setCapture_cip (ch : Nat) (q : List CapEntry) : (setCapture ch q s).cip = s.cip := rfl
@[simp] theorem setCapture_shp (ch : Nat) (q : List CapEntry) : (setCapture ch q s).shp = s.shp := rfl
@[simp] theorem setCapture_stw (ch : Nat) (q : List CapEntry) : (setCapture ch q s).stw = s.stw := rfl
@[simp] theorem setCapture_lnd (ch : Nat) (q : List CapEntry) : (setCapture ch q s).lnd = s.lnd := rfl
@[simp] theorem setCapture_gal (ch : Nat) (q : List CapEntry) : (setCapture ch q s).gal = s.gal := rfl
@[simp] theorem setCapture_dec (ch : Nat) (q : List CapEntry) : (setCapture ch q s).dec = s.dec := rfl
@[simp] theorem setCapture_hal (ch : Nat) (q : List CapEntry) : (setCapture ch q s).hal = s.hal := rfl
@[simp] theorem setCapture_enc (ch : Nat) (q : List CapEntry) : (setCapture ch q s).enc = s.enc := rfl
@[simp] theorem setCapture_drm (ch : Nat) (q : List CapEntry) : (setCapture ch q s).drm = s.drm := rfl
@[simp] theorem setCapture_dma (ch : Nat) (q : List CapEntry) : (setCapture ch q s).dma = s.dma := rfl
@[simp] theorem setCapture_ucr (ch : Nat) (q : List CapEntry) : (setCapture ch q s).ucr = s.ucr := rfl
@[simp] theorem setCapture_twin (ch : Nat) (q : List CapEntry) : (setCapture ch q s).twin = s.twin := rfl
@[simp] theorem setCapture_clk (ch : Nat) (q : List CapEntry) : (setCapture ch q s).clk = s.clk := rfl
@[simp] theorem setCapture_pins (ch : Nat) (q : List CapEntry) : (setCapture ch q s).pins = s.pins := rfl
@[simp] theorem setCapture_jtag (ch : Nat) (q : List CapEntry) : (setCapture ch q s).jtag = s.jtag := rfl
@[simp] theorem setCapture_out (ch : Nat) (q : List CapEntry) : (setCapture ch q s).out = s.out := rfl

/-! ### setTrig -/

@[simp] theorem setTrig_pending (n : Nat) (x : Trig) : (setTrig n x s).pending = s.pending := rfl
@[simp] theorem setTrig_now (n : Nat) (x : Trig) : (setTrig n x s).now = s.now := rfl
@[simp] theorem setTrig_drawn (n : Nat) (x : Trig) : (setTrig n x s).drawn = s.drawn := rfl
@[simp] theorem setTrig_regs (n : Nat) (x : Trig) : (setTrig n x s).regs = s.regs := rfl
@[simp] theorem setTrig_tim (n : Nat) (x : Trig) : (setTrig n x s).tim = { s.tim with trigs := ssetC trigInit s.tim.trigs n x } := rfl
@[simp] theorem setTrig_doors (n : Nat) (x : Trig) : (setTrig n x s).doors = s.doors := rfl
@[simp] theorem setTrig_epoch (n : Nat) (x : Trig) : (setTrig n x s).epoch = s.epoch := rfl
@[simp] theorem setTrig_evt (n : Nat) (x : Trig) : (setTrig n x s).evt = s.evt := rfl
@[simp] theorem setTrig_cht (n : Nat) (x : Trig) : (setTrig n x s).cht = s.cht := rfl
@[simp] theorem setTrig_modem (n : Nat) (x : Trig) : (setTrig n x s).modem = s.modem := rfl
@[simp] theorem setTrig_ports (n : Nat) (x : Trig) : (setTrig n x s).ports = s.ports := rfl
@[simp] theorem setTrig_queues (n : Nat) (x : Trig) : (setTrig n x s).queues = s.queues := rfl
@[simp] theorem setTrig_cip (n : Nat) (x : Trig) : (setTrig n x s).cip = s.cip := rfl
@[simp] theorem setTrig_shp (n : Nat) (x : Trig) : (setTrig n x s).shp = s.shp := rfl
@[simp] theorem setTrig_stw (n : Nat) (x : Trig) : (setTrig n x s).stw = s.stw := rfl
@[simp] theorem setTrig_lnd (n : Nat) (x : Trig) : (setTrig n x s).lnd = s.lnd := rfl
@[simp] theorem setTrig_gal (n : Nat) (x : Trig) : (setTrig n x s).gal = s.gal := rfl
@[simp] theorem setTrig_dec (n : Nat) (x : Trig) : (setTrig n x s).dec = s.dec := rfl
@[simp] theorem setTrig_hal (n : Nat) (x : Trig) : (setTrig n x s).hal = s.hal := rfl
@[simp] theorem setTrig_enc (n : Nat) (x : Trig) : (setTrig n x s).enc = s.enc := rfl
@[simp] theorem setTrig_drm (n : Nat) (x : Trig) : (setTrig n x s).drm = s.drm := rfl
@[simp] theorem setTrig_dma (n : Nat) (x : Trig) : (setTrig n x s).dma = s.dma := rfl
@[simp] theorem setTrig_ucr (n : Nat) (x : Trig) : (setTrig n x s).ucr = s.ucr := rfl
@[simp] theorem setTrig_twin (n : Nat) (x : Trig) : (setTrig n x s).twin = s.twin := rfl
@[simp] theorem setTrig_clk (n : Nat) (x : Trig) : (setTrig n x s).clk = s.clk := rfl
@[simp] theorem setTrig_pins (n : Nat) (x : Trig) : (setTrig n x s).pins = s.pins := rfl
@[simp] theorem setTrig_jtag (n : Nat) (x : Trig) : (setTrig n x s).jtag = s.jtag := rfl
@[simp] theorem setTrig_out (n : Nat) (x : Trig) : (setTrig n x s).out = s.out := rfl

/-! ### setModem -/

@[simp] theorem setModem_pending (x : ModemUnit) : (setModem x s).pending = s.pending := rfl
@[simp] theorem setModem_now (x : ModemUnit) : (setModem x s).now = s.now := rfl
@[simp] theorem setModem_drawn (x : ModemUnit) : (setModem x s).drawn = s.drawn := rfl
@[simp] theorem setModem_regs (x : ModemUnit) : (setModem x s).regs = s.regs := rfl
@[simp] theorem setModem_tim (x : ModemUnit) : (setModem x s).tim = s.tim := rfl
@[simp] theorem setModem_doors (x : ModemUnit) : (setModem x s).doors = s.doors := rfl
@[simp] theorem setModem_epoch (x : ModemUnit) : (setModem x s).epoch = s.epoch := rfl
@[simp] theorem setModem_evt (x : ModemUnit) : (setModem x s).evt = s.evt := rfl
@[simp] theorem setModem_cht (x : ModemUnit) : (setModem x s).cht = s.cht := rfl
@[simp] theorem setModem_modem (x : ModemUnit) : (setModem x s).modem = x := rfl
@[simp] theorem setModem_ports (x : ModemUnit) : (setModem x s).ports = s.ports := rfl
@[simp] theorem setModem_queues (x : ModemUnit) : (setModem x s).queues = s.queues := rfl
@[simp] theorem setModem_cip (x : ModemUnit) : (setModem x s).cip = s.cip := rfl
@[simp] theorem setModem_shp (x : ModemUnit) : (setModem x s).shp = s.shp := rfl
@[simp] theorem setModem_stw (x : ModemUnit) : (setModem x s).stw = s.stw := rfl
@[simp] theorem setModem_lnd (x : ModemUnit) : (setModem x s).lnd = s.lnd := rfl
@[simp] theorem setModem_gal (x : ModemUnit) : (setModem x s).gal = s.gal := rfl
@[simp] theorem setModem_dec (x : ModemUnit) : (setModem x s).dec = s.dec := rfl
@[simp] theorem setModem_hal (x : ModemUnit) : (setModem x s).hal = s.hal := rfl
@[simp] theorem setModem_enc (x : ModemUnit) : (setModem x s).enc = s.enc := rfl
@[simp] theorem setModem_drm (x : ModemUnit) : (setModem x s).drm = s.drm := rfl
@[simp] theorem setModem_dma (x : ModemUnit) : (setModem x s).dma = s.dma := rfl
@[simp] theorem setModem_ucr (x : ModemUnit) : (setModem x s).ucr = s.ucr := rfl
@[simp] theorem setModem_twin (x : ModemUnit) : (setModem x s).twin = s.twin := rfl
@[simp] theorem setModem_clk (x : ModemUnit) : (setModem x s).clk = s.clk := rfl
@[simp] theorem setModem_pins (x : ModemUnit) : (setModem x s).pins = s.pins := rfl
@[simp] theorem setModem_jtag (x : ModemUnit) : (setModem x s).jtag = s.jtag := rfl
@[simp] theorem setModem_out (x : ModemUnit) : (setModem x s).out = s.out := rfl

/-! ### setQueue -/

@[simp] theorem setQueue_pending (q : Nat) (x : LegQueue) : (setQueue q x s).pending = s.pending := rfl
@[simp] theorem setQueue_now (q : Nat) (x : LegQueue) : (setQueue q x s).now = s.now := rfl
@[simp] theorem setQueue_drawn (q : Nat) (x : LegQueue) : (setQueue q x s).drawn = s.drawn := rfl
@[simp] theorem setQueue_regs (q : Nat) (x : LegQueue) : (setQueue q x s).regs = s.regs := rfl
@[simp] theorem setQueue_tim (q : Nat) (x : LegQueue) : (setQueue q x s).tim = s.tim := rfl
@[simp] theorem setQueue_doors (q : Nat) (x : LegQueue) : (setQueue q x s).doors = s.doors := rfl
@[simp] theorem setQueue_epoch (q : Nat) (x : LegQueue) : (setQueue q x s).epoch = s.epoch := rfl
@[simp] theorem setQueue_evt (q : Nat) (x : LegQueue) : (setQueue q x s).evt = s.evt := rfl
@[simp] theorem setQueue_cht (q : Nat) (x : LegQueue) : (setQueue q x s).cht = s.cht := rfl
@[simp] theorem setQueue_modem (q : Nat) (x : LegQueue) : (setQueue q x s).modem = s.modem := rfl
@[simp] theorem setQueue_ports (q : Nat) (x : LegQueue) : (setQueue q x s).ports = s.ports := rfl
@[simp] theorem setQueue_queues (q : Nat) (x : LegQueue) : (setQueue q x s).queues = ssetC queueInit s.queues q x := rfl
@[simp] theorem setQueue_cip (q : Nat) (x : LegQueue) : (setQueue q x s).cip = s.cip := rfl
@[simp] theorem setQueue_shp (q : Nat) (x : LegQueue) : (setQueue q x s).shp = s.shp := rfl
@[simp] theorem setQueue_stw (q : Nat) (x : LegQueue) : (setQueue q x s).stw = s.stw := rfl
@[simp] theorem setQueue_lnd (q : Nat) (x : LegQueue) : (setQueue q x s).lnd = s.lnd := rfl
@[simp] theorem setQueue_gal (q : Nat) (x : LegQueue) : (setQueue q x s).gal = s.gal := rfl
@[simp] theorem setQueue_dec (q : Nat) (x : LegQueue) : (setQueue q x s).dec = s.dec := rfl
@[simp] theorem setQueue_hal (q : Nat) (x : LegQueue) : (setQueue q x s).hal = s.hal := rfl
@[simp] theorem setQueue_enc (q : Nat) (x : LegQueue) : (setQueue q x s).enc = s.enc := rfl
@[simp] theorem setQueue_drm (q : Nat) (x : LegQueue) : (setQueue q x s).drm = s.drm := rfl
@[simp] theorem setQueue_dma (q : Nat) (x : LegQueue) : (setQueue q x s).dma = s.dma := rfl
@[simp] theorem setQueue_ucr (q : Nat) (x : LegQueue) : (setQueue q x s).ucr = s.ucr := rfl
@[simp] theorem setQueue_twin (q : Nat) (x : LegQueue) : (setQueue q x s).twin = s.twin := rfl
@[simp] theorem setQueue_clk (q : Nat) (x : LegQueue) : (setQueue q x s).clk = s.clk := rfl
@[simp] theorem setQueue_pins (q : Nat) (x : LegQueue) : (setQueue q x s).pins = s.pins := rfl
@[simp] theorem setQueue_jtag (q : Nat) (x : LegQueue) : (setQueue q x s).jtag = s.jtag := rfl
@[simp] theorem setQueue_out (q : Nat) (x : LegQueue) : (setQueue q x s).out = s.out := rfl

/-! ### setStair -/

@[simp] theorem setStair_pending (x : StairUnit) : (setStair x s).pending = s.pending := rfl
@[simp] theorem setStair_now (x : StairUnit) : (setStair x s).now = s.now := rfl
@[simp] theorem setStair_drawn (x : StairUnit) : (setStair x s).drawn = s.drawn := rfl
@[simp] theorem setStair_regs (x : StairUnit) : (setStair x s).regs = s.regs := rfl
@[simp] theorem setStair_tim (x : StairUnit) : (setStair x s).tim = s.tim := rfl
@[simp] theorem setStair_doors (x : StairUnit) : (setStair x s).doors = s.doors := rfl
@[simp] theorem setStair_epoch (x : StairUnit) : (setStair x s).epoch = s.epoch := rfl
@[simp] theorem setStair_evt (x : StairUnit) : (setStair x s).evt = s.evt := rfl
@[simp] theorem setStair_cht (x : StairUnit) : (setStair x s).cht = s.cht := rfl
@[simp] theorem setStair_modem (x : StairUnit) : (setStair x s).modem = s.modem := rfl
@[simp] theorem setStair_ports (x : StairUnit) : (setStair x s).ports = s.ports := rfl
@[simp] theorem setStair_queues (x : StairUnit) : (setStair x s).queues = s.queues := rfl
@[simp] theorem setStair_cip (x : StairUnit) : (setStair x s).cip = s.cip := rfl
@[simp] theorem setStair_shp (x : StairUnit) : (setStair x s).shp = s.shp := rfl
@[simp] theorem setStair_stw (x : StairUnit) : (setStair x s).stw = x := rfl
@[simp] theorem setStair_lnd (x : StairUnit) : (setStair x s).lnd = s.lnd := rfl
@[simp] theorem setStair_gal (x : StairUnit) : (setStair x s).gal = s.gal := rfl
@[simp] theorem setStair_dec (x : StairUnit) : (setStair x s).dec = s.dec := rfl
@[simp] theorem setStair_hal (x : StairUnit) : (setStair x s).hal = s.hal := rfl
@[simp] theorem setStair_enc (x : StairUnit) : (setStair x s).enc = s.enc := rfl
@[simp] theorem setStair_drm (x : StairUnit) : (setStair x s).drm = s.drm := rfl
@[simp] theorem setStair_dma (x : StairUnit) : (setStair x s).dma = s.dma := rfl
@[simp] theorem setStair_ucr (x : StairUnit) : (setStair x s).ucr = s.ucr := rfl
@[simp] theorem setStair_twin (x : StairUnit) : (setStair x s).twin = s.twin := rfl
@[simp] theorem setStair_clk (x : StairUnit) : (setStair x s).clk = s.clk := rfl
@[simp] theorem setStair_pins (x : StairUnit) : (setStair x s).pins = s.pins := rfl
@[simp] theorem setStair_jtag (x : StairUnit) : (setStair x s).jtag = s.jtag := rfl
@[simp] theorem setStair_out (x : StairUnit) : (setStair x s).out = s.out := rfl

/-! ### setGal -/

@[simp] theorem setGal_pending (x : GalUnit) : (setGal x s).pending = s.pending := rfl
@[simp] theorem setGal_now (x : GalUnit) : (setGal x s).now = s.now := rfl
@[simp] theorem setGal_drawn (x : GalUnit) : (setGal x s).drawn = s.drawn := rfl
@[simp] theorem setGal_regs (x : GalUnit) : (setGal x s).regs = s.regs := rfl
@[simp] theorem setGal_tim (x : GalUnit) : (setGal x s).tim = s.tim := rfl
@[simp] theorem setGal_doors (x : GalUnit) : (setGal x s).doors = s.doors := rfl
@[simp] theorem setGal_epoch (x : GalUnit) : (setGal x s).epoch = s.epoch := rfl
@[simp] theorem setGal_evt (x : GalUnit) : (setGal x s).evt = s.evt := rfl
@[simp] theorem setGal_cht (x : GalUnit) : (setGal x s).cht = s.cht := rfl
@[simp] theorem setGal_modem (x : GalUnit) : (setGal x s).modem = s.modem := rfl
@[simp] theorem setGal_ports (x : GalUnit) : (setGal x s).ports = s.ports := rfl
@[simp] theorem setGal_queues (x : GalUnit) : (setGal x s).queues = s.queues := rfl
@[simp] theorem setGal_cip (x : GalUnit) : (setGal x s).cip = s.cip := rfl
@[simp] theorem setGal_shp (x : GalUnit) : (setGal x s).shp = s.shp := rfl
@[simp] theorem setGal_stw (x : GalUnit) : (setGal x s).stw = s.stw := rfl
@[simp] theorem setGal_lnd (x : GalUnit) : (setGal x s).lnd = s.lnd := rfl
@[simp] theorem setGal_gal (x : GalUnit) : (setGal x s).gal = x := rfl
@[simp] theorem setGal_dec (x : GalUnit) : (setGal x s).dec = s.dec := rfl
@[simp] theorem setGal_hal (x : GalUnit) : (setGal x s).hal = s.hal := rfl
@[simp] theorem setGal_enc (x : GalUnit) : (setGal x s).enc = s.enc := rfl
@[simp] theorem setGal_drm (x : GalUnit) : (setGal x s).drm = s.drm := rfl
@[simp] theorem setGal_dma (x : GalUnit) : (setGal x s).dma = s.dma := rfl
@[simp] theorem setGal_ucr (x : GalUnit) : (setGal x s).ucr = s.ucr := rfl
@[simp] theorem setGal_twin (x : GalUnit) : (setGal x s).twin = s.twin := rfl
@[simp] theorem setGal_clk (x : GalUnit) : (setGal x s).clk = s.clk := rfl
@[simp] theorem setGal_pins (x : GalUnit) : (setGal x s).pins = s.pins := rfl
@[simp] theorem setGal_jtag (x : GalUnit) : (setGal x s).jtag = s.jtag := rfl
@[simp] theorem setGal_out (x : GalUnit) : (setGal x s).out = s.out := rfl

/-! ### setCore -/

@[simp] theorem setCore_pending (n : Nat) (c : Core) : (setCore n c s).pending = s.pending := rfl
@[simp] theorem setCore_now (n : Nat) (c : Core) : (setCore n c s).now = s.now := rfl
@[simp] theorem setCore_drawn (n : Nat) (c : Core) : (setCore n c s).drawn = s.drawn := rfl
@[simp] theorem setCore_regs (n : Nat) (c : Core) : (setCore n c s).regs = s.regs := rfl
@[simp] theorem setCore_tim (n : Nat) (c : Core) : (setCore n c s).tim = s.tim := rfl
@[simp] theorem setCore_doors (n : Nat) (c : Core) : (setCore n c s).doors = s.doors := rfl
@[simp] theorem setCore_epoch (n : Nat) (c : Core) : (setCore n c s).epoch = s.epoch := rfl
@[simp] theorem setCore_evt (n : Nat) (c : Core) : (setCore n c s).evt = s.evt := rfl
@[simp] theorem setCore_cht (n : Nat) (c : Core) : (setCore n c s).cht = s.cht := rfl
@[simp] theorem setCore_modem (n : Nat) (c : Core) : (setCore n c s).modem = s.modem := rfl
@[simp] theorem setCore_ports (n : Nat) (c : Core) : (setCore n c s).ports = s.ports := rfl
@[simp] theorem setCore_queues (n : Nat) (c : Core) : (setCore n c s).queues = s.queues := rfl
@[simp] theorem setCore_cip (n : Nat) (c : Core) : (setCore n c s).cip = s.cip := rfl
@[simp] theorem setCore_shp (n : Nat) (c : Core) : (setCore n c s).shp = s.shp := rfl
@[simp] theorem setCore_stw (n : Nat) (c : Core) : (setCore n c s).stw = s.stw := rfl
@[simp] theorem setCore_lnd (n : Nat) (c : Core) : (setCore n c s).lnd = { s.lnd with cores := ssetC coreInit s.lnd.cores n c } := rfl
@[simp] theorem setCore_gal (n : Nat) (c : Core) : (setCore n c s).gal = s.gal := rfl
@[simp] theorem setCore_dec (n : Nat) (c : Core) : (setCore n c s).dec = s.dec := rfl
@[simp] theorem setCore_hal (n : Nat) (c : Core) : (setCore n c s).hal = s.hal := rfl
@[simp] theorem setCore_enc (n : Nat) (c : Core) : (setCore n c s).enc = s.enc := rfl
@[simp] theorem setCore_drm (n : Nat) (c : Core) : (setCore n c s).drm = s.drm := rfl
@[simp] theorem setCore_dma (n : Nat) (c : Core) : (setCore n c s).dma = s.dma := rfl
@[simp] theorem setCore_ucr (n : Nat) (c : Core) : (setCore n c s).ucr = s.ucr := rfl
@[simp] theorem setCore_twin (n : Nat) (c : Core) : (setCore n c s).twin = s.twin := rfl
@[simp] theorem setCore_clk (n : Nat) (c : Core) : (setCore n c s).clk = s.clk := rfl
@[simp] theorem setCore_pins (n : Nat) (c : Core) : (setCore n c s).pins = s.pins := rfl
@[simp] theorem setCore_jtag (n : Nat) (c : Core) : (setCore n c s).jtag = s.jtag := rfl
@[simp] theorem setCore_out (n : Nat) (c : Core) : (setCore n c s).out = s.out := rfl

/-! ### setLeg -/

@[simp] theorem setLeg_pending (leg : Nat) (x : LegState) : (setLeg leg x s).pending = s.pending := rfl
@[simp] theorem setLeg_now (leg : Nat) (x : LegState) : (setLeg leg x s).now = s.now := rfl
@[simp] theorem setLeg_drawn (leg : Nat) (x : LegState) : (setLeg leg x s).drawn = s.drawn := rfl
@[simp] theorem setLeg_regs (leg : Nat) (x : LegState) : (setLeg leg x s).regs = s.regs := rfl
@[simp] theorem setLeg_tim (leg : Nat) (x : LegState) : (setLeg leg x s).tim = s.tim := rfl
@[simp] theorem setLeg_doors (leg : Nat) (x : LegState) : (setLeg leg x s).doors = s.doors := rfl
@[simp] theorem setLeg_epoch (leg : Nat) (x : LegState) : (setLeg leg x s).epoch = s.epoch := rfl
@[simp] theorem setLeg_evt (leg : Nat) (x : LegState) : (setLeg leg x s).evt = s.evt := rfl
@[simp] theorem setLeg_cht (leg : Nat) (x : LegState) : (setLeg leg x s).cht = s.cht := rfl
@[simp] theorem setLeg_modem (leg : Nat) (x : LegState) : (setLeg leg x s).modem = s.modem := rfl
@[simp] theorem setLeg_ports (leg : Nat) (x : LegState) : (setLeg leg x s).ports = s.ports := rfl
@[simp] theorem setLeg_queues (leg : Nat) (x : LegState) : (setLeg leg x s).queues = s.queues := rfl
@[simp] theorem setLeg_cip (leg : Nat) (x : LegState) : (setLeg leg x s).cip = s.cip := rfl
@[simp] theorem setLeg_shp (leg : Nat) (x : LegState) : (setLeg leg x s).shp = s.shp := rfl
@[simp] theorem setLeg_stw (leg : Nat) (x : LegState) : (setLeg leg x s).stw = s.stw := rfl
@[simp] theorem setLeg_lnd (leg : Nat) (x : LegState) : (setLeg leg x s).lnd = { s.lnd with legs := ssetC legInit s.lnd.legs leg x } := rfl
@[simp] theorem setLeg_gal (leg : Nat) (x : LegState) : (setLeg leg x s).gal = s.gal := rfl
@[simp] theorem setLeg_dec (leg : Nat) (x : LegState) : (setLeg leg x s).dec = s.dec := rfl
@[simp] theorem setLeg_hal (leg : Nat) (x : LegState) : (setLeg leg x s).hal = s.hal := rfl
@[simp] theorem setLeg_enc (leg : Nat) (x : LegState) : (setLeg leg x s).enc = s.enc := rfl
@[simp] theorem setLeg_drm (leg : Nat) (x : LegState) : (setLeg leg x s).drm = s.drm := rfl
@[simp] theorem setLeg_dma (leg : Nat) (x : LegState) : (setLeg leg x s).dma = s.dma := rfl
@[simp] theorem setLeg_ucr (leg : Nat) (x : LegState) : (setLeg leg x s).ucr = s.ucr := rfl
@[simp] theorem setLeg_twin (leg : Nat) (x : LegState) : (setLeg leg x s).twin = s.twin := rfl
@[simp] theorem setLeg_clk (leg : Nat) (x : LegState) : (setLeg leg x s).clk = s.clk := rfl
@[simp] theorem setLeg_pins (leg : Nat) (x : LegState) : (setLeg leg x s).pins = s.pins := rfl
@[simp] theorem setLeg_jtag (leg : Nat) (x : LegState) : (setLeg leg x s).jtag = s.jtag := rfl
@[simp] theorem setLeg_out (leg : Nat) (x : LegState) : (setLeg leg x s).out = s.out := rfl

/-! ### setDram -/

@[simp] theorem setDram_pending (x : DramUnit) : (setDram x s).pending = s.pending := rfl
@[simp] theorem setDram_now (x : DramUnit) : (setDram x s).now = s.now := rfl
@[simp] theorem setDram_drawn (x : DramUnit) : (setDram x s).drawn = s.drawn := rfl
@[simp] theorem setDram_regs (x : DramUnit) : (setDram x s).regs = s.regs := rfl
@[simp] theorem setDram_tim (x : DramUnit) : (setDram x s).tim = s.tim := rfl
@[simp] theorem setDram_doors (x : DramUnit) : (setDram x s).doors = s.doors := rfl
@[simp] theorem setDram_epoch (x : DramUnit) : (setDram x s).epoch = s.epoch := rfl
@[simp] theorem setDram_evt (x : DramUnit) : (setDram x s).evt = s.evt := rfl
@[simp] theorem setDram_cht (x : DramUnit) : (setDram x s).cht = s.cht := rfl
@[simp] theorem setDram_modem (x : DramUnit) : (setDram x s).modem = s.modem := rfl
@[simp] theorem setDram_ports (x : DramUnit) : (setDram x s).ports = s.ports := rfl
@[simp] theorem setDram_queues (x : DramUnit) : (setDram x s).queues = s.queues := rfl
@[simp] theorem setDram_cip (x : DramUnit) : (setDram x s).cip = s.cip := rfl
@[simp] theorem setDram_shp (x : DramUnit) : (setDram x s).shp = s.shp := rfl
@[simp] theorem setDram_stw (x : DramUnit) : (setDram x s).stw = s.stw := rfl
@[simp] theorem setDram_lnd (x : DramUnit) : (setDram x s).lnd = s.lnd := rfl
@[simp] theorem setDram_gal (x : DramUnit) : (setDram x s).gal = s.gal := rfl
@[simp] theorem setDram_dec (x : DramUnit) : (setDram x s).dec = s.dec := rfl
@[simp] theorem setDram_hal (x : DramUnit) : (setDram x s).hal = s.hal := rfl
@[simp] theorem setDram_enc (x : DramUnit) : (setDram x s).enc = s.enc := rfl
@[simp] theorem setDram_drm (x : DramUnit) : (setDram x s).drm = x := rfl
@[simp] theorem setDram_dma (x : DramUnit) : (setDram x s).dma = s.dma := rfl
@[simp] theorem setDram_ucr (x : DramUnit) : (setDram x s).ucr = s.ucr := rfl
@[simp] theorem setDram_twin (x : DramUnit) : (setDram x s).twin = s.twin := rfl
@[simp] theorem setDram_clk (x : DramUnit) : (setDram x s).clk = s.clk := rfl
@[simp] theorem setDram_pins (x : DramUnit) : (setDram x s).pins = s.pins := rfl
@[simp] theorem setDram_jtag (x : DramUnit) : (setDram x s).jtag = s.jtag := rfl
@[simp] theorem setDram_out (x : DramUnit) : (setDram x s).out = s.out := rfl

/-! ### setChan -/

@[simp] theorem setChan_pending (c : Nat) (x : DmaChan) : (setChan c x s).pending = s.pending := rfl
@[simp] theorem setChan_now (c : Nat) (x : DmaChan) : (setChan c x s).now = s.now := rfl
@[simp] theorem setChan_drawn (c : Nat) (x : DmaChan) : (setChan c x s).drawn = s.drawn := rfl
@[simp] theorem setChan_regs (c : Nat) (x : DmaChan) : (setChan c x s).regs = s.regs := rfl
@[simp] theorem setChan_tim (c : Nat) (x : DmaChan) : (setChan c x s).tim = s.tim := rfl
@[simp] theorem setChan_doors (c : Nat) (x : DmaChan) : (setChan c x s).doors = s.doors := rfl
@[simp] theorem setChan_epoch (c : Nat) (x : DmaChan) : (setChan c x s).epoch = s.epoch := rfl
@[simp] theorem setChan_evt (c : Nat) (x : DmaChan) : (setChan c x s).evt = s.evt := rfl
@[simp] theorem setChan_cht (c : Nat) (x : DmaChan) : (setChan c x s).cht = s.cht := rfl
@[simp] theorem setChan_modem (c : Nat) (x : DmaChan) : (setChan c x s).modem = s.modem := rfl
@[simp] theorem setChan_ports (c : Nat) (x : DmaChan) : (setChan c x s).ports = s.ports := rfl
@[simp] theorem setChan_queues (c : Nat) (x : DmaChan) : (setChan c x s).queues = s.queues := rfl
@[simp] theorem setChan_cip (c : Nat) (x : DmaChan) : (setChan c x s).cip = s.cip := rfl
@[simp] theorem setChan_shp (c : Nat) (x : DmaChan) : (setChan c x s).shp = s.shp := rfl
@[simp] theorem setChan_stw (c : Nat) (x : DmaChan) : (setChan c x s).stw = s.stw := rfl
@[simp] theorem setChan_lnd (c : Nat) (x : DmaChan) : (setChan c x s).lnd = s.lnd := rfl
@[simp] theorem setChan_gal (c : Nat) (x : DmaChan) : (setChan c x s).gal = s.gal := rfl
@[simp] theorem setChan_dec (c : Nat) (x : DmaChan) : (setChan c x s).dec = s.dec := rfl
@[simp] theorem setChan_hal (c : Nat) (x : DmaChan) : (setChan c x s).hal = s.hal := rfl
@[simp] theorem setChan_enc (c : Nat) (x : DmaChan) : (setChan c x s).enc = s.enc := rfl
@[simp] theorem setChan_drm (c : Nat) (x : DmaChan) : (setChan c x s).drm = s.drm := rfl
@[simp] theorem setChan_dma (c : Nat) (x : DmaChan) : (setChan c x s).dma = ssetC chanInit s.dma c x := rfl
@[simp] theorem setChan_ucr (c : Nat) (x : DmaChan) : (setChan c x s).ucr = s.ucr := rfl
@[simp] theorem setChan_twin (c : Nat) (x : DmaChan) : (setChan c x s).twin = s.twin := rfl
@[simp] theorem setChan_clk (c : Nat) (x : DmaChan) : (setChan c x s).clk = s.clk := rfl
@[simp] theorem setChan_pins (c : Nat) (x : DmaChan) : (setChan c x s).pins = s.pins := rfl
@[simp] theorem setChan_jtag (c : Nat) (x : DmaChan) : (setChan c x s).jtag = s.jtag := rfl
@[simp] theorem setChan_out (c : Nat) (x : DmaChan) : (setChan c x s).out = s.out := rfl

/-! ### setUcr -/

@[simp] theorem setUcr_pending (x : UcrUnit) : (setUcr x s).pending = s.pending := rfl
@[simp] theorem setUcr_now (x : UcrUnit) : (setUcr x s).now = s.now := rfl
@[simp] theorem setUcr_drawn (x : UcrUnit) : (setUcr x s).drawn = s.drawn := rfl
@[simp] theorem setUcr_regs (x : UcrUnit) : (setUcr x s).regs = s.regs := rfl
@[simp] theorem setUcr_tim (x : UcrUnit) : (setUcr x s).tim = s.tim := rfl
@[simp] theorem setUcr_doors (x : UcrUnit) : (setUcr x s).doors = s.doors := rfl
@[simp] theorem setUcr_epoch (x : UcrUnit) : (setUcr x s).epoch = s.epoch := rfl
@[simp] theorem setUcr_evt (x : UcrUnit) : (setUcr x s).evt = s.evt := rfl
@[simp] theorem setUcr_cht (x : UcrUnit) : (setUcr x s).cht = s.cht := rfl
@[simp] theorem setUcr_modem (x : UcrUnit) : (setUcr x s).modem = s.modem := rfl
@[simp] theorem setUcr_ports (x : UcrUnit) : (setUcr x s).ports = s.ports := rfl
@[simp] theorem setUcr_queues (x : UcrUnit) : (setUcr x s).queues = s.queues := rfl
@[simp] theorem setUcr_cip (x : UcrUnit) : (setUcr x s).cip = s.cip := rfl
@[simp] theorem setUcr_shp (x : UcrUnit) : (setUcr x s).shp = s.shp := rfl
@[simp] theorem setUcr_stw (x : UcrUnit) : (setUcr x s).stw = s.stw := rfl
@[simp] theorem setUcr_lnd (x : UcrUnit) : (setUcr x s).lnd = s.lnd := rfl
@[simp] theorem setUcr_gal (x : UcrUnit) : (setUcr x s).gal = s.gal := rfl
@[simp] theorem setUcr_dec (x : UcrUnit) : (setUcr x s).dec = s.dec := rfl
@[simp] theorem setUcr_hal (x : UcrUnit) : (setUcr x s).hal = s.hal := rfl
@[simp] theorem setUcr_enc (x : UcrUnit) : (setUcr x s).enc = s.enc := rfl
@[simp] theorem setUcr_drm (x : UcrUnit) : (setUcr x s).drm = s.drm := rfl
@[simp] theorem setUcr_dma (x : UcrUnit) : (setUcr x s).dma = s.dma := rfl
@[simp] theorem setUcr_ucr (x : UcrUnit) : (setUcr x s).ucr = x := rfl
@[simp] theorem setUcr_twin (x : UcrUnit) : (setUcr x s).twin = s.twin := rfl
@[simp] theorem setUcr_clk (x : UcrUnit) : (setUcr x s).clk = s.clk := rfl
@[simp] theorem setUcr_pins (x : UcrUnit) : (setUcr x s).pins = s.pins := rfl
@[simp] theorem setUcr_jtag (x : UcrUnit) : (setUcr x s).jtag = s.jtag := rfl
@[simp] theorem setUcr_out (x : UcrUnit) : (setUcr x s).out = s.out := rfl

/-! ### setCht -/

@[simp] theorem setCht_pending (x : CharterUnit) : (setCht x s).pending = s.pending := rfl
@[simp] theorem setCht_now (x : CharterUnit) : (setCht x s).now = s.now := rfl
@[simp] theorem setCht_drawn (x : CharterUnit) : (setCht x s).drawn = s.drawn := rfl
@[simp] theorem setCht_regs (x : CharterUnit) : (setCht x s).regs = s.regs := rfl
@[simp] theorem setCht_tim (x : CharterUnit) : (setCht x s).tim = s.tim := rfl
@[simp] theorem setCht_doors (x : CharterUnit) : (setCht x s).doors = s.doors := rfl
@[simp] theorem setCht_epoch (x : CharterUnit) : (setCht x s).epoch = s.epoch := rfl
@[simp] theorem setCht_evt (x : CharterUnit) : (setCht x s).evt = s.evt := rfl
@[simp] theorem setCht_cht (x : CharterUnit) : (setCht x s).cht = x := rfl
@[simp] theorem setCht_modem (x : CharterUnit) : (setCht x s).modem = s.modem := rfl
@[simp] theorem setCht_ports (x : CharterUnit) : (setCht x s).ports = s.ports := rfl
@[simp] theorem setCht_queues (x : CharterUnit) : (setCht x s).queues = s.queues := rfl
@[simp] theorem setCht_cip (x : CharterUnit) : (setCht x s).cip = s.cip := rfl
@[simp] theorem setCht_shp (x : CharterUnit) : (setCht x s).shp = s.shp := rfl
@[simp] theorem setCht_stw (x : CharterUnit) : (setCht x s).stw = s.stw := rfl
@[simp] theorem setCht_lnd (x : CharterUnit) : (setCht x s).lnd = s.lnd := rfl
@[simp] theorem setCht_gal (x : CharterUnit) : (setCht x s).gal = s.gal := rfl
@[simp] theorem setCht_dec (x : CharterUnit) : (setCht x s).dec = s.dec := rfl
@[simp] theorem setCht_hal (x : CharterUnit) : (setCht x s).hal = s.hal := rfl
@[simp] theorem setCht_enc (x : CharterUnit) : (setCht x s).enc = s.enc := rfl
@[simp] theorem setCht_drm (x : CharterUnit) : (setCht x s).drm = s.drm := rfl
@[simp] theorem setCht_dma (x : CharterUnit) : (setCht x s).dma = s.dma := rfl
@[simp] theorem setCht_ucr (x : CharterUnit) : (setCht x s).ucr = s.ucr := rfl
@[simp] theorem setCht_twin (x : CharterUnit) : (setCht x s).twin = s.twin := rfl
@[simp] theorem setCht_clk (x : CharterUnit) : (setCht x s).clk = s.clk := rfl
@[simp] theorem setCht_pins (x : CharterUnit) : (setCht x s).pins = s.pins := rfl
@[simp] theorem setCht_jtag (x : CharterUnit) : (setCht x s).jtag = s.jtag := rfl
@[simp] theorem setCht_out (x : CharterUnit) : (setCht x s).out = s.out := rfl

/-! ### setClk -/

@[simp] theorem setClk_pending (x : ClockUnit) : (setClk x s).pending = s.pending := rfl
@[simp] theorem setClk_now (x : ClockUnit) : (setClk x s).now = s.now := rfl
@[simp] theorem setClk_drawn (x : ClockUnit) : (setClk x s).drawn = s.drawn := rfl
@[simp] theorem setClk_regs (x : ClockUnit) : (setClk x s).regs = s.regs := rfl
@[simp] theorem setClk_tim (x : ClockUnit) : (setClk x s).tim = s.tim := rfl
@[simp] theorem setClk_doors (x : ClockUnit) : (setClk x s).doors = s.doors := rfl
@[simp] theorem setClk_epoch (x : ClockUnit) : (setClk x s).epoch = s.epoch := rfl
@[simp] theorem setClk_evt (x : ClockUnit) : (setClk x s).evt = s.evt := rfl
@[simp] theorem setClk_cht (x : ClockUnit) : (setClk x s).cht = s.cht := rfl
@[simp] theorem setClk_modem (x : ClockUnit) : (setClk x s).modem = s.modem := rfl
@[simp] theorem setClk_ports (x : ClockUnit) : (setClk x s).ports = s.ports := rfl
@[simp] theorem setClk_queues (x : ClockUnit) : (setClk x s).queues = s.queues := rfl
@[simp] theorem setClk_cip (x : ClockUnit) : (setClk x s).cip = s.cip := rfl
@[simp] theorem setClk_shp (x : ClockUnit) : (setClk x s).shp = s.shp := rfl
@[simp] theorem setClk_stw (x : ClockUnit) : (setClk x s).stw = s.stw := rfl
@[simp] theorem setClk_lnd (x : ClockUnit) : (setClk x s).lnd = s.lnd := rfl
@[simp] theorem setClk_gal (x : ClockUnit) : (setClk x s).gal = s.gal := rfl
@[simp] theorem setClk_dec (x : ClockUnit) : (setClk x s).dec = s.dec := rfl
@[simp] theorem setClk_hal (x : ClockUnit) : (setClk x s).hal = s.hal := rfl
@[simp] theorem setClk_enc (x : ClockUnit) : (setClk x s).enc = s.enc := rfl
@[simp] theorem setClk_drm (x : ClockUnit) : (setClk x s).drm = s.drm := rfl
@[simp] theorem setClk_dma (x : ClockUnit) : (setClk x s).dma = s.dma := rfl
@[simp] theorem setClk_ucr (x : ClockUnit) : (setClk x s).ucr = s.ucr := rfl
@[simp] theorem setClk_twin (x : ClockUnit) : (setClk x s).twin = s.twin := rfl
@[simp] theorem setClk_clk (x : ClockUnit) : (setClk x s).clk = x := rfl
@[simp] theorem setClk_pins (x : ClockUnit) : (setClk x s).pins = s.pins := rfl
@[simp] theorem setClk_jtag (x : ClockUnit) : (setClk x s).jtag = s.jtag := rfl
@[simp] theorem setClk_out (x : ClockUnit) : (setClk x s).out = s.out := rfl

end Sys2Proof.Machine
end

