-- ==== Sys2Proof/Laws/Calm.lean ====
section
/-! SUPPORT. What stands around a command: in a quiet state the watchers change nothing, so a command is its own effect. -/

namespace Sys2Proof.Machine

theorem takeRecommend_quiet {s : State} (h : s.twin.recommend = false) : takeRecommend s = s := by
  unfold takeRecommend setTwin
  rw [show ({ s.twin with recommend := false } : TwinUnit) = s.twin by rw [← h]]

theorem quiet_iff {s : State} : quiet s = true ↔
    s.clk.request = none ∧ s.clk.power ≠ .enteringHold ∧ s.twin.recommend = false ∧ s.twin.resync.overflow = false ∧
    (s.tim.flights = .running ∨ s.gal.due = []) ∧ s.stw.traceHeld = [] := by
  simp [quiet, and_assoc]

theorem galWatch_quiet {s : State} (h : quiet s = true) : galWatch s = s := by
  obtain ⟨-, -, -, -, h5, -⟩ := quiet_iff.1 h
  unfold galWatch galEvents setGal
  split
  · have h6 : s.gal.due = [] := by simp_all
    rw [h6, show ({ s.gal with due := [] } : GalUnit) = s.gal by rw [← h6]]
    rfl
  · rfl

theorem traceFlush_quiet {s : State} (h : quiet s = true) : traceFlush s = s := by
  simp [traceFlush, (quiet_iff.1 h).2.2.2.2.2]

theorem twinWatch_quiet {s : State} (h : quiet s = true) : twinWatch s = s := by
  obtain ⟨-, -, h3, h4, -⟩ := quiet_iff.1 h
  simp [twinWatch, h3, h4, takeRecommend_quiet h3]

theorem powerNext_quiet {s : State} (h : quiet s = true) : powerNext s = s := by
  obtain ⟨h1, -⟩ := quiet_iff.1 h
  unfold powerNext
  rw [h1]
  cases s.clk.power <;> rfl

theorem holdWatch_quiet {s : State} (h : quiet s = true) : holdWatch s = s := by
  obtain ⟨-, h2, -⟩ := quiet_iff.1 h
  simp [holdWatch, h2]

/-- In a quiet state nothing follows a command. -/
theorem watch_quiet {s : State} (h : quiet s = true) : watch s = s := by
  simp [watch, galWatch_quiet h, twinWatch_quiet h, powerNext_quiet h, holdWatch_quiet h]

theorem warmDue_calm {t : Nat} {s : State} (h : calm t s = true) : warmDue (arriveAt t s) = arriveAt t s := by
  simp only [calm, Bool.and_eq_true, Bool.not_eq_true'] at h
  have h2 := h.2
  unfold warmDue
  split
  · next b hb =>
    rw [arriveAt_cht] at hb
    rw [hb] at h2
    simp only [Option.any_some, decide_eq_false_iff_not] at h2
    exact if_neg h2
  · rfl

theorem calm_quiet {t : Nat} {s : State} (h : calm t s = true) : quiet s = true := by
  simp only [calm, Bool.and_eq_true] at h
  exact h.1

theorem quiet_of_eq {s s' : State} (hc : s'.clk = s.clk) (ht : s'.twin = s.twin) (hf : s'.tim.flights = s.tim.flights)
    (hg : s'.gal.due = s.gal.due) (hh : s'.stw.traceHeld = s.stw.traceHeld) (h : quiet s = true) : quiet s' = true := by
  unfold quiet at *
  rw [hc, ht, hf, hg, hh]
  exact h

theorem quiet_arriveAt {t : Nat} {s : State} : quiet (arriveAt t s) = quiet s := rfl

/-- A calm command that leaves the state quiet is its effect on the state at its instant. -/
theorem actAt_calm {t : Nat} {f : State → State} {s : State} (h : calm t s = true) (hq : quiet (f (arriveAt t s)) = true) :
    actAt t f s = f (arriveAt t s) := by
  unfold actAt
  rw [traceFlush_quiet (quiet_arriveAt.trans (calm_quiet h)), warmDue_calm h, watch_quiet hq]

/-- What a command leaves alone for nothing to follow it: the clocks, the pair, whether flights run, the events of the flight that ended
and the trace records that are held. -/
def KeepsQuiet (s s' : State) : Prop :=
  s'.clk = s.clk ∧ s'.twin = s.twin ∧ s'.tim.flights = s.tim.flights ∧ s'.gal.due = s.gal.due ∧ s'.stw.traceHeld = s.stw.traceHeld

/-- A calm command that leaves the watched state alone. -/
theorem actAt_calm_same {t : Nat} {f : State → State} {s : State} (h : calm t s = true) (hk : KeepsQuiet s (f (arriveAt t s))) :
    actAt t f s = f (arriveAt t s) :=
  actAt_calm h (quiet_of_eq hk.1 hk.2.1 hk.2.2.1 hk.2.2.2.1 hk.2.2.2.2 (calm_quiet h))

/-- A calm command that leaves the watched state and the queue alone answers its effect. -/
theorem acts_calm_same {t : Nat} {f : State → State} {s : State} (h : calm t s = true) (hk : KeepsQuiet s (f (arriveAt t s)))
    (hp : (f (arriveAt t s)).pending = s.pending) : acts t f s = .next (f (arriveAt t s)) := by
  unfold acts
  rw [actAt_calm_same h hk, ← hp]

/-- Every command but those of the JTAG port answers the state after its effect. -/
theorem acts_after (t : Nat) (f : State → State) (s : State) : acts t f s = .next (after t f s) := rfl

@[simp] theorem after_pending (t : Nat) (f : State → State) (s : State) : (after t f s).pending = s.pending := rfl

theorem twinWatch_recommend (s : State) : (twinWatch s).twin.recommend = false := rfl

/-- No takeover recommendation outlives the command that made it (R423). -/
@[simp] theorem after_recommend (t : Nat) (f : State → State) (s : State) : (after t f s).twin.recommend = false := rfl

end Sys2Proof.Machine
end

