-- ==== Sys2Proof/Laws/Sparse.lean ====
section
/-! SUPPORT. Numbered tables and memory in canonical form: reads after writes, and that every write keeps the form. -/

namespace Sys2Proof.Machine

variable {α : Type}

/-! ### Order -/

theorem sorted_mono {m : Sparse α} : ∀ {lo lo' : Nat}, lo' ≤ lo → sorted lo m = true → sorted lo' m = true := by
  cases m with
  | nil => intros; rfl
  | cons e t =>
    intro lo lo' h hs
    simp only [sorted, Bool.and_eq_true, decide_eq_true_eq] at hs ⊢
    exact ⟨by omega, hs.2⟩

theorem sget_below {d : Nat → α} {m : Sparse α} {k lo : Nat} (hs : sorted lo m = true) (hk : k < lo) : sget d m k = d k := by
  cases m with
  | nil => rfl
  | cons e t =>
    simp only [sorted, Bool.and_eq_true, decide_eq_true_eq] at hs
    have h1 : k ≠ e.1 := by omega
    have h2 : k < e.1 := by omega
    simp [sget, h1, h2]

theorem sput_sorted {k : Nat} {v : α} {keep : Bool} :
    ∀ {m : Sparse α} {lo : Nat}, sorted lo m = true → lo ≤ k → sorted lo (sput k v keep m) = true
  | [], lo, _, hk => by cases keep <;> simp [sput, sorted, hk]
  | e :: t, lo, hs, hk => by
    simp only [sorted, Bool.and_eq_true, decide_eq_true_eq] at hs
    simp only [sput]
    split
    · cases keep
      · simp [sorted, hs]
      · simp only [sorted, Bool.and_eq_true, decide_eq_true_eq, if_true]
        exact ⟨hk, by omega, hs.2⟩
    · split
      · cases keep
        · simp only [Bool.false_eq_true, if_false]
          exact sorted_mono (by omega) hs.2
        · simp only [sorted, Bool.and_eq_true, decide_eq_true_eq, if_true]
          subst_vars
          exact ⟨hk, hs.2⟩
      · simp only [sorted, Bool.and_eq_true, decide_eq_true_eq]
        exact ⟨hs.1, sput_sorted hs.2 (by omega)⟩

/-! ### Reads after writes -/

theorem sget_sput_ne {d : Nat → α} {k j : Nat} {v : α} {keep : Bool} (hj : j ≠ k) :
    ∀ {m : Sparse α} {lo : Nat}, sorted lo m = true → sget d (sput k v keep m) j = sget d m j
  | [], _, _ => by cases keep <;> simp [sput, sget, hj]
  | e :: t, lo, hs => by
    simp only [sorted, Bool.and_eq_true, decide_eq_true_eq] at hs
    simp only [sput]
    split
    · rename_i hlt
      cases keep
      · simp
      · simp only [if_true]
        by_cases h : j < k
        · have h1 : j ≠ e.1 := by omega
          have h2 : j < e.1 := by omega
          simp [sget, hj, h, h1, h2]
        · simp [sget, hj, h]
    · split
      · rename_i hk
        subst hk
        cases keep
        · simp only [Bool.false_eq_true, if_false]
          by_cases h : j < e.1
          · rw [sget_below hs.2 (by omega)]
            simp [sget, hj, h]
          · simp [sget, hj, h]
        · simp [sget, hj]
      · simp only [sget]
        split
        · rfl
        · split
          · rfl
          · exact sget_sput_ne hj hs.2

theorem sget_sput_self {d : Nat → α} {k : Nat} {v : α} {keep : Bool} :
    ∀ {m : Sparse α} {lo : Nat}, sorted lo m = true → sget d (sput k v keep m) k = if keep then v else d k
  | [], _, _ => by cases keep <;> simp [sput, sget]
  | e :: t, lo, hs => by
    simp only [sorted, Bool.and_eq_true, decide_eq_true_eq] at hs
    simp only [sput]
    split
    · rename_i hlt
      have h1 : k ≠ e.1 := by omega
      cases keep <;> simp [sget, h1, hlt]
    · split
      · rename_i hk
        subst hk
        cases keep
        · simp only [Bool.false_eq_true, if_false]
          exact sget_below hs.2 (by omega)
        · simp [sget]
      · rename_i h1 h2
        simp only [sget, h1, h2, if_false]
        exact sget_sput_self hs.2

theorem sget_sset [DecidableEq α] {d : Nat → α} {m : Sparse α} {lo : Nat} (hs : sorted lo m = true) (k j : Nat) (v : α) :
    sget d (sset d m k v) j = if j = k then v else sget d m j := by
  unfold sset
  by_cases h : j = k
  · subst h
    rw [sget_sput_self hs]
    by_cases hv : v = d j <;> simp [hv]
  · rw [sget_sput_ne h hs, if_neg h]

theorem sgetC_ssetC [DecidableEq α] {d : α} {m : Sparse α} {lo : Nat} (hs : sorted lo m = true) (k j : Nat) (v : α) :
    sgetC d (ssetC d m k v) j = if j = k then v else sgetC d m j := sget_sset hs k j v

/-! ### Canonical form -/

theorem sput_entries {p : Nat × α → Bool} {k : Nat} {v : α} {keep : Bool} (hv : keep = true → p (k, v) = true) :
    ∀ {m : Sparse α}, m.all p = true → (sput k v keep m).all p = true
  | [], _ => by cases keep <;> simp_all [sput]
  | e :: t, h => by
    simp only [List.all_cons, Bool.and_eq_true] at h
    simp only [sput]
    split
    · cases keep <;> simp_all
    · split
      · cases keep <;> simp_all
      · simp only [List.all_cons, Bool.and_eq_true]
        exact ⟨h.1, sput_entries hv h.2⟩

theorem sset_swf [DecidableEq α] {d : Nat → α} {m : Sparse α} (h : swf d m = true) (k : Nat) (v : α) :
    swf d (sset d m k v) = true := by
  simp only [swf, Bool.and_eq_true] at h ⊢
  exact ⟨sput_sorted h.1 (Nat.zero_le _), sput_entries (fun hk => by simpa using hk) h.2⟩

theorem swf_sorted [DecidableEq α] {d : Nat → α} {m : Sparse α} (h : swf d m = true) : sorted 0 m = true := by
  simp only [swf, Bool.and_eq_true] at h
  exact h.1

theorem swf_nil [DecidableEq α] (d : Nat → α) : swf d ([] : Sparse α) = true := rfl

/-! ### Memory -/

theorem putBytes_wf : ∀ (bs : List Byte) (a : Nat) (m : List Host.Cell), Memory.wf m = true → Memory.wf (putBytes bs a m) = true
  | [], _, _, h => h
  | b :: bs, a, _, h => putBytes_wf bs (a + 1) _ (sset_swf h a b)

theorem writeLine_wf (a : Nat) (bs : List Byte) (p : Bool) (s : State) (h : Memory.wf (noteWrite a bs p s).drm.mem = true) :
    Memory.wf (writeLine a bs p s).drm.mem = true := putBytes_wf bs a _ h

theorem saveBlock_mem (a : Nat) (bs : List Byte) (p : Bool) (j : Treads) (s : State) : (saveBlock a bs p j s).drm = s.drm := by
  unfold saveBlock
  simp only []
  repeat' split
  all_goals rfl

theorem noteWrite_mem (a : Nat) (bs : List Byte) (p : Bool) (s : State) : (noteWrite a bs p s).drm = s.drm := by
  unfold noteWrite
  simp only []
  split
  · rfl
  · cases h : s.twin.resync.joinFlight <;> simp only []
    · split <;> rfl
    · split
      · exact saveBlock_mem ..
      · exact saveBlock_mem a bs p _ s

/-- Every write of a line keeps the memory's canonical form. -/
theorem writeLine_keeps_wf (a : Nat) (bs : List Byte) (p : Bool) (s : State) (h : Memory.wf s.drm.mem = true) :
    Memory.wf (writeLine a bs p s).drm.mem = true := writeLine_wf a bs p s (by rw [noteWrite_mem]; exact h)

/-- Every write of a byte run keeps the memory's canonical form. -/
theorem memStore_keeps_wf (a : Nat) (bs : List Byte) (p : Bool) (s : State) (h : Memory.wf s.drm.mem = true) :
    Memory.wf (memStore a bs p s).drm.mem = true := by
  unfold memStore
  generalize lineParts a bs.length bs.length = ps
  induction ps generalizing s with
  | nil => exact h
  | cons e es ih => exact ih _ (writeLine_keeps_wf e.1 _ p s h)

/-- Storing a register or table word keeps the register map's canonical form. -/
theorem rset_keeps_wf (s : State) (a : Nat) (w : Word) (h : swf resetWord s.regs = true) :
    swf resetWord (rset s a w).regs = true := sset_swf h a w

/-- What a register or table word reads as after a store. -/
theorem rget_rset (s : State) (a b : Nat) (w : Word) (h : swf resetWord s.regs = true) :
    rget (rset s a w) b = if b = a then w else rget s b := sget_sset (swf_sorted h) a b w

end Sys2Proof.Machine
end

