-- ==== Sys2Proof/Laws/Landing.lean ====
section
/-! SUPPORT. What a Landing core's instruction leaves: a running core fetches, executes once and is written back. -/

namespace Sys2Proof.Machine

theorem sget_sput_true {α : Type} {d : Nat → α} {k : Nat} {v : α} : ∀ {m : Sparse α}, sget d (sput k v true m) k = v
  | [] => by simp [sput, sget]
  | e :: t => by
    simp only [sput]
    split
    · simp [sget]
    · split
      · simp [sget]
      · simp only [sget]
        rw [if_neg ‹_›, if_neg ‹_›]
        exact sget_sput_true

theorem sput_sput_true {α : Type} {k : Nat} {v w : α} {keep : Bool} : ∀ {m : Sparse α},
    sput k w keep (sput k v true m) = sput k w keep m
  | [] => by cases keep <;> simp [sput]
  | e :: t => by
    by_cases h1 : k < e.1
    · simp [sput, h1]
    · by_cases h2 : k = e.1
      · simp [sput, h2]
      · simp only [sput, if_neg h1, if_neg h2]
        rw [sput_sput_true]

theorem sput_sput_ne {α : Type} {d : Nat → α} {k j : Nat} {v : α} (h : j ≠ k) : ∀ {m : Sparse α},
    sget d (sput k v true m) j = sget d m j ∨ sorted 0 m = false := by
  intro m
  cases hs : sorted 0 m with
  | true => exact .inl (sget_sput_ne h hs)
  | false => exact .inr rfl

/-- A core that runs a task is not the core at rest. -/
theorem ne_coreInit {c : Core} (h : c.task.isSome = true) : c ≠ coreInit := by
  intro e
  rw [e] at h
  exact absurd h (by decide)

/-- Reading a core back. -/
@[simp] theorem coreOf_setCore {n : Nat} {c : Core} {s : State} (h : c.task.isSome = true) : coreOf (setCore n c s) n = c := by
  unfold coreOf setCore sgetC ssetC sset
  rw [decide_eq_true (ne_coreInit h)]
  exact sget_sput_true

/-- The last of two writes of a core stands. -/
theorem setCore_setCore {n : Nat} {c c' : Core} {s : State} (h : c.task.isSome = true) :
    setCore n c' (setCore n c s) = setCore n c' s := by
  unfold setCore ssetC sset
  simp only [decide_eq_true (ne_coreInit h), sput_sput_true]

theorem running_iff {s : State} {n : Nat} : running s n = true ↔
    (coreOf s n).task.isSome = true ∧ (coreOf s n).wait = .none ∧ coreFenced s n = false ∧ s.twin.resync.kept = none ∧
    (coreOf s n).rep = none ∧ (coreOf s n).bad.contains (coreOf s n).pc = false ∧
    landingWordLegal (programWord s (coreOf s n).pc) = true := by
  simp [running, working, and_assoc]

/-- While no partner's image is kept, work at any instant is done on the device's own state. -/
theorem atInstant_idle {i : Treads} {f : State → State} {s : State} (h : s.twin.resync.kept = none) : atInstant i f s = f s := by
  have h1 : imageAt s = none := by
    unfold imageAt
    rw [h]
    cases s.twin.resync.joinFlight <;> rfl
  unfold atInstant
  rw [h1]

theorem repeatTick_setCore {n k : Nat} {c : Core} {s : State} (h : c.task.isSome = true) :
    repeatTick n k (setCore n c s) = setCore n { c with lc := k, cycles := c.cycles + 1, busy := c.busy + 1 } s := by
  unfold repeatTick coreCycles
  simp only [coreOf_setCore h]
  rw [setCore_setCore h, coreOf_setCore (by exact h), setCore_setCore (by exact h)]

theorem repeatBody_one {n : Nat} {body : Nat → State → Done} {x : State} {r : Done} (h : body 0 (repeatTick n 0 x) = r) :
    repeatBody n body 1 0 x = r := by
  simp only [repeatBody, h]
  obtain ⟨_ | _, _⟩ := r <;> rfl

/-- One repeat of a body on a core that has fetched. -/
theorem repeatBody_once {n k : Nat} {body : Nat → State → Done} {c : Core} {s : State} {r : Done} (h : c.task.isSome = true)
    (hb : body 0 (setCore n { c with lc := 0, cycles := c.cycles + k + 1, busy := c.busy + k + 1 } s) = r) :
    repeatBody n body 1 0 (setCore n { c with cycles := c.cycles + k, busy := c.busy + k } s) = r :=
  repeatBody_one ((congrArg (body 0) (repeatTick_setCore (c := { c with cycles := c.cycles + k, busy := c.busy + k }) h)).trans hb)

/-- An instruction of a running core whose body goes on: the body runs once on the core that has fetched. -/
theorem coreInstr_running {n cls : Nat} {reads : List Nat} {body : Nat → State → Done} {s s' : State} (hr : running s n = true)
    (hb : body 0 (setCore n (fetched (coreOf s n) reads) s) = (none, s')) : coreInstr n cls reads body s = s' := by
  obtain ⟨h1, h2, h3, hk, h4, hb', h5⟩ := running_iff.1 hr
  unfold coreInstr
  rw [atInstant_idle hk]
  unfold coreStep
  have h6 : ¬ ((coreOf s n).task.isNone ∨ (coreOf s n).wait ≠ .none ∨ coreFenced s n) := by
    simp [h2, h3]
    intro h
    simp [h] at h1
  rw [if_neg h6, h4, hb']
  simp only [h5, Option.isSome_none, Bool.false_and, Bool.not_true, Bool.or_false, Bool.false_eq_true, if_false, Option.getD_none]
  have h7 := repeatBody_once (c := { coreOf s n with pc := ((coreOf s n).pc + 1) % 8192, loaded := none, rep := none }) h1 hb
  rw [show repeatBody n body 1 0 _ = (none, s') from h7]

/-- An instruction of a running core whose body meets a program fault. -/
theorem coreInstr_fault {n cls cause : Nat} {reads : List Nat} {body : Nat → State → Done} {s s' : State}
    (hr : running s n = true) (hb : body 0 (setCore n (fetched (coreOf s n) reads) s) = (some cause, s')) :
    coreInstr n cls reads body s = programFault n (coreOf s n).pc cause s' := by
  obtain ⟨h1, h2, h3, hk, h4, hb', h5⟩ := running_iff.1 hr
  unfold coreInstr
  rw [atInstant_idle hk]
  unfold coreStep
  have h6 : ¬ ((coreOf s n).task.isNone ∨ (coreOf s n).wait ≠ .none ∨ coreFenced s n) := by
    simp [h2, h3]
    intro h
    simp [h] at h1
  rw [if_neg h6, h4, hb']
  simp only [h5, Option.isSome_none, Bool.false_and, Bool.not_true, Bool.or_false, Bool.false_eq_true, if_false, Option.getD_none]
  have h7 := repeatBody_once (c := { coreOf s n with pc := ((coreOf s n).pc + 1) % 8192, loaded := none, rep := none }) h1 hb
  rw [show repeatBody n body 1 0 _ = (some cause, s') from h7]

/-- A running core's instruction that only changes the core. -/
theorem coreInstr_pure {n cls : Nat} {reads : List Nat} {f : Core → Core} {s : State} (hr : running s n = true) :
    coreInstr n cls reads (pureBody n f) s = setCore n (f (fetched (coreOf s n) reads)) s := by
  apply coreInstr_running hr
  have h1 : (fetched (coreOf s n) reads).task.isSome = true := (running_iff.1 hr).1
  unfold pureBody
  rw [coreOf_setCore h1, setCore_setCore h1]

theorem running_arriveAt {t : Nat} {s : State} {n : Nat} : running (arriveAt t s) n = running s n := rfl
@[simp] theorem coreOf_arriveAt {t : Nat} {s : State} {n : Nat} : coreOf (arriveAt t s) n = coreOf s n := rfl

/-- A calm instruction that only changes its core. -/
theorem acts_pure {t n cls : Nat} {reads : List Nat} {f : Core → Core} {s : State} (hc : calm t s = true)
    (hr : running s n = true) :
    acts t (coreInstr n cls reads (pureBody n f)) s = .next (setCore n (f (fetched (coreOf s n) reads)) (arriveAt t s)) := by
  have h : coreInstr n cls reads (pureBody n f) (arriveAt t s) = setCore n (f (fetched (coreOf s n) reads)) (arriveAt t s) :=
    coreInstr_pure (running_arriveAt.trans hr)
  rw [acts_calm_same hc (by rw [h]; exact ⟨rfl, rfl, rfl, rfl, rfl⟩) (by rw [h]; rfl), h]

/-- A calm instruction whose body leaves the watched state and the queue alone. -/
theorem acts_core {t n cls : Nat} {reads : List Nat} {body : Nat → State → Done} {s s' : State} (hc : calm t s = true)
    (hr : running s n = true) (hb : body 0 (setCore n (fetched (coreOf s n) reads) (arriveAt t s)) = (none, s'))
    (h1 : KeepsQuiet s s') (h3 : s'.pending = s.pending) :
    acts t (coreInstr n cls reads body) s = .next s' := by
  have h : coreInstr n cls reads body (arriveAt t s) = s' := coreInstr_running (running_arriveAt.trans hr) hb
  rw [acts_calm_same hc (by rw [h]; exact h1) (by rw [h, h3]), h]

end Sys2Proof.Machine
end

