-- ==== Sys2Proof/Tests/Slice0.lean ====
section
/-! SUPPORT. The small states the tests start from, and an ill-formed command for every check of WellFormed. The other
files of Tests hold the words of program memory (Words), single commands (Commands) and the witnesses of the statements (Witness*). -/

namespace Sys2Proof.Tests

-- One theorem at a time: each waits for all before it, and many waiting threads exhaust the memory.
set_option Elab.async false

open Sys2Proof.Machine

/-! ### Small states -/

/-- A device whose charter makes door 0 the owner of time and device, cloister, and the owner of every object,
and enables all four doors, after its configuration step. -/
def sealed : State :=
  setF { State.reset with cht := { charterUnitInit with
      inReset := false, sealed := true, step := 11
      loaded := { charterUnitInit.loaded with
        doors := 15, k := 1, arrMargin := 2940, ptpWait := 1, pairWait := 1
        records := (List.range 16).map (fun k => ⟨k, 0, false, 0, 131071⟩) } } }
    Reg.WLD_DOOR_CLOISTER 1

/-- A device in operation: the count stepped, flights running, epoch 1 committed, every door open. -/
def up : State :=
  { sealed with
    now := 17640 * 16, doors := [0, 1, 2, 3].map fun d => (d, { doorInit with phase := .opened })
    tim := { timInit with flights := .running, servo := { timInit.servo with state := .tracking, stepped := true }, lastFlight := 17640 * 16 }
    epoch := { epochInit with newest := 1, newestAt := 17640, charterDue := false } }

/-- The same device with no flights. -/
def held : State := { up with tim := { up.tim with flights := .stopped } }

/-- The same device with core 0 in a task; word 0 of its program is ADD G[0] = G[0] + G[0]. -/
def core0 (f : Core → Core) : State :=
  { up with lnd := { landInit with cores := [(0, f { coreInit with task := some 0 })] } }

/-- A device whose start-up has completed step n. -/
def started (n : Nat) (f : CharterUnit → CharterUnit) : State := { sealed with cht := f { sealed.cht with step := n } }

/-! ### Ill-formed commands -/

theorem test_access_outside : Instr.wellFormed (.registerWrite 0 0 .bar0 0x4000000 .word 0) = false := by decide
theorem test_access_misaligned : Instr.wellFormed (.rweWrite 0 0 .bar2 6 .dword 0) = false := by decide
theorem test_snapshot_misaligned : Instr.wellFormed (.snapshotRead 0 0 4 .dword) = false := by decide
theorem test_edge_in_the_future : Instr.wellFormed (.captureEdge 5 0 6 false) = false := by decide
theorem test_mount_of_few_packages : Instr.wellFormed (.undercroftMount 0 0 []) = false := by decide
theorem test_short_recovery_data : Instr.wellFormed (.recoveryDone 0 false []) = false := by decide
theorem test_short_arguments : Instr.wellFormed (.requestArrival 0 0 0 ⟨0, 0, 0, 0, 0, []⟩ []) = false := by decide
theorem test_long_queue_word : Instr.wellFormed (.queueWordAccept 0 0 ⟨0, none, List.replicate 65 0, true, .none⟩) = false := by decide
theorem test_short_descriptor : Instr.wellFormed (.dmaFetch 0 0 []) = false := by decide
theorem test_short_id : Instr.wellFormed (.ucrId 0 0 []) = false := by decide
theorem test_few_lanes : Instr.wellFormed (.newelLinkUp 0 []) = false := by decide
theorem test_many_symbols : Instr.wellFormed (.flitReceive 0 (List.replicate 9 0) false 0 0 false true 0) = false := by decide
theorem test_short_digest : Instr.wellFormed (.hello 0 0 [] 2 1) = false := by decide
theorem test_engine_beyond_class : Instr.wellFormed (.releaseStart 0 5 1) = false := by decide
theorem test_well_formed : ([.registerWrite 0 0 .bar0 0x3FFFFFC .word 0, .rweWrite 0 0 .bar2 8 .dword 0, .snapshotRead 0 0 4 .word,
    .captureEdge 5 0 5 false, .releaseStart 0 5 0] : List Instr).all Instr.wellFormed = true := by decide

end Sys2Proof.Tests
end

