-- ==== Sys2Proof/Tests/Commands.lean ====
section
/-! SUPPORT. Single commands on small states, with results worked out by hand from the manual, and the first witnesses of the statements. -/

namespace Sys2Proof.Tests

-- One theorem at a time: each waits for all before it, and many waiting threads exhaust the memory.
set_option Elab.async false

open Sys2Proof.Machine

/-! ### Single commands, with results worked out by hand -/

/-- What a command leaves of a state, read by f. -/
def leaves {α : Type} (i : Instr) (s : State) (f : State → α) : Option α :=
  match exec i s with
  | .next u => some (f u)
  | _ => none

/-- The first product of the example after R192: 0x4000 × 0x6000. -/
theorem test_mac_example : leaves (.mac 0 0 0 1 false 2 false) (core0 fun c => { c with g := [(1, 0x4000), (2, 0x6000)] })
    (fun u => accOf (coreOf u 0) 0) = some 0x18000000 := by decide +kernel

/-- STAH of the same example, at SM 1 with RND 1: 0x6000; and with SM 4 after a third product: 0x2400. -/
theorem test_mvah_example : [(1, 0x30000000, 0x6000), (4, 0x48000000, 0x2400), (1, 0x48000000, 0x7FFF)].all (fun (e : Nat × Int × Word) =>
    leaves (.mvah 0 0 0 1) (core0 fun c => { c with acc := [(0, e.2.1)], sm := e.1, rnd := true }) (fun u => gOf (coreOf u 0) 1) ==
      some e.2.2) = true := by decide +kernel

/-- A sum that wraps sets Z and C and clears V (R189). -/
theorem test_add_wraps : leaves (.add 0 0 1 2 3) (core0 fun c => { c with g := [(2, 0xFFFFFFFF), (3, 1)] })
    (fun u => let c := coreOf u 0; (gOf c 1, c.z, c.n, c.c, c.v)) = some (0, true, false, true, false) := by decide +kernel

/-- A write of TIM_SERVO_CFG by a door that is not the time owner changes nothing of the word and counts (R42). -/
theorem test_time_owner_guard : leaves (.registerWrite 0 1 .bar0 0x600060 .word 5) up (fun u => rget u 0x600060 == rget up 0x600060) = some true ∧
    leaves (.registerWrite 0 0 .bar0 0x600060 .word 5) up (fun u => rget u 0x600060) = some 5 := by decide +kernel

/-- IDCODE reads 0x2641078F (R491). -/
theorem test_idcode : leaves .jtagIdcode up (fun u => u.jtag.dr) = some 0x2641078F := by decide

/-- The queue is first in, first out. -/
theorem test_queue_order : (match step { State.reset with pending := [.jtagIdcode, .jtagBypass] } with
    | .next u => u.pending == [.jtagBypass] && u.jtag.instr == .idcode | _ => false) = true := by decide

/-! ### Witnesses: steps, words, accesses, events -/

theorem witness_steps : (∃ c r, ({ State.reset with pending := [.holdover 0] } : State).pending = c :: r) ∧ State.reset.pending = [] :=
  ⟨⟨_, _, rfl⟩, rfl⟩

theorem witness_step_invariant : Inv State.reset = true ∧ ∃ s', step State.reset = .next s' := ⟨by decide, _, rfl⟩

theorem witness_field_stores : swf resetWord up.regs = true ∧ Reg.TIM_CTRL_RESTART.lo ≤ Reg.TIM_CTRL_RESTART.hi ∧
    Reg.TIM_CTRL_RESTART.hi < 32 ∧ (⟨0, 0, 31⟩ : Fld).hi < 32 := by decide +kernel

/-- Words with fields of every access code that a word of the map has. -/
theorem witness_access_codes :
    ([.rw, .rws, .rwl, .w1c, .ro, .wo, .rwe] : List Access).all (fun c =>
      ([0x100044, 0x108004, 0x108008, 0x400150, 0x800100] : List Nat).any fun a =>
        (findWord a).any fun p => (p.1.fields.any fun f => f.acc == c) &&
          decide (p.1.fields.Pairwise fun f g => f.hi < g.lo ∨ g.hi < f.lo) && p.1.fields.all fun f => decide (f.lo ≤ f.hi ∧ f.hi < 32)) = true := by
  decide +kernel

theorem witness_dram_bytes : Memory.wf State.reset.drm.mem = true ∧ (5 ≤ 6 ∧ 6 < 5 + ([1, 2] : List Byte).length) ∧
    ¬ (5 ≤ 7 ∧ 7 < 5 + ([1, 2] : List Byte).length) := by decide

/-- A stored word, with a write that reaches it and one that a door without the guard makes. -/
theorem witness_register_writes : calm 0 up = true ∧ (0x600060 : Nat) % 4 = 0 ∧ wordStages 0x600060 = false ∧
    (rowWrite 0 0x600060 5).isNone = true ∧ writeCheck (arriveAt 0 up) 0 0x600060 5 = none ∧
    writeCheck (arriveAt 0 up) 1 0x600060 5 = some .partition := by decide +kernel

theorem witness_register_effect : ∀ y, wordEffect 0 0x600060 5 y = storeWord 0x600060 5 y := fun _ => rfl

theorem witness_malformed : (2 : Nat) % 4 ≠ 0 ∧ (4 : Nat) % 8 ≠ 0 := by decide

theorem witness_staged_writes : let a := codedAddr .bar2 0x20
    calm 0 up = true ∧ (0x20 : Nat) % 4 = 0 ∧ wordStages a = true ∧ wordMixed a = false ∧ phaseAdmits (arriveAt 0 up) 0 a true = true ∧
    writeReaches (arriveAt 0 up) 0 a = true ∧ handsOver up = false ∧ exchanges up = false := by decide +kernel

/-- An open door, and one that is SHUT. -/
theorem witness_view_reads : sorted 0 up.doors = true ∧ phaseAdmits up 0 (Reg.DOR_VIEW_EPOCH_LO 0).addr false = true ∧
    calm 0 State.reset = true ∧ phaseAdmits State.reset 1 (Reg.DOR_VIEW_EPOCH_LO 1).addr false = false := by decide +kernel

/-- The lowest word of a wide quantity, TIM_STEP_AT, and its next one. -/
theorem witness_wide_reads : [0x600048, 0x60004C].all (fun a =>
    phaseAdmits up 0 a false && reaches up 0 a && !msixHidden up 0 a && a != (Reg.DOR_VIEW_EPOCH_LO 0).addr &&
      (wideQuantity a).isSome && (findWord a).isSome) = true ∧ (wideQuantity 0x600048).map (·.1) = some 0x600048 ∧
    (wideQuantity 0x60004C).map (·.1) = some 0x600048 ∧ sorted 0 (doorOf up 0).snaps = true := by decide +kernel

/-- An event outside Keep, and the same one in Keep. -/
theorem witness_events : swf resetWord up.regs = true ∧ inKeep up = false ∧ (eventSource 0x20).isSome = true ∧
    inKeep { up with clk := { clockInit with power := .keep } } = true := by decide +kernel

theorem witness_captured : sorted 0 up.evt.firsts = true ∧ up.evt.accessInFlight < 16 ∧ up.evt.log.length < 256 := by decide

/-! ### Session keys -/

/-- The key derivation of RFC 3711, Appendix B.3: its master key and salt give its session encryption key and session salt. -/
theorem test_session_keys :
    let key : List Byte := [0xE1, 0xF9, 0x7A, 0x0D, 0x3E, 0x01, 0x8B, 0xE0, 0xD6, 0x4F, 0xA3, 0x2C, 0x06, 0xDE, 0x41, 0x39]
    let salt : List Byte := [0x0E, 0xC6, 0x75, 0xAD, 0x49, 0x8A, 0xFE, 0xEB, 0xB6, 0x96, 0x0B, 0x3A, 0xAB, 0xE6]
    sessionKey key salt 0 16 =
      [0xC6, 0x1E, 0x7A, 0x93, 0x74, 0x4F, 0x39, 0xEE, 0x10, 0x73, 0x4A, 0xFE, 0x3F, 0xF7, 0xA0, 0x87] ∧
    sessionKey key salt 2 14 =
      [0x30, 0xCB, 0xBC, 0x08, 0x86, 0x3D, 0x8C, 0x85, 0xD4, 0x9D, 0xB3, 0x4A, 0x9A, 0xE1] := by decide +kernel

end Sys2Proof.Tests
end

