-- ==== Sys2Proof/Tests/WitnessA.lean ====
section
/-! SUPPORT. States and operands that meet the hypotheses of the statements, clause by clause: time, flights, Modem, start-up, resets, rings, Ports. -/

namespace Sys2Proof.Tests

-- One theorem at a time: each waits for all before it, and many waiting threads exhaust the memory.
set_option Elab.async false

open Sys2Proof.Machine

/-! ### Witnesses: time, flights, the modem -/

/-- Door 0 submits a sample to the servo of `up` in a given state. -/
def servoAt (f : Servo → Servo) : State := { up with tim := { up.tim with servo := f up.tim.servo } }

/-- A discarded sample, one that would step before 0:0, one that steps, one that only collects, and one in TRACKING. -/
theorem witness_servo : calm 0 up = true ∧ atStep up 8 = false ∧ phaseAdmits (arriveAt 0 up) 0 0x600080 true = true ∧
    reaches (arriveAt 0 up) 0 0x600080 = true ∧ timeOwner up = 0 ∧ (0x10000000 : Word).toNat / 268435456 ≠ up.tim.servo.stepGen ∧
    (let s := servoAt fun v => { v with state := .unset }
     let o := offsetOf s 0x07FFFFFF
     (s.now : Int) - (o * 441).fdiv (3125 * 65536) < 0 ∧ 0 ≤ (s.now : Int) - (offsetOf s 0 * 441).fdiv (3125 * 65536)) ∧
    (let s := setF (servoAt fun v => { v with state := .unset }) Reg.TIM_LOCK_CFG_STEP_COUNT 1
     [offsetOf s 0].length = getF s Reg.TIM_LOCK_CFG_STEP_COUNT ∧ spread [offsetOf s 0] ≤ 0) ∧
    getF up Reg.TIM_LOCK_CFG_STEP_COUNT ≠ 1 := by decide +kernel

/-- HOLDOVER that is due, and not yet; a restart by the owner door, by another, before the first step; and one that is due. -/
theorem witness_holdover_and_restart : let late := { up with now := 10000000000 }
    calm 0 late = true ∧ late.tim.servo.last + getF late Reg.TIM_HOLD_CFG_HOLD_TIMEOUT ≤ late.now ∧
    ¬ (up.tim.servo.last + getF up Reg.TIM_HOLD_CFG_HOLD_TIMEOUT ≤ up.now) ∧
    (phaseAdmits up 0 Reg.TIM_CTRL_RESTART.addr true = true ∧ reaches up 0 Reg.TIM_CTRL_RESTART.addr = true ∧ up.tim.haltAt = none ∧
      up.twin.state ≠ .lockstep ∧ up.twin.state ≠ .pairing ∧ up.tim.servo.stepped = true ∧ timeOwner up = 0) ∧
    (phaseAdmits up 1 Reg.TIM_CTRL_RESTART.addr true = true ∧ reaches up 1 Reg.TIM_CTRL_RESTART.addr = true) ∧
    (servoAt fun v => { v with stepped := false }).tim.servo.stepped = false ∧
    (let s := { up with tim := { up.tim with haltAt := some up.now } }; calm 0 s = true ∧ up.now ≤ s.now) := by decide +kernel

/-- Capture channel 0 of `up` takes rising and falling edges; one with a full FIFO; a queue of stamps with and without room. -/
def capturing (n : Nat) : State :=
  let s := setF up (Reg.TIM_CAP_CFG_EDGES 0) 3
  { s with tim := { s.tim with captures := [(0, List.replicate n ⟨5, false⟩)], txq := List.replicate (8 * n) ⟨1, 0, 7⟩ }
           ports := { portInit with stampsDue := [⟨20, 1, 9⟩] } }

theorem witness_captures : [0, 8].all (fun n => let s := capturing n
      calm 0 s && sorted 0 s.tim.captures && edgeSelected s 0 false && decide (100 + getF s (Reg.TIM_CAP_CFG_FILTER 0) ≤ s.now) &&
      decide ((captureFifo s 0).length = n) && (earliestStamp s.ports.stampsDue == some ⟨20, 1, 9⟩) && decide (20 ≤ s.now) && decide (s.tim.txq.length = 8 * n)) = true ∧
    edgeSelected up 0 false = false ∧ writeCheck up 0 (Reg.TIM_CAP_POP_POP 0).addr 1 = none ∧
    writeCheck up 0 Reg.TIM_TXQ_POP_POP.addr 1 = none := by decide +kernel

/-- Trigger output 0 with a configuration that waits, at an edge of a periodic one, off, and with a pulse in progress. -/
def trigger (f : Trig → Trig) : State := setTrig 0 (f (trigOf up 0)) up

theorem witness_triggers :
    (let c : TrigCfg := ⟨2, 0, 10, 100, 0, 0, false⟩
     let s := trigger fun y => { y with next := some (5, c) }
     calm 0 s = true ∧ sorted 0 s.tim.trigs = true ∧ (trigOf s 0).next = some (5, c) ∧ 5 ≤ s.now ∧ c.mode ≠ 1 ∧ trigBad s c = false) ∧
    [TrigCfg.mk 2 0 10 180 0 0 false, ⟨1, 0, 10, 180, 0, 360, false⟩].all (fun c =>
      let s := { trigger fun y => { y with cfg := c } with now := 360 }
      calm 0 s && s.tim.servo.stepped && (trigOf s 0).next.isNone && !inKeep s && trigEdgeNow s (trigOf s 0).cfg &&
      !(trigOf s 0).bad && !(trigOf s 0).missed) = true ∧
    (trigOf up 0).next = none ∧ trigEdgeNow up (trigOf up 0).cfg = false ∧
    (trigOf (trigger fun y => { y with pulseEnd := some 9 }) 0).pulseEnd = some 9 := by decide +kernel

/-- The cut before a flight, a flight's start, the flights' resumption, second boundaries and other instants. -/
theorem witness_flights :
    (let s := { up with now := 17640 * 17 - 4410 }
     calm 0 s = true ∧ s.twin.resync.active = false ∧ s.tim.flights = .running ∧ atBoundary s (s.now + 4410) = true ∧ boundaryTaken s (s.now + 4410) = false ∧ s.epoch.charterDue = false ∧
       s.epoch.cutDone = false ∧ s.twin.unionFrom = none) ∧
    (let s := { up with now := 17640 * 17 }
     calm 0 s = true ∧ atBoundary s s.now = true ∧ boundaryTaken s s.now = false ∧ s.tim.servo.stepped = true ∧
       s.tim.lastFlight < s.now ∧ s.twin.state = .solo ∧ s.twin.unionFrom = none) ∧
    (let s := { held with now := 17640 * 17 }
     calm 0 s = true ∧ s.tim.flights = .stopped ∧ s.tim.servo.stepped = true ∧ s.tim.haltAt = none ∧ s.clk.power = .run ∧ s.cht.step = 11 ∧ s.twin.state = .solo ∧ atBoundary s s.now = true ∧
       resumeFrom s ≤ s.now ∧ boundaryTaken s s.now = false) ∧
    (up.cht.loaded.twinRole = 0 ∧ (141120000 : Nat) % 141120000 = 0 ∧ up.now % 141120000 ≠ 0) := by decide +kernel

/-- The set of an audio flight before and after its closing. -/
theorem witness_set_closes : 10 ≤ up.cht.step ∧ up.twin.unionFrom = none ∧ up.ports.sets = [] ∧
    (setOrNew up .audio 17).closed = false ∧
    (let s := { up with now := setStart up .audio 17 - arrMargin up + 705 }
     setStart s .audio 17 + 705 ≤ s.now + arrMargin s ∧ s.now < setStart s .audio 17) ∧
    (let s := { up with now := setStart up .audio 17 - arrMargin up }
     s.now + arrMargin s < setStart s .audio 17 + 705) := by decide +kernel

/-- The pops, and a running release of each modem task. -/
def modemRun (task : Nat) : State :=
  { up with stw := { stairInit with releases := [⟨task, task, 16, 0, 17640, none, [], [], .running 0, none, [], false, 0, none, []⟩] } }

theorem witness_modem : writeCheck up 0 (Reg.TCM_DEC_POP_POP 0).addr 1 = none ∧ writeCheck up 0 (Reg.TCM_TONE_POP_POP 0).addr 1 = none ∧
    [20480, 20544, 20608].all (fun task => calm 0 (modemRun task) && (workOf (modemRun task) task).isSome &&
      (modemRun task).twin.resync.kept.isNone && (entryFlags (modemRun task) task == (false, false))) = true := by decide +kernel

/-! ### Witnesses: start-up and resets -/

/-- A release of RESET_N that starts, one under a latched trip, and every step in its turn. -/
theorem witness_early_steps : calm 0 State.reset = true ∧ State.reset.cht.inReset = true ∧ State.reset.pins.tripped = false ∧
    ({ State.reset with pins := { State.reset.pins with tripped := true } } : State).pins.tripped = true ∧
    [0, 1, 2].all (fun n => let s := started n id
      calm 0 s && sorted 0 s.doors && !s.cht.inReset && !s.cht.stopped && decide (s.cht.step + 1 = n + 1) && !s.cht.warm) = true ∧
    (started 2 fun c => { c with warm := true }).cht.warm = true := by decide +kernel

/-- Empty slots fail step 4; step 5 with a staged charter; steps 6 and 7 of a Cold start. -/
theorem witness_charter_steps :
    (let s := started 4 fun c => { c with staged := some (c.loaded, []) }
     calm 0 s = true ∧ s.cht.inReset = false ∧ s.cht.stopped = false ∧ s.cht.staged = some (s.cht.loaded, [])) ∧
    [3, 5, 6].all (fun n => let s := started n id; calm 0 s && !s.cht.inReset && !s.cht.stopped && !s.cht.warm && decide (s.cht.step + 1 = n + 1)) = true ∧
    [false, true].all (fun fresh => let s := started 5 fun c => { c with warm := true, fresh := fresh }
      calm 0 s && s.cht.warm && (s.cht.fresh == fresh) && decide (s.cht.step + 1 = 6)) = true := by
  decide +kernel

theorem witness_late_steps :
    (let s := started 7 id
     calm 0 s = true ∧ s.cht.ptpTold = false ∧ s.cht.stepStart + 1000 * s.cht.loaded.ptpWait ≤ 1000) ∧
    (let s := started 8 fun c => { c with loaded := { c.loaded with twinRole := 1 } }
     calm 0 s = true ∧ s.twin.startFlight = none ∧ s.cht.stepStart + 1000 * s.cht.loaded.pairWait ≤ 1000) ∧
    (let s := { started 10 id with now := 141120, tim := { timInit with servo := { timInit.servo with stepped := true } } }
     calm 0 s = true ∧ s.tim.flights = .stopped ∧ s.tim.servo.stepped = true ∧ s.twin.state = .solo ∧ s.twin.startFlight = none ∧ 0 < flightLen s ∧
       boundaryTaken s s.now = false ∧ s.now = nextBoundary (s.cht.openedAt + 141120) (flightLen s)) := by decide +kernel

/-- Requests for resets by the owner door, by another, before and after epoch 1, with flights and without; a door in SHUT. -/
theorem witness_resets : calm 0 up = true ∧ writeCheck up 0 Reg.CHT_RESET_WARM.addr 1 = none ∧ devOwner up = 0 ∧ 0 < up.epoch.newest ∧
    up.cht.warmAt = none ∧ up.tim.flights = .running ∧ held.tim.flights = .stopped ∧
    writeCheck { up with epoch := epochInit } 0 Reg.CHT_RESET_WARM.addr 1 = none ∧
    (let s := setF up Reg.WLD_DOOR_CLOISTER 15
     writeCheck s 1 Reg.CHT_RESET_WARM.addr 1 = none ∧ writeCheck s 1 Reg.CHT_RESET_WARM.addr (2 + 4 * 2) = none ∧
       writeCheck s 1 Reg.CHT_RESET_WARM.addr (2 + 4 * 1) = none ∧ doorEnabled s 1 = true) ∧
    (doorOf up 0).phase ≠ .shut ∧ (doorOf State.reset 0).phase = .shut := by decide +kernel

/-- Writes of CHT_RESET: each reason to drop one, and each that is taken. -/
theorem witness_reset_writes : let s := setF up Reg.WLD_DOOR_CLOISTER 15
    calm 0 s = true ∧ [0, 1, 2, 3, 6, 10].all (fun v => (writeCheck s 0 0x400150 v).isNone && (writeCheck s 1 0x400150 v).isNone) = true ∧
    devOwner s = 0 ∧ s.epoch.newest = 1 ∧ doorEnabled s 1 = true ∧
    doorEnabled { s with cht := { s.cht with loaded := { s.cht.loaded with doors := 1 } } } 1 = false := by decide +kernel

/-- Pins of brown-outs and of PWR_GOOD. -/
theorem witness_pins : (∃ s : State, s.pins.pwrMainEn = true ∧ s.pins.pwrGood = true) ∧ (∃ s : State, s.pins.pwrMainEn = true ∧ s.pins.pwrGood = false) ∧
    (∃ s : State, s.pins.pwrMainEn = false) :=
  ⟨⟨{ up with pins := { up.pins with pwrMainEn := true, pwrGood := true } }, rfl, rfl⟩,
   ⟨{ up with pins := { up.pins with pwrMainEn := true, pwrGood := false } }, rfl, rfl⟩,
   ⟨{ up with pins := { up.pins with pwrMainEn := false } }, rfl⟩⟩

/-- The main rails go after a latched trip, and while they are off anyway; PWR_GOOD rises while the device is not waking from Keep. -/
theorem witness_rails : [(false, true, true), (false, false, true), (true, false, false)].all (fun p =>
      let s := { up with pins := { up.pins with pwrMainEn := p.1, tripped := p.2.1, pwrGood := p.2.2 } }
      calm 0 s && (s.pins.pwrMainEn == p.1) && (s.pins.tripped == p.2.1) && (s.pins.pwrGood == p.2.2) && s.clk.power != .waking) = true := by
  decide +kernel

/-- The stopped device under its recovery door: aligned and misaligned addresses, a key hash that is programmed and one that is not. -/
def stopped (addr : Nat) (hash : List Word) : State :=
  setF { State.reset with cht := { charterUnitInit with inReset := false, stopped := true, keyHash := hash } } Reg.CHT_REC_ADDR_ADDR addr

theorem witness_recovery : writeCheck up 0 Reg.CHT_OWNER_QUERY_KIND.addr 0 = none ∧
    [0, 1, 256, 65536].all (fun a => let s := stopped a []
      calm 0 s && s.cht.stopped && decide (s.cht.recRunning = 0) && swf resetWord s.regs && sorted 0 s.doors &&
      [9, 10, 11, 12].all (fun v => (writeCheck s 0 Reg.CHT_REC_CTRL_CMD.addr v).isNone) && decide (getF s Reg.CHT_REC_ADDR_ADDR = a)) = true ∧
    (stopped 0 [7]).cht.keyHash.any (fun h => h != 0) = true ∧
    (let s := { stopped 0 [] with cht := { (stopped 0 []).cht with recRunning := 1 } }; calm 0 s = true ∧ s.cht.recRunning = 1) ∧
    (let s := { stopped 0 [] with cht := { (stopped 0 []).cht with recRunning := 4 } }
     calm 0 s = true ∧ s.cht.recRunning = 4 ∧ swf resetWord s.regs = true) := by decide +kernel

/-! ### Witnesses: rings, ports, queues, the cipher engine -/

/-- Ring 0 of door 0 holds one entry, its completion ring is on, and the link is up; so is the journal. -/
def ringed : State :=
  [(Reg.DOR_STAT_LINK 0, 1), (Reg.DOR_RQ_CFG_EN 0 0, 1), (Reg.DOR_RQ_CFG_LOG2SIZE 0 0, 4), (Reg.DOR_RQ_PTR_TAIL 0 0, 1),
    (Reg.DOR_CQ_CFG_EN 0 0, 1), (Reg.DOR_CQ_CFG_LOG2SIZE 0 0, 4), (Reg.DOR_JRN_CFG_EN 0, 1)].foldl (fun s e => setF s e.1 e.2) up

theorem witness_rings : calm 0 ringed = true ∧ swf resetWord ringed.regs = true ∧ canFetch ringed 0 0 = true ∧ canFetch up 0 0 = false ∧
    [3, 16].all (fun v => (writeCheck ringed 0 (Reg.DOR_RQ_PTR_TAIL 0 0).addr v).isNone) = true ∧ rqSize ringed 0 0 = 16 ∧
    [Reg.DOR_RQ_PTR_TAIL 0 0, Reg.DOR_RQ_CFG_EN 0 0, Reg.DOR_CQ_CFG_EN 0 0, Reg.DOR_JRN_CFG_EN 0].all
      (fun f => phaseAdmits ringed 0 f.addr true) = true ∧
    getF ringed (Reg.DOR_RQ_CFG_EN 0 0) = 1 ∧ getF ringed (Reg.DOR_CQ_CFG_EN 0 0) = 1 ∧ getF ringed (Reg.DOR_JRN_CFG_EN 0) = 1 ∧
    openGroup ringed 0 0 = [] ∧
    0 < cqReservedOf { ringed with doors := [(0, { doorInit with phase := .opened, cqReserved := [(0, 1)] })] } 0 0 := by decide +kernel

/-- Door 0 with a completion, a journal record and an immediate request. -/
def answering (op : Nat) : State :=
  let r : Req := ⟨1, some 0, 7, false, false, none, .entry op [] [], 0, 0⟩
  { up with doors := [(0, { doorInit with phase := .opened, completions := [⟨r, 1⟩], immediate := [(r, 0)],
                                          held := [⟨up.now - 8820, 5, 0, 0, 0, 0, 0⟩, ⟨up.now, 5, 0, 0, 0, 0, 0⟩] })] }

theorem witness_answers : [0x0002, 0x0100, 0x0101, 0x0400].all (fun op => let s := answering op
      calm 0 s && (doorOf s 0).completions.length == 1 && (doorOf s 0).immediate.length == 1 &&
      (doorOf s 0).held.head?.any (fun j => decide (j.stamp + 8820 ≤ s.now))) = true ∧
    (doorOf up 0).completions = [] ∧ (doorOf up 0).immediate = [] ∧ up.now < (⟨up.now, 5, 0, 0, 0, 0, 0⟩ : JournalRec).stamp + 8820 := by
  decide +kernel

/-- Ports off and on; a path seen lately, long ago, never. -/
theorem witness_ports : calm 0 up = true ∧ getF up (Reg.ETH_PORT_CFG_EN 0) = 0 ∧ getF (setF up (Reg.ETH_PORT_CFG_EN 0) 1) (Reg.ETH_PORT_CFG_EN 0) = 1 ∧
    (let s := { up with now := 1000000000, ports := { portInit with pathSeen := [(2 * objKey 1 3, some 5)] } }
     swf resetWord s.regs = true ∧ pathOf s (mergeKey 1 0 3) 0 = some 5 ∧ 5 + getF s Reg.ETH_MERGE_CFG_PATH_TIMEOUT * 8820 ≤ s.now ∧
       ({ s with now := 6 } : State).now < 5 + getF s Reg.ETH_MERGE_CFG_PATH_TIMEOUT * 8820) ∧
    pathOf up (mergeKey 5 2 3) 0 = none ∧ (RxFrame.mk 0 (List.replicate 64 0) false 0).fcsOk = false ∧
    (RxFrame.mk 0 [1] true 0).raw.length + 4 < 64 := by decide +kernel

/-- A queue whose backlog has waited beyond STALL_LIMIT, one that has waited less, one that has been told; NOTIFY on and off. -/
theorem witness_queues_and_gates : calm 0 up = true ∧ (let s := { up with now := 100000000, queues := [(0, { queueInit with waits := [⟨7, 0, false, false⟩, ⟨8, 0, true, false⟩] })] }
     calm 0 s = true ∧ (queueOf s 0).waits.map (fun v => decide (v.since + getF s Reg.SHP_Q_CFG_STALL_LIMIT < s.now) && !v.told) = [true, false]) ∧
    (queueOf up 0).waits = [] ∧ getF up (Reg.QUEUE_NOTIFY 0) = 0 ∧ windowPast up 0 = false ∧
    getF (setF up (Reg.QUEUE_NOTIFY 0) 1) (Reg.QUEUE_NOTIFY 0) = 1 ∧
    (gatesOf { up with shp := { shaperInit with gates := [(0, { gatesInit with next := some (5, gatesInit.cur) })] } } 0).next =
      some (5, gatesInit.cur) ∧ (gatesOf up 0).next = none ∧ getF up (Reg.ETH_PORT_CFG_EN 0) = 0 ∧
    (let s := setF up (Reg.ETH_PORT_CFG_EN 0) 1
     getF s (Reg.ETH_PORT_CFG_EN 0) ≠ 0 ∧ sgetC 0 s.shp.portBusy 0 ≤ s.now ∧ portAllows s 0 = true ∧ portQueues s 0 = []) := by
  decide +kernel

/-- A final set of one pending record of a plain context, before and after a copy of its index has been marked; one whose tag is long enough. -/
def keyed (low : Nat) (guarded : List Byte) : State :=
  let k : RxKey := ⟨0, 1, List.replicate 16 0, List.replicate 14 0, 0, none, none, [], low, none, [], low⟩
  let r : ArrRec := ⟨5, 1, 0, 7, 3, 9, 0, [], false, 0, 1, 96, 0, 1, 1, [], guarded, .pending 7, false⟩
  { up with cip := { cipherInit with rx := [(0, { rxOf up 0 with hold := ⟨some k, []⟩ })] }
            ports := { portInit with sets := [⟨.audio, 16, [r], true, true, false, false⟩] } }

/-- What a tag check of the first record of that set finds: its key, whether an earlier record waits, and whether its index was seen. -/
def checks (s : State) (p : ArrSet → ArrRec → RxKey → RxKey → Bool) : Bool :=
  calm 0 s && s.twin.resync.kept.isNone && (setOf s .audio 16).any fun y => (y.recs[0]?).any fun r => r.trust == .pending 7 &&
    !tagWaits s y 0 r 7 && (rxKeyAt (rxOf s r.cix) (setStart s y.owner y.flight)).any fun k =>
      (keyFor (rxOf s r.cix) (setStart s y.owner y.flight) 7).any fun u => p y r k u.1

theorem witness_cipher : setOf up .audio 16 = none ∧
    (let s := keyed 0 []
     passWaits s .audio (setStart s .audio 16) = false ∧ s.twin.state ≠ .copying ∧
     (setOf s .audio 16).any (fun y => y.final && !y.passed && y.recs.all (fun r => r.trust != .waiting)) = true) ∧
    [0, 9].all (fun low => checks (keyed low []) fun _ r k _ => recReplayed (keyed low []) k r 7 == decide (7 < low)) = true ∧
    workingLane up (some 3) = some 3 ∧ workingLane up none = none := by decide +kernel

/-- A record without its tag, which fails, and one that carries it, which opens. -/
theorem witness_tags : checks (keyed 0 []) (fun _ r _ u => !(openRecord u r 7).2) = true ∧
    checks (keyed 0 (srtpSeal 0 (List.replicate 16 0) (List.replicate 14 0) 1 7 [] [1, 2])) (fun _ r _ u =>
      (openRecord u r 7).2 && (openRecord u r 7).1 == [1, 2]) = true := by decide +kernel

/-- A set with a second record of a higher index, which waits for the first; a set that is not final, one that is passed. -/
theorem witness_tag_waits :
    (let s := keyed 0 []
     let y := (setOf s .audio 16).getD ⟨.audio, 0, [], false, false, false, false⟩
     let two := { y with recs := y.recs ++ y.recs.map fun r => { r with trust := .pending 8 } }
     let u := { s with ports := { s.ports with sets := [two] } }
     (two.recs[1]?).any (fun r => r.trust == .pending 8 && tagWaits u two 1 r 8) = true) := by decide +kernel

/-! ### Witnesses: Landing cores and media tasks -/

/-- A core whose running slot holds a release, and the core in that task. -/
theorem witness_task_entry : (let s := modemRun 0
      calm 0 s = true ∧ swf resetWord s.regs = true ∧ (runningOn s 0 0).isSome = true ∧ (coreOf s 0).task = none ∧ (coreOf s 0).wait = .none ∧
        coreFenced s 0 = false ∧ s.twin.resync.kept = none ∧ (runningOn s 0 0).all (fun r => r.exit.isNone && imageReady s r) = true) ∧
    (coreOf (core0 fun c => { c with bad := [5] }) 0).bad.contains 5 = true ∧ runningOn up 0 0 = none ∧ (coreOf (core0 id) 0).task.isSome = true := by decide +kernel

/-- A buffer whose oldest PUT goes to the Gallery, one whose PUT goes to a queue, presented or not, and a queue that holds it. -/
def putting (p : Put) (out : Bool) (backlog : List QWord) : State :=
  { core0 (fun c => { c with puts := [⟨p, 0, 16, 282240⟩], putOut := out }) with queues := [(5, { queueInit with backlog := backlog })] }

theorem witness_core_services : let e : PutEntry := ⟨.gallery 0 0 0 false false, 0, 16, 282240⟩
    (let s := putting (.gallery 0 0 0 false false) false []
     calm 0 s = true ∧ s.twin.resync.kept = none ∧ (coreOf s 0).puts = [e]) ∧
    [(false, []), (true, [QWord.mk 0 none [] true .none]), (true, [])].all (fun (x : Bool × List QWord) =>
      let s := putting (.queue 5 [] true false) x.1 x.2
      calm 0 s && ((coreOf s 0).putOut == x.1) && ((queueOf s 5).backlog.any (fun w => w.src == 0) == !x.2.isEmpty) &&
      ((coreOf s 0).puts == [⟨.queue 5 [] true false, 0, 16, 282240⟩])) = true ∧
    (coreOf (core0 id) 0).puts = [] ∧ (coreOf (core0 id) 0).wait = .none ∧ (coreOf (core0 fun c => { c with wait := .drain }) 0).wait = .drain ∧
    (coreOf (core0 fun c => { c with wait := .held }) 0).wait = .held ∧ (coreOf (core0 fun c => { c with wait := .leave 3 }) 0).wait = .leave 3 ∧
    (coreOf (core0 id) 0).task.isSome = true ∧ (coreOf (core0 id) 0).rep = none ∧
    getF (core0 id) Reg.LND_LIMIT_CYCLES < max ((coreOf (core0 id) 0).cycles + 0) 16777217 ∧
    max ((coreOf (core0 id) 0).cycles + 0) 0 ≤ getF (core0 id) Reg.LND_LIMIT_CYCLES ∧
    writeCheck up 0 Reg.LND_PEEK_ADDR_WORD.addr 5 = none ∧ swf resetWord up.regs = true := by
  decide +kernel

/-- A running release of each audio task, and packets with side-tone before and at their slot. -/
theorem witness_audio_tasks : up.drm.issuer = none ∧
    [0, 10240, 21632, 21664].all (fun task => runningOf up task == none && (runningOf (modemRun task) task).any fun r => r.exit.isNone) = true ∧
    ((modemRun 0).lnd.cores.find? fun e => e.2.task == some 0) = none ∧ (modemRun 21632).gal.busDone.contains (16, 0) = false ∧
    ({ (modemRun 21632).gal with busDone := [(16, 0)] }).busDone.contains (16, 0) = true ∧ (modemRun 21664).gal.recDone.contains (16, 0) = false ∧
    (let p : OutPkt := ⟨0, 17640 * 16, 17640, 1, 0, 0, [], true⟩
     let s := { up with now := 17640 * 17 - 1470, gal := { galInit with packets := [p], outputs := [] } }
     (s.gal.packets.find? fun q => q.side && q.leg == 0) = some p ∧ audioSlot p.t0 p.ptime (flightLen s) ≤ s.now + 1470 ∧
       pktReady s p = true ∧ ({ s with now := 0 } : State).now + 1470 < audioSlot p.t0 p.ptime (flightLen s)) ∧
    (up.gal.packets.find? fun q => q.side && q.leg == 0) = none := by decide +kernel

/-- Running releases of the video, Hall and port tasks, within their TIMEOUT and beyond it. -/
theorem witness_video_tasks :
    [21704, 21960, 22024, 22040, 22048, 22240, 22304].all (fun task => (runningOf (modemRun task) task).any fun r => r.exit.isNone) = true ∧
    trustFinal up (.stream 0) 16 = true ∧ trustFinal up (.input 0) 16 = true ∧
    (let r : ArrRec := ⟨5, 2, 0, 7, 0, 9, 0, [], false, 0, 1, 96, 0, 1, 1, [], [], .pending 7, false⟩
     trustFinal { up with ports := { portInit with sets := [⟨.stream 0, 16, [r], true, true, true, false⟩] } } (.stream 0) 16 = false) ∧
    [Reg.DEC_CFG_TIMEOUT, Reg.HAL_CFG_TIMEOUT, Reg.ENC_CFG_TIMEOUT].all (fun f => decide (0 + getF up f < 100000000) &&
      decide (0 ≤ 0 + getF up f)) = true ∧
    compAt up 0 (cfgF up 0 (Reg.OUTC_COMP 0)) = none ∧ (programOf up 0).dead.contains 0 = false ∧
    ({ (programOf up 0) with dead := [0] }).dead.contains 0 = true ∧ ((programOf up 0).pubs.find? fun q => q.start == 0) = none := by
  decide +kernel

end Sys2Proof.Tests
end

