-- ==== Sys2Proof/Tests/WitnessB.lean ====
section
/-! SUPPORT. States and operands that meet the hypotheses of the statements, clause by clause: Ports, tasks, Landing cores, releases, stores, Newel, clocks. -/

namespace Sys2Proof.Tests

-- One theorem at a time: each waits for all before it, and many waiting threads exhaust the memory.
set_option Elab.async false

open Sys2Proof.Machine

/-! ### Witnesses: Landing instructions -/

/-- A running core with nothing in its registers: ALU, multiplier, accumulator, address and special register instructions. -/
theorem witness_instructions : calm 0 (core0 id) = true ∧ running (core0 id) 0 = true ∧
    fits40 (accOf (coreOf (core0 id) 0) 1) = true ∧ (-32 ≤ (0xE0 : BitVec 8).toInt ∧ (0xE0 : BitVec 8).toInt ≤ 32) ∧
    (coreOf (core0 id) 0).sm < 8 ∧ sgetC 0 (coreOf (core0 id) 0).a 0 < 131072 ∧ (coreOf (core0 id) 0).task = some 0 ∧
    (coreOf (core0 id) 0).puts = [] ∧ swf resetWord (core0 id).regs = true ∧ sorted 0 (core0 id).lnd.flags = true := by decide +kernel

/-- Readable words and halfwords through a register, at either half of a word. -/
theorem witness_memory_accesses : [0, 2].all (fun a => let s := core0 fun c => { c with a := [(0, a), (1, 8)] }
      let c := fetched (coreOf s 0) []
      calm 0 s && running s 0 && (accessFault c a 2 2).isNone && readable c (a / 4)) = true ∧
    (agu (coreOf (core0 id) 0) 0 1 4 0 matches .ok (0, 4)) = true ∧ (agu (setA 0 2 (coreOf (core0 id) 0)) 0 1 2 0 matches .ok (2, 4)) = true ∧
    (agu (coreOf (core0 id) 0) 0 4 2 6 matches .ok (6, 0)) = true ∧
    (agu (coreOf (core0 fun c => { c with al := [(1, 16)], am := [(1, 2)] }) 0) 1 5 2 0 matches .ok (0, 2)) = true ∧
    accessFault (coreOf (core0 id) 0) 0 4 4 = none ∧ readable (coreOf (core0 id) 0) 0 = true := by decide +kernel

/-- TAP with CIRC 0 and 1. -/
theorem witness_filter_tap : let s := core0 fun c => { c with a := [(0, 8)], al := [(0, 16)] }
    let c := fetched (coreOf s 0) []
    calm 0 s = true ∧ running s 0 = true ∧ aOf c 0 = 8 ∧ sgetC 0 c.al 0 ≠ 0 ∧ accessFault c 8 2 2 = none ∧ accessFault c 10 2 2 = none ∧
    readable c 2 = true ∧ c.bad.contains (c.cp / 4) = false := by decide +kernel

/-- The first and the last branch condition and one beyond; call stacks empty, with room and full; the last word of program memory. -/
theorem witness_control : (10 : Fin 16).val ≤ 10 ∧ 10 < (11 : Fin 16).val ∧ (fetched (coreOf (core0 id) 0) []).stack = [] ∧
    (let s := core0 fun c => { c with stack := [1, 2, 3, 4, 5, 6, 7] }; running s 0 = true ∧ (coreOf s 0).stack.length < 8) ∧
    (let s := core0 fun c => { c with stack := [1, 2, 3, 4, 5, 6, 7, 8] }; running s 0 = true ∧ (coreOf s 0).stack.length = 8) ∧
    (let s := core0 fun c => { c with pc := 8191 }; running s 0 = true ∧ (coreOf s 0).pc = 8191) ∧ (coreOf (core0 id) 0).pc < 8191 := by
  decide +kernel

/-- WAITP and EXIT with a PUT in the buffer. -/
theorem witness_wait : let s := core0 fun c => { c with puts := [⟨.gallery 0 0 0 false false, 0, 16, 282240⟩] }
    running s 0 = true ∧ (fetched (coreOf s 0) []).puts ≠ [] ∧ (coreOf s 0).puts.length < 16 := by decide +kernel

/-- Leg 0 placed on core 0, with queue 0 as its queue A, which is off, and on and full; a PUT buffer that is full. -/
theorem witness_puts : let s := { core0 id with cht := { up.cht with loaded := { up.cht.loaded with places := [⟨0, 0, 0, 0, 0⟩] } } }
    running s 0 = true ∧ placedOn s 0 0 = some 0 ∧
    ((taskLeg s 0).any fun l => getF s (Reg.LEG_QUEUE_A l) == 0 || getF s (Reg.LEG_QUEUE_B l) == 0) = true ∧
    aOf (fetched (coreOf s 0) [0, 0]) 0 % 64 = 0 ∧ readableRun (fetched (coreOf s 0) [0, 0]) 0 8192 = true ∧
    wordHold (setF (setF s (Reg.QUEUE_EN 0) 1) (Reg.QUEUE_DEPTH_MAX 0) 9) 0 0 = .free ∧
    wordHold (setF (setF s (Reg.QUEUE_EN 0) 1) (Reg.QUEUE_DEPTH_MAX 0) 0) 0 0 ≠ .free ∧
    (let f := { s with lnd := { s.lnd with cores := [(0, { coreOf s 0 with
        puts := List.replicate 16 ⟨.gallery 0 0 0 false false, 0, 16, 282240⟩ })] } }
     running f 0 = true ∧ (coreOf f 0).task = some 0 ∧ 16 ≤ (coreOf f 0).puts.length ∧ placedOn f 0 0 = some 0 ∧
       readableRun (fetched (coreOf f 0) [0, 0]) 0 32 = true) := by decide +kernel

/-- Accesses that trap: a register at an odd address, beyond the foyers, and a buffer of no length or a length that is no power of two. -/
theorem witness_traps : (let s := core0 fun c => { c with a := [(0, 1), (1, 0x18000)], al := [(2, 12), (3, 2)] }
      let c := fetched (coreOf s 0) []
      running s 0 = true ∧ aOf c 0 % 4 ≠ 0 ∧ aOf c 1 % 4 = 0 ∧ 0x18000 ≤ aOf c 1 ∧ sgetC 0 c.al 0 = 0 ∧ sgetC 0 c.al 2 = 12 ∧ sgetC 0 c.al 3 = 2) ∧
    (∀ k, k < 17 → 2 ^ k ≠ 12) ∧
    (let s := core0 fun c => { c with bad := [0] }; calm 0 s = true ∧ working s 0 = true ∧ (coreOf s 0).bad.contains (coreOf s 0).pc = true) := by
  decide +kernel

/-! ### Witnesses: the Stairwell, DRAM and DMA -/

/-- A device whose task 21632 (the first bus task) is valid, at an audio flight's start. -/
def tasked : State := { setF (setF up (Reg.TASK_VALID 21632) 1) (Reg.TASK_RATE 21632) 13 with now := 17640 * 17 }

/-- A release of the first bus task in a stage: opened, its first operand waits. -/
def release (st : Stage) : Release :=
  ⟨0, 21632, 17, 17640 * 17, 17640 * 18, some (17640 * 17), (if st = .opened then .waiting else .absent) :: List.replicate 14 .absent, [], st,
    none, [], false, 0, none, []⟩

def releasing (st : Stage) : State := { tasked with stw := { stairInit with releases := [release st] } }

theorem witness_releases_open : calm 0 tasked = true ∧ taskLive tasked 21632 = true ∧ taskPeriod tasked 21632 = 17640 ∧
    tasked.now % 17640 = 0 ∧ up.now + 1 ≠ tasked.now ∧ ({ tasked with now := 1 } : State).now % 17640 ≠ 0 ∧ held.tim.flights ≠ .running ∧
    sgetC none tasked.stw.reached 21632 = none ∧ ((openOf tasked 21632).find? fun q => q.instant == tasked.now) = none ∧
    tasked.stw.overran.contains (21632, tasked.now) = false ∧ (openOf tasked 21632).length < taskDepth tasked 21632 ∧
    taskDepth tasked 21632 = 1 ∧
    (let s := { tasked with stw := { stairInit with releases := [{ release .ready with instant := 17640 * 16 }] } }
     taskDepth s 21632 ≤ (openOf s 21632).length ∧ ((openOf s 21632).find? fun q => q.instant == s.now) = none) ∧
    taskLive up 21632 = false ∧
    ((openOf (releasing .opened) 21632).find? fun q => q.instant == nextBoundary (17640 * 17) 17640) = some (release .opened) ∧
    (release .opened).ops.getD 0 .absent = .waiting ∧ up.tim.flights = .running ∧ boundaryTaken tasked tasked.now = false ∧
    sgetC none tasked.stw.reached 21632 ≠ some tasked.now ∧
    (let s := { tasked with tim := { tasked.tim with haltAt := some tasked.now } }; boundaryTaken s s.now = true) ∧
    taskOn up 21632 = false ∧
    (let s := { tasked with stw := { stairInit with lostTasks := [21632] } }; taskOn s 21632 = true ∧ taskLost s 21632 = true) := by
  decide +kernel

theorem witness_releases_run :
    (let s := releasing .ready
     let cls := getF s (Reg.TASK_CLASS 21632)
     calm 0 s = true ∧ (settle s).stw.releases = [release .ready] ∧ (engineFor (settle s) cls (release .ready)).isSome = true) ∧
    (settle up).stw.releases = [] ∧
    (let s := releasing (.staged 0)
     runningOn s (getF s (Reg.TASK_CLASS 21632)) 0 = none ∧
       (s.stw.releases.find? fun q => q.stage == .staged 0 && getF s (Reg.TASK_CLASS q.task) == getF s (Reg.TASK_CLASS 21632)).isSome = true) ∧
    (runningOf (releasing (.running 0)) 21632).isSome = true ∧ runningOf up 21632 = none ∧
    ((openOf (releasing .ready) 21632).find? fun q => q.flight == 17) = some (release .ready) ∧
    (release .ready).missed = false ∧ (release .ready).deadline < 17640 * 18 + 1 ∧ tasked.now ≤ (release .ready).deadline ∧ producerHeld (releasing (.running 0)) 21632 = false ∧
    producerHeld { up with queues := [(0, { queueInit with backlog := [⟨21632, none, [], true, .none⟩] })] } 21632 = true ∧
    producerHeld up 21632 = false ∧
    (let s := { releasing .ready with stw := { (releasing .ready).stw with missEvent := true } }
     traceTakes s 7 21632 = false ∧ s.stw.missEvent = true ∧ getF s (Reg.TASK_CLASS 21632) < 12 ∧ getF s (Reg.TASK_CLASS 21632) ≠ 8 ∧ (release .ready).task = 21632 ∧ swf resetWord s.regs = true) ∧
    (let s := setF (setF (releasing .opened) (Reg.TASK_OPK 21632) 2) (Reg.TASK_CLASS 21632) 7
     let z := settle s
     ((openOf z 21632).find? fun q => q.flight == 17) = some (release .opened) ∧ (release .opened).timeout = some (17640 * 17) ∧ 17640 * 17 ≤ z.now ∧
       ((List.range 15).filter fun n => (release .opened).ops.getD n .absent == .waiting && decide (2 ≤ opKind z 21632 n)) ≠ []) ∧
    ((openOf (settle up) 21632).find? fun q => q.flight == 17) = none := by decide +kernel

/-- Subchannel 0 running, with a write in its queue, a read in progress, and bank 0 open at row 0. -/
def dram (q r : List DramReq) : State :=
  { setF up (Reg.DRM_SUB_STAT_STATE 0) 1 with drm := { dramInit with
      accepting := true, nextId := 9, subs := [(0, { subInit with queue := q, reading := r, rows := [(0, some (0, 0))], retrain := true })] } }

def write0 : DramReq := ⟨1, 3, true, 0, 0, [5], false, 0, false⟩

theorem witness_dram_commands : calm 0 (dram [write0] []) = true ∧ subRunning up 0 = false ∧ subRunning (dram [] []) 0 = true ∧
    pick (noteDrain 0 (noteUrgency 0 (dram [] []))) 0 [] = none ∧
    pick (noteDrain 0 (noteUrgency 0 (dram [write0] []))) 0 [] = some { write0 with urgent := true } ∧
    write0.bytes.length ≠ 64 ∧ (List.replicate 64 (0 : Byte)).length = 64 ∧ (dram [write0] []).twin.resync.active = false ∧ Memory.wf (dram [] []).drm.mem = true ∧
    sgetC none (subAt (dram [] []) 0).rows 0 = some (0, 0) ∧ sgetC none (subAt (dram [] []) 0).rows 1 = none ∧
    (let s := { dram [] [] with now := 100000000 }; 0 + getF s Reg.DRM_PAGE_CFG_IDLE ≤ cycleOf s s.now) ∧
    (let s := { dram [] [] with now := 0 }; cycleOf s s.now < 0 + getF s Reg.DRM_PAGE_CFG_IDLE) := by decide +kernel

theorem witness_dram_answers : let r := { write0 with write := false }
    (subAt (dram [] [r]) 0).reading = [r] ∧ r.port ≠ 23 ∧ linePoisoned (dram [] [r]) r.line = false ∧
    r.ofs + r.bytes.length ≤ 64 ∧ addrTag (dram [] [r]) r.line ≠ addrTag (dram [] [r]) r.line + 1 ∧
    (let x := ReadOutcome.mk true [3] (addrTag (dram [] [r]) r.line) 0
     x.tag = addrTag (dram [] [r]) r.line ∧ x.lost ≠ [] ∧ x.corrected = true ∧ x.retryTag ≠ addrTag (dram [] [r]) r.line) ∧
    write0.write = true ∧ linePoisoned (dram [] [write0]) write0.line = false ∧ (subAt (dram [] [write0]) 0).reading = [write0] ∧
    (∀ f ∈ (dram [] []).drm.fences, portOwes (dram [] []) f.1 f.2 = true) ∧ (subAt (dram [] []) 0).reading = [] ∧ portOwes (dram [] [r]) 3 9 = true ∧
    portOwes (dram [] []) 3 9 = false ∧ (dram [] []).drm.fences = [] := by decide +kernel

theorem witness_dram_upkeep : let s := dram [] []
    calm 0 s = true ∧ swf resetWord s.regs = true ∧ sorted 0 s.drm.subs = true ∧ subRunning s 0 = true ∧ subRunning up 0 = false ∧
    sgetC 0 (subAt s 0).refDue 0 ≤ cycleOf s s.now ∧ sgetC 0 (subAt s 0).pulled 0 = 0 ∧
    ((subAt s 0).queue.any fun r => urgency s r (cycleOf s s.now) == 3) = false ∧
    ((subAt (dram [write0] []) 0).queue.any fun r => urgency (dram [write0] []) r (cycleOf s s.now) == 3) = true ∧
    sgetC 0 (subAt s 0).postponed 0 < getF s Reg.DRM_REFRESH_CFG_POSTPONE ∧
    0 < sgetC 0 ({ (subAt s 0) with pulled := [(0, 1)] }).pulled 0 ∧ getF s (Reg.DRM_SUB_STAT_HOT 0) = false.toNat ∧
    getF s (Reg.DRM_SUB_STAT_HOT 0) ≠ true.toNat ∧ getF s Reg.DRM_TRIM_CFG_EN ≠ 0 ∧ sorted 0 (subAt s 0).lanes = true ∧
    getF (setF s (Reg.DRM_SUB_STAT_STATE 0) 2) (Reg.DRM_SUB_STAT_STATE 0) = 2 ∧ getF s (Reg.DRM_SUB_STAT_STATE 0) ≠ 2 ∧
    (subAt s 0).trimAt + getF s Reg.DRM_TRIM_PERIOD_PERIOD ≤ ({ s with now := 1000000000 } : State).now ∧
    ({ s with now := 0 } : State).now < (subAt s 0).trimAt + getF s Reg.DRM_TRIM_PERIOD_PERIOD ∧
    getF (setF s Reg.DRM_TRIM_CFG_EN 0) Reg.DRM_TRIM_CFG_EN = 0 ∧
    (subAt s 0).scrubDue ≤ s.now ∧ s.now < { subAt s 0 with scrubDue := 1000000 }.scrubDue ∧
    (subAt s 0).scrubLine + 1 < subLines (setF s Reg.DRM_CFG_SIZE 64) ∧
    subLines s ≤ ({ (subAt s 0) with scrubLine := subLines s }).scrubLine + 1 ∧
    allSubs.any (fun c => !subQuiet s c) = false ∧ allSubs.any (fun c => !subQuiet (dram [write0] []) c) = true ∧
    s.drm.waiting = [] ∧ getF (setF s (Reg.DRM_SUB_STAT_STATE 0) 4) (Reg.DRM_SUB_STAT_STATE 0) = 4 := by decide +kernel

/-! ### Witnesses: DMA and the Undercroft -/

/-- DMA channel 0, owned by door 0, with one descriptor in its ring, with its link up. -/
def dma (ch : DmaChan) : State :=
  { [(Reg.DOR_STAT_LINK 0, 1), (Reg.DMA_CH_CFG_EN 0, 1), (Reg.DMA_CH_CFG_LOG2SIZE 0, 4), (Reg.DMA_CH_PTR_TAIL 0, 1)].foldl
      (fun s e => setF s e.1 e.2) up with dma := [(0, ch)], stw := (modemRun 22308).stw }

/-- A descriptor of 64 bytes from DRAM to a host, one without lines, and one from a host to the Undercroft. -/
def descr (lines : Nat) : DmaDesc := ⟨1, 0, 0, false, true, false, false, 7, 0x1000, 0x2000, 64, lines, 0, 64, lines, 0, false⟩

def hostDescr : DmaDesc := { descr 1 with srcKind := 0, dstKind := 2 }

theorem witness_dma : calm 0 (dma chanInit) = true ∧ ownerOf up 9 0 = some 0 ∧
    ownerOf { up with cht := { up.cht with loaded := { up.cht.loaded with records := [] } } } 9 0 = none ∧
    [3, 16].all (fun v => (writeCheck (dma chanInit) 0 (Reg.DMA_CH_PTR_TAIL 0).addr v).isNone) = true ∧ dmaSize (dma chanInit) 0 = 16 ∧
    (let s := dma { chanInit with idle := false }
     (linkUp s 0 && getF s (Reg.DMA_CH_CFG_EN 0) == 1 && !(chanOf s 0).idle && (chanOf s 0).fetched.isEmpty && (chanOf s 0).cur.isNone &&
       decide (0 < dmaWaiting s 0) && dmaSlotFree s 0) = true) ∧
    (linkUp up 0 && getF up (Reg.DMA_CH_CFG_EN 0) == 1) = false ∧
    (runningOf (dma { chanInit with fetched := [descr 1] }) (dmaTask 0)).isSome = true ∧ runningOf up (dmaTask 0) = none ∧
    descStatus (dma { chanInit with fetched := [descr 1] }) 0 (descr 1) 0 = 0 ∧ descStatus (dma { chanInit with fetched := [descr 0] }) 0 (descr 0) 0 ≠ 0 ∧
    (chanOf (dma { chanInit with cur := some hostDescr, burst := some ⟨0, 64, [], none, false⟩ }) 0).burst.isSome = true ∧
    hostDescr.srcKind = 0 ∧ hostDescr.dstKind = 2 ∧ (chanOf up 0).burst = none ∧ writeCheck up 0 (Reg.DMA_CH_CTRL_WITHDRAW 0).addr 1 = none ∧
    writeCheck (dma chanInit) 0 (Reg.DMA_CH_CFG_EN 0).addr (putBits (rget (dma chanInit) (Reg.DMA_CH_CFG_EN 0).addr) 0 0 0) = none := by
  decide +kernel

/-- Package 0 with a program in its queue, one in bank 3, or a fault; and a device without the Undercroft. -/
def ucr (f : UcrPkg → UcrPkg) : State := { up with ucr := { ucrInit with pkgs := [(0, f (pkgOf up 0))] } }

theorem witness_undercroft_channel : calm 0 up = true ∧ sorted 0 up.ucr.pkgs = true ∧ getF up Reg.CLK_PLL_STAT_UCR_ALT ≠ 1 ∧
    getF up (Reg.CLK_SW_STAT_CUR 4) ≠ 1 ∧ getF up (Reg.CLK_SW_STAT_BUSY 4) ≠ 1 ∧
    getF (setF up Reg.CLK_PLL_STAT_UCR_ALT 1) Reg.CLK_PLL_STAT_UCR_ALT = 1 ∧ getF (setF up (Reg.CLK_SW_STAT_CUR 4) 1) (Reg.CLK_SW_STAT_CUR 4) = 1 ∧
    getF (setF up (Reg.CLK_SW_STAT_BUSY 4) 1) (Reg.CLK_SW_STAT_BUSY 4) = 1 ∧
    (let s := ucr fun y => { y with queue := [⟨3, false⟩] }
     (pkgOf s 0).faulted = false ∧ ((pkgOf s 0).queue.find? fun g => (sgetC none (pkgOf s 0).busy (g.line % 16)).isNone) = some ⟨3, false⟩) ∧
    [false, true].all (fun again => let s := ucr fun y => { y with busy := [(3, some ⟨3, again⟩)] }
      sgetC none (pkgOf s 0).busy 3 == some ⟨3, again⟩ && !inKeep s) = true ∧
    sgetC none (pkgOf up 0).busy 3 = none ∧ (pkgOf (ucr fun y => { y with faulted := true }) 0).faulted = true := by decide +kernel

theorem witness_undercroft_upkeep :
    gapDue (setF (ucr fun y => { y with sinceGap := [(5, 100)] }) Reg.UCR_WEAR_CFG_GAP_INTERVAL 100) 0 5 = true ∧ gapDue up 0 5 = false ∧
    hotDue (ucr fun y => { y with hotTable := [(5, (5, hotThreshold up))] }) 0 5 = true ∧ hotDue up 0 5 = false ∧
    up.twin.resync.kept = none ∧ (pkgOf up 0).faulted = false ∧ (pkgOf (ucr fun y => { y with faulted := true }) 0).faulted = true ∧
    (let y := { pkgOf up 0 with savedAt := 0, scrubDue := 1000, calAt := 0 }
     (0 : Nat) < y.savedAt + 141120000 ∧ y.savedAt + 141120000 ≤ 200000000 ∧ 0 < y.scrubDue ∧ y.scrubDue ≤ 1000 ∧
       0 < y.calAt + getF up Reg.UCR_CAL_PERIOD_PERIOD) ∧
    (let thr := getF up Reg.UCR_CAL_CFG_CAL_THR
     0 + thr < thr + 1 ∧ 0 ≤ thr + 2 ∧ 0 < thr + 2 ∧ 0 ≤ 0 + thr) ∧
    (runningOf (modemRun 22340) 22340).any (fun r => r.exit.isNone) = true ∧
    ((setsToStore (modemRun 22340) 0).any fun z => z.recs.any trustOpen) = false ∧ otherRecordsDone (modemRun 22340) 0 16 = true ∧
    (let s := { modemRun 22340 with stw := { stairInit with releases :=
        [⟨0, 22340, 16, 0, 17640, none, [], [], .running 0, none, [], false, 0, none, []⟩,
        ⟨1, 22341, 16, 0, 17640, none, [], [], .running 1, none, [], false, 0, none, []⟩] } }
     otherRecordsDone s 0 16 = false) ∧
    (runningOf (modemRun 22348) 22348).any (fun r => r.exit.isNone) = true ∧ replayOf (modemRun 22348) 0 = none ∧
    replayOf { modemRun 22348 with ucr := { ucrInit with replays := [(0, some ⟨0, 1, 0, 0, 0, 0, 0⟩)] } } 0 = some ⟨0, 1, 0, 0, 0, 0, 0⟩ := by
  decide +kernel

/-! ### Witnesses: the pair -/

/-- A device of a pair with its link up: role, state of the pair, step. -/
def twin (role step : Nat) (p : PairState) (f : TwinUnit → TwinUnit) : State :=
  { up with cht := { up.cht with step := step, loaded := { up.cht.loaded with twinRole := role } }
            twin := f { twinInit with linkUp := true, state := p } }

theorem witness_newel_link : calm 0 (twin 1 11 .lockstep id) = true ∧ up.twin.linkUp = false ∧
    [PairState.lockstep, .withdrawn, .alone].all (fun p => calm 0 (twin 1 11 p id) && (twin 1 11 p id).twin.linkUp &&
      !(twin 1 11 p id).twin.resync.active && !(twin 1 11 p id).twin.nakDue && decide ((twin 1 11 p id).twin.replays < 64)) = true ∧
    (twin 1 11 .alone fun y => { y with nakDue := true }).twin.nakDue = true ∧
    64 ≤ (twin 1 11 .alone fun y => { y with replays := 64 }).twin.replays ∧
    (511 : BitVec 9).toNat ≠ (twinInit.rxSeq + 1) % 512 ∧ (0 : BitVec 9).toNat = (twinInit.rxSeq + 1) % 512 := by decide +kernel

theorem witness_pairing : let s := twin 1 8 .pairing id
    calm 0 s = true ∧ (twin 1 7 .pairing id).cht.step < 8 ∧ (twin 1 7 .pairing id).twin.linkUp = true ∧ 8 ≤ s.cht.step ∧ s.twin.state = .pairing ∧ s.cht.step = 8 ∧ s.twin.startFlight = none ∧ s.cht.loaded.pairDigest = [] ∧
    (isPrimary s && (2 : Fin 3).val == 2) = true ∧ ((isPrimary s && (1 : Fin 3).val == 2) || (isSecondary s && (1 : Fin 3).val == 1)) = false ∧
    isSecondary (twin 2 8 .pairing id) = true ∧ (twin 2 11 .lockstep id).twin.state = .lockstep ∧
    (let s := twin 1 8 .pairing fun y => { y with startFlight := some 16 }
     s.twin.startFlight = some 16 ∧ s.cht.step < 10 ∧ 16 * flightLen s ≤ s.now + 141120 ∧ isPrimary s = true) ∧
    (let s := twin 2 8 .pairing fun y => { y with startFlight := some 16 }
     isPrimary s = false ∧ 16 * flightLen s ≤ s.now + 141120) := by decide +kernel

theorem witness_agreement : let s := twin 1 11 .lockstep fun y => { y with unionFrom := some 0 }
    calm 0 s = true ∧ s.twin.unionFrom.isSome = true ∧ exchanges s = true ∧ s.twin.inbox = [] ∧ atCutoff s.twin.partnerIds 5 = none ∧
    atCutoff s.twin.sealed 5 = none ∧ atCutoff s.twin.partnerSeals 5 = none ∧ 5 + 5000 ≤ s.now ∧ s.now < 1000000 + 5000 ∧
    (atCutoff (twin 1 11 .lockstep fun y => { y with partnerIds := [(5, [])], sealed := [(5, [])] }).twin.partnerIds 5).isSome = true ∧
    exchanges (twin 1 11 .alone id) = false ∧ s.twin.resync.joinFlight = none ∧ (twin 1 11 .alone id).twin.state = .alone ∧
    (twin 2 11 .withdrawn id).twin.state ≠ .alone ∧ exchanges (twin 2 11 .withdrawn id) = false ∧
    ((twin 1 11 .alone fun y => { y with resync := { resyncInit with joinFlight := some 16 } }).twin.resync.joinFlight.any fun n => decide (5 + flightLen up + 4410 < n * flightLen up)) = true ∧
    (let r : Req := ⟨9, none, 0, false, false, none, .barWrite [], 0, 0⟩
     ((twin 2 11 .withdrawn fun y => { y with away := [(0, r)] }).twin.away.find? fun e => e.1 == 0 && e.2.seq == 9) = some (0, r) ∧
       ((twin 2 11 .withdrawn id).twin.away.find? fun e => e.1 == 0 && e.2.seq == 9) = none) := by decide +kernel

theorem witness_lockstep_ends : let own : GroupSum := ⟨3, 1, 2, 7⟩
    ((twin 1 11 .lockstep fun y => { y with closed := [own] }).twin.closed.find? fun y => y.group == 3) = some own ∧
    ((twin 1 11 .lockstep id).twin.closed.find? fun y => y.group == 3) = none ∧ (twin 1 11 .lockstep id).twin.state ≠ .withdrawn ∧
    writeCheck (twin 1 11 .lockstep id) 0 Reg.NWL_CTRL_WITHDRAW.addr 1 = none ∧ writeCheck up 0 Reg.NWL_CTRL_WITHDRAW.addr 1 = none ∧
    overdue (twin 1 11 .lockstep fun y => { y with closed := [own] }) (.digest 3) = true ∧ overdue up (.digest 3) = false ∧
    (let s := twin 1 11 .alone fun y => { y with failedAt := some 5, aliveSeen := some 6 }
     calm 0 s = true ∧ s.twin.failedAt = some 5 ∧ 5 + 2 * flightLen s + 17640 ≤ s.now ∧ (s.twin.aliveSeen.any fun e => decide (5 < e)) = true ∧
       ({ s with now := 5 } : State).now < 5 + 2 * flightLen s + 17640) ∧
    (twin 1 11 .alone fun y => { y with failedAt := some 5 }).twin.aliveSeen.any (fun e => decide (5 < e)) = false ∧
    up.twin.failedAt = none := by decide +kernel

/-- A withdrawn device that may join, one without its link, a source with many blocks and with few, with J named, and a joiner. -/
def sourcing (n : Nat) (j : Option Nat) : State :=
  twin 1 11 .alone fun y => { y with resync := { resyncInit with active := true, source := true, dirty := List.range n, joinFlight := j } }

theorem witness_resync : (let s := twin 2 11 .withdrawn fun y => { y with withdrawnAt := some 0 }
      calm 0 s = true ∧ canJoin s = true ∧ s.cht.step = 11 ∧ writeCheck s 0 Reg.NWL_CTRL_RESYNC.addr 2 = none ∧
        writeCheck s 0 Reg.NWL_CTRL_ABORT.addr 4 = none ∧ s.twin.resync.active = false ∧
        ({ s with now := 141120000 } : State).now ≥ 0 + 141120000 ∧ getF (setF s Reg.NWL_CFG_AUTO_RESYNC 1) Reg.NWL_CFG_AUTO_RESYNC = 1 ∧
        getF s Reg.NWL_CFG_AUTO_RESYNC ≠ 1) ∧
    canJoin up = false ∧ (sourcing 1 none).twin.resync.dirty.length ≤ 4096 ∧ calm 0 (sourcing 1 none) = true ∧
    4096 < (List.range 4097).length ∧
    (let s := sourcing 1 (some 16)
     let v : ImageUnits := ⟨[], s.stw, [], [], s.lnd, s.gal, s.dec, s.hal, s.enc, s.cip, [], s.shp, s.modem, s.ports⟩
     let k := sourcing 1 (some 16)
     s.twin.resync.kept = none ∧ { k.twin.resync with kept := some v }.kept = some v ∧
     s.twin.resync.active = true ∧ s.twin.resync.source = true ∧ s.twin.resync.joinFlight = some 16 ∧ 16 * flightLen s ≤ s.now ∧ s.now < 16 * flightLen s + 1411200000 ∧
       s.stw.releases.any (fun y => decide (y.instant < 16 * flightLen s)) = false ∧ s.twin.resync.done = false ∧
       ({ s with now := 1411200000 + 16 * 17640 } : State).now ≥ 16 * flightLen s + 1411200000) ∧
    (modemRun 0).stw.releases.any (fun y => decide (y.instant < 16 * 17640)) = true ∧
    (twin 2 11 .copying id).twin.state = .copying ∧ (twin 2 11 .copying id).twin.resync.joinFlight = none ∧
    (twin 1 11 .alone id).twin.resync.active = false ∧ (twin 2 11 .shadowing id).twin.state = .shadowing := by decide +kernel

/-! ### Witnesses: clocks, power, events and JTAG -/

/-- Every PLL locked. -/
def locked (mask : Nat) : State := setF held Reg.CLK_PLL_STAT_LOCK mask

theorem witness_clocks : calm 0 (locked 255) = true ∧ swf resetWord (locked 255).regs = true ∧
    (windowPasses 0 4096 && windowPasses 1 6400 && windowPasses 2 3277) = true ∧ sourceFails (locked 255) 0 = false ∧ sourceFails (locked 255) 1 = false ∧
    getF (locked 255) Reg.CLK_PLL_STAT_LOCK / 2 ^ 3 % 2 = 1 ∧ getF (locked 255) Reg.CLK_PLL_STAT_LOCK / 2 ^ 4 % 2 = 1 ∧
    getF (locked 15) Reg.CLK_PLL_STAT_LOCK / 2 ^ 3 % 2 = 1 ∧ getF (locked 15) Reg.CLK_PLL_STAT_LOCK / 2 ^ 4 % 2 = 0 ∧
    writeCheck (locked 255) 0 (Reg.CLK_SEL_SRC 0).addr 1 = none ∧ writeCheck up 0 (Reg.CLK_SEL_SRC 0).addr 1 = none ∧
    writeCheck (locked 255) 0 (Reg.CLK_SEL_SRC 0).addr 0 = none ∧ writeCheck (locked 254) 0 (Reg.CLK_SEL_SRC 0).addr 0 = none ∧
    getF (locked 254) Reg.CLK_PLL_STAT_LOCK / 2 ^ 0 % 2 = 0 ∧ getF (locked 247) Reg.CLK_PLL_STAT_LOCK / 2 ^ 3 % 2 = 0 ∧
    sourceFails (setF (locked 255) (Reg.CLK_MON_STAT_FAIL 0) 1) 0 = true ∧
    (locked 255).tim.flights = .stopped ∧ up.tim.flights = .running ∧
    writeCheck up 0 Reg.CLK_OBS_SRC.addr 3 = none ∧ sgetC none held.clk.switchTo 0 = none ∧ getF held (Reg.CLK_SW_STAT_CUR 0) ≠ 1 ∧
    sgetC none ({ clockInit with switchTo := [(0, some 1)] }).switchTo 0 = some 1 ∧
    sgetC none ({ clockInit with switchTo := [(0, some 1)] }).switchNext 0 = none := by decide +kernel

/-- Gates open and closed, fixed, with open children, in use, and held. -/
theorem witness_gates : calm 0 up = true ∧ [1, 2].all (fun v => (writeCheck up 0 (Reg.CLK_GATE_CMD 8).addr v).isNone &&
      (writeCheck up 0 (Reg.CLK_GATE_CMD 32).addr v).isNone && (writeCheck up 0 (Reg.CLK_GATE_CMD 20).addr v).isNone) = true ∧
    gateExists 8 = true ∧ gateExists 20 = false ∧ (gatePlace 8).2 = 1 ∧ (gatePlace 0).2 = 0x7F ∧ gateOpen up 1 = true ∧
    gateOpen (setF up (Reg.CLK_GATE_OPEN 1) 0) 1 = false ∧ ((gateChildren 8).any (gateOpen up)) = true ∧ ((gateChildren 32).any (gateOpen up)) = false ∧
    gateInUse up 32 = false ∧ gateInUse up 56 = true ∧
    (let s := { up with clk := { clockInit with held := [(32, up.now)] } }
     (s.clk.held.find? fun h => h.1 == 32) = some (32, up.now) ∧ s.now < up.now + busyTreads s ∧
       up.now + busyTreads s ≤ ({ s with now := s.now + 10000 } : State).now) ∧ up.clk.held.any (fun h => h.1 == 32) = false := by decide +kernel

/-- Power states: run with flights, Hold, Keep with an enabled wake pin, waking with PWR_GOOD low. -/
theorem witness_power : calm 0 up = true ∧ [0, 1, 2].all (fun v => (writeCheck up 0 Reg.PWR_CTRL_TARGET.addr v).isNone &&
      (writeCheck { up with epoch := epochInit } 0 Reg.PWR_CTRL_TARGET.addr v).isNone) = true ∧
    0 < up.epoch.newest ∧ up.clk.power = .run ∧ up.twin.state ≠ .lockstep ∧ up.tim.flights = .running ∧ 0 < flightLen up ∧
    (let s := { up with clk := { clockInit with power := .hold } }
     calm 0 s = true ∧ writeCheck s 0 Reg.PWR_CTRL_TARGET.addr 0 = none ∧ 0 < s.epoch.newest ∧ s.clk.power = .hold ∧
       sourceFails s 0 = false ∧ sourceFails s 1 = false ∧ sourceFails (setF s (Reg.CLK_MON_STAT_FAIL 1) 1) 1 = true) ∧
    (let s := setF { up with clk := { clockInit with power := .keep } } Reg.PWR_WAKE_CFG_PIN_EN 1
     calm 0 s = true ∧ inKeep s = true ∧ s.clk.power = .keep ∧ getF s Reg.PWR_WAKE_CFG_PIN_EN = 1) ∧ inKeep up = false ∧
    (let s := { up with clk := { clockInit with power := .waking, wakeAt := 0 } }
     calm 0 s = true ∧ s.pins.pwrGood = false ∧ s.now < 0 + 14112000 ∧ 0 + 14112000 ≤ ({ s with now := 14112000 } : State).now) := by decide +kernel

theorem witness_event_commands : writeCheck up 0 Reg.EVT_TEST_EVENT.addr 0x20 = none ∧ writeCheck up 0 (blockBase .clk + 0x10) 1 = none ∧
    [0, 0x80000000].all (fun v => (writeCheck up 0 (blockBase .clk + 0x20) v).isNone) = true ∧ writeCheck up 0 Reg.EVT_ALERT_ACTIVE.addr 1 = none ∧
    (up.evt.log.find? fun y => y.err.block == .clk && !y.first) = none ∧
    (let l : LogEntry := ⟨⟨.clk, 2, 3, true, 0, 0, 0⟩, false, 1⟩
     ([l].find? fun y => y.err.block == .clk && !y.first) = some l) ∧
    inKeep { up with clk := { clockInit with power := .keep } } = true ∧ inKeep up = false ∧ railsGone up = false ∧
    railsGone { up with pins := { up.pins with tripped := true, pwrGood := false } } = true ∧
    (1 ≤ (5 : Fin 8).val ∧ (5 : Fin 8).val ≤ 5 ∧ ((8 : Fin 16).val = 1 ∨ (8 : Fin 16).val = 2 ∨ (8 : Fin 16).val = 4 ∨ (8 : Fin 16).val = 8)) ∧
    ¬ ((6 : Fin 8).val ≤ 5) := by decide +kernel

end Sys2Proof.Tests
end

