-- ==== Sys2Proof/Tests/Words.lean ====
section
/-! SUPPORT. Words of program memory written out bit by bit from Table 7 of Landing cores, with the instruction each stands for. -/

namespace Sys2Proof.Tests

-- One theorem at a time: each waits for all before it, and many waiting threads exhaust the memory.
set_option Elab.async false

open Sys2Proof.Machine

/-! ### Words of program memory, written out from Table 7 of Landing cores -/

/-- Class 0: CLASS, FUNC 0x03, D 1, S 2, T 3, zero. -/
theorem test_words_class_0 :
    decodeLanding 0 5 0b0000_000011_0001_0010_0011_0000000000#32 = some (.subs 0 5 1 2 3) ∧
    decodeLanding 0 5 0b0000_001110_0001_0010_0000_0000000000#32 = some (.abs 0 5 1 2) ∧
    decodeLanding 0 5 0b0000_000011_0001_0010_0011_0000000001#32 = none := by decide +kernel

/-- Class 1: CLASS, FUNC 8 and 7, D, S, IMM. -/
theorem test_words_class_1 :
    decodeLanding 0 5 0b0001_1000_0000_0010_1111111111111110#32 = some (.cmpi 0 5 2 0xFFFE) ∧
    decodeLanding 0 5 0b0001_0111_0011_0000_0000000000000101#32 = some (.lui 0 5 3 5) := by decide +kernel

/-- Class 2: CLASS, OP 5, G 9, A 2, AMODE 4, DISP. -/
theorem test_words_class_2 :
    decodeLanding 0 5 0b0010_101_1001_10_100_0000000000000110#32 = some (.ldhh 0 5 9 2 4 6 []) ∧
    decodeLanding 0 5 0b0010_011_0001_11_001_0000000000000000#32 = some (.sth 0 5 1 3 1 0) := by decide +kernel

/-- Class 3: CLASS, FUNC 1, ACC 2, S 3, SH 1, T 4, TH 0, zero; FUNC 4, ACC 1, X 2, Y 3, MODE_X 5, MODE_Y 6, zero. -/
theorem test_words_class_3 :
    decodeLanding 0 5 0b0011_0001_10_0011_1_0100_0_000000000000#32 = some (.mac 0 5 2 3 true 4 false) ∧
    decodeLanding 0 5 0b0011_0100_01_10_11_101_110_000000000000#32 = some (.msum 0 5 1 2 3 5 6 [] []) := by decide +kernel

/-- Class 4: CLASS, FUNC 5 and 7, ACC, ACC2, G, A, AMODE, zero, SHIFT. -/
theorem test_words_class_4 :
    decodeLanding 0 5 0b0100_0101_01_00_0000_10_011_000_00000000#32 = some (.stah 0 5 1 2 3) ∧
    decodeLanding 0 5 0b0100_0111_11_00_0000_00_000_000_11100000#32 = some (.sha 0 5 3 0xE0) := by decide +kernel

/-- Class 5: CLASS, ACC 1, A 2, CIRC 1, SUB 0, zero. -/
theorem test_words_class_5 :
    decodeLanding 0 5 0b0101_01_10_1_0_0000000000000000000000#32 = some (.tap 0 5 1 2 true false []) := by decide +kernel

/-- Class 6: CLASS, FUNC 1, COND 10, G, IMM; RPT; EXIT. -/
theorem test_words_class_6 :
    decodeLanding 0 5 0b0110_0001_1010_0000_0001000000000001#32 = some (.br 0 5 10 0x1001) ∧
    decodeLanding 0 5 0b0110_0100_0000_0000_0000000000000011#32 = some (.rpt 0 5 3) ∧
    decodeLanding 0 5 0b0110_0110_0000_0000_0000000000000111#32 = some (.exit 0 5 7) := by decide +kernel

/-- Class 7: CLASS, FUNC 1 and 5, A, G, zero, IMM. -/
theorem test_words_class_7 :
    decodeLanding 0 5 0b0111_001_00_0000_00_00010000000000110#32 = some (.setAImmediate 0 5 0 0x2006) ∧
    decodeLanding 0 5 0b0111_101_11_0110_00_00000000000000000#32 = some (.setGFromA 0 5 3 6) := by decide +kernel

/-- Class 8: CLASS, FUNC 3, G, T 2, A 1, IMM 64. -/
theorem test_words_class_8 :
    decodeLanding 0 5 0b1000_0011_0000_0010_01_00000001000000#32 = some (.puto 0 5 2 1 64 []) := by decide +kernel

/-- Class 9: CLASS, FUNC 1, G 4, zero, SPR 1. -/
theorem test_words_class_9 :
    decodeLanding 0 5 0b1001_0001_0100_000000000000_00000001#32 = some (.mts 0 5 4 1) := by decide +kernel

/-- CLASS 10 to 15 are not encodings. -/
theorem test_words_class_ten :
    decodeLanding 0 5 0b1010_0000000000000000000000000000#32 = none := by decide +kernel

end Sys2Proof.Tests
end

section
/-! SUPPORT. Writes of CHT_RESET: a bus write of a word with a row of its own is that row, and the judgement of R97. -/

namespace Sys2Proof.Machine

/-! ### A bus write of a word that has a row of its own -/

/-- What a command leaves on a calm device depends only on what it does to the state at its instant. -/
theorem after_congr_of_calm {t : Nat} {s : State} {f g : State → State} (h : calm t s = true)
    (hfg : f (arriveAt t s) = g (arriveAt t s)) : after t f s = after t g s := by
  unfold after actAt
  rw [traceFlush_quiet (quiet_arriveAt.trans (calm_quiet h)), warmDue_calm h, hfg]

theorem writeBus_of_rowWrite {d a : Nat} {v : Word} {f : State → State} (hs : wordStages a = false)
    (hr : rowWrite d a v = some f) (s : State) : writeBus d a v s = f s := by
  simp [writeBus, stages, busWrite32, hs, hr]

theorem barAccess_bar0_word {d off : Nat} (h : off % 4 = 0) (v : BitVec 64) (s : State) :
    barAccess d .bar0 off .word v s = writeBus d off (v.setWidth 32) s := by
  simp [barAccess, accessAligned, codedAddr, h]

theorem busWrite_of_writeCheck {d a : Nat} {v : Word} {s : State} (h : writeCheck s d a v = none) (f : State → State) :
    busWrite d a v f s = f s := by
  rw [busWrite, h]

/-! ### The fields of CHT_RESET -/

theorem bitsOf_single_eq_one_iff (v : Word) (i : Nat) : bitsOf v i i = 1 ↔ v.getLsbD i = true := by
  rw [bitsOf, show i + 1 - i = 1 by omega, BitVec.getLsbD, Nat.testBit_eq_decide_div_mod_eq, decide_eq_true_iff, Nat.pow_one]

theorem toNat_extractLsb'_eq_bitsOf (v : Word) (lo n : Nat) : (v.extractLsb' lo (n + 1)).toNat = bitsOf v (lo + n) lo := by
  rw [bitsOf, BitVec.extractLsb'_toNat, Nat.shiftRight_eq_div_pow, show lo + n + 1 - lo = n + 1 by omega]

theorem wordStages_chtReset : wordStages 0x400150 = false := by decide

theorem rowWrite_chtReset (d : Nat) (v : Word) : rowWrite d 0x400150 v = some (chtReset d v) := by
  have h1 : ¬ ((0x400150 : Nat) < 0x4000000 ∧ (0x400150 : Nat) = blockBase (blockOf 0x400150) + 0x10) := by decide
  have h2 : ¬ ((0x400150 : Nat) < 0x4000000 ∧ (0x400150 : Nat) = blockBase (blockOf 0x400150) + 0x20) := by decide
  rw [rowWrite, if_neg h1, if_neg h2, if_neg (by decide), if_neg (by decide)]

/-! ### The judgement (R97) -/

/-- Door d's write of v to CHT_RESET, its check passed: the four reasons to drop it in R97's order, then what it asks for. -/
def judgeReset (d : Nat) (v : Word) (s : State) : State :=
  let warm := v.getLsbD 0 = true
  let door := v.getLsbD 1 = true
  let target := (v.extractLsb' 2 2).toNat
  let owner := d = devOwner s
  if warm ∧ ¬ owner then partitionError .cht d s
  else if warm ∧ owner ∧ s.epoch.newest = 0 then configError .cht d s
  else if door ∧ target ≠ d ∧ ¬ owner then partitionError .cht d s
  else if door ∧ doorEnabled s target = false then configError .cht d s
  else if warm then askWarm s
  else if door then resetDoor target s
  else s

theorem chtReset_eq_judgeReset {s : State} {d : Nat} {v : Word} (h : writeCheck s d 0x400150 v = none) :
    chtReset d v s = judgeReset d v s := by
  have hb := busWrite_of_writeCheck h
  rw [chtReset, show Reg.CHT_RESET_WARM.addr = 0x400150 from rfl, hb]
  simp only [judgeReset, bitsOf_single_eq_one_iff, toNat_extractLsb'_eq_bitsOf v 2 1, Bool.not_eq_true']
  by_cases h1 : v.getLsbD 0 = true ∧ ¬ d = devOwner s
  · exact (if_pos h1).trans (if_pos h1).symm
  · have owned : v.getLsbD 0 = true ∧ d = devOwner s ∧ s.epoch.newest = 0 ↔ v.getLsbD 0 = true ∧ s.epoch.newest = 0 :=
      ⟨fun ⟨hw, _, hn⟩ => ⟨hw, hn⟩, fun ⟨hw, hn⟩ => ⟨hw, Decidable.not_not.1 fun ho => h1 ⟨hw, ho⟩, hn⟩⟩
    refine (if_neg h1).trans (.trans ?_ (if_neg h1).symm)
    simp only [owned, ne_eq]

/-- A write of CHT_RESET that passes its check leaves what the judgement leaves. -/
theorem exec_registerWrite_chtReset {s : State} {t : Nat} {d : Fin 4} {v : BitVec 64} {f : State → State} (hc : calm t s = true)
    (h : writeCheck (arriveAt t s) d 0x400150 (v.setWidth 32) = none)
    (hf : judgeReset d (v.setWidth 32) (arriveAt t s) = f (arriveAt t s)) :
    exec (.registerWrite t d .bar0 0x400150 .word v) s = .next (after t f s) := by
  refine (acts_after t _ s).trans (congrArg _ (after_congr_of_calm hc ?_))
  calc barAccess d .bar0 0x400150 .word v (arriveAt t s)
      = writeBus d 0x400150 (v.setWidth 32) (arriveAt t s) := barAccess_bar0_word rfl v _
    _ = chtReset d (v.setWidth 32) (arriveAt t s) := writeBus_of_rowWrite wordStages_chtReset (rowWrite_chtReset _ _) _
    _ = judgeReset d (v.setWidth 32) (arriveAt t s) := chtReset_eq_judgeReset h
    _ = f (arriveAt t s) := hf

/-- Settles O21: the write is the judgement of R97, and each clause takes one branch of it. -/
theorem resetWrites : Obligations.ResetWrites := by
  intro s t d v hc w warm door target owner does drop1 drop2 drop3 drop4 h
  have taken : ∀ {f : State → State}, judgeReset d w (arriveAt t s) = f (arriveAt t s) → does f :=
    exec_registerWrite_chtReset hc h
  refine ⟨fun h1 => taken (if_pos h1), fun h2 => taken ?_, fun n1 n2 h3 => taken ?_, fun n1 n2 n3 h4 => taken ?_,
    fun n1 n2 n3 n4 hw => taken ?_, fun n1 n2 n3 n4 nw hd => taken ?_, fun nw nd => taken ?_⟩
  · have n1 : ¬ drop1 := fun h1 => h1.2 h2.2.1
    exact (if_neg n1).trans (if_pos h2)
  · exact (if_neg n1).trans <| (if_neg n2).trans (if_pos h3)
  · exact (if_neg n1).trans <| (if_neg n2).trans <| (if_neg n3).trans (if_pos h4)
  · exact (if_neg n1).trans <| (if_neg n2).trans <| (if_neg n3).trans <| (if_neg n4).trans (if_pos hw)
  · exact (if_neg n1).trans <| (if_neg n2).trans <| (if_neg n3).trans <| (if_neg n4).trans <| (if_neg nw).trans (if_pos hd)
  · have n1 : ¬ drop1 := fun h1 => nw h1.1
    have n2 : ¬ drop2 := fun h2 => nw h2.1
    have n3 : ¬ drop3 := fun h3 => nd h3.1
    have n4 : ¬ drop4 := fun h4 => nd h4.1
    exact (if_neg n1).trans <| (if_neg n2).trans <| (if_neg n3).trans <| (if_neg n4).trans <| (if_neg nw).trans (if_neg nd)

end Sys2Proof.Machine
end

section
/-! SUPPORT. Special registers: what MFS and MTS of a running core leave at each index of Table 4. -/

namespace Sys2Proof.Machine

/-! ### Special registers (R181) -/

theorem exec_mfs {s : State} {t : Nat} {n : Fin 512} (hc : calm t s = true) (hr : running s n = true) (g : Fin 16) (spr : BitVec 8) :
    exec (.mfs t n g spr) s = .next (setCore n (setG g (specialReg (fetched (coreOf s n) []) spr.toNat)
      (fetched (coreOf s n) [])) (arriveAt t s)) := acts_pure hc hr

theorem exec_mts {s : State} {t : Nat} {n : Fin 512} (hc : calm t s = true) (hr : running s n = true) (g : Fin 16) (spr : BitVec 8) :
    exec (.mts t n g spr) s = .next (setCore n (writeSpecial spr.toNat (gOf (fetched (coreOf s n) [(g : Nat)]) g)
      (fetched (coreOf s n) [(g : Nat)])) (arriveAt t s)) := acts_pure hc hr

/-- SR bit by bit (Table 3): its number is the concatenation of its fields. -/
theorem srWord_eq_append {c : Core} (h : c.sm < 8) : srWord c =
    0#22 ++ BitVec.ofBool c.poison ++ BitVec.ofBool c.sat ++ BitVec.ofBool c.rnd ++ BitVec.ofNat 3 c.sm ++
      BitVec.ofBool c.v ++ BitVec.ofBool c.c ++ BitVec.ofBool c.n ++ BitVec.ofBool c.z := by
  apply BitVec.eq_of_toNat_eq
  have hsm : c.sm % 2 ^ 3 = c.sm := Nat.mod_eq_of_lt h
  have hb (b : Bool) : b.toNat < 2 ^ 1 := Bool.toNat_lt b
  simp only [srWord, BitVec.toNat_append, BitVec.toNat_ofBool, BitVec.toNat_ofNat, hsm]
  rw [← Nat.shiftLeft_add_eq_or_of_lt (hb _), ← Nat.shiftLeft_add_eq_or_of_lt (hb _), ← Nat.shiftLeft_add_eq_or_of_lt (hb _),
    ← Nat.shiftLeft_add_eq_or_of_lt (hb _), ← Nat.shiftLeft_add_eq_or_of_lt (show c.sm < 2 ^ 3 from h),
    ← Nat.shiftLeft_add_eq_or_of_lt (hb _), ← Nat.shiftLeft_add_eq_or_of_lt (hb _), ← Nat.shiftLeft_add_eq_or_of_lt (hb _)]
  simp only [Nat.shiftLeft_eq]
  have := hb c.z; have := hb c.n; have := hb c.c; have := hb c.v; have := hb c.rnd; have := hb c.sat; have := hb c.poison
  omega

section
variable {c : Core} {w : Word} {i : Nat}

theorem specialReg_ab (h : 4 ≤ i) (h' : i < 8) : specialReg c i = BitVec.ofNat 32 (sgetC 0 c.ab (i - 4)) := by
  simp (disch := omega) only [specialReg, if_pos, if_neg]

theorem specialReg_al (h : 8 ≤ i) (h' : i < 12) : specialReg c i = BitVec.ofNat 32 (sgetC 0 c.al (i - 8)) := by
  simp (disch := omega) only [specialReg, if_pos, if_neg]

theorem specialReg_am (h : 12 ≤ i) (h' : i < 16) : specialReg c i = BitVec.ofNat 32 (sgetC 0 c.am (i - 12)) := by
  simp (disch := omega) only [specialReg, if_pos, if_neg]

/-- An index above Table 4 reads 0. -/
theorem specialReg_unlisted (h : 19 ≤ i) : specialReg c i = 0 := by
  simp (disch := omega) only [specialReg, if_neg]
  rfl

theorem toNat_mod_131072 (w : Word) : w.toNat % 131072 = (w.extractLsb' 0 17).toNat :=
  (BitVec.extractLsb'_toNat 0 17 w).symm

theorem toNat_mod_32768 (w : Word) : w.toNat % 32768 = (w.extractLsb' 0 15).toNat :=
  (BitVec.extractLsb'_toNat 0 15 w).symm

theorem writeSpecial_sr : writeSpecial 0 w c = { c with
    z := w.getLsbD 0, n := w.getLsbD 1, c := w.getLsbD 2, v := w.getLsbD 3, sm := (w.extractLsb' 4 3).toNat, rnd := w.getLsbD 7
    sat := w.getLsbD 8, poison := c.poison || w.getLsbD 9 } := by
  rw [toNat_extractLsb'_eq_bitsOf w 4 2]
  rfl

theorem writeSpecial_cp : writeSpecial 1 w c = { c with cp := (w.extractLsb' 0 15).toNat } := by
  have narrow : w.toNat % 131072 % 32768 = w.toNat % 32768 := Nat.mod_mod_of_dvd _ (by decide)
  rw [← toNat_mod_32768, ← narrow]
  rfl

theorem writeSpecial_ab (h : 4 ≤ i) (h' : i < 8) :
    writeSpecial i w c = { c with ab := ssetC 0 c.ab (i - 4) (w.extractLsb' 0 17).toNat } := by
  rw [← toNat_mod_131072]
  exact (if_neg (by omega)).trans <| (if_neg (by omega)).trans <| if_pos ⟨h, h'⟩

theorem writeSpecial_al (h : 8 ≤ i) (h' : i < 12) :
    writeSpecial i w c = { c with al := ssetC 0 c.al (i - 8) (w.extractLsb' 0 17).toNat } := by
  rw [← toNat_mod_131072]
  exact (if_neg (by omega)).trans <| (if_neg (by omega)).trans <| (if_neg (by omega)).trans <| if_pos ⟨h, h'⟩

theorem writeSpecial_am (h : 12 ≤ i) (h' : i < 16) :
    writeSpecial i w c = { c with am := ssetC 0 c.am (i - 12) (w.extractLsb' 0 17).toNat } := by
  rw [← toNat_mod_131072]
  exact (if_neg (by omega)).trans <| (if_neg (by omega)).trans <| (if_neg (by omega)).trans <|
    (if_neg (by omega)).trans <| if_pos ⟨h, h'⟩

/-- LC, the depth of the call stack and the indexes from 16 on take no write. -/
theorem writeSpecial_ignored (h : i = 2 ∨ i = 3 ∨ 16 ≤ i) : writeSpecial i w c = c := by
  simp (disch := omega) only [writeSpecial, if_neg]

end

/-- Settles O40: an MFS leaves its index's value, an MTS its index's write, and each clause is one index of Table 4. -/
theorem specialRegisters : Obligations.SpecialRegisters := by
  intro s t n g spr hc hr c c1 w i reads writes
  have read {v : Word} (h : specialReg c i = v) : reads v := h ▸ exec_mfs hc hr g spr
  have write {c' : Core} (h : writeSpecial i w c1 = c') : writes c' := h ▸ exec_mts hc hr g spr
  have readAt {k : Nat} {v : Word} (hi : i = k) (h : specialReg c k = v) : reads v := read (hi ▸ h)
  exact ⟨fun hi hsm => readAt hi (srWord_eq_append hsm), fun hi => readAt hi rfl, fun hi => readAt hi rfl, fun hi => readAt hi rfl,
    fun h h' => read (specialReg_ab h h'), fun h h' => read (specialReg_al h h'), fun h h' => read (specialReg_am h h'),
    fun hi => readAt hi rfl, fun hi => readAt hi rfl, fun hi => readAt hi rfl, fun h => read (specialReg_unlisted h),
    fun hi => write (hi ▸ writeSpecial_sr), fun hi => write (hi ▸ writeSpecial_cp),
    fun h h' => write (writeSpecial_ab h h'), fun h h' => write (writeSpecial_al h h'), fun h h' => write (writeSpecial_am h h'),
    fun h => write (writeSpecial_ignored h)⟩

end Sys2Proof.Machine
end

section
/-! SUPPORT. The call stack and the filter tap: faults of a running core, halfwords of its memory, and the steps of a TAP. -/

namespace Sys2Proof.Machine

/-! ### Faults, the call stack and the wrap of PC (R191, R202) -/

/-- A calm instruction whose body stops at a program fault before it changes anything: its core has fetched, and its task faults. -/
theorem acts_fault {t n cls cause : Nat} {reads : List Nat} {body : Nat → State → Done} {s : State} (hc : calm t s = true)
    (hr : running s n = true) (hb : body 0 (setCore n (fetched (coreOf s n) reads) (arriveAt t s)) =
      (some cause, setCore n (fetched (coreOf s n) reads) (arriveAt t s))) :
    acts t (coreInstr n cls reads body) s =
      .next (after t (fun x => programFault n (coreOf s n).pc cause (setCore n (fetched (coreOf s n) reads) x)) s) :=
  (acts_after t _ s).trans (congrArg _ (after_congr_of_calm hc (coreInstr_fault (running_arriveAt.trans hr) hb)))

/-- A running core that has fetched still runs its task. -/
theorem fetched_task {s : State} {n : Nat} (hr : running s n = true) (reads : List Nat) :
    (fetched (coreOf s n) reads).task.isSome = true := (running_iff.1 hr).1

section
variable {s : State} {t : Nat} {n : Fin 512} (hc : calm t s = true) (hr : running s n = true)
include hc hr

theorem exec_call_of_full (target : BitVec 13) (h : 8 ≤ (coreOf s n).stack.length) :
    exec (.call t n target) s =
      .next (after t (fun x => programFault n (coreOf s n).pc 4 (setCore n (fetched (coreOf s n) []) x)) s) := by
  refine acts_fault hc hr ?_
  simp only [coreOf_setCore (fetched_task hr [])]
  exact if_pos h

theorem exec_ret_of_empty (h : (coreOf s n).stack = []) : exec (.ret t n) s =
    .next (after t (fun x => programFault n (coreOf s n).pc 4 (setCore n (fetched (coreOf s n) []) x)) s) := by
  have hf : (fetched (coreOf s n) []).stack = [] := h
  refine acts_fault hc hr ?_
  simp only [coreOf_setCore (fetched_task hr []), hf]

theorem exec_nop : exec (.nopInstruction t n) s = .next (setCore n (fetched (coreOf s n) []) (arriveAt t s)) :=
  acts_core hc hr rfl ⟨rfl, rfl, rfl, rfl, rfl⟩ rfl

end

/-- Settles O37: CALL and RET meet cause 4 at the two ends of the stack, and a NOP leaves the fetched core, whose PC counts modulo 8,192. -/
theorem callDepth : Obligations.CallDepth := by
  intro s t n target hc hr c traps
  have core : coreOf (setCore n c (arriveAt t s)) n = c := coreOf_setCore (fetched_task hr [])
  refine ⟨fun h => exec_call_of_full hc hr target (Nat.le_of_eq h.symm), fun h => exec_ret_of_empty hc hr h,
    fun h => ⟨_, exec_nop hc hr, ?_, ?_⟩, fun h => ⟨_, exec_nop hc hr, ?_⟩⟩
  · calc (coreOf (setCore n c (arriveAt t s)) n).pc
        = ((coreOf s n).pc + 1) % 8192 := congrArg Core.pc core
      _ = 0 := by rw [h]
  · exact congrArg (setCore n · (arriveAt t s)) core.symm
  · calc (coreOf (setCore n c (arriveAt t s)) n).pc
        = ((coreOf s n).pc + 1) % 8192 := congrArg Core.pc core
      _ = (coreOf s n).pc + 1 := Nat.mod_eq_of_lt (by omega)

/-! ### Halfwords of a memory word -/

/-- The halfword of a word at a byte address, as 16 bits: `halfOf` is its number. -/
def halfAt (w : Word) (addr : Nat) : BitVec 16 := if addr % 4 = 2 then w.extractLsb' 16 16 else w.extractLsb' 0 16

/-- A word with one halfword replaced. -/
def withHalf (w : Word) (addr : Nat) (h : BitVec 16) : Word :=
  if addr % 4 = 2 then h ++ w.extractLsb' 0 16 else w.extractLsb' 16 16 ++ h

theorem toSigned_16_toNat (h : BitVec 16) : toSigned 16 h.toNat = h.toInt := by
  have := h.isLt
  rw [toSigned, Nat.mod_eq_of_lt h.isLt, BitVec.toInt_eq_toNat_cond]
  split <;> split <;> omega

theorem ofSigned_16_toInt (h : BitVec 16) : ofSigned 16 h.toInt = h.toNat := by
  have := h.isLt
  rw [ofSigned, BitVec.toInt_eq_toNat_cond]
  split <;> omega

theorem toNat_halfAt (w : Word) (addr : Nat) : (halfAt w addr).toNat = halfOf w addr := by
  have := w.isLt
  unfold halfAt halfOf
  split
  · rw [BitVec.extractLsb'_toNat, Nat.shiftRight_eq_div_pow, Nat.mod_eq_of_lt (by omega)]
  · rw [BitVec.extractLsb'_toNat, Nat.shiftRight_zero]

theorem toSigned_halfOf (w : Word) (addr : Nat) : toSigned 16 (halfOf w addr) = (halfAt w addr).toInt := by
  rw [← toNat_halfAt, toSigned_16_toNat]

theorem putBits_high_half (w : Word) (h : BitVec 16) : putBits w 31 16 h.toNat = h ++ w.extractLsb' 0 16 := by
  apply BitVec.eq_of_toNat_eq
  have := w.isLt
  have := h.isLt
  rw [BitVec.toNat_append, ← Nat.shiftLeft_add_eq_or_of_lt (BitVec.isLt _), BitVec.extractLsb'_toNat, Nat.shiftLeft_eq,
    Nat.shiftRight_zero, putBits, bitsOf, BitVec.toNat_ofNat]
  omega

theorem putBits_low_half (w : Word) (h : BitVec 16) : putBits w 15 0 h.toNat = w.extractLsb' 16 16 ++ h := by
  apply BitVec.eq_of_toNat_eq
  have := w.isLt
  have := h.isLt
  rw [BitVec.toNat_append, ← Nat.shiftLeft_add_eq_or_of_lt h.isLt, BitVec.extractLsb'_toNat, Nat.shiftLeft_eq,
    Nat.shiftRight_eq_div_pow, putBits, bitsOf, BitVec.toNat_ofNat]
  omega

/-! ### Data memory that a load reads whole (R183, R186) -/

theorem readable_iff {c : Core} {w : Nat} :
    readable c w = true ↔ (inScratch w = true → c.scratch.contains w = true) ∧ sgetC false c.poisoned w = false := by
  cases h : inScratch w <;> simp [readable, h]

section
variable {n w : Nat} {s : State}

theorem touchScratch_of_readable (h : readable (coreOf s n) w = true) : touchScratch n w s = s := by
  obtain ⟨hs, -⟩ := readable_iff.1 h
  refine if_neg fun ⟨hi, hn⟩ => ?_
  rw [hs hi] at hn
  exact absurd hn (by decide)

/-- A load that meets no error of a word it reads whole changes nothing. -/
theorem readMem_of_readable (h : readable (coreOf s n) w = true) : readMem n w 0 s = (sgetC 0 (coreOf s n).mem w, s) := by
  have hp := (readable_iff.1 h).2
  simp [readMem, touchScratch_of_readable h, hp]

/-- A core with the halfword h in its memory; the rest of its word stays. -/
def halfIn (addr : Nat) (h : BitVec 16) (c : Core) : Core :=
  { c with mem := ssetC 0 c.mem (addr / 4) (withHalf (sgetC 0 c.mem (addr / 4)) addr h) }

variable {c : Core} {addr : Nat}

theorem readHalf_setCore (ht : c.task.isSome = true) (h : readable c (addr / 4) = true) : readHalf n addr 0 (setCore n c s) =
    ((halfAt (sgetC 0 c.mem (addr / 4)) addr).toInt, setCore n c s) := by
  rw [readHalf, readMem_of_readable (by rwa [coreOf_setCore ht]), toSigned_halfOf, coreOf_setCore ht]

theorem writeHalf_setCore (ht : c.task.isSome = true) (h : readable c (addr / 4) = true) (v : BitVec 16) :
    writeHalf n addr v.toNat (setCore n c s) = setCore n (halfIn addr v c) s := by
  rw [writeHalf, touchScratch_of_readable (by rwa [coreOf_setCore ht]), coreOf_setCore ht, putBits_high_half, putBits_low_half,
    setCore_setCore ht]
  rfl

end

/-! ### Accumulators (R189) -/

theorem satTo_40 (x : Int) : satTo 40 x = sat40 x := by
  unfold satTo sat40
  split
  · omega
  · split <;> omega

theorem sat40_eq_self_iff {x : Int} : sat40 x = x ↔ fits40 x = true := by
  simp only [fits40, Bool.and_eq_true, decide_eq_true_eq]
  unfold sat40
  split
  · omega
  · split <;> omega

/-- A write of an accumulator clamps to 40 bits, and SAT notes that it had to. -/
theorem setAcc_eq_accIn (i : Nat) (x : Int) (c : Core) : setAcc i x c = accIn i (sat40 x) (!fits40 x) c := by
  have noted : (satTo 40 x != x) = !fits40 x := by
    rw [satTo_40, bne, Bool.not_inj_iff, Bool.eq_iff_iff, beq_iff_eq, sat40_eq_self_iff]
  rw [setAcc, accIn, noted, satTo_40]

/-! ### The filter tap (R193) -/

/-- A[a] moved by k bytes, around its buffer where CIRC is 1. -/
def tapMoved (circ : Bool) (a : Nat) (c : Core) (k : Int) : Int := if circ then circStep c a k else (aOf c a : Int) + k

/-- The address that a tap's halfword moves up to. -/
def tapTarget (circ : Bool) (a : Nat) (c : Core) : Nat := (tapMoved circ a c 2 % 131072).toNat

/-- A core after the product p has entered accumulator acc. -/
def tapSummed (acc : Nat) (sub : Bool) (p : Int) (c : Core) : Core :=
  setAcc acc (if sub then accOf c acc - p else accOf c acc + p) c

/-- A core after a tap of the halfword h with a coefficient, but for the steps of A[a] and CP. -/
def tapDone (acc a : Nat) (circ sub : Bool) (h : BitVec 16) (coef : Int) (c : Core) : Core :=
  halfIn (tapTarget circ a c) h (tapSummed acc sub (h.toInt * coef) c)

/-- A core after a tap's steps of A[a] and CP. -/
def tapStepped (a : Nat) (circ : Bool) (c : Core) : Core := { setA a (tapMoved circ a c (-2)) c with cp := (c.cp + 2) % 32768 }

section
variable {n acc a : Nat} {circ sub : Bool} {c : Core} {s : State} (hlen : circ = true → sgetC 0 c.al a ≠ 0)
  (hsrc : accessFault c (aOf c a) 2 2 = none) (hdst : accessFault c (tapTarget circ a c) 2 2 = none)
  (hbad : c.bad.contains (c.cp / 4) = false)
include hlen hsrc hdst hbad

/-- A tap that meets no fault, as its four steps: the read, the sum, the move and the steps of the pointers. -/
theorem tapBody_of_faultless (hcore : coreOf s n = c) {i : Int} {x y : State}
    (hread : readHalf n (aOf c a) 0 s = (i, x))
    (hmove : writeHalf n (tapTarget circ a c) (ofSigned 16 i)
      (setCore n (tapSummed acc sub (i * coefAt s (coreOf x n).cp) (coreOf x n)) x) = y)
    (hkept : aOf (coreOf y n) a = aOf c a) :
    tapBody n acc a circ sub [] 0 s = (none, setCore n (tapStepped a circ (coreOf y n)) y) := by
  have hgo : ¬ (circ = true ∧ sgetC 0 c.al a = 0) := fun ⟨hc, h0⟩ => hlen hc h0
  have htarget : ((if circ then circStep c a 2 else (aOf c a : Int) + 2) % 131072).toNat = tapTarget circ a c := rfl
  have hread' : readHalf n (aOf c a) (0 : Fin 3) s = (i, x) := hread
  unfold tapSummed at hmove
  simp only [tapBody, hcore, if_neg hgo, htarget, hsrc, hdst, hbad, Bool.false_eq_true, if_false, List.getD_nil, hread', hmove]
  rw [← hkept]
  rfl

/-- A tap whose buffer, addresses, words and coefficient are in order. -/
theorem tapBody_setCore (ht : c.task.isSome = true) (rsrc : readable c (aOf c a / 4) = true)
    (rdst : readable c (tapTarget circ a c / 4) = true) {h : BitVec 16}
    (hh : halfAt (sgetC 0 c.mem (aOf c a / 4)) (aOf c a) = h) :
    tapBody n acc a circ sub [] 0 (setCore n c s) =
      (none, setCore n (tapStepped a circ (tapDone acc a circ sub h (coefAt s c.cp) c)) s) := by
  have hcore : coreOf (setCore n c s) n = c := coreOf_setCore ht
  have hasTask : (tapDone acc a circ sub h (coefAt s c.cp) c).task.isSome = true := ht
  have hdone := coreOf_setCore (n := n) (s := s) hasTask
  have hmove : writeHalf n (tapTarget circ a c) (ofSigned 16 h.toInt) (setCore n (tapSummed acc sub
      (h.toInt * coefAt (setCore n c s) (coreOf (setCore n c s) n).cp) (coreOf (setCore n c s) n)) (setCore n c s)) =
      setCore n (tapDone acc a circ sub h (coefAt s c.cp) c) s := by
    rw [hcore, setCore_setCore ht, ofSigned_16_toInt]
    exact writeHalf_setCore (c := tapSummed acc sub (h.toInt * coefAt s c.cp) c) ht rdst h
  rw [tapBody_of_faultless hlen hsrc hdst hbad hcore (hh ▸ readHalf_setCore ht rsrc) hmove (by rw [hdone]; rfl), hdone,
    setCore_setCore hasTask]

end

/-- Settles O35: the tap runs once on the core that has fetched, and the sum it leaves is the clamped one. -/
theorem filterTap : Obligations.FilterTap := by
  intro s t n acc a circ sub hc hr c src base len moved dst hlen hsrc hdst rsrc rdst hbad old word half p v
  have summed : tapSummed acc sub p c = accIn acc (sat40 v) (!fits40 v) c := setAcc_eq_accIn acc v c
  have body := tapBody_setCore (n := n) (s := arriveAt t s) (acc := acc) (sub := sub) hlen hsrc hdst hbad (fetched_task hr []) rsrc
    rdst (h := half) rfl
  exact (acts_core hc hr body ⟨rfl, rfl, rfl, rfl, rfl⟩ rfl).trans
    (congrArg (fun x => Host.Outcome.next (setCore n (tapStepped a circ (halfIn dst half x)) (arriveAt t s))) summed)

end Sys2Proof.Machine
end

section
/-! SUPPORT. Every command answers a next state with the queue as it was and no takeover recommendation left over. -/

namespace Sys2Proof.Machine

/-! ### What every command leaves -/

/-- What no command does: touch the queue, or leave a takeover recommendation that was not there before. -/
def Answers (s : State) (o : Out) : Prop :=
  ∃ u, o = .next u ∧ u.pending = s.pending ∧ (s.twin.recommend = false → u.twin.recommend = false)

theorem acts_answers (t : Treads) (f : State → State) (s : State) : Answers s (acts t f s) :=
  ⟨_, acts_after t f s, after_pending t f s, fun _ => after_recommend t f s⟩

/-- A command of the JTAG port leaves all but the port as it was. -/
theorem answers_of_eq {s u : State} (hp : u.pending = s.pending) (ht : u.twin = s.twin) : Answers s (.next u) :=
  ⟨u, rfl, hp, fun h => by rw [ht, h]⟩

theorem jtagSelect_pending (i : JtagInstr) (dr : Word) (x y : Bool) (s : State) : (jtagSelect i dr x y s).pending = s.pending := by
  unfold jtagSelect
  split <;> rfl

theorem jtagSelect_twin (i : JtagInstr) (dr : Word) (x y : Bool) (s : State) : (jtagSelect i dr x y s).twin = s.twin := by
  unfold jtagSelect
  split <;> rfl

theorem jtagSelect_answers (i : JtagInstr) (dr : Word) (x y : Bool) (s : State) : Answers s (.next (jtagSelect i dr x y s)) :=
  answers_of_eq (jtagSelect_pending ..) (jtagSelect_twin ..)

/-- An instruction of the port that loads the boundary register. -/
theorem jtagLoad_answers (i : JtagInstr) (x : Bool) (cells : List Bool) (s : State) :
    Answers s (.next (if inKeep s ∨ railsGone s then s else loadCells cells (jtagSelect i 0 x false s))) := by
  split
  · exact answers_of_eq rfl rfl
  · exact answers_of_eq (jtagSelect_pending ..) (jtagSelect_twin ..)

/-- Every command answers: those of the JTAG port act on the port alone, every other one in the frame of `acts`. -/
theorem exec_answers (c : Instr) (s : State) : Answers s (exec c s) := by
  cases c
  case jtagBypass => exact jtagSelect_answers ..
  case jtagIdcode => exact jtagSelect_answers ..
  case jtagClamp => exact jtagSelect_answers ..
  case jtagHighz => exact jtagSelect_answers ..
  case jtagSamplePreload => exact jtagLoad_answers ..
  case jtagExtest => exact jtagLoad_answers ..
  case testLogicReset => exact answers_of_eq rfl rfl
  all_goals exact acts_answers ..

theorem step_cons {c : Instr} {rest : List Instr} {s : State} (h : s.pending = c :: rest) :
    step s = exec c { s with pending := rest } := by
  rw [step, h]

theorem step_nil {s : State} (h : s.pending = []) : step s = .next (idle s) := by
  rw [step, h]

/-- Settles O1: the two clauses are the two cases of the queue. -/
theorem steps : Obligations.Steps := ⟨fun _ _ _ h => step_cons h, fun _ h => step_nil h⟩

/-- Settles O2: the next state and its queue are two of the things that every command answers. -/
theorem everyCommandAnswers : Obligations.EveryCommandAnswers := by
  intro c s
  obtain ⟨u, hu, hp, -⟩ := exec_answers c s
  exact ⟨u, hu, hp⟩

/-! ### The invariant -/

theorem inv_iff {s : State} : Inv s = true ↔ (∀ c ∈ s.pending, Instr.wellFormed c = true) ∧ s.twin.recommend = false := by
  simp [Inv]

/-- Settles O3: a step takes the queue's head and keeps the rest, and its command leaves no recommendation. -/
theorem stepKeepsInvariant : Obligations.StepKeepsInvariant := by
  intro s s' hinv hstep
  obtain ⟨hwf, hrec⟩ := inv_iff.1 hinv
  cases hq : s.pending with
  | nil =>
    rw [step_nil hq] at hstep
    cases hstep
    exact inv_iff.2 ⟨hwf, hrec⟩
  | cons c rest =>
    obtain ⟨u, hu, hp, hr⟩ := exec_answers c { s with pending := rest }
    rw [step_cons hq, hu] at hstep
    cases hstep
    refine inv_iff.2 ⟨fun d hd => hwf d ?_, hr hrec⟩
    rw [hp] at hd
    exact hq ▸ List.mem_cons_of_mem c hd

/-- Settles O4: reset's tables are empty, so each reads as its reset value. -/
theorem resetState : Obligations.ResetState :=
  ⟨rfl, rfl, fun _ => rfl, rfl, fun _ => ⟨rfl, rfl⟩, rfl, rfl, rfl, rfl, fun _ => rfl, rfl⟩

end Sys2Proof.Machine
end

section
/-! SUPPORT. Words of program memory: a word holds its class, its function and its fields in places of their own, so that it decodes to the
instruction it encodes (Table 7 of Landing cores). -/

namespace Sys2Proof.Machine

/-! ### What the fields of a word read

Each class has one word with all of its fields; an instruction that lacks a field has 0 there. -/

/-- Bits of a word are bits of the number it is made from. -/
theorem wordBits_ofNat {x hi lo : Nat} (h : hi < 32) : wordBits (BitVec.ofNat 32 x) hi lo = x / 2 ^ lo % 2 ^ (hi + 1 - lo) := by
  rw [wordBits, BitVec.toNat_ofNat]
  rcases Nat.lt_or_ge hi lo with hlt | hle
  · rw [show hi + 1 - lo = 0 by omega, Nat.pow_zero, Nat.mod_one, Nat.mod_one]
  · have split32 : 2 ^ 32 = 2 ^ lo * 2 ^ (32 - lo) := by rw [← Nat.pow_add, show lo + (32 - lo) = 32 by omega]
    rw [split32, Nat.mod_mul_right_div_self, Nat.mod_mod_of_dvd _ (Nat.pow_dvd_pow 2 (by omega))]

section
variable {func : Nat} (d a b : Fin 16) (acc x y : Fin 4) (m m2 : Fin 8) (p q : Bool)

/-- The word of class 0 with every field of the class. -/
def aluFull (func : Nat) (d a b : Fin 16) : Word := aluWord func d a b

theorem aluFull_fields (h : func < 64) :
    wordBits (aluFull func d a b) 31 28 = 0 ∧ wordBits (aluFull func d a b) 27 22 = func ∧
    wordBits (aluFull func d a b) 9 0 = 0 ∧ reg16 (aluFull func d a b) 18 = d ∧ reg16 (aluFull func d a b) 14 = a ∧
    reg16 (aluFull func d a b) 10 = b := by
  simp only [aluFull, aluWord, landingWord, List.foldl, reg16, Fin.ext_iff, Fin.val_ofNat, wordBits_ofNat, Nat.reduceLT, Nat.reduceAdd]
  omega

/-- The word of class 1 with every field of the class. -/
def aluImmFull (func : Nat) (d a : Fin 16) (imm : BitVec 16) : Word := aluImmWord func d a imm.toNat

theorem aluImmFull_fields (imm : BitVec 16) (h : func < 16) :
    wordBits (aluImmFull func d a imm) 31 28 = 1 ∧ wordBits (aluImmFull func d a imm) 27 24 = func ∧
    reg16 (aluImmFull func d a imm) 20 = d ∧ wordBits (aluImmFull func d a imm) 19 16 = a ∧
    reg16 (aluImmFull func d a imm) 16 = a ∧ wordBits (aluImmFull func d a imm) 15 0 = imm.toNat := by
  simp only [aluImmFull, aluImmWord, landingWord, List.foldl, reg16, Fin.ext_iff, Fin.val_ofNat, wordBits_ofNat, Nat.reduceLT, Nat.reduceAdd]
  omega

theorem memoryWord_fields (imm : BitVec 16) (h : func < 8) :
    wordBits (memoryWord func d x m imm.toNat) 31 28 = 2 ∧ wordBits (memoryWord func d x m imm.toNat) 27 25 = func ∧
    reg16 (memoryWord func d x m imm.toNat) 21 = d ∧ reg4 (memoryWord func d x m imm.toNat) 19 = x ∧
    mode3 (memoryWord func d x m imm.toNat) 16 = m ∧ wordBits (memoryWord func d x m imm.toNat) 15 0 = imm.toNat := by
  simp only [memoryWord, landingWord, List.foldl, reg16, reg4, mode3, Fin.ext_iff, Fin.val_ofNat, wordBits_ofNat, Nat.reduceLT,
    Nat.reduceAdd]
  omega

theorem multiplyWord_fields (h : func < 16) :
    wordBits (multiplyWord func acc a p.toNat b q.toNat) 31 28 = 3 ∧
    wordBits (multiplyWord func acc a p.toNat b q.toNat) 27 24 = func ∧
    wordBits (multiplyWord func acc a p.toNat b q.toNat) 11 0 = 0 ∧ reg4 (multiplyWord func acc a p.toNat b q.toNat) 22 = acc ∧
    reg16 (multiplyWord func acc a p.toNat b q.toNat) 18 = a ∧
    wordBits (multiplyWord func acc a p.toNat b q.toNat) 17 17 = p.toNat ∧
    reg16 (multiplyWord func acc a p.toNat b q.toNat) 13 = b ∧
    wordBits (multiplyWord func acc a p.toNat b q.toNat) 12 12 = q.toNat := by
  have hp := p.toNat_lt
  have hq := q.toNat_lt
  simp only [multiplyWord, landingWord, List.foldl, reg16, reg4, Fin.ext_iff, Fin.val_ofNat, wordBits_ofNat, Nat.reduceLT,
    Nat.reduceAdd]
  omega

theorem multiplyMemWord_fields (h : func < 16) :
    wordBits (multiplyMemWord func acc x y m m2) 31 28 = 3 ∧ wordBits (multiplyMemWord func acc x y m m2) 27 24 = func ∧
    wordBits (multiplyMemWord func acc x y m m2) 11 0 = 0 ∧ reg4 (multiplyMemWord func acc x y m m2) 22 = acc ∧
    reg4 (multiplyMemWord func acc x y m m2) 20 = x ∧ reg4 (multiplyMemWord func acc x y m m2) 18 = y ∧
    mode3 (multiplyMemWord func acc x y m m2) 15 = m ∧ mode3 (multiplyMemWord func acc x y m m2) 12 = m2 := by
  simp only [multiplyMemWord, landingWord, List.foldl, reg4, mode3, Fin.ext_iff, Fin.val_ofNat, wordBits_ofNat, Nat.reduceLT,
    Nat.reduceAdd]
  omega

/-- The word of class 4 with every field of the class. -/
def accumulatorFull (func : Nat) (acc acc2 : Fin 4) (g : Fin 16) (a : Fin 4) (m : Fin 8) (shift : BitVec 8) : Word :=
  accumulatorWord func acc [(acc2, 20), (g, 16), (a, 14), (m, 11), (shift.toNat, 0)]

theorem accumulatorFull_fields (code : BitVec 8) (h : func < 16) :
    wordBits (accumulatorFull func acc x a y m code) 31 28 = 4 ∧ wordBits (accumulatorFull func acc x a y m code) 27 24 = func ∧
    wordBits (accumulatorFull func acc x a y m code) 10 8 = 0 ∧ reg4 (accumulatorFull func acc x a y m code) 22 = acc ∧
    reg4 (accumulatorFull func acc x a y m code) 20 = x ∧ reg16 (accumulatorFull func acc x a y m code) 16 = a ∧
    reg4 (accumulatorFull func acc x a y m code) 14 = y ∧ mode3 (accumulatorFull func acc x a y m code) 11 = m ∧
    wordBits (accumulatorFull func acc x a y m code) 7 0 = code.toNat := by
  simp only [accumulatorFull, accumulatorWord, landingWord, List.foldl, reg16, reg4, mode3, Fin.ext_iff, Fin.val_ofNat,
    wordBits_ofNat, Nat.reduceLT, Nat.reduceAdd]
  omega

/-- The word of class 5. -/
def tapWord (acc a : Fin 4) (circ sub : Bool) : Word := landingWord 0x5 0 0 [(acc, 26), (a, 24), (circ.toNat, 23), (sub.toNat, 22)]

theorem landingWord_four (cls func at_ v i w j y k z l : Nat) : landingWord cls func at_ [(v, i), (w, j), (y, k), (z, l)] =
    BitVec.ofNat 32 (cls * 2 ^ 28 + func * 2 ^ at_ + v * 2 ^ i + w * 2 ^ j + y * 2 ^ k + z * 2 ^ l) := by
  simp only [landingWord, List.foldl]

theorem tapWord_fields : wordBits (tapWord acc x p q) 31 28 = 5 ∧ wordBits (tapWord acc x p q) 21 0 = 0 ∧
    reg4 (tapWord acc x p q) 26 = acc ∧ reg4 (tapWord acc x p q) 24 = x ∧ wordBits (tapWord acc x p q) 23 23 = p.toNat ∧
    wordBits (tapWord acc x p q) 22 22 = q.toNat := by
  have hp := p.toNat_lt
  have hq := q.toNat_lt
  rw [tapWord, landingWord_four]
  simp only [reg4, Fin.ext_iff, Fin.val_ofNat, wordBits_ofNat, Nat.reduceLT, Nat.reduceAdd]
  omega

/-- The word of class 6 with every field of the class. -/
def controlFull (func : Nat) (cond g : Fin 16) (imm : BitVec 16) : Word := controlWord func [(cond, 20), (g, 16), (imm.toNat, 0)]

theorem controlFull_fields (imm : BitVec 16) (h : func < 16) :
    wordBits (controlFull func d a imm) 31 28 = 6 ∧ wordBits (controlFull func d a imm) 27 24 = func ∧
    reg16 (controlFull func d a imm) 20 = d ∧ reg16 (controlFull func d a imm) 16 = a ∧
    wordBits (controlFull func d a imm) 15 0 = imm.toNat ∧ wordBits (controlFull func d a imm) 12 0 = (imm.setWidth 13).toNat ∧
    wordBits (controlFull func d a imm) 7 0 = (imm.setWidth 8).toNat := by
  simp only [controlFull, controlWord, landingWord, List.foldl, reg16, Fin.ext_iff, Fin.val_ofNat, wordBits_ofNat, Nat.reduceLT,
    Nat.reduceAdd, BitVec.toNat_setWidth]
  omega

/-- The word of class 7 with every field of the class. -/
def addressFull (func : Nat) (a : Fin 4) (g : Fin 16) (imm : BitVec 17) : Word := addressWord func a [(g, 19), (imm.toNat, 0)]

theorem addressFull_fields (imm : BitVec 17) (h : func < 8) :
    wordBits (addressFull func x a imm) 31 28 = 7 ∧ wordBits (addressFull func x a imm) 27 25 = func ∧
    wordBits (addressFull func x a imm) 18 17 = 0 ∧ reg4 (addressFull func x a imm) 23 = x ∧
    reg16 (addressFull func x a imm) 19 = a ∧ wordBits (addressFull func x a imm) 16 0 = imm.toNat := by
  simp only [addressFull, addressWord, landingWord, List.foldl, reg16, reg4, Fin.ext_iff, Fin.val_ofNat, wordBits_ofNat,
    Nat.reduceLT, Nat.reduceAdd]
  omega

/-- The word of class 8 with every field of the class. -/
def assistFull (func : Nat) (g tr : Fin 16) (a : Fin 4) (imm : BitVec 14) : Word :=
  assistWord func [(g, 20), (tr, 16), (a, 14), (imm.toNat, 0)]

theorem assistFull_fields (imm : BitVec 14) (h : func < 16) :
    wordBits (assistFull func d a x imm) 31 28 = 8 ∧ wordBits (assistFull func d a x imm) 27 24 = func ∧
    reg16 (assistFull func d a x imm) 20 = d ∧ reg16 (assistFull func d a x imm) 16 = a ∧
    reg4 (assistFull func d a x imm) 14 = x ∧ wordBits (assistFull func d a x imm) 13 0 = imm.toNat := by
  simp only [assistFull, assistWord, landingWord, List.foldl, reg16, reg4, Fin.ext_iff, Fin.val_ofNat, wordBits_ofNat,
    Nat.reduceLT, Nat.reduceAdd]
  omega

theorem systemWord_fields (code : BitVec 8) (h : func < 16) :
    wordBits (systemWord func d code.toNat) 31 28 = 9 ∧ wordBits (systemWord func d code.toNat) 27 24 = func ∧
    wordBits (systemWord func d code.toNat) 19 8 = 0 ∧ reg16 (systemWord func d code.toNat) 20 = d ∧
    wordBits (systemWord func d code.toNat) 7 0 = code.toNat := by
  simp only [systemWord, landingWord, List.foldl, reg16, Fin.ext_iff, Fin.val_ofNat, wordBits_ofNat, Nat.reduceLT, Nat.reduceAdd]
  omega

end

/-! ### Words with some of a class's fields -/

/-- The number that fields add to a word. -/
def fieldSum : List (Nat × Nat) → Nat
  | [] => 0
  | f :: fs => f.1 * 2 ^ f.2 + fieldSum fs

theorem foldl_fields (fs : List (Nat × Nat)) : ∀ v : Nat, fs.foldl (fun v f => v + f.1 * 2 ^ f.2) v = v + fieldSum fs := by
  induction fs with
  | nil => exact fun _ => rfl
  | cons f fs ih => exact fun v => by rw [List.foldl_cons, ih, fieldSum, Nat.add_assoc]

/-- Fields that add the same to a word make the same word: one of 0 may be left out. -/
theorem landingWord_congr {cls func at_ : Nat} {fs gs : List (Nat × Nat)} (h : fieldSum fs = fieldSum gs) :
    landingWord cls func at_ fs = landingWord cls func at_ gs := by
  rw [landingWord, landingWord, foldl_fields, foldl_fields, h]

section
variable (func : Nat) (d a g : Fin 16) (acc x y : Fin 4) (m : Fin 8) (code : BitVec 8)

theorem accumulatorWord_none : accumulatorWord func acc [] = accumulatorFull func acc 0 0 0 0 0 := by
  exact landingWord_congr (by simp [fieldSum])

theorem accumulatorWord_register : accumulatorWord func acc [(g, 16)] = accumulatorFull func acc 0 g 0 0 0 := by
  exact landingWord_congr (by simp [fieldSum])

theorem accumulatorWord_address : accumulatorWord func acc [(x, 14), (m, 11)] = accumulatorFull func acc 0 0 x m 0 := by
  exact landingWord_congr (by simp [fieldSum])

theorem accumulatorWord_second : accumulatorWord func acc [(y, 20)] = accumulatorFull func acc y 0 0 0 0 := by
  exact landingWord_congr (by simp [fieldSum])

theorem accumulatorWord_shift : accumulatorWord func acc [(code.toNat, 0)] = accumulatorFull func acc 0 0 0 0 code := by
  exact landingWord_congr (by simp [fieldSum])

theorem controlWord_none : controlWord func [] = controlFull func 0 0 0 := by
  exact landingWord_congr (by simp [fieldSum])

theorem controlWord_register : controlWord func [(g, 16)] = controlFull func 0 g 0 := by
  exact landingWord_congr (by simp [fieldSum])

theorem controlWord_branch (target : BitVec 13) :
    controlWord func [(d, 20), (target.toNat, 0)] = controlFull func d 0 (target.setWidth 16) := by
  exact landingWord_congr (by simp [fieldSum, Nat.mod_eq_of_lt (Nat.lt_trans target.isLt (show 2 ^ 13 < 65536 by decide))])

theorem controlWord_number {w : Nat} (v : BitVec w) (h : w ≤ 16) :
    controlWord func [(v.toNat, 0)] = controlFull func 0 0 (v.setWidth 16) := by
  have hv : v.toNat < 65536 := Nat.lt_of_lt_of_le v.isLt (Nat.pow_le_pow_right (by decide) h)
  exact landingWord_congr (by simp [fieldSum, Nat.mod_eq_of_lt hv])

theorem addressWord_register : addressWord func x [(g, 19)] = addressFull func x g 0 := by
  exact landingWord_congr (by simp [fieldSum])

theorem addressWord_number (i17 : BitVec 17) : addressWord func x [(i17.toNat, 0)] = addressFull func x 0 i17 := by
  exact landingWord_congr (by simp [fieldSum])

theorem assistWord_registers : assistWord func [(d, 20), (g, 16)] = assistFull func d g 0 0 := by
  exact landingWord_congr (by simp [fieldSum])

theorem assistWord_queue : assistWord func [(g, 16), (x, 14)] = assistFull func 0 g x 0 := by
  exact landingWord_congr (by simp [fieldSum])

theorem assistWord_operand (i14 : BitVec 14) : assistWord func [(g, 16), (x, 14), (i14.toNat, 0)] = assistFull func 0 g x i14 := by
  exact landingWord_congr (by simp [fieldSum])

theorem assistWord_timecode : assistWord func [(x, 14)] = assistFull func 0 0 x 0 := by
  exact landingWord_congr (by simp [fieldSum])

theorem assistWord_correlator (i14 : BitVec 14) : assistWord func [(d, 20), (g, 16), (i14.toNat, 0)] = assistFull func d g 0 i14 := by
  exact landingWord_congr (by simp [fieldSum])

end

/-! ### Decoding what was encoded -/

/-- An instruction's word decodes to it. -/
def Decodes (t : Nat) (n : Fin 512) (i : Instr) : Prop := ∃ w, encodeLanding i = some w ∧ decodeLanding t n w = some i

section
variable (t : Nat) (n : Fin 512) (d a b : Fin 16) (acc x y : Fin 4) (m m2 : Fin 8) (p q : Bool) (imm : BitVec 16) (code : BitVec 8)

theorem alu_decodes : Decodes t n (.add t n d a b) ∧ Decodes t n (.sub t n d a b) ∧ Decodes t n (.adds t n d a b) ∧
    Decodes t n (.subs t n d a b) ∧ Decodes t n (.and t n d a b) ∧ Decodes t n (.or t n d a b) ∧ Decodes t n (.xor t n d a b) ∧
    Decodes t n (.shl t n d a b) ∧ Decodes t n (.shr t n d a b) ∧ Decodes t n (.sra t n d a b) ∧ Decodes t n (.min t n d a b) ∧
    Decodes t n (.max t n d a b) ∧ Decodes t n (.cmp t n a b) ∧ Decodes t n (.norm t n d a) ∧ Decodes t n (.abs t n d a) := by
  refine ⟨⟨aluFull 0 d a b, rfl, ?_⟩, ⟨aluFull 1 d a b, rfl, ?_⟩, ⟨aluFull 2 d a b, rfl, ?_⟩, ⟨aluFull 3 d a b, rfl, ?_⟩,
    ⟨aluFull 4 d a b, rfl, ?_⟩, ⟨aluFull 5 d a b, rfl, ?_⟩, ⟨aluFull 6 d a b, rfl, ?_⟩, ⟨aluFull 7 d a b, rfl, ?_⟩,
    ⟨aluFull 8 d a b, rfl, ?_⟩, ⟨aluFull 9 d a b, rfl, ?_⟩, ⟨aluFull 10 d a b, rfl, ?_⟩, ⟨aluFull 11 d a b, rfl, ?_⟩,
    ⟨aluFull 12 0 a b, rfl, ?_⟩, ⟨aluFull 13 d a 0, rfl, ?_⟩, ⟨aluFull 14 d a 0, rfl, ?_⟩⟩ <;>
  simp [decodeLanding, decodeAlu, aluFull_fields]

theorem aluImm_decodes : Decodes t n (.addi t n d a imm) ∧ Decodes t n (.andi t n d a imm) ∧ Decodes t n (.ori t n d a imm) ∧
    Decodes t n (.xori t n d a imm) ∧ Decodes t n (.shli t n d a imm) ∧ Decodes t n (.shri t n d a imm) ∧
    Decodes t n (.srai t n d a imm) ∧ Decodes t n (.lui t n d imm) ∧ Decodes t n (.cmpi t n a imm) := by
  refine ⟨⟨aluImmFull 0 d a imm, rfl, ?_⟩, ⟨aluImmFull 1 d a imm, rfl, ?_⟩, ⟨aluImmFull 2 d a imm, rfl, ?_⟩,
    ⟨aluImmFull 3 d a imm, rfl, ?_⟩, ⟨aluImmFull 4 d a imm, rfl, ?_⟩, ⟨aluImmFull 5 d a imm, rfl, ?_⟩,
    ⟨aluImmFull 6 d a imm, rfl, ?_⟩, ⟨aluImmFull 7 d 0 imm, rfl, ?_⟩,
    ⟨aluImmFull 8 0 a imm, rfl, ?_⟩⟩ <;>
  simp [decodeLanding, decodeAluImm, aluImmFull_fields, imm16]

theorem memory_decodes : Decodes t n (.ldh t n d x m imm []) ∧ Decodes t n (.ldhu t n d x m imm []) ∧
    Decodes t n (.ldw t n d x m imm []) ∧ Decodes t n (.sth t n d x m imm) ∧ Decodes t n (.stw t n d x m imm) ∧
    Decodes t n (.ldhh t n d x m imm []) := by
  refine ⟨⟨memoryWord 0 d x m imm.toNat, rfl, ?_⟩, ⟨memoryWord 1 d x m imm.toNat, rfl, ?_⟩, ⟨memoryWord 2 d x m imm.toNat, rfl, ?_⟩,
    ⟨memoryWord 3 d x m imm.toNat, rfl, ?_⟩, ⟨memoryWord 4 d x m imm.toNat, rfl, ?_⟩, ⟨memoryWord 5 d x m imm.toNat, rfl, ?_⟩⟩ <;>
  simp [decodeLanding, decodeMemory, memoryWord_fields, imm16]

theorem toNat_beq_one (b : Bool) : (b.toNat == 1) = b := by
  cases b
  · rfl
  · rfl

theorem multiply_decodes : Decodes t n (.mpy t n acc a p b q) ∧ Decodes t n (.mac t n acc a p b q) ∧
    Decodes t n (.msu t n acc a p b q) ∧ Decodes t n (.macm t n acc x y m m2 [] []) ∧ Decodes t n (.msum t n acc x y m m2 [] []) := by
  refine ⟨⟨multiplyWord 0 acc a p.toNat b q.toNat, rfl, ?_⟩, ⟨multiplyWord 1 acc a p.toNat b q.toNat, rfl, ?_⟩,
    ⟨multiplyWord 2 acc a p.toNat b q.toNat, rfl, ?_⟩, ⟨multiplyMemWord 3 acc x y m m2, rfl, ?_⟩,
    ⟨multiplyMemWord 4 acc x y m m2, rfl, ?_⟩⟩ <;>
  simp [decodeLanding, decodeMultiply, multiplyWord_fields, multiplyMemWord_fields, bit1, toNat_beq_one]

theorem accumulator_decodes : Decodes t n (.clra t n acc) ∧ Decodes t n (.lda t n acc a) ∧ Decodes t n (.mva t n acc a) ∧
    Decodes t n (.mvah t n acc a) ∧ Decodes t n (.sta t n acc x m) ∧ Decodes t n (.stah t n acc x m) ∧
    Decodes t n (.adda t n acc y) ∧ Decodes t n (.sha t n acc code) ∧ Decodes t n (.nega t n acc) ∧ Decodes t n (.cpa t n acc y) ∧
    Decodes t n (.tap t n acc x p q []) := by
  refine ⟨⟨_, congrArg some (accumulatorWord_none 0 acc), ?_⟩, ⟨_, congrArg some (accumulatorWord_register 1 a acc), ?_⟩,
    ⟨_, congrArg some (accumulatorWord_register 2 a acc), ?_⟩, ⟨_, congrArg some (accumulatorWord_register 3 a acc), ?_⟩,
    ⟨_, congrArg some (accumulatorWord_address 4 acc x m), ?_⟩, ⟨_, congrArg some (accumulatorWord_address 5 acc x m), ?_⟩,
    ⟨_, congrArg some (accumulatorWord_second 6 acc y), ?_⟩, ⟨_, congrArg some (accumulatorWord_shift 7 acc code), ?_⟩,
    ⟨_, congrArg some (accumulatorWord_none 8 acc), ?_⟩, ⟨_, congrArg some (accumulatorWord_second 9 acc y), ?_⟩,
    ⟨_, (rfl : _ = some (tapWord acc x p q)), ?_⟩⟩ <;>
  simp [decodeLanding, decodeAccumulator, decodeTap, accumulatorFull_fields, tapWord_fields, bit1, toNat_beq_one]

theorem control_decodes (target : BitVec 13) : Decodes t n (.nopInstruction t n) ∧ Decodes t n (.br t n d target) ∧
    Decodes t n (.call t n target) ∧ Decodes t n (.ret t n) ∧ Decodes t n (.rpt t n imm) ∧ Decodes t n (.rptg t n d) ∧
    Decodes t n (.exit t n code) ∧ Decodes t n (.waitp t n) := by
  refine ⟨⟨_, congrArg some (controlWord_none 0), ?_⟩, ⟨_, congrArg some (controlWord_branch 1 d target), ?_⟩,
    ⟨_, congrArg some (controlWord_number 2 target (by decide)), ?_⟩, ⟨_, congrArg some (controlWord_none 3), ?_⟩,
    ⟨_, congrArg some (controlWord_number 4 imm (by decide)), ?_⟩, ⟨_, congrArg some (controlWord_register 5 d), ?_⟩,
    ⟨_, congrArg some (controlWord_number 6 code (by decide)), ?_⟩, ⟨_, congrArg some (controlWord_none 7), ?_⟩⟩ <;>
  simp [decodeLanding, decodeControl, controlFull_fields, imm16]

theorem address_decodes (i17 : BitVec 17) : Decodes t n (.setAFromG t n x d) ∧ Decodes t n (.setAImmediate t n x i17) ∧
    Decodes t n (.setAbImmediate t n x i17) ∧ Decodes t n (.setAlImmediate t n x i17) ∧ Decodes t n (.setAmImmediate t n x i17) ∧
    Decodes t n (.setGFromA t n x d) := by
  refine ⟨⟨_, congrArg some (addressWord_register 0 d x), ?_⟩, ⟨_, congrArg some (addressWord_number 1 x i17), ?_⟩,
    ⟨_, congrArg some (addressWord_number 2 x i17), ?_⟩, ⟨_, congrArg some (addressWord_number 3 x i17), ?_⟩,
    ⟨_, congrArg some (addressWord_number 4 x i17), ?_⟩, ⟨_, congrArg some (addressWord_register 5 d x), ?_⟩⟩ <;>
  simp [decodeLanding, decodeAddress, addressFull_fields]

theorem assist_decodes (i14 : BitVec 14) : Decodes t n (.putg t n d a) ∧ Decodes t n (.putgc t n d a) ∧ Decodes t n (.putq t n d x []) ∧
    Decodes t n (.puto t n d x i14 []) ∧ Decodes t n (.putt t n x []) ∧ Decodes t n (.corr t n d a i14) := by
  refine ⟨⟨_, congrArg some (assistWord_registers 0 d a), ?_⟩, ⟨_, congrArg some (assistWord_registers 1 d a), ?_⟩,
    ⟨_, congrArg some (assistWord_queue 2 d x), ?_⟩, ⟨_, congrArg some (assistWord_operand 3 d x i14), ?_⟩,
    ⟨_, congrArg some (assistWord_timecode 4 x), ?_⟩, ⟨_, congrArg some (assistWord_correlator 5 d a i14), ?_⟩⟩ <;>
  simp [decodeLanding, decodeAssist, assistFull_fields]

theorem system_decodes : Decodes t n (.mfs t n d code) ∧ Decodes t n (.mts t n d code) := by
  refine ⟨⟨systemWord 0 d code.toNat, rfl, ?_⟩, ⟨systemWord 1 d code.toNat, rfl, ?_⟩⟩ <;>
  simp [decodeLanding, decodeSystem, systemWord_fields]

end

/-- Settles O43: each class of Table 7 keeps its fields apart, so each word decodes to the instruction it encodes. -/
theorem landingEncoding : Obligations.LandingEncoding := by
  intro t n d a b acc a2 x y mode mode2 p q imm code target i14 i17
  obtain ⟨hAdd, hSub, hAdds, hSubs, hAnd, hOr, hXor, hShl, hShr, hSra, hMin, hMax, hCmp, hNorm, hAbs⟩ := alu_decodes t n d a b
  obtain ⟨hAddi, hAndi, hOri, hXori, hShli, hShri, hSrai, hLui, hCmpi⟩ := aluImm_decodes t n d a imm
  obtain ⟨hLdh, hLdhu, hLdw, hSth, hStw, hLdhh⟩ := memory_decodes t n d x mode imm
  obtain ⟨hMpy, hMac, hMsu, hMacm, hMsum⟩ := multiply_decodes t n a b acc x y mode mode2 p q
  obtain ⟨hClra, hLda, hMva, hMvah, hSta, hStah, hAdda, hSha, hNega, hCpa, hTap⟩ := accumulator_decodes t n a acc x a2 mode p q
    code
  obtain ⟨hNopInstruction, hBr, hCall, hRet, hRpt, hRptg, hExit, hWaitp⟩ := control_decodes t n d imm code target
  obtain ⟨hSetAFromG, hSetAImmediate, hSetAbImmediate, hSetAlImmediate, hSetAmImmediate, hSetGFromA⟩ := address_decodes t n d x
    i17
  obtain ⟨hPutg, hPutgc, hPutq, hPuto, hPutt, hCorr⟩ := assist_decodes t n d a x i14
  obtain ⟨hMfs, hMts⟩ := system_decodes t n d code
  exact ⟨hAdd, hSub, hAdds, hSubs, hAnd, hOr, hXor, hShl, hShr, hSra, hMin, hMax, hCmp, hNorm, hAbs, hAddi, hAndi, hOri, hXori,
    hShli, hShri, hSrai, hLui, hCmpi, hLdh, hLdhu, hLdw, hSth, hStw, hLdhh, hMpy, hMac, hMsu, hMacm, hMsum, hClra, hLda, hMva,
    hMvah, hSta, hStah, hAdda, hSha, hNega, hCpa, hTap, hNopInstruction, hBr, hCall, hRet, hRpt, hRptg, hExit, hWaitp, hSetAFromG,
    hSetAImmediate, hSetAbImmediate, hSetAlImmediate, hSetAmImmediate, hSetGFromA, hPutg, hPutgc, hPutq, hPuto, hPutt, hCorr,
    hMfs, hMts⟩

end Sys2Proof.Machine
end

section
/-! SUPPORT. Bits of a word, and what a store into a field or a register write leaves of its word and of the others. -/

namespace Sys2Proof.Machine

/-! ### Bits of a word after `putBits` -/

section
variable {w : Word} {hi lo v i : Nat} (hlh : lo ≤ hi) (h32 : hi < 32)
include hlh h32

/-- A word with a field replaced: what lay above it, the value, what lay below it. -/
theorem putBits_toNat : (putBits w hi lo v).toNat =
    2 ^ lo * (2 ^ (hi + 1 - lo) * (w.toNat / 2 ^ (hi + 1)) + v % 2 ^ (hi + 1 - lo)) + w.toNat % 2 ^ lo := by
  have hn : 2 ^ (hi + 1) = 2 ^ lo * 2 ^ (hi + 1 - lo) := by rw [← Nat.pow_add, show lo + (hi + 1 - lo) = hi + 1 by omega]
  have h2 : 2 ^ 32 = 2 ^ (hi + 1) * 2 ^ (31 - hi) := by rw [← Nat.pow_add, show hi + 1 + (31 - hi) = 32 by omega]
  have hwlt : w.toNat / 2 ^ (hi + 1) < 2 ^ (31 - hi) := Nat.div_lt_of_lt_mul (h2 ▸ w.isLt)
  have hlow : w.toNat % 2 ^ lo < 2 ^ lo := Nat.mod_lt _ (Nat.two_pow_pos lo)
  have hval : v % 2 ^ (hi + 1 - lo) < 2 ^ (hi + 1 - lo) := Nat.mod_lt _ (Nat.two_pow_pos _)
  have hw := Nat.div_add_mod w.toNat (2 ^ lo)
  have hy := Nat.div_add_mod (w.toNat / 2 ^ lo) (2 ^ (hi + 1 - lo))
  rw [Nat.div_div_eq_div_mul, ← hn] at hy
  rw [putBits, BitVec.toNat_ofNat, bitsOf]
  generalize w.toNat / 2 ^ (hi + 1) = b at *
  generalize w.toNat / 2 ^ lo % 2 ^ (hi + 1 - lo) = m at *
  generalize v % 2 ^ (hi + 1 - lo) = c at *
  generalize w.toNat % 2 ^ lo = a at *
  have small : 2 ^ lo * (2 ^ (hi + 1 - lo) * b + c) + a < 2 ^ 32 := by
    calc 2 ^ lo * (2 ^ (hi + 1 - lo) * b + c) + a
        < 2 ^ lo * (2 ^ (hi + 1 - lo) * b + c) + 2 ^ lo := by omega
      _ = 2 ^ lo * (2 ^ (hi + 1 - lo) * b + c + 1) := by rw [Nat.mul_add _ _ 1, Nat.mul_one]
      _ ≤ 2 ^ lo * (2 ^ (hi + 1 - lo) * (b + 1)) := Nat.mul_le_mul_left _ (by rw [Nat.mul_add, Nat.mul_one]; omega)
      _ = 2 ^ (hi + 1) * (b + 1) := by rw [hn, Nat.mul_assoc]
      _ ≤ 2 ^ (hi + 1) * 2 ^ (31 - hi) := Nat.mul_le_mul_left _ hwlt
      _ = 2 ^ 32 := h2.symm
  have whole : w.toNat = 2 ^ lo * (2 ^ (hi + 1 - lo) * b) + m * 2 ^ lo + a := by
    rw [← hw, ← hy, Nat.mul_add, Nat.mul_comm m]
  rw [← Nat.mod_eq_of_lt small, whole]
  congr 1
  rw [Nat.mul_add, Nat.mul_comm c]
  omega

theorem bitsOf_putBits : bitsOf (putBits w hi lo v) hi lo = v % 2 ^ (hi + 1 - lo) := by
  rw [bitsOf, putBits_toNat hlh h32, Nat.add_comm, Nat.add_mul_div_left _ _ (Nat.two_pow_pos lo),
    Nat.div_eq_of_lt (Nat.mod_lt _ (Nat.two_pow_pos lo)), Nat.zero_add, Nat.mul_add_mod, Nat.mod_mod]

/-- A bit of a word with a field replaced: the value's inside the field, the word's own outside. -/
theorem getLsbD_putBits : (putBits w hi lo v).getLsbD i = if lo ≤ i ∧ i ≤ hi then v.testBit (i - lo) else w.getLsbD i := by
  have hlow : w.toNat % 2 ^ lo < 2 ^ lo := Nat.mod_lt _ (Nat.two_pow_pos lo)
  have hval : v % 2 ^ (hi + 1 - lo) < 2 ^ (hi + 1 - lo) := Nat.mod_lt _ (Nat.two_pow_pos _)
  rw [BitVec.getLsbD, putBits_toNat hlh h32, Nat.testBit_two_pow_mul_add _ hlow]
  split
  · rw [if_neg (by omega), Nat.testBit_mod_two_pow, decide_eq_true ‹_›, Bool.true_and, BitVec.getLsbD]
  · rw [Nat.testBit_two_pow_mul_add _ hval]
    split
    · rw [if_pos (by omega), Nat.testBit_mod_two_pow, decide_eq_true ‹_›, Bool.true_and]
    · rw [if_neg (by omega), Nat.testBit_div_two_pow, BitVec.getLsbD]
      congr 1
      omega

theorem getLsbD_putBits_inside (h : lo ≤ i) (h' : i ≤ hi) : (putBits w hi lo v).getLsbD i = v.testBit (i - lo) := by
  rw [getLsbD_putBits hlh h32, if_pos ⟨h, h'⟩]

theorem getLsbD_putBits_outside (h : i < lo ∨ hi < i) : (putBits w hi lo v).getLsbD i = w.getLsbD i := by
  rw [getLsbD_putBits hlh h32, if_neg (by omega)]

end

/-- A bit of a field is the word's bit there. -/
theorem testBit_bitsOf {w : Word} {hi lo j : Nat} (h : j < hi + 1 - lo) : (bitsOf w hi lo).testBit j = w.getLsbD (lo + j) := by
  rw [bitsOf, Nat.testBit_mod_two_pow, decide_eq_true h, Bool.true_and, Nat.testBit_div_two_pow, BitVec.getLsbD, Nat.add_comm]

theorem bitsOf_lt (w : Word) (hi lo : Nat) : bitsOf w hi lo < 2 ^ (hi + 1 - lo) := Nat.mod_lt _ (Nat.two_pow_pos _)

/-! ### A store into a field -/

section
variable {s : State} {f g : Fld} {v a : Nat}

theorem rget_setF_ne (h : swf resetWord s.regs = true) (ha : a ≠ f.addr) : rget (setF s f v) a = rget s a := by
  rw [setF, rget_rset s _ _ _ h, if_neg ha]

theorem rget_setF_self (h : swf resetWord s.regs = true) :
    rget (setF s f v) f.addr = putBits (rget s f.addr) f.hi f.lo v := by
  rw [setF, rget_rset s _ _ _ h, if_pos rfl]

theorem setF_swf (h : swf resetWord s.regs = true) : swf resetWord (setF s f v).regs = true := rset_keeps_wf s _ _ h

/-- A field reads back what was stored, modulo its width. -/
theorem getF_setF_self (h : swf resetWord s.regs = true) (hlh : f.lo ≤ f.hi) (h32 : f.hi < 32) :
    getF (setF s f v) f = v % 2 ^ (f.hi + 1 - f.lo) := by
  rw [getF, rget_setF_self h, bitsOf_putBits hlh h32]

/-- A field of another word keeps its value. -/
theorem getF_setF_of_addr_ne (h : swf resetWord s.regs = true) (ha : g.addr ≠ f.addr) : getF (setF s f v) g = getF s g := by
  rw [getF, getF, rget_setF_ne h ha]

end

/-! ### A register write, field by field (Table 4 of Scope and conventions) -/

/-- What a bit of access code c holds after a write of v over o. -/
def codeBit (c : Access) (o v : Bool) : Bool :=
  match c with
  | .rw | .rws | .rwl => v
  | .w1c => o && !v
  | .w1s => o || v
  | .ro | .wo | .rwe => o

/-- What a write of v leaves of a word for one of its fields. -/
def fieldWritten (old v : Word) (f : FieldDef) : Word :=
  let n := bitsOf v f.hi f.lo
  let o := bitsOf old f.hi f.lo
  match f.acc with
  | .rw | .rws | .rwl => putBits old f.hi f.lo n
  | .rwe => old
  | .w1c => putBits old f.hi f.lo (o &&& (2 ^ (f.hi + 1 - f.lo) - 1 - n))
  | .w1s => putBits old f.hi f.lo (o ||| n)
  | .ro | .wo => old

theorem writtenWord_cons (old v : Word) (f : FieldDef) (fs : List FieldDef) :
    writtenWord false old v (f :: fs) = writtenWord false (fieldWritten old v f) v fs := by
  cases h : f.acc <;> simp [writtenWord, fieldWritten, h]

section
variable {old v : Word} {f : FieldDef} {i : Nat} (hlh : f.lo ≤ f.hi) (h32 : f.hi < 32)
include hlh h32

theorem getLsbD_fieldWritten_outside (h : i < f.lo ∨ f.hi < i) : (fieldWritten old v f).getLsbD i = old.getLsbD i := by
  cases hacc : f.acc <;> simp [fieldWritten, hacc, getLsbD_putBits_outside hlh h32 h]

theorem getLsbD_fieldWritten_inside (h : f.lo ≤ i) (h' : i ≤ f.hi) :
    (fieldWritten old v f).getLsbD i = codeBit f.acc (old.getLsbD i) (v.getLsbD i) := by
  have hj : i - f.lo < f.hi + 1 - f.lo := by omega
  have ho : (bitsOf old f.hi f.lo).testBit (i - f.lo) = old.getLsbD i := by rw [testBit_bitsOf hj, Nat.add_sub_cancel' h]
  have hv : (bitsOf v f.hi f.lo).testBit (i - f.lo) = v.getLsbD i := by rw [testBit_bitsOf hj, Nat.add_sub_cancel' h]
  have clear : (2 ^ (f.hi + 1 - f.lo) - 1 - bitsOf v f.hi f.lo).testBit (i - f.lo) = !v.getLsbD i := by
    rw [Nat.sub_sub, Nat.add_comm 1, Nat.testBit_two_pow_sub_succ (bitsOf_lt ..), decide_eq_true hj, hv, Bool.true_and]
  cases hacc : f.acc <;> simp [fieldWritten, codeBit, hacc, getLsbD_putBits_inside hlh h32 h h', ho, hv, clear]

end

/-- A bit that no field covers keeps its value. -/
theorem getLsbD_writtenWord_outside {v : Word} {i : Nat} : ∀ {fs : List FieldDef} {old : Word},
    (∀ f ∈ fs, f.lo ≤ f.hi ∧ f.hi < 32) → (∀ f ∈ fs, i < f.lo ∨ f.hi < i) →
    (writtenWord false old v fs).getLsbD i = old.getLsbD i
  | [], _, _, _ => rfl
  | f :: fs, old, hfit, hout => by
    obtain ⟨hlh, h32⟩ := hfit f List.mem_cons_self
    rw [writtenWord_cons, getLsbD_writtenWord_outside (fun g hg => hfit g (List.mem_cons_of_mem f hg))
      (fun g hg => hout g (List.mem_cons_of_mem f hg)), getLsbD_fieldWritten_outside hlh h32 (hout f List.mem_cons_self)]

/-- A bit of a field holds what its access code says, where no two fields share a bit. -/
theorem getLsbD_writtenWord_inside {v : Word} {i : Nat} : ∀ {fs : List FieldDef} {old : Word},
    (fs.Pairwise fun f g => f.hi < g.lo ∨ g.hi < f.lo) → (∀ f ∈ fs, f.lo ≤ f.hi ∧ f.hi < 32) →
    ∀ f ∈ fs, f.lo ≤ i → i ≤ f.hi → (writtenWord false old v fs).getLsbD i = codeBit f.acc (old.getLsbD i) (v.getLsbD i)
  | g :: fs, old, hapart, hfit, f, hf, h, h' => by
    obtain ⟨hg, hrest⟩ := List.pairwise_cons.1 hapart
    have hfit' : ∀ f ∈ fs, f.lo ≤ f.hi ∧ f.hi < 32 := fun f hf => hfit f (List.mem_cons_of_mem g hf)
    obtain ⟨glh, g32⟩ := hfit g List.mem_cons_self
    rw [writtenWord_cons]
    rcases List.mem_cons.1 hf with rfl | hf
    · rw [getLsbD_writtenWord_outside hfit' (fun k hk => by have := hg k hk; omega), getLsbD_fieldWritten_inside glh g32 h h']
    · have := hg f hf
      rw [getLsbD_writtenWord_inside hrest hfit' f hf h h', getLsbD_fieldWritten_outside glh g32 (by omega)]

theorem storeWord_of_findWord {a : Nat} {v : Word} {w : WordDef} {is : List Nat} (h : findWord a = some (w, is)) (s : State) :
    storeWord a v s = rset s a (writtenWord false (rget s a) v w.fields) := by
  rw [storeWord, h]

/-- Settles O5: a field store replaces its bits, and a register write goes field by field over bits that no two fields share. -/
theorem storedWords : Obligations.StoredWords := by
  constructor
  · intro s f v hwf hlh h32 u
    refine ⟨setF_swf hwf, getF_setF_self hwf hlh h32, fun a ha => rget_setF_ne hwf ha, fun i hi => ?_, rfl⟩
    rw [rget_setF_self hwf, getLsbD_putBits_outside hlh h32 hi]
  · intro s a v w is hwf hfind hapart hfit u
    have hu : u = rset s a (writtenWord false (rget s a) v w.fields) := storeWord_of_findWord hfind s
    have hself : rget u a = writtenWord false (rget s a) v w.fields := by rw [hu, rget_rset s _ _ _ hwf, if_pos rfl]
    refine ⟨fun b hb => by rw [hu, rget_rset s _ _ _ hwf, if_neg hb], fun f hf i h h' => ?_, fun i hi => ?_⟩
    · rw [hself, getLsbD_writtenWord_inside hapart hfit f hf h h']
      rfl
    · rw [hself, getLsbD_writtenWord_outside hfit hi]

end Sys2Proof.Machine
end

section
/-! SUPPORT. Bytes of DRAM after a write: the bytes of a run that is cut at lines, each line's bytes at its place. -/

namespace Sys2Proof.Machine

theorem Memory.wf_sorted {m : List Host.Cell} (h : Memory.wf m = true) : sorted 0 m = true := swf_sorted h

/-- What a byte of memory reads as after a run of bytes is written from a. -/
theorem sgetC_putBytes (b : Nat) : ∀ {bs : List Byte} {a : Nat} {m : List Host.Cell}, Memory.wf m = true →
    sgetC 0 (putBytes bs a m) b = if a ≤ b ∧ b < a + bs.length then bs.getD (b - a) 0 else sgetC 0 m b
  | [], a, m, _ => (if_neg (by simp only [List.length_nil]; omega)).symm
  | x :: bs, a, m, h => by
    have hm : Memory.wf (ssetC 0 m a x) = true := sset_swf h a x
    rw [putBytes, sgetC_putBytes b hm, sgetC_ssetC (Memory.wf_sorted h), List.length_cons]
    rcases Nat.lt_trichotomy b a with hlt | rfl | hgt
    · rw [if_neg (by omega), if_neg (by omega), if_neg (by omega)]
    · rw [if_neg (by omega), if_pos rfl, if_pos (by omega), Nat.sub_self, List.getD_cons_zero]
    · rw [if_neg (show ¬ b = a by omega), show b - a = (b - (a + 1)) + 1 by omega, List.getD_cons_succ]
      exact ite_congr (propext (by omega)) (fun _ => rfl) (fun _ => rfl)

theorem writeLine_mem (a : Nat) (bs : List Byte) (p : Bool) (s : State) :
    (writeLine a bs p s).drm.mem = putBytes bs a s.drm.mem := by
  rw [← noteWrite_mem a bs p s]
  rfl

theorem getD_take_drop (bs : List Byte) {i k j : Nat} (h : j < k) : ((bs.drop i).take k).getD j 0 = bs.getD (i + j) 0 := by
  rw [List.getD_eq_getElem?_getD, List.getD_eq_getElem?_getD, List.getElem?_take_of_lt h, List.getElem?_drop]

/-- The parts of a run, line by line, write what the run writes. -/
theorem lineParts_foldl_mem {a0 : Nat} {bs : List Byte} (p : Bool) (b : Nat) : ∀ (fuel n a : Nat) (s : State),
    Memory.wf s.drm.mem = true → n ≤ fuel → a0 ≤ a → a - a0 + n = bs.length →
    sgetC 0 ((lineParts a fuel n).foldl (fun s q => writeLine q.1 ((bs.drop (q.1 - a0)).take q.2) p s) s).drm.mem b =
      if a ≤ b ∧ b < a + n then bs.getD (b - a0) 0 else sgetC 0 s.drm.mem b
  | 0, n, a, s, _, hn, _, _ => (if_neg (by omega)).symm
  | fuel + 1, n, a, s, hwf, hn, ha, hlen => by
    rw [lineParts]
    split
    · exact (if_neg (by omega)).symm
    · have hk : 0 < min n (64 - a % 64) := by omega
      generalize hkk : min n (64 - a % 64) = k at hk ⊢
      have hkn : k ≤ n := by omega
      have hpart : ((bs.drop (a - a0)).take k).length = k := by rw [List.length_take, List.length_drop]; omega
      rw [List.foldl_cons, lineParts_foldl_mem p b fuel (n - k) (a + k) _ (writeLine_keeps_wf _ _ _ _ hwf) (by omega) (by omega)
        (by omega), writeLine_mem, sgetC_putBytes b hwf, hpart]
      by_cases hfirst : a ≤ b ∧ b < a + k
      · rw [if_neg (by omega), if_pos hfirst, if_pos (by omega), getD_take_drop bs (by omega)]
        congr 1
        omega
      · rw [if_neg hfirst]
        exact ite_congr (propext (by omega)) (fun _ => rfl) (fun _ => rfl)

/-- Settles O6: a write of a run is its lines' writes, and each line's write is its bytes'. -/
theorem dramBytes : Obligations.DramBytes := by
  intro s a b bs poison h u
  exact ⟨memStore_keeps_wf a bs poison s h, lineParts_foldl_mem poison b bs.length bs.length a s h (Nat.le_refl _) (Nat.le_refl _)
    (by omega)⟩

end Sys2Proof.Machine
end

section
/-! SUPPORT. What a command on a calm device answers, and what reports leave alone: the relation of a state to the one after an event,
a message or a record. -/

namespace Sys2Proof.Machine

/-- A value known to be another one differs from what that one differs from. -/
theorem ne_via_eq {α : Sort _} {a b c : α} (h : a = b) (hn : b ≠ c) : a ≠ c := h ▸ hn

/-! ### What a command on a calm device answers -/

section
variable {t : Nat} {s u : State} {f g : State → State} (hc : calm t s = true)
include hc

/-- Two effects that agree at the command's instant leave the same. -/
theorem acts_eq_after (h : f (arriveAt t s) = g (arriveAt t s)) : acts t f s = .next (after t g s) :=
  (acts_after t f s).trans (congrArg _ (after_congr_of_calm hc h))

/-- An effect that leaves a quiet state with the queue as it was is the answer. -/
theorem acts_eq_next (h : f (arriveAt t s) = u) (hq : quiet u = true) (hp : u.pending = s.pending) : acts t f s = .next u := by
  rw [acts, actAt_calm hc (h ▸ hq), h, ← hp]

/-- An effect that leaves the state as quiet as it was, and the queue alone, is the answer. -/
theorem acts_eq_same (h : f (arriveAt t s) = u) (hq : quiet u = quiet s) (hp : u.pending = s.pending) : acts t f s = .next u :=
  acts_eq_next hc h (hq.trans (calm_quiet hc)) hp

/-- A command without an effect lets its instant come. -/
theorem acts_idle (h : f (arriveAt t s) = arriveAt t s) : acts t f s = .next (arriveAt t s) :=
  acts_eq_same hc h rfl rfl

end

/-! ### Signals: what an event leaves alone -/

/-- What an event changes: registers, doors, the event unit, messages to the partner, and what left the device. -/
def Signals (s s' : State) : Prop := ∃ regs doors evt out sent waiting txSeq unacked,
  s' = { s with
    regs := regs, doors := doors, evt := evt, out := out
    twin := { s.twin with sent := sent, waiting := waiting, txSeq := txSeq, unacked := unacked } }

theorem Signals.refl (s : State) : Signals s s := ⟨_, _, _, _, _, _, _, _, rfl⟩

theorem Signals.trans {a b c : State} : Signals a b → Signals b c → Signals a c := by
  rintro ⟨_, _, _, _, _, _, _, _, rfl⟩ ⟨_, _, _, _, _, _, _, _, rfl⟩
  exact ⟨_, _, _, _, _, _, _, _, rfl⟩

theorem Signals.reports {s s' : State} : Signals s s' → Reports s s' := by
  rintro ⟨_, _, _, _, _, _, _, _, rfl⟩
  exact ⟨rfl, rfl⟩

theorem Signals.quiet {s s' : State} (h : Signals s s') : quiet s' = quiet s := by
  obtain ⟨_, _, _, _, _, _, _, _, rfl⟩ := h
  rfl

theorem Signals.pending {s s' : State} (h : Signals s s') : s'.pending = s.pending := by
  obtain ⟨_, _, _, _, _, _, _, _, rfl⟩ := h
  rfl

/-- A step that a condition guards. -/
theorem Signals.ite {s a b : State} {p : Prop} [Decidable p] (ha : Signals s a) (hb : Signals s b) : Signals s (if p then a else b) := by
  split
  · exact ha
  · exact hb

theorem signals_rset (s : State) (a : Nat) (w : Word) : Signals s (rset s a w) := ⟨_, _, _, _, _, _, _, _, rfl⟩

theorem signals_setF (s : State) (f : Fld) (v : Nat) : Signals s (setF s f v) := signals_rset ..

theorem signals_setDoor (s : State) (d : Nat) (x : Door) : Signals s (setDoor s d x) := ⟨_, _, _, _, _, _, _, _, rfl⟩

theorem signals_sendMsix (s : State) (d v : Nat) : Signals s (sendMsix d v s) := by
  unfold sendMsix
  split
  · exact .refl s
  · split
    · exact signals_rset ..
    · exact ⟨_, _, _, _, _, _, _, _, rfl⟩

theorem signals_journalHold (s : State) (d : Nat) (r : JournalRec) : Signals s (journalHold d r s) := by
  unfold journalHold
  split
  · exact signals_setDoor ..
  · exact .refl s

theorem signals_latchAlert (s : State) (e : Nat) : Signals s (latchAlert e s) :=
  (signals_setF ..).trans ((signals_setF ..).trans (signals_setF ..))

theorem signals_deliverTo (s : State) (e d v : Nat) : Signals s (deliverTo e d v s) := by
  refine Signals.trans ?_ (signals_journalHold ..)
  exact .ite ((signals_rset ..).trans (signals_sendMsix ..)) (signals_rset ..)

/-- Pumping the link moves the waiting messages into flits. -/
theorem pumpNewel_signals : ∀ (n : Nat) (x : TwinUnit), ∃ sent waiting txSeq unacked,
    pumpNewel n x = { x with sent := sent, waiting := waiting, txSeq := txSeq, unacked := unacked }
  | 0, x => ⟨_, _, _, _, rfl⟩
  | n + 1, x => by
    rw [pumpNewel]
    split
    · exact ⟨_, _, _, _, rfl⟩
    · split
      · obtain ⟨_, _, _, _, h⟩ := pumpNewel_signals n _
        exact ⟨_, _, _, _, h⟩
      · exact ⟨_, _, _, _, rfl⟩

theorem signals_sendNewel (s : State) (m : NewelMsg) : Signals s (sendNewel m s) := by
  unfold sendNewel
  split
  · obtain ⟨_, _, _, _, h⟩ := pumpNewel_signals (s.twin.waiting.length + 1) { s.twin with waiting := s.twin.waiting ++ [m] }
    rw [h]
    exact ⟨_, _, _, _, _, _, _, _, rfl⟩
  · exact .refl s

theorem signals_deliverPins (s : State) (e : Nat) : Signals s (deliverPins e s) := by
  have latched : Signals s (if nonMaskable e || getF s (Reg.ROUTE_ALERT e) == 1 then latchAlert e s else s) :=
    .ite (signals_latchAlert ..) (.refl s)
  exact latched.trans (.ite (signals_sendNewel ..) (.refl _))

/-- An event's delivery to one door. -/
def deliverDoor (e : Nat) (s : State) (d : Nat) : State :=
  if nonMaskable e then deliverTo e d 0 s
  else if getF s (Reg.ROUTE_EN e d) = 1 then deliverTo e d (getF s (Reg.ROUTE_VECTOR e d)) s
  else s

theorem signals_deliverDoor (s : State) (e d : Nat) : Signals s (deliverDoor e s d) := by
  exact .ite (signals_deliverTo ..) (.ite (signals_deliverTo ..) (.refl s))

/-- Steps that each signal signal together. -/
theorem signals_foldl {α : Type} {f : State → α → State} (hf : ∀ s a, Signals s (f s a)) : ∀ (l : List α) (s : State),
    Signals s (l.foldl f s)
  | [], s => .refl s
  | a :: l, s => (hf s a).trans (signals_foldl hf l _)

theorem signals_deliverDoors (s : State) (e : Nat) : Signals s (deliverDoors e s) :=
  signals_foldl (fun s d => signals_deliverDoor s e d) allDoors s

/-- The part of an event's raising before its bits: the route entry and EVT_LAST. -/
def countEvent (e : Nat) (test : Bool) (s : State) : State :=
  let s := incF s (Reg.ROUTE_COUNT e)
  let s := setF s (Reg.ROUTE_LAST_TREADS e) (treadsOf s.now)
  let s := setF s (Reg.ROUTE_LAST_SEC e) (secondsOf s.now)
  setF (setF s Reg.EVT_LAST_EVENT e) Reg.EVT_LAST_TEST test.toNat

/-- Bit i of a word is set. -/
def setBitAt (a i : Nat) (s : State) : State := rset s a (rget s a ||| BitVec.ofNat 32 (2 ^ i))

/-- The bits of a block's event and its delivery. -/
def raiseBit (e : Nat) (b : Block) (i : Nat) (s : State) : State :=
  let y := setBitAt (blockBase b + 0x08) i s
  if nonMaskable e || (rget y (blockBase b + 0x0C)).toNat / 2 ^ i % 2 == 1 then
    deliverPins e (deliverDoors e (setBitAt (blockBase b + 0x10) i y))
  else y

theorem raiseNow_of_source {e : Nat} {b : Block} {i : Nat} (h : eventSource e = some (b, i)) (test : Bool) (s : State) :
    raiseNow e test s = raiseBit e b i (countEvent e test s) := by
  unfold raiseNow
  rw [h]
  rfl

theorem raiseNow_of_undefined {e : Nat} (h : eventSource e = none) (test : Bool) (s : State) :
    raiseNow e test s = deliverPins e (deliverDoors e (countEvent e test s)) := by
  unfold raiseNow
  rw [h]
  rfl

theorem signals_countEvent (s : State) (e : Nat) (test : Bool) : Signals s (countEvent e test s) :=
  (signals_setF ..).trans <| (signals_setF ..).trans <| (signals_setF ..).trans <| (signals_setF ..).trans <| signals_setF ..

theorem signals_raiseBit (s : State) (e : Nat) (b : Block) (i : Nat) : Signals s (raiseBit e b i s) := by
  have delivered (y : State) : Signals y (deliverPins e (deliverDoors e (setBitAt (blockBase b + 0x10) i y))) :=
    (signals_rset ..).trans ((signals_deliverDoors ..).trans (signals_deliverPins ..))
  exact (signals_rset s _ _).trans (.ite (delivered _) (.refl _))

theorem signals_raiseNow (s : State) (e : Nat) (test : Bool) : Signals s (raiseNow e test s) := by
  refine (signals_countEvent s e test).trans ?_
  cases h : eventSource e with
  | none => exact raiseNow_of_undefined h test s ▸ (signals_deliverDoors ..).trans (signals_deliverPins ..)
  | some p => exact raiseNow_of_source h test s ▸ signals_raiseBit ..

theorem raiseEvent_of_inKeep {s : State} (h : inKeep s = true) (e : Nat) :
    raiseEvent e s = { s with evt := { s.evt with heldEvents := s.evt.heldEvents ++ [(e, s.now)] } } := if_pos h

theorem raiseEvent_of_awake {s : State} (h : inKeep s = false) (e : Nat) : raiseEvent e s = raiseNow e false s :=
  if_neg (Bool.eq_false_iff.1 h)

theorem signals_raiseEvent (s : State) (e : Nat) : Signals s (raiseEvent e s) := by
  unfold raiseEvent
  split
  · exact ⟨_, _, _, _, _, _, _, _, rfl⟩
  · exact signals_raiseNow ..

theorem signals_raiseIf (s : State) (c : Bool) (e : Nat) : Signals s (raiseIf c e s) := by
  unfold raiseIf
  split
  · exact signals_raiseEvent ..
  · exact .refl s

theorem signals_setIf (s : State) (c : Bool) (f : Fld) (v : Nat) : Signals s (setIf c f v s) := by
  unfold setIf
  split
  · exact signals_setF ..
  · exact .refl s

end Sys2Proof.Machine
end

section
/-! SUPPORT. The words that an event's raising changes: its route entry, EVT_LAST, its block's bits, the doors' pending bits, ALERT_N's latch
and the pending-bit arrays of the messages. -/

namespace Sys2Proof.Machine

theorem door_cases {d : Nat} (h : d < 4) : d = 0 ∨ d = 1 ∨ d = 2 ∨ d = 3 := by omega

/-! ### Words that a step keeps -/

/-- From registers in canonical form to registers in canonical form that differ in words of P alone. -/
structure WordsKept (P : Nat → Prop) (s s' : State) : Prop where
  wf : swf resetWord s.regs = true → swf resetWord s'.regs = true
  same : swf resetWord s.regs = true → ∀ {a : Nat}, ¬ P a → rget s' a = rget s a

section
variable {P Q : Nat → Prop} {s s' u : State}

theorem rget_of_regs_eq (h : s'.regs = s.regs) (a : Nat) : rget s' a = rget s a := by rw [rget, h, rget]

theorem getF_of_regs_eq (h : s'.regs = s.regs) (f : Fld) : getF s' f = getF s f := by rw [getF, rget_of_regs_eq h, getF]

theorem WordsKept.of_regs (h : s'.regs = s.regs) : WordsKept P s s' := ⟨fun hs => by rwa [h], fun _ a _ => rget_of_regs_eq h a⟩

theorem WordsKept.refl (s : State) : WordsKept P s s := .of_regs rfl

theorem WordsKept.trans (h : WordsKept P s s') (h' : WordsKept P s' u) : WordsKept P s u :=
  ⟨fun hs => h'.wf (h.wf hs), fun hs _ ha => (h'.same (h.wf hs) ha).trans (h.same hs ha)⟩

theorem WordsKept.mono (h : WordsKept P s s') (hpq : ∀ a, P a → Q a) : WordsKept Q s s' :=
  ⟨h.wf, fun hs a ha => h.same hs fun hp => ha (hpq a hp)⟩

theorem WordsKept.ite {p : Prop} [Decidable p] (ha : WordsKept P s s') (hb : WordsKept P s u) :
    WordsKept P s (if p then s' else u) := by
  split
  · exact ha
  · exact hb

theorem wordsKept_rset {a : Nat} (ha : P a) (s : State) (w : Word) : WordsKept P s (rset s a w) :=
  ⟨rset_keeps_wf s a w, fun hs b hb => by rw [rget_rset s a b w hs, if_neg (fun h : b = a => hb (h ▸ ha))]⟩

theorem wordsKept_setF {f : Fld} (ha : P f.addr) (s : State) (v : Nat) : WordsKept P s (setF s f v) := wordsKept_rset ha ..

end

theorem swf_setBitAt {s : State} (h : swf resetWord s.regs = true) (a i : Nat) : swf resetWord (setBitAt a i s).regs = true :=
  rset_keeps_wf s _ _ h

theorem rget_setBitAt_of_ne {s : State} (h : swf resetWord s.regs = true) {a b i : Nat} (hab : b ≠ a) :
    rget (setBitAt a i s) b = rget s b := by
  rw [setBitAt, rget_rset s a b _ h, if_neg hab]

/-- A bit of a word after another one of some word is set. -/
theorem getLsbD_setBitAt {s : State} (h : swf resetWord s.regs = true) {i : Nat} (hi : i < 32) (a b j : Nat) :
    (rget (setBitAt a i s) b).getLsbD j = ((rget s b).getLsbD j || (decide (b = a) && decide (j = i))) := by
  rw [setBitAt, rget_rset s a b _ h]
  split
  · next hab =>
    subst hab
    rw [BitVec.getLsbD_or, BitVec.getLsbD_ofNat, Nat.testBit_two_pow, decide_eq_true rfl, Bool.true_and]
    by_cases hj : j = i
    · simp [hj, hi]
    · simp [hj, Ne.symm hj]
  · next hab => simp [hab]

/-- Bit i of a word as the model reads it. -/
theorem toNat_bit_eq_one (w : Word) (i : Nat) : (w.toNat / 2 ^ i % 2 == 1) = w.getLsbD i := by
  rw [BitVec.getLsbD, Nat.testBit_eq_decide_div_mod_eq, Bool.beq_eq_decide_eq]

/-! ### Delivery -/

/-- The words of the pending-bit arrays (PCIe). -/
def PbaWord (a : Nat) : Prop := 0x528000 ≤ a ∧ a < 0x528400

/-- The word of door d's pending bits that holds event e's. -/
def pendWord (e d : Nat) : Nat := (Reg.EVT_PEND_PEND d (e / 32)).addr

theorem journalHold_regs (d : Nat) (r : JournalRec) (s : State) : (journalHold d r s).regs = s.regs := by
  unfold journalHold
  split <;> rfl

theorem sendNewel_regs (m : NewelMsg) (s : State) : (sendNewel m s).regs = s.regs := by
  unfold sendNewel
  split <;> rfl

theorem wordsKept_sendMsix {d v : Nat} (hd : d < 4) (hv : v < 2048) (s : State) : WordsKept PbaWord s (sendMsix d v s) := by
  have hword : PbaWord (Reg.MSIX_PBA d (v / 32)).addr := by
    show 0x528000 ≤ 0x528000 + 256 * d + 4 * (v / 32) ∧ 0x528000 + 256 * d + 4 * (v / 32) < 0x528400
    omega
  exact .ite (.refl s) (.ite (wordsKept_rset hword ..) (.of_regs rfl))

/-- A delivery sets the door's pending bit; its message may set a bit of the pending-bit array. -/
theorem wordsKept_deliverTo {d v : Nat} (hd : d < 4) (hv : v < 2048) (e : Nat) (s : State) :
    WordsKept PbaWord (setBitAt (pendWord e d) (e % 32) s) (deliverTo e d v s) := by
  refine WordsKept.trans ?_ (.of_regs (journalHold_regs ..))
  exact .ite (wordsKept_sendMsix hd hv _) (.refl _)

/-- Whether an event's route names a door, or the event is non-maskable. -/
def routed (s : State) (e d : Nat) : Bool := nonMaskable e || getF s (Reg.ROUTE_EN e d) == 1

theorem deliverDoor_of_not_routed {s : State} {e d : Nat} (h : routed s e d = false) : deliverDoor e s d = s := by
  obtain ⟨hn, hr⟩ := Bool.or_eq_false_iff.1 h
  rw [deliverDoor, if_neg (by simp [hn]), if_neg (by simpa using hr)]

theorem wordsKept_deliverDoor {s : State} {e d : Nat} (hd : d < 4) (h : routed s e d = true) :
    WordsKept PbaWord (setBitAt (pendWord e d) (e % 32) s) (deliverDoor e s d) := by
  unfold deliverDoor
  split
  · exact wordsKept_deliverTo hd (by decide) e s
  · next hn =>
    rw [if_pos (by simpa [routed, hn] using h)]
    exact wordsKept_deliverTo hd (bitsOf_lt _ 10 0) e s

section
variable {s : State} (hs : swf resetWord s.regs = true) {e : Nat}
include hs

theorem swf_deliverDoor {d : Nat} (hd : d < 4) : swf resetWord (deliverDoor e s d).regs = true := by
  cases h : routed s e d
  · rwa [deliverDoor_of_not_routed h]
  · exact (wordsKept_deliverDoor hd h).wf (swf_setBitAt hs ..)

theorem getLsbD_deliverDoor {d : Nat} (hd : d < 4) {a : Nat} (ha : ¬ PbaWord a) (j : Nat) :
    (rget (deliverDoor e s d) a).getLsbD j =
      ((rget s a).getLsbD j || (decide (j = e % 32) && (decide (a = pendWord e d) && routed s e d))) := by
  cases h : routed s e d
  · simp [deliverDoor_of_not_routed h]
  · rw [(wordsKept_deliverDoor hd h).same (swf_setBitAt hs ..) ha,
      getLsbD_setBitAt hs (Nat.mod_lt _ (by decide)), Bool.and_true, Bool.and_comm (decide (a = _))]

theorem rget_deliverDoor_of_ne {d : Nat} (hd : d < 4) {a : Nat} (ha : ¬ PbaWord a) (hp : a ≠ pendWord e d) :
    rget (deliverDoor e s d) a = rget s a := by
  refine BitVec.eq_of_getLsbD_eq fun j _ => ?_
  rw [getLsbD_deliverDoor hs hd ha, decide_eq_false hp, Bool.false_and, Bool.and_false, Bool.or_false]

/-- A delivery changes no route. -/
theorem routed_deliverDoor {d d' : Nat} (hd : d < 4) (he : e < 1536) : routed (deliverDoor e s d) e d' = routed s e d' := by
  have hroute : rget (deliverDoor e s d) (Reg.ROUTE_EN e d').addr = rget s (Reg.ROUTE_EN e d').addr := by
    refine rget_deliverDoor_of_ne hs hd ?_ ?_
    · show ¬ (0x528000 ≤ 0x87000000 + 32 * e + 4 * d' ∧ 0x87000000 + 32 * e + 4 * d' < 0x528400)
      omega
    · show 0x87000000 + 32 * e + 4 * d' ≠ 0x201000 + 256 * d + 4 * (e / 32)
      omega
  rw [routed, routed, getF, getF, hroute]

end

/-- Delivery to a list of doors: what each bit of a word outside the pending-bit arrays reads afterwards. -/
theorem getLsbD_deliverList {e : Nat} (he : e < 1536) {a : Nat} (ha : ¬ PbaWord a) (j : Nat) : ∀ {ds : List Nat} {s : State},
    (∀ d ∈ ds, d < 4) → swf resetWord s.regs = true → swf resetWord (ds.foldl (deliverDoor e) s).regs = true ∧
    (rget (ds.foldl (deliverDoor e) s) a).getLsbD j =
      ((rget s a).getLsbD j || (decide (j = e % 32) && ds.any fun d => decide (a = pendWord e d) && routed s e d))
  | [], s, _, hs => by simp [hs]
  | d :: ds, s, hds, hs => by
    have hd := hds d List.mem_cons_self
    obtain ⟨hu, hbit⟩ := getLsbD_deliverList he ha j (fun d' h => hds d' (List.mem_cons_of_mem d h))
      (swf_deliverDoor hs (e := e) hd)
    refine ⟨hu, ?_⟩
    simp only [routed_deliverDoor hs hd he] at hbit
    rw [List.foldl_cons, hbit, getLsbD_deliverDoor hs hd ha, List.any_cons, Bool.or_assoc, ← Bool.and_or_distrib_left]

section
variable {s : State} (hs : swf resetWord s.regs = true) {e : Nat} (he : e < 1536)
include hs he

theorem swf_deliverDoors : swf resetWord (deliverDoors e s).regs = true :=
  (getLsbD_deliverList he (a := 0) (fun h => absurd h.1 (by decide)) 0 (by decide) hs).1

theorem getLsbD_deliverDoors {a : Nat} (ha : ¬ PbaWord a) (j : Nat) : (rget (deliverDoors e s) a).getLsbD j =
    ((rget s a).getLsbD j || (decide (j = e % 32) && allDoors.any fun d => decide (a = pendWord e d) && routed s e d)) :=
  (getLsbD_deliverList he ha j (by decide) hs).2

end

/-- The words that a delivery changes: the doors' pending bits, the pending-bit arrays, and EVT_ALERT. -/
def DeliveryWord (a : Nat) : Prop := (0x201000 ≤ a ∧ a < 0x201400) ∨ PbaWord a ∨ a = 0x200050

theorem wordsKept_deliverDoors {e : Nat} (he : e < 1536) (s : State) : WordsKept DeliveryWord s (deliverDoors e s) := by
  refine ⟨fun hs => swf_deliverDoors hs he, fun hs a ha => BitVec.eq_of_getLsbD_eq fun j _ => ?_⟩
  have hany : (allDoors.any fun d => decide (a = pendWord e d) && routed s e d) = false := by
    rw [List.any_eq_false]
    intro d hd
    have hd4 : d < 4 := (by decide : ∀ d ∈ allDoors, d < 4) d hd
    have hne : a ≠ pendWord e d := by
      rintro rfl
      refine ha (.inl ?_)
      show 0x201000 ≤ 0x201000 + 256 * d + 4 * (e / 32) ∧ 0x201000 + 256 * d + 4 * (e / 32) < 0x201400
      omega
    simp [hne]
  rw [getLsbD_deliverDoors hs he (fun hp => ha (.inr (.inl hp))), hany, Bool.and_false, Bool.or_false]

/-- The word of ALERT_N's latch. -/
def AlertWord (a : Nat) : Prop := a = 0x200050

theorem wordsKept_latchAlert (e : Nat) (s : State) : WordsKept AlertWord s (latchAlert e s) :=
  have stored (f : Fld) (h : f.addr = 0x200050) (v : Nat) (y : State) : WordsKept AlertWord y (setF y f v) := wordsKept_setF h y v
  (stored Reg.EVT_ALERT_COUNT rfl ..).trans ((stored Reg.EVT_ALERT_LAST rfl ..).trans (stored Reg.EVT_ALERT_ACTIVE rfl ..))

/-- ALERT_N and the twin: of the registers, EVT_ALERT alone. -/
theorem wordsKept_deliverPins (e : Nat) (s : State) : WordsKept AlertWord s (deliverPins e s) := by
  have latched : WordsKept AlertWord s (if nonMaskable e || getF s (Reg.ROUTE_ALERT e) == 1 then latchAlert e s else s) :=
    .ite (wordsKept_latchAlert ..) (.refl s)
  exact latched.trans (.ite (.of_regs (sendNewel_regs ..)) (.refl _))

theorem wordsKept_deliver {e : Nat} (he : e < 1536) (s : State) : WordsKept DeliveryWord s (deliverPins e (deliverDoors e s)) :=
  (wordsKept_deliverDoors he s).trans ((wordsKept_deliverPins e _).mono fun _ h => .inr (.inr h))

/-! ### Raising -/

theorem blockBase_mod (b : Block) : blockBase b % 0x100000 = 0 := by cases b <;> rfl

theorem blockBase_lt (b : Block) : blockBase b < 0x4000000 := by cases b <;> decide

theorem blockBase_injective {b c : Block} (h : blockBase b = blockBase c) : b = c := by
  have hof : ∀ b, blockOf (blockBase b) = b := fun b => by cases b <;> rfl
  rw [← hof b, h, hof]

theorem eventSource_bit_lt {e : Nat} {b : Block} {i : Nat} (h : eventSource e = some (b, i)) : i < 32 := by
  obtain ⟨c, hc, hpair⟩ := Option.map_eq_some_iff.1 h
  obtain ⟨rfl, rfl⟩ := Prod.mk.inj hpair
  have hrange := List.find?_some hc
  have hcount : (blockEvents c).2 ≤ 30 := by cases c <;> decide
  simp only [Bool.and_eq_true, decide_eq_true_eq] at hrange
  omega

/-- The words of event e's route entry that a raising stamps, and EVT_LAST. -/
def StampWord (e a : Nat) : Prop := a = 0x87000018 + 32 * e ∨ a = 0x8700001C + 32 * e ∨ a = 0x200058

theorem wordsKept_countEvent (e : Nat) (test : Bool) (s : State) :
    WordsKept (StampWord e) (incF s (Reg.ROUTE_COUNT e)) (countEvent e test s) :=
  (wordsKept_setF (.inl rfl) ..).trans <| (wordsKept_setF (.inr (.inl rfl)) ..).trans <|
    (wordsKept_setF (.inr (.inr rfl)) ..).trans (wordsKept_setF (.inr (.inr rfl)) ..)

theorem wordsKept_raiseBit {e : Nat} (he : e < 1536) (b : Block) (i : Nat) (s : State) :
    WordsKept (fun a => DeliveryWord a ∨ a = blockBase b + 0x10) (setBitAt (blockBase b + 0x08) i s) (raiseBit e b i s) :=
  .ite ((wordsKept_rset (.inr rfl) _ _).trans ((wordsKept_deliver he _).mono fun _ => .inl)) (.refl _)

/-- The words that a raising changes beyond its event's count and RAW bit. -/
def RaisedWord (e a : Nat) : Prop := StampWord e a ∨ DeliveryWord a ∨ a % 0x100000 = 0x10

theorem not_raisedWord_count (e : Nat) : ¬ RaisedWord e (Reg.ROUTE_COUNT e).addr := by
  show ¬ RaisedWord e (0x87000014 + 32 * e)
  unfold RaisedWord StampWord DeliveryWord PbaWord
  omega

theorem not_raisedWord_raw (e : Nat) (b : Block) : ¬ RaisedWord e (blockBase b + 0x08) := by
  have hm := blockBase_mod b
  have hl := blockBase_lt b
  unfold RaisedWord StampWord DeliveryWord PbaWord
  omega

/-- Raising a defined event, outside Keep: its count, its RAW bit, and words of `RaisedWord`. -/
theorem wordsKept_raiseNow_of_source {e : Nat} {b : Block} {i : Nat} (he : e < 1536) (hsrc : eventSource e = some (b, i)) (test : Bool)
    (s : State) : WordsKept (RaisedWord e) (setBitAt (blockBase b + 0x08) i (countEvent e test s)) (raiseNow e test s) := by
  rw [raiseNow_of_source hsrc]
  refine (wordsKept_raiseBit he b i _).mono fun a ha => ?_
  rcases ha with ha | rfl
  · exact .inr (.inl ha)
  · have := blockBase_mod b
    exact .inr (.inr (by omega))

theorem swf_incF {s : State} (h : swf resetWord s.regs = true) (f : Fld) : swf resetWord (incF s f).regs = true := setF_swf h

section
variable {s : State} (hs : swf resetWord s.regs = true) {e : Nat} (he : e < 1536) {test : Bool}
include hs

theorem swf_countEvent : swf resetWord (countEvent e test s).regs = true := (wordsKept_countEvent e test s).wf (swf_incF hs _)

theorem rget_countEvent_of_ne {a : Nat} (hne : a ≠ (Reg.ROUTE_COUNT e).addr) (ha : ¬ StampWord e a) :
    rget (countEvent e test s) a = rget s a :=
  ((wordsKept_countEvent e test s).same (swf_incF hs _) ha).trans (rget_setF_ne hs hne)

include he

theorem swf_raiseNow : swf resetWord (raiseNow e test s).regs = true := by
  have hc := swf_countEvent hs (e := e) (test := test)
  cases hsrc : eventSource e with
  | none =>
    rw [raiseNow_of_undefined hsrc]
    exact (wordsKept_deliver he _).wf hc
  | some p => exact (wordsKept_raiseNow_of_source he hsrc test s).wf (swf_setBitAt hc ..)

/-- The event is counted in its route. -/
theorem getF_count_raiseNow : getF (raiseNow e test s) (Reg.ROUTE_COUNT e) = (getF s (Reg.ROUTE_COUNT e) + 1) % 2 ^ 32 := by
  have hc := swf_countEvent hs (e := e) (test := test)
  have hcount : rget (raiseNow e test s) (Reg.ROUTE_COUNT e).addr = rget (countEvent e test s) (Reg.ROUTE_COUNT e).addr := by
    have hkept := not_raisedWord_count e
    cases hsrc : eventSource e with
    | none =>
      rw [raiseNow_of_undefined hsrc]
      exact (wordsKept_deliver he _).same hc fun h => hkept (.inr (.inl h))
    | some p =>
      rw [(wordsKept_raiseNow_of_source he hsrc test s).same (swf_setBitAt hc ..) hkept, rget_setBitAt_of_ne hc]
      have hl := blockBase_lt p.1
      show 0x87000014 + 32 * e ≠ blockBase p.1 + 0x08
      omega
  have hstamp : rget (countEvent e test s) (Reg.ROUTE_COUNT e).addr = rget (incF s (Reg.ROUTE_COUNT e)) (Reg.ROUTE_COUNT e).addr :=
    (wordsKept_countEvent e test s).same (swf_incF hs _) fun h => not_raisedWord_count e (.inl h)
  rw [getF, hcount, hstamp, ← getF, incF, getF_setF_self hs (Nat.zero_le 31) (show 31 < 32 by decide)]
  rfl

section
variable {b : Block} {i : Nat} (hsrc : eventSource e = some (b, i))
include hsrc

/-- RAW bits after a raising: the event's own is set, every other one keeps its value. -/
theorem rawBit_raiseNow (c : Block) (j : Nat) :
    rawBit (raiseNow e test s) c j = (rawBit s c j || (decide (c = b) && decide (j = i))) := by
  have hc := swf_countEvent hs (e := e) (test := test)
  have hl := blockBase_lt c
  have hraw : rget (countEvent e test s) (blockBase c + 0x08) = rget s (blockBase c + 0x08) :=
    rget_countEvent_of_ne hs (by show blockBase c + 0x08 ≠ 0x87000014 + 32 * e; omega) fun h => not_raisedWord_raw e c (.inl h)
  rw [rawBit, rawBit, (wordsKept_raiseNow_of_source he hsrc test s).same (swf_setBitAt hc ..) (not_raisedWord_raw e c),
    getLsbD_setBitAt hc (eventSource_bit_lt hsrc), hraw]
  congr 2
  exact decide_eq_decide.2 ⟨fun h => blockBase_injective (Nat.add_right_cancel h), fun h => by rw [h]⟩

/-- A door's pending bits after a raising: the event's own is set where the event is enabled and its route names the door. -/
theorem pending_raiseNow {d : Nat} (hd : d < 4) (j : Nat) : (rget (raiseNow e test s) (pendWord e d)).getLsbD j =
    ((rget s (pendWord e d)).getLsbD j ||
      (decide (j = e % 32) && ((nonMaskable e || (rget s (blockBase b + 0x0C)).getLsbD i) && routed s e d))) := by
  have hl := blockBase_lt b
  have hm := blockBase_mod b
  have hpw : pendWord e d = 0x201000 + 256 * d + 4 * (e / 32) := rfl
  have hc := swf_countEvent hs (e := e) (test := test)
  have count_keeps {a : Nat} (hne : a ≠ 0x87000014 + 32 * e) (ha : ¬ StampWord e a) : rget (countEvent e test s) a = rget s a :=
    rget_countEvent_of_ne hs hne ha
  have hraw := swf_setBitAt hc (blockBase b + 0x08) i
  have raw_keeps {a : Nat} (ha : a ≠ blockBase b + 0x08) :
      rget (setBitAt (blockBase b + 0x08) i (countEvent e test s)) a = rget (countEvent e test s) a := rget_setBitAt_of_ne hc ha
  have hen : rget (setBitAt (blockBase b + 0x08) i (countEvent e test s)) (blockBase b + 0x0C) = rget s (blockBase b + 0x0C) :=
    (raw_keeps (by omega)).trans (count_keeps (by omega) (by unfold StampWord; omega))
  have hpend : rget (setBitAt (blockBase b + 0x08) i (countEvent e test s)) (pendWord e d) = rget s (pendWord e d) :=
    (raw_keeps (by omega)).trans (count_keeps (by omega) (by unfold StampWord; omega))
  rw [raiseNow_of_source hsrc, raiseBit, hen, toNat_bit_eq_one]
  cases hon : nonMaskable e || (rget s (blockBase b + 0x0C)).getLsbD i
  · rw [if_neg Bool.false_ne_true, hpend, Bool.false_and, Bool.and_false, Bool.or_false]
  · have hstat := swf_setBitAt hraw (blockBase b + 0x10) i
    have stat_keeps {a : Nat} (ha : a ≠ blockBase b + 0x10) :
        rget (setBitAt (blockBase b + 0x10) i (setBitAt (blockBase b + 0x08) i (countEvent e test s))) a =
          rget (setBitAt (blockBase b + 0x08) i (countEvent e test s)) a := rget_setBitAt_of_ne hraw ha
    have hroute : ∀ d', d' < 4 →
        routed (setBitAt (blockBase b + 0x10) i (setBitAt (blockBase b + 0x08) i (countEvent e test s))) e d' = routed s e d' := by
      intro d' hd'
      have ha : (Reg.ROUTE_EN e d').addr = 0x87000000 + 32 * e + 4 * d' := rfl
      rw [routed, routed, getF, getF, stat_keeps (by omega), raw_keeps (by omega), count_keeps (by omega) (by unfold StampWord; omega)]
    have hany : (allDoors.any fun d' => decide (pendWord e d = pendWord e d') && routed s e d') = routed s e d := by
      have hinj : ∀ d', pendWord e d = pendWord e d' ↔ d = d' := fun d' => by
        show 0x201000 + 256 * d + 4 * (e / 32) = 0x201000 + 256 * d' + 4 * (e / 32) ↔ d = d'
        omega
      simp only [hinj]
      obtain rfl | rfl | rfl | rfl := door_cases hd <;> simp [allDoors]
    rw [if_pos rfl, (wordsKept_deliverPins e _).same (swf_deliverDoors hstat he) (by rw [hpw]; unfold AlertWord; omega),
      getLsbD_deliverDoors hstat he (by rw [hpw]; unfold PbaWord; omega), stat_keeps (by omega), hpend, Bool.true_and, ← hany]
    congr 2
    simp only [allDoors, List.any_cons, List.any_nil, hroute 0 (by decide), hroute 1 (by decide), hroute 2 (by decide),
      hroute 3 (by decide)]

end

end

/-- Settles O10: RAW, the count and the pending bits are three readings of the words that a raising changes. -/
theorem eventsRaised : Obligations.EventsRaised := by
  constructor
  · intro s e he hs u
    refine ⟨(signals_raiseEvent s e).reports, fun hk => raiseEvent_of_inKeep hk e, fun hk => ?_⟩
    have hu : u = raiseNow e false s := raiseEvent_of_awake hk e
    rw [hu]
    refine ⟨swf_raiseNow hs he, getF_count_raiseNow hs he, fun b i hsrc => ⟨?_, fun j hj => ?_, fun c hcb j => ?_⟩⟩
    · simp [rawBit_raiseNow hs he hsrc]
    · simp [rawBit_raiseNow hs he hsrc, hj]
    · simp [rawBit_raiseNow hs he hsrc, hcb]
  · intro s e d b i he hd hs hk hsrc u a enabled named
    have hu : u = raiseNow e false s := raiseEvent_of_awake hk e
    have hbit := pending_raiseNow hs he hsrc hd (test := false)
    rw [hu]
    refine ⟨(hbit _).trans ?_, fun j hj => (hbit j).trans ?_⟩
    · rw [decide_eq_true rfl, Bool.true_and]
      rfl
    · rw [decide_eq_false hj, Bool.false_and, Bool.or_false]
      rfl

end Sys2Proof.Machine
end

section
/-! SUPPORT. What a captured error leaves: the block's first record, the log's entry, the takeover recommendation, and what it leaves alone. -/

namespace Sys2Proof.Machine

/-! ### What a captured error leaves alone -/

/-- What a captured error changes: what an event does, the takeover recommendation, and the errors that count as faults. -/
def Notes (s s' : State) : Prop := ∃ regs doors evt out sent waiting txSeq unacked recommend logged,
  s' = { s with
    regs := regs, doors := doors, evt := evt, out := out
    twin := { s.twin with
      sent := sent, waiting := waiting, txSeq := txSeq, unacked := unacked, recommend := recommend, logged := logged } }

theorem Notes.refl (s : State) : Notes s s := ⟨_, _, _, _, _, _, _, _, _, _, rfl⟩

theorem Notes.trans {a b c : State} : Notes a b → Notes b c → Notes a c := by
  rintro ⟨_, _, _, _, _, _, _, _, _, _, rfl⟩ ⟨_, _, _, _, _, _, _, _, _, _, rfl⟩
  exact ⟨_, _, _, _, _, _, _, _, _, _, rfl⟩

theorem Notes.ite {s a b : State} {p : Prop} [Decidable p] (ha : Notes s a) (hb : Notes s b) : Notes s (if p then a else b) := by
  split
  · exact ha
  · exact hb

theorem Notes.reports {s s' : State} : Notes s s' → Reports s s' := by
  rintro ⟨_, _, _, _, _, _, _, _, _, _, rfl⟩
  exact ⟨rfl, rfl⟩

theorem Signals.notes {s s' : State} : Signals s s' → Notes s s' := by
  rintro ⟨_, _, _, _, _, _, _, _, rfl⟩
  exact ⟨_, _, _, _, _, _, _, _, _, _, rfl⟩

theorem signals_setEvt (s : State) (x : EventUnit) : Signals s { s with evt := x } := ⟨_, _, _, _, _, _, _, _, rfl⟩

theorem signals_logPut (s : State) (e : ErrRec) (first : Bool) : Signals s (logPut e first s) :=
  .ite
    ((signals_setEvt ..).trans <| (signals_setF ..).trans <| (signals_setIf ..).trans <| (signals_setF ..).trans (signals_raiseEvent ..))
    ((signals_setEvt ..).trans <| (signals_setF ..).trans (signals_setIf ..))

theorem signals_logDrop (s : State) : Signals s (logDrop s) :=
  .ite (signals_setF ..) ((signals_setF ..).trans <| (signals_setEvt ..).trans (signals_raiseEvent ..))

theorem signals_journalError (s : State) (e : ErrRec) (door : Option Nat) : Signals s (journalError e door s) := by
  unfold journalError
  split
  · exact .ite ((signals_journalHold ..).trans (signals_journalHold ..)) (signals_journalHold ..)
  · exact signals_journalHold ..

/-- An error's place among the first records: it counts, and fills the block's record or raises its class. -/
def noteFirst (e : ErrRec) (s : State) : State :=
  let held := (firstOf s e.block).isSome
  let s := if held then incSatF s ⟨blockBase e.block + 0x14, 23, 0⟩ else s
  match firstOf s e.block with
  | some f => setFirst s e.block (some { f with cls := max f.cls e.sev })
  | none => setFirst s e.block (some ⟨e, e.sev, false⟩)

/-- An error's entry in the log, or its count where it is beyond the sixteenth access error of its flight. -/
def noteLog (e : ErrRec) (held : Bool) (s : State) : State :=
  if e.sev = 0 ∧ s.evt.accessInFlight ≥ 16 then logDrop s
  else logPut e (!held) (if e.sev = 0 then { s with evt := { s.evt with accessInFlight := s.evt.accessInFlight + 1 } } else s)

/-- What an error means for the pair: a takeover recommendation, and a fault of the groups that close within the second after it. -/
def noteTwin (e : ErrRec) (s : State) : State :=
  let s := if e.takeover || e.sev == 3 then { s with twin := { s.twin with recommend := true } } else s
  if 2 ≤ e.sev ∨ (e.block = .cip ∧ e.code = 1) then noteFault e s else s

theorem captureBase_eq (e : ErrRec) (door : Option Nat) (s : State) :
    captureBase e door s = journalError e door (noteTwin e (noteLog e (firstOf s e.block).isSome (noteFirst e s))) := rfl

/-- A block's first record after an error: the error's own where there was none, else the one that stands, with the larger class. -/
def firstAfter (e : ErrRec) : Option ErrFirst → Option ErrFirst
  | none => some ⟨e, e.sev, false⟩
  | some f => some { f with cls := max f.cls e.sev }

theorem noteFirst_eq (e : ErrRec) (s : State) : noteFirst e s =
    setFirst (if (firstOf s e.block).isSome then incSatF s ⟨blockBase e.block + 0x14, 23, 0⟩ else s) e.block
      (firstAfter e (firstOf s e.block)) := by
  unfold noteFirst
  cases h : firstOf s e.block with
  | none => simp [h, firstAfter]
  | some f =>
    have h' : firstOf (incSatF s ⟨blockBase e.block + 0x14, 23, 0⟩) e.block = some f := h
    simp [h', firstAfter]

theorem notes_noteFirst (s : State) (e : ErrRec) : Notes s (noteFirst e s) := by
  rw [noteFirst_eq]
  exact (Signals.trans (.ite (signals_setF ..) (.refl s)) (signals_setEvt ..)).notes

theorem notes_noteLog (s : State) (e : ErrRec) (held : Bool) : Notes s (noteLog e held s) :=
  (Signals.ite (signals_logDrop s) (Signals.trans (.ite (signals_setEvt ..) (.refl s)) (signals_logPut ..))).notes

theorem notes_noteTwin (s : State) (e : ErrRec) : Notes s (noteTwin e s) := by
  have fault (y : State) : Notes y (if 2 ≤ e.sev ∨ (e.block = .cip ∧ e.code = 1) then noteFault e y else y) :=
    .ite ⟨_, _, _, _, _, _, _, _, _, _, rfl⟩ (.refl y)
  exact Notes.trans (.ite ⟨_, _, _, _, _, _, _, _, _, _, rfl⟩ (.refl s)) (fault _)

theorem notes_captureBase (s : State) (e : ErrRec) (door : Option Nat) : Notes s (captureBase e door s) := by
  rw [captureBase_eq]
  exact (notes_noteFirst s e).trans <| (notes_noteLog _ e _).trans <| (notes_noteTwin _ e).trans (signals_journalError ..).notes

theorem captureError_of_not_fatal {sev : Nat} (h : sev < 3) (b : Block) (code inst detail : Nat) (takeover : Bool) (door : Option Nat)
    (s : State) :
    captureError b code sev takeover inst detail door s = captureBase ⟨b, code, sev, takeover, inst, detail, s.now⟩ door s := by
  have h3 : (sev == 3) = false := by simpa using (Nat.ne_of_lt h)
  rw [captureError, h3, Bool.or_false]
  exact if_neg fun hf => (Nat.ne_of_lt h) hf.1

theorem notes_captureError (s : State) (b : Block) (code sev inst detail : Nat) (takeover : Bool) (door : Option Nat) :
    Notes s (captureError b code sev takeover inst detail door s) :=
  .ite ((notes_captureBase ..).trans ((notes_captureBase ..).trans (signals_raiseEvent ..).notes)) (notes_captureBase ..)

/-! ### The first record and the log -/

theorem journalHold_evt (d : Nat) (r : JournalRec) (s : State) : (journalHold d r s).evt = s.evt := by
  unfold journalHold
  split <;> rfl

theorem journalHold_twin (d : Nat) (r : JournalRec) (s : State) : (journalHold d r s).twin = s.twin := by
  unfold journalHold
  split <;> rfl

theorem journalError_evt (e : ErrRec) (door : Option Nat) (s : State) : (journalError e door s).evt = s.evt := by
  unfold journalError
  split
  · dsimp only
    split
    · rw [journalHold_evt, journalHold_evt]
    · exact journalHold_evt ..
  · exact journalHold_evt ..

theorem journalError_twin (e : ErrRec) (door : Option Nat) (s : State) : (journalError e door s).twin = s.twin := by
  unfold journalError
  split
  · dsimp only
    split
    · rw [journalHold_twin, journalHold_twin]
    · exact journalHold_twin ..
  · exact journalHold_twin ..

theorem noteFirst_evt (e : ErrRec) (s : State) : (noteFirst e s).evt =
    { s.evt with firsts := ssetC none s.evt.firsts (blockRow e.block) (firstAfter e (firstOf s e.block)) } := by
  rw [noteFirst_eq]
  split <;> rfl

theorem noteFirst_twin (e : ErrRec) (s : State) : (noteFirst e s).twin = s.twin := by
  rw [noteFirst_eq]
  split <;> rfl

/-- A log with room takes the error's entry. -/
theorem logPut_of_room {s : State} (h : s.evt.log.length < 256) (e : ErrRec) (first : Bool) :
    (logPut e first s).evt = { s.evt with log := s.evt.log ++ [⟨e, first, s.evt.nextSeq⟩], nextSeq := s.evt.nextSeq + 1 } ∧
    (logPut e first s).twin = s.twin := by
  have hroom : ¬ s.evt.log.length ≥ 256 := by omega
  simp [logPut, hroom, setIf]

section
variable {e : ErrRec} {s : State} (hacc : e.sev = 0 → s.evt.accessInFlight < 16) (hlog : s.evt.log.length < 256) (held : Bool)
include hacc hlog

theorem noteLog_of_room : (noteLog e held s).evt.firsts = s.evt.firsts ∧
    (noteLog e held s).evt.log = s.evt.log ++ [⟨e, !held, s.evt.nextSeq⟩] ∧ (noteLog e held s).evt.nextSeq = s.evt.nextSeq + 1 ∧
    (noteLog e held s).twin = s.twin := by
  have hfew : ¬ (e.sev = 0 ∧ s.evt.accessInFlight ≥ 16) := fun h => absurd h.2 (Nat.not_le.2 (hacc h.1))
  rw [noteLog, if_neg hfew]
  split
  · obtain ⟨hevt, htwin⟩ := logPut_of_room
      (s := { s with evt := { s.evt with accessInFlight := s.evt.accessInFlight + 1 } }) hlog e (!held)
    rw [hevt, htwin]
    exact ⟨rfl, rfl, rfl, rfl⟩
  · obtain ⟨hevt, htwin⟩ := logPut_of_room hlog e (!held)
    rw [hevt, htwin]
    exact ⟨rfl, rfl, rfl, rfl⟩

end

theorem noteTwin_evt (e : ErrRec) (s : State) : (noteTwin e s).evt = s.evt := by
  unfold noteTwin
  dsimp only
  split <;> split <;> rfl

theorem noteTwin_recommend {e : ErrRec} (h : e.sev < 3) (s : State) :
    (noteTwin e s).twin.recommend = (s.twin.recommend || e.takeover) := by
  have h3 : (e.sev == 3) = false := by simpa using (Nat.ne_of_lt h)
  unfold noteTwin
  dsimp only
  rw [h3, Bool.or_false]
  cases e.takeover
  · split <;> simp [noteFault]
  · split <;> simp [noteFault]

/-- Settles O11: the first record, the log and the recommendation are set in turn, and none of the later steps touches an earlier one's. -/
theorem capturedErrors : Obligations.CapturedErrors := by
  intro s b code sev inst detail takeover door hsorted hsev hacc hlog u r
  have hu : u = captureBase r door s := captureError_of_not_fatal hsev b code inst detail takeover door s
  have hevt := noteFirst_evt r s
  obtain ⟨hfirsts, hentry, hseq, htwin⟩ := noteLog_of_room (e := r) (s := noteFirst r s)
    (by rw [hevt]; exact hacc) (by rw [hevt]; exact hlog) (firstOf s b).isSome
  have huevt : u.evt = (noteLog r (firstOf s b).isSome (noteFirst r s)).evt := by
    rw [hu, captureBase_eq, journalError_evt, noteTwin_evt]
  have hfirst : ∀ c, firstOf u c = if blockRow c = blockRow b then firstAfter r (firstOf s b) else firstOf s c := fun c => by
    rw [firstOf, huevt, hfirsts, hevt, sgetC_ssetC hsorted]
    rfl
  refine ⟨hu ▸ (notes_captureBase s r door).reports, ?_, fun c hc => ?_, ?_, ?_, ?_⟩
  · rw [hfirst, if_pos rfl]
    cases firstOf s b <;> rfl
  · rw [hfirst, if_neg]
    intro hrow
    revert hc hrow
    cases b <;> cases c <;> decide
  · rw [huevt, hentry, hevt]
    cases firstOf s b <;> rfl
  · rw [huevt, hseq, hevt]
  · rw [hu, captureBase_eq, journalError_twin, noteTwin_recommend hsev, htwin, noteFirst_twin]

end Sys2Proof.Machine
end

section
/-! SUPPORT. The time unit: the servo's samples, holdover, a time restart, captures, transmit stamps and trigger outputs. -/

namespace Sys2Proof.Machine

theorem Signals.tim {s s' : State} (h : Signals s s') : s'.tim = s.tim := by
  obtain ⟨_, _, _, _, _, _, _, _, rfl⟩ := h
  rfl

theorem Signals.setTim {s s' : State} (h : Signals s s') (x : TimeUnit) : Signals { s with tim := x } { s' with tim := x } := by
  obtain ⟨_, _, _, _, _, _, _, _, rfl⟩ := h
  exact ⟨_, _, _, _, _, _, _, _, rfl⟩

theorem Signals.setGal {s s' : State} (h : Signals s s') (x : GalUnit) : Signals { s with gal := x } { s' with gal := x } := by
  obtain ⟨_, _, _, _, _, _, _, _, rfl⟩ := h
  exact ⟨_, _, _, _, _, _, _, _, rfl⟩

theorem Signals.gal {s s' : State} (h : Signals s s') : s'.gal = s.gal := by
  obtain ⟨_, _, _, _, _, _, _, _, rfl⟩ := h
  rfl

/-- A state that differs by signals alone, written out. -/
theorem Signals.eq {s s' : State} (h : Signals s s') :
    s' = { s with regs := s'.regs, doors := s'.doors, evt := s'.evt, twin := s'.twin, out := s'.out } := h.reports.1

/-! ### The servo -/

/-- Entering a state sets it, and may raise events. -/
theorem signals_enterServo (st : ServoState) (s : State) :
    Signals (setServo { s.tim.servo with state := st } s) (enterServo st s) :=
  (signals_raiseIf ..).trans <| (signals_raiseIf ..).trans <| (signals_raiseIf ..).trans (signals_raiseIf ..)

/-- A device in HOLDOVER, with a full event counter listed before TIM_SERVO_CFG: the table's numbers do not rise, and the word is hidden
until the counter wraps to its reset value and leaves the table. -/
def hiddenServoCfg : State :=
  { State.reset with
    regs := [(0x87000C94, 0xFFFFFFFF), (0x600060, 0x10000)]
    tim := { timInit with servo := { servoInit with state := .holdover, ofsLo := 256 } }
    doors := [(0, { doorInit with phase := .opened })] }

/-- The sample leaves HOLDOVER, whose event wraps the counter, and then finds a gain of 1. -/
theorem acc_hiddenServoCfg : (after 0 (offsetCommand 0 0 0) hiddenServoCfg).tim.servo.acc = -1 := by decide

/-- Refutes O12: the statement asks for no rising order of the registers' table, and where its numbers do not rise, the event of leaving
HOLDOVER can change what TIM_SERVO_CFG reads as before the gain is applied. -/
theorem not_servoSamples : ¬ Obligations.ServoSamples := by
  unfold Obligations.ServoSamples
  intro h
  obtain ⟨u, hu, -, -, -, htrack, -⟩ := h hiddenServoCfg 0 0 0 0 (by decide) (by decide) (by decide) (by decide) (by decide)
  cases hu
  have hservo := htrack (by decide) (.inr (.inr rfl))
  have hacc := (congrArg Servo.acc hservo).symm.trans acc_hiddenServoCfg
  revert hacc
  decide

/-! ### Holdover and time restart -/

theorem galWatch_after_events {s : State} (h : quiet (galWatch s) = true) : watch s = galWatch s :=
  calc watch s = watch (galWatch s) := by unfold watch; rw [galWatch_quiet h]
    _ = galWatch s := watch_quiet h

/-- An effect that stops the flights, quiet but for the events that the last one owes: these follow it. -/
theorem acts_eq_galEvents {t : Nat} {s : State} {f : State → State} (hc : calm t s = true) (hf : (f (arriveAt t s)).tim.flights = .stopped)
    (hq : quiet (galEvents (f (arriveAt t s))) = true) (hp : (galEvents (f (arriveAt t s))).pending = s.pending) :
    acts t f s = .next (galEvents (f (arriveAt t s))) := by
  have hw : galWatch (f (arriveAt t s)) = galEvents (f (arriveAt t s)) := if_pos hf
  rw [acts, actAt, traceFlush_quiet (quiet_arriveAt.trans (calm_quiet hc)), warmDue_calm hc, galWatch_after_events (hw ▸ hq), hw, ← hp]

theorem signals_galEvents (s : State) : Signals (setGal { s.gal with due := [] } s) (galEvents s) :=
  signals_foldl (fun s e => signals_raiseEvent s e) _ _

section
variable {s : State} {d a : Nat} (hp : phaseAdmits s d a true = true) (hr : reaches s d a = true)
include hp hr

theorem timeOwnerWrite_of_owner (hd : d = timeOwner s) (f : State → State) : timeOwnerWrite d a f s = f s := by
  simp [timeOwnerWrite, hp, hr, ← hd]

theorem timeOwnerWrite_of_other (hd : d ≠ timeOwner s) (f : State → State) : timeOwnerWrite d a f s = partitionError .tim d s := by
  simp [timeOwnerWrite, hp, hr, hd]

end

/-- Stores of trigger outputs change the trigger outputs alone. -/
theorem foldl_setTrig_eq (f : State → Nat → Trig) : ∀ (l : List Nat) (s : State),
    ∃ trigs, l.foldl (fun s n => setTrig n (f s n) s) s = { s with tim := { s.tim with trigs := trigs } }
  | [], s => ⟨_, rfl⟩
  | n :: l, s => by
    obtain ⟨trigs, h⟩ := foldl_setTrig_eq f l (setTrig n (f s n) s)
    exact ⟨trigs, h⟩

theorem triggersOff_eq (s : State) : ∃ trigs, triggersOff s = { s with tim := { s.tim with trigs := trigs } } :=
  foldl_setTrig_eq (fun s n => { trigOf s n with pulseEnd := none }) _ s

theorem beginRestart_of_no_halt {s : State} (h : s.tim.haltAt = none) :
    beginRestart s = { s with tim := { s.tim with haltAt := some (boundaryAfter s s.now) } } := by
  simp [beginRestart, h]

/-- What the boundary of a restart does, in its order. -/
theorem flightsHalt_of_due {s : State} {b : Nat} (hh : s.tim.haltAt = some b) (hb : b ≤ s.now) :
    flightsHalt s =
      (let z := enterServo .halted { s with tim := { s.tim with flights := .stopped, haltAt := none } }
       raiseEvent 0x067 (triggersOff (setServo { z.tim.servo with stepped := false } z))) := by
  simp [flightsHalt, hh, Nat.not_lt.2 hb]

/-- The boundary of a restart stops the flights; what else it does, reports aside, is the servo's and the trigger outputs'. -/
theorem signals_flightsHalt {s : State} {b : Nat} (hh : s.tim.haltAt = some b) (hb : b ≤ s.now) : ∃ trigs,
    Signals { s with tim := { s.tim with
      flights := .stopped, haltAt := none, servo := { s.tim.servo with state := .halted, stepped := false }, trigs := trigs } }
      (flightsHalt s) := by
  rw [flightsHalt_of_due hh hb]
  have entered := signals_enterServo .halted { s with tim := { s.tim with flights := .stopped, haltAt := none } }
  generalize enterServo .halted { s with tim := { s.tim with flights := .stopped, haltAt := none } } = z at entered
  obtain ⟨trigs, htrigs⟩ := triggersOff_eq (setServo { z.tim.servo with stepped := false } z)
  have htim : z.tim = { s.tim with flights := .stopped, haltAt := none, servo := { s.tim.servo with state := .halted } } := entered.tim
  refine ⟨trigs, Signals.trans ?_ (signals_raiseEvent ..)⟩
  rw [htrigs]
  simp only [setServo, htim]
  exact entered.setTim { s.tim with
    flights := .stopped, haltAt := none, servo := { s.tim.servo with state := .halted, stepped := false }, trigs := trigs }

/-- Entering HOLDOVER freezes RATE at the integrator. -/
theorem signals_enterHoldover (s : State) :
    Signals (setServo { s.tim.servo with state := .holdover, rate := s.tim.servo.acc } s) (enterHoldover s) := by
  obtain ⟨_, _, _, _, _, _, _, _, h⟩ := signals_enterServo .holdover s
  rw [enterHoldover, h]
  exact ⟨_, _, _, _, _, _, _, _, rfl⟩

/-- Settles O13: each command takes one branch of its definition, and the events on the way leave the time unit alone. -/
theorem holdoverAndRestart : Obligations.HoldoverAndRestart := by
  refine ⟨fun s t hc => ?_, fun s t d hc => ?_⟩
  · intro x v due
    refine ⟨fun hdue => ?_, fun hdue => acts_idle hc (if_neg hdue)⟩
    have entered := signals_enterHoldover x
    refine ⟨enterHoldover x, acts_eq_same hc (if_pos hdue) entered.quiet entered.pending, entered.tim, ?_⟩
    rw [entered.tim]
    exact entered.eq
  · intro x a
    refine ⟨fun hp hr => ⟨fun hd => ?_, fun hd hst => ?_, fun hd hst hls hpair hh => ?_⟩, fun b hh hb => ?_⟩
    · exact acts_eq_after hc (timeOwnerWrite_of_other hp hr hd _)
    · refine acts_idle hc ((timeOwnerWrite_of_owner hp hr hd _).trans (if_pos ?_))
      rw [show x.tim.servo.stepped = false from hst]
      rfl
    · have hstay : ¬ (x.twin.state = .lockstep ∨ (x.twin.state = .pairing ∧ x.twin.startFlight.isSome = true)) := by
        rintro (h | ⟨h, hs⟩)
        · exact hls h
        · rw [show x.twin.startFlight = none from hpair h] at hs
          cases hs
      have hrun : ¬ (!x.tim.servo.stepped) = true := by
        rw [show x.tim.servo.stepped = true from hst]
        decide
      refine acts_eq_same hc ((timeOwnerWrite_of_owner hp hr hd _).trans ?_) rfl rfl
      refine (if_neg hrun).trans ?_
      dsimp only
      rw [if_neg hstay]
      exact beginRestart_of_no_halt hh
    · obtain ⟨trigs, halted⟩ := signals_flightsHalt (s := x) hh hb
      have owed := (halted.setGal { s.gal with due := [] }).trans (halted.gal ▸ signals_galEvents (flightsHalt x))
      refine ⟨galEvents (flightsHalt x), acts_eq_galEvents hc ?_ ?_ ?_, ?_, ?_, ?_, ?_⟩
      · rw [halted.tim]
      · obtain ⟨h1, h2, h3, h4, -, h6⟩ := quiet_iff.1 (calm_quiet hc)
        exact owed.quiet.trans (quiet_iff.2 ⟨h1, h2, h3, h4, .inr rfl, h6⟩)
      · exact owed.pending
      · rw [owed.tim]
      · rw [owed.tim]
      · rw [owed.tim]
        rfl
      · rw [owed.tim]
        exact owed.eq

end Sys2Proof.Machine
end

section
/-! SUPPORT. Captures, transmit stamps and trigger outputs. -/

namespace Sys2Proof.Machine

theorem captureFifo_setCapture {s : State} (h : sorted 0 s.tim.captures = true) (ch : Nat) (q : List CapEntry) (c : Nat) :
    captureFifo (setCapture ch q s) c = if c = ch then q else captureFifo s c := sgetC_ssetC h ..

theorem trigOf_setTrig {s : State} (h : sorted 0 s.tim.trigs = true) (n : Nat) (y : Trig) (m : Nat) :
    trigOf (setTrig n y s) m = if m = n then y else trigOf s m := sgetC_ssetC h ..

/-- An edge that is selected and has passed its filter. -/
theorem captureEdge_of_selected {s : State} {ch stamp : Nat} {falling : Bool} (he : edgeSelected s ch falling = true)
    (hf : stamp + getF s (Reg.TIM_CAP_CFG_FILTER ch) ≤ s.now) : captureEdge ch stamp falling s =
      if (captureFifo s ch).length < 8 then setCapture ch (captureFifo s ch ++ [⟨stamp, falling⟩]) s
      else raiseEvent (0x06D + ch) (incSatF (setF s (Reg.TIM_CAP_STAT_OVF ch) 1) (Reg.TIM_CAP_STAT_DROPS ch)) := by
  rw [captureEdge, if_neg]
  rw [he]
  exact fun h => h.elim Bool.false_ne_true (Nat.not_lt.2 hf)

theorem txStampNext_of_left {s : State} {y : TxStamp} (h : earliestStamp s.ports.stampsDue = some y) (hy : y.stamp ≤ s.now) :
    txStampNext s = txStampAppend y.stamp y.port y.ident { s with ports := { s.ports with stampsDue := s.ports.stampsDue.erase y } } := by
  simp [txStampNext, h, Nat.not_lt.2 hy]

/-- Settles O14: each command takes one branch of its definition. -/
theorem captureAndStampFifos : Obligations.CaptureAndStampFifos := by
  refine ⟨fun s t stamp ch falling d hc hsorted => ?_, fun s t d y hc => ?_⟩
  · intro x q
    refine ⟨fun he hf => ⟨fun hq => ?_, fun hq => ?_⟩, fun he => acts_idle hc ?_, fun hw => ?_⟩
    · exact acts_eq_same hc ((captureEdge_of_selected (s := x) he hf).trans (if_pos hq)) rfl rfl
    · exact acts_eq_after hc ((captureEdge_of_selected (s := x) he hf).trans (if_neg (Nat.not_lt.2 hq)))
    · exact if_pos (.inl (by rw [show edgeSelected x ch falling = false from he]; rfl))
    · refine ⟨setCapture ch (q.drop 1) x, acts_eq_same hc (busWrite_of_writeCheck hw _) rfl rfl, ?_, ?_, rfl⟩
      · rw [captureFifo_setCapture (s := x) hsorted, if_pos rfl, List.drop_one]
      · exact fun c hcne => (captureFifo_setCapture (s := x) hsorted ..).trans (if_neg hcne)
  · intro x
    refine ⟨fun hy hleft => ?_, fun hw => ?_⟩
    · have heff := txStampNext_of_left (s := x) hy hleft
      exact ⟨fun hq => acts_eq_same hc (heff.trans (if_pos hq)) rfl rfl,
        fun hq => acts_eq_after hc (heff.trans (if_neg (Nat.not_lt.2 hq)))⟩
    · refine acts_eq_same hc ((busWrite_of_writeCheck hw _).trans ?_) rfl rfl
      rw [txStampPop, List.drop_one]
      rfl

/-! ### Trigger outputs -/

theorem trigSettle_of_none {s : State} {n : Nat} (h : (trigOf s n).next = none) : trigSettle n s = s := by
  simp [trigSettle, h]

theorem trigSettle_of_due {s : State} {n at_ : Nat} {c : TrigCfg} (h : (trigOf s n).next = some (at_, c)) (hat : at_ ≤ s.now) :
    trigSettle n s =
      (let missed : Bool := c.mode == 1 && decide (c.oneAt < instant48 at_)
       raiseIf (missed || trigBad s c) (0x076 + n) (setIf missed (Reg.TIM_TOUT_STAT_MISSED n) 1
         (setTrig n { trigOf s n with cfg := c, next := none, bad := trigBad s c, missed := missed } s))) := by
  have hbool : decide (c.mode = 1 ∧ c.oneAt < instant48 at_) = (c.mode == 1 && decide (c.oneAt < instant48 at_)) := by
    rw [Bool.decide_and]
    rfl
  have hbad (b : Bool) (y : State) : trigBad (setIf b (Reg.TIM_TOUT_STAT_MISSED n) 1 y) c = trigBad y c := by
    cases b <;> rfl
  simp only [trigSettle, h, if_neg (Nat.not_lt.2 hat), hbool, hbad]
  rfl

/-- Where an edge starts a pulse. -/
def pulses (s : State) (x : Trig) : Bool :=
  s.tim.servo.stepped && !inKeep s && trigEdgeNow s x.cfg && !x.bad && !x.missed

theorem triggerEdge_of_settled {s : State} {n : Nat} (h : (trigOf s n).next = none) : triggerEdge n s =
    if pulses s (trigOf s n) then
      setTrig n { trigOf s n with pulseEnd := some (max (s.now + (trigOf s n).cfg.width) ((trigOf s n).pulseEnd.getD 0)) }
        (if (trigOf s n).cfg.mode = 1 then setF s (Reg.TIM_TOUT_STAT_FIRED n) 1 else s)
    else s := by
  rw [triggerEdge, trigSettle_of_none h]
  by_cases hmode : (trigOf s n).cfg.mode = 1 <;> simp [pulses, setIf, hmode]

/-- Settles O15: each command takes one branch of its definition; the report of a configuration leaves the time unit alone. -/
theorem triggerOutputs : Obligations.TriggerOutputs := by
  intro s t at_ e n c hc hsorted x y missed
  refine ⟨fun hnext hat => ?_, fun hnext => ⟨fun hst hk hedge hbad hmiss => ?_, fun hoff => ?_⟩, fun hend => ?_⟩
  · have heff := trigSettle_of_due (s := x) hnext hat
    generalize hu : trigSettle n x = u at heff
    have told : Signals (setTrig n { y with cfg := c, next := none, bad := trigBad s c, missed := missed } x) u :=
      heff ▸ (signals_setIf ..).trans (signals_raiseIf ..)
    have htrig : ∀ m, trigOf u m = if m = n.val then { y with cfg := c, next := none, bad := trigBad s c, missed := missed }
        else trigOf s m := fun m => by
      rw [trigOf, told.tim]
      exact trigOf_setTrig (s := x) hsorted ..
    refine ⟨u, acts_eq_same hc hu told.quiet told.pending, ?_, fun m hm => ?_, fun hm hb => ?_, ?_⟩
    · rw [htrig, if_pos rfl]
    · rw [htrig, if_neg hm]
    · rw [heff, show trigBad x c = false from hb, show (c.mode == 1 && decide (c.oneAt < instant48 at_)) = false from hm]
      rfl
    · rw [told.tim]
      exact told.eq
  · have hp : pulses x y = true := by
      simp [pulses, hedge, hbad, hmiss, show inKeep x = false from hk, show x.tim.servo.stepped = true from hst]
    refine acts_eq_same hc ((triggerEdge_of_settled (s := x) hnext).trans (if_pos hp)) ?_ ?_
    · split <;> rfl
    · split <;> rfl
  · have hp : pulses x y = false := by
      rcases hoff with h | h | h | h | h
      · simp [pulses, show x.tim.servo.stepped = false from h]
      · simp [pulses, show inKeep x = true from h]
      · simp [pulses, h]
      · simp [pulses, h]
      · simp [pulses, h]
    exact acts_idle hc ((triggerEdge_of_settled (s := x) hnext).trans (if_neg (Bool.eq_false_iff.1 hp)))
  · refine acts_eq_same hc ?_ ?_ ?_
    · rw [triggerPulseEnd, show (trigOf x n).pulseEnd = some e from hend]
      rfl
    · split <;> rfl
    · split <;> rfl

end Sys2Proof.Machine
end

section
/-! SUPPORT. Flights of a solo device: the cut, the boundary, resumption, the second's boundary, and the closing of arrival sets. -/

namespace Sys2Proof.Machine

/-! ### A write keeps the words above it -/

/-- A write of one number keeps what every higher one reads, in whatever order the table lists its numbers. -/
theorem sget_sput_of_lt {α : Type} {d : Nat → α} {k j : Nat} {v : α} {keep : Bool} (h : k < j) :
    ∀ m : Sparse α, sget d (sput k v keep m) j = sget d m j
  | [] => by cases keep <;> simp [sput, sget, Nat.ne_of_gt h, Nat.not_lt.2 (Nat.le_of_lt h)]
  | e :: m => by
    have hne := Nat.ne_of_gt h
    have hle := Nat.not_lt.2 (Nat.le_of_lt h)
    rw [sput]
    split
    · cases keep <;> simp [sget, hne, hle]
    · split
      · next hk => cases keep <;> simp [sget, ← hk, hne, hle]
      · rw [sget, sget_sput_of_lt h m, sget]

theorem rget_rset_of_lt {s : State} {a b : Nat} {w : Word} (h : a < b) : rget (rset s a w) b = rget s b := sget_sput_of_lt h _

theorem getF_setF_of_lt {s : State} {f g : Fld} {v : Nat} (h : f.addr < g.addr) : getF (setF s f v) g = getF s g := by
  rw [getF, setF, rget_rset_of_lt h, getF]

theorem Signals.cht {s s' : State} (h : Signals s s') : s'.cht = s.cht := by
  obtain ⟨_, _, _, _, _, _, _, _, rfl⟩ := h
  rfl

/-! ### The cut and the flight -/

/-- Outside lockstep and a resynchronisation no cut is sealed. -/
theorem sealsRequests_of_solo {s : State} (hr : s.twin.resync.active = false) (hu : s.twin.unionFrom = none) (cut : Treads) :
    sealsRequests s cut = false := by
  simp [sealsRequests, hr, hu]

theorem sendReqSeal_of_unsealed {s : State} {cut : Treads} (h : sealsRequests s cut = false) :
    sendReqSeal cut s = setTwin { s.twin with forwarded := 0 } s := if_neg (Bool.eq_false_iff.1 h)

theorem cutAt_of_open {s : State} {cut : Treads} (hd : s.epoch.charterDue = false) (hc : s.epoch.cutDone = false)
    (h : sealsRequests s cut = false) : cutAt cut s = { s with
      epoch := { s.epoch with
        batch := s.epoch.batch ++ s.epoch.arrived.filter fun u => decide (u.stamp < cut)
        arrived := s.epoch.arrived.filter fun u => !decide (u.stamp < cut), cutDone := true }
      twin := { s.twin with forwarded := 0 } } := by
  have hopen : ¬ (s.epoch.charterDue = true ∨ (s.epoch.cutDone = true ∧ s.tim.flights = .running)) := by simp [hd, hc]
  rw [cutAt, if_neg hopen]
  exact sendReqSeal_of_unsealed h

/-- A cut that is not sealed leaves all but the requests that wait for epochs and the count of forwarded ones. -/
theorem cutAt_of_unsealed {s : State} {cut : Treads} (h : sealsRequests s cut = false) :
    ∃ x n, cutAt cut s = { s with epoch := x, twin := { s.twin with forwarded := n } } := by
  unfold cutAt
  split
  · exact ⟨_, _, rfl⟩
  · exact ⟨_, 0, sendReqSeal_of_unsealed (s := { s with epoch := _ }) h⟩

theorem checkSeal_of_unsealed {s : State} (h : sealsRequests s (s.now - 4410) = false) : checkSeal s = s := by
  simp [checkSeal, h]

/-- A flight of a solo device: cut, marks, end of the flight before, commit, releases. -/
def soloFlight (missed : Bool) (s : State) : State :=
  beginFlight missed (keepImage (commitEpoch (endFlight (noteFlight s.now (cutAt (s.now - 4410) s)))))

theorem runFlight_of_solo {s : State} (hs : s.twin.state = .solo) (hr : s.twin.resync.active = false) (hu : s.twin.unionFrom = none) :
    runFlight s = soloFlight (!s.stw.missClass.isEmpty) s := by
  obtain ⟨x, n, hcut⟩ := cutAt_of_unsealed (sealsRequests_of_solo hr hu (s.now - 4410))
  have hflies : pairFlies (cutAt (s.now - 4410) s) = true := by simp [pairFlies, hcut, hs]
  have hcheck : checkSeal (cutAt (s.now - 4410) s) = cutAt (s.now - 4410) s :=
    checkSeal_of_unsealed (sealsRequests_of_solo (by rw [hcut]; exact hr) (by rw [hcut]; exact hu) _)
  have hnow : (cutAt (s.now - 4410) s).now = s.now := by rw [hcut]
  simp only [runFlight, hcheck, hflies, Bool.not_true, Bool.false_eq_true, if_false, hnow]
  rfl

/-- What each step keeps, all of them keep. -/
theorem foldl_proj {α β : Type} (p : State → β) {f : State → α → State} (hf : ∀ s a, p (f s a) = p s) : ∀ (l : List α) (s : State),
    p (l.foldl f s) = p s
  | [], _ => rfl
  | a :: l, s => (foldl_proj p hf l (f s a)).trans (hf s a)

theorem engineSecond_cht (s : State) : (engineSecond s).cht = s.cht := by
  unfold engineSecond
  dsimp only
  refine foldl_proj State.cht (fun z e => ?_) _ _
  exact (setF_cht ..).trans (setF_cht ..)

theorem secondProbe_of_unpaired {s : State} (h : s.cht.loaded.twinRole = 0) : secondProbe s = s := by
  simp [secondProbe, pairedRole, h]

/-! ### Arrival sets -/

theorem setOrNew_key (s : State) (o : SetOwner) (flight : Nat) :
    (setOrNew s o flight).owner = o ∧ (setOrNew s o flight).flight = flight := by
  unfold setOrNew
  cases h : setOf s o flight with
  | none => exact ⟨rfl, rfl⟩
  | some y =>
    have hkey := List.find?_some h
    simp only [Bool.and_eq_true, beq_iff_eq] at hkey
    exact hkey

theorem mem_putSet_sets {x y : ArrSet} {s : State} (h : y ∈ (putSet x s).ports.sets) : y = x ∨ y ∈ s.ports.sets := by
  unfold putSet at h
  dsimp only at h
  split at h
  · obtain ⟨z, hz, rfl⟩ := List.mem_map.1 h
    split
    · exact .inl rfl
    · exact .inr hz
  · rcases List.mem_append.1 h with h | h
    · exact .inr h
    · exact .inl (List.mem_singleton.1 h)

/-- Where every closed set is final or its flight is still to start, no set becomes final. -/
theorem finalizeSets_of_none_due {s : State} (h : ∀ y ∈ s.ports.sets, y.closed = true → y.final = true ∨ s.now < setStart s y.owner y.flight) :
    finalizeSets s = s := by
  have hnone : (s.ports.sets.filter fun x =>
      x.closed && !x.final && !needsUnion s x && decide (setStart s x.owner x.flight ≤ s.now)) = [] := by
    refine List.filter_eq_nil_iff.2 fun y hy hdue => ?_
    simp only [Bool.and_eq_true, Bool.not_eq_true', decide_eq_true_eq] at hdue
    obtain ⟨⟨⟨hclosed, hfinal⟩, -⟩, hstart⟩ := hdue
    rcases h y hy hclosed with hf | hlt
    · rw [hf] at hfinal
      cases hfinal
    · exact absurd hstart (Nat.not_le.2 hlt)
  rw [finalizeSets, hnone]
  rfl

/-- The count of an audio flight's set is kept below the words that a set's period is read from. -/
theorem setStart_setF_last (s : State) (v : Nat) (o : SetOwner) (flight : Nat) :
    setStart (setF s Reg.ETH_ARR_STAT_LAST v) o flight = setStart s o flight := by
  cases o with
  | audio => rfl
  | stream n =>
    have hlt : Reg.ETH_ARR_STAT_LAST.addr < (Reg.STR_RATE n).addr := by
      show 0x800104 < 0x83000000 + 256 * n
      omega
    exact congrArg (flight * ratePeriod ·) (getF_setF_of_lt hlt)
  | input n =>
    have hlt : Reg.ETH_ARR_STAT_LAST.addr < (Reg.INC_RATE n).addr := by
      show 0x800104 < 0x83430000 + 64 * n
      omega
    exact congrArg (flight * ratePeriod ·) (getF_setF_of_lt hlt)

/-- A set that closes, with the count of an audio flight's. -/
def closedSet (x : ArrSet) (o : SetOwner) (s : State) : State :=
  let z := putSet { x with closed := true } s
  if o = .audio then setF z Reg.ETH_ARR_STAT_LAST x.recs.length else z

theorem closeSet_of_due {s : State} {o : SetOwner} {flight : Nat} (h10 : 10 ≤ s.cht.step)
    (hdue : setStart s o flight + 705 ≤ s.now + arrMargin s) (hopen : (setOrNew s o flight).closed = false) :
    closeSet o flight s = closedSet (setOrNew s o flight) o s := by
  simp [closeSet, closedSet, Nat.not_lt.2 h10, Nat.not_lt.2 hdue, hopen]

theorem closeSet_of_early {s : State} {o : SetOwner} {flight : Nat} (h : s.now + arrMargin s < setStart s o flight + 705) :
    closeSet o flight s = s := if_pos (.inr h)

/-- On a device that completes no union, a closing set sends nothing. -/
theorem arrivalSetClose_of_no_union {s : State} {o : SetOwner} {flight : Nat} (h : (closeSet o flight s).twin.unionFrom = none) :
    arrivalSetClose o flight s = settle (finalizeSets (closeSet o flight s)) := by
  simp [arrivalSetClose, needsUnion, h]

theorem finalizeSets_closedSet {s : State} {x : ArrSet} {o : SetOwner}
    (h : ∀ y ∈ s.ports.sets, y.closed = true → y.final = true ∨ s.now < setStart s y.owner y.flight)
    (hx : s.now < setStart s x.owner x.flight) : finalizeSets (closedSet x o s) = closedSet x o s := by
  have hput : ∀ y ∈ (putSet { x with closed := true } s).ports.sets, y.closed = true →
      y.final = true ∨ s.now < setStart s y.owner y.flight := by
    intro y hy hclosed
    rcases mem_putSet_sets hy with rfl | hy
    · exact .inr hx
    · exact h y hy hclosed
  refine finalizeSets_of_none_due fun y hy hclosed => ?_
  unfold closedSet at hy ⊢
  dsimp only at hy ⊢
  split at hy
  · next ho =>
    rw [if_pos ho, setStart_setF_last]
    exact hput y hy hclosed
  · next ho =>
    rw [if_neg ho]
    exact hput y hy hclosed

/-- Settles O16: in each case the command takes one branch, and on a solo device no cut is sealed and no union is owed. -/
theorem flightsAndSets : Obligations.FlightsAndSets := by
  refine ⟨fun s t disagree fault hc hr => ?_, fun s t flight o hc h10 hu => ?_⟩
  · intro x flight
    refine ⟨fun hrun hat htaken hd hcut hu => ?_, fun hat htaken hst hrun hlast hsolo hu => ?_,
      fun hstop hst hhalt hpow hstep hsolo hu hat hres htaken => ?_, fun hsec hrole => ?_, fun hsec => acts_idle hc (if_pos hsec)⟩
    · have hopen := sealsRequests_of_solo (s := x) hr hu
      refine acts_eq_same hc ?_ rfl rfl
      have hcopy : ¬ (x.twin.state = .copying ∧ sealsRequests x x.now = true) := fun h => by simp [hopen] at h
      have hgo : x.tim.flights = .running ∧ (!boundaryTaken x (x.now + 4410)) = true := ⟨hrun, by
        rw [show boundaryTaken x (x.now + 4410) = false from htaken]
        rfl⟩
      have hb : ¬ (!atBoundary x (x.now + 4410)) = true := by
        rw [show atBoundary x (x.now + 4410) = true from hat]
        decide
      exact (if_neg hb).trans <| (if_neg hcopy).trans <| (if_pos hgo).trans (cutAt_of_open hd hcut (hopen _))
    · refine acts_eq_after hc ?_
      let y : State := { x with cip := { x.cip with upset := (workingLane x fault).map (·.val) } }
      have hdue : (atBoundary y y.now && !boundaryTaken y y.now && y.tim.servo.stepped) = true := by
        rw [show atBoundary y y.now = true from hat, show boundaryTaken y y.now = false from htaken,
          show y.tim.servo.stepped = true from hst]
        rfl
      have hstart : audioFlightStart y = soloFlight (!s.stw.missClass.isEmpty) y := by
        have hgo : ¬ (!(atBoundary y y.now && !boundaryTaken y y.now && y.tim.servo.stepped)) = true := by simp [hdue]
        exact (if_neg hgo).trans <| (if_pos hrun).trans <| (if_pos hlast).trans (runFlight_of_solo hsolo hr hu)
      exact congrArg (fun z : State => { z with cip := { z.cip with upset := none } }) hstart
    · refine acts_eq_after hc ?_
      have hgo : x.tim.flights = .stopped ∧ x.tim.servo.stepped = true ∧ x.tim.haltAt.isNone = true ∧ x.clk.power = .run ∧ x.cht.step = 11 ∧
          pairFlies x = true ∧ atBoundary x x.now = true ∧ resumeFrom x ≤ x.now ∧ (!boundaryTaken x x.now) = true :=
        ⟨hstop, hst, by simp [x, hhalt], hpow, hstep, by simp [x, pairFlies, hsolo], hat, hres, by
          rw [show boundaryTaken x x.now = false from htaken]
          rfl⟩
      exact (if_pos hgo).trans (runFlight_of_solo hsolo hr hu)
    · refine acts_eq_after hc ?_
      have hprobe : secondProbe (engineSecond x) = engineSecond x :=
        secondProbe_of_unpaired (by rw [engineSecond_cht]; exact hrole)
      refine (if_neg (Classical.not_not.2 hsec)).trans ?_
      rw [hprobe]
  · intro x set hsets
    obtain ⟨howner, hflight⟩ := setOrNew_key x o flight
    refine ⟨fun hopen hdue hstart => acts_eq_after hc ?_, fun hearly hopen => acts_eq_after hc ?_⟩
    · have hclose := closeSet_of_due (s := x) h10 hdue hopen
      have hu' : (closedSet set o x).twin.unionFrom = none := by
        unfold closedSet
        dsimp only
        split <;> exact hu
      rw [arrivalSetClose_of_no_union (by rw [hclose]; exact hu'), hclose, finalizeSets_closedSet hsets (by rw [howner, hflight]; exact hstart)]
      rfl
    · have hclose := closeSet_of_early (s := x) hearly
      rw [arrivalSetClose_of_no_union (by rw [hclose]; exact hu), hclose, finalizeSets_of_none_due hsets]

end Sys2Proof.Machine
end

section
/-! SUPPORT. The work of a running release, and the modem's pops and tasks. -/

namespace Sys2Proof.Machine

/-! ### The work of a running release -/

/-- The device while a release works: its writes carry the release's instant. -/
def issuedBy (r : Release) (s : State) : State := setDram { s.drm with issuer := some r.instant } s

theorem runningOf_of_workOf {s : State} {task : Nat} {r : Release} (h : workOf s task = some r) : runningOf s task = some r :=
  (Option.filter_eq_some_iff.1 h).1

theorem asRelease_of_running {s : State} {task : Nat} {r : Release} (hk : s.twin.resync.kept = none) (hr : runningOf s task = some r)
    (f : State → State) : asRelease task f s = (let z := f (issuedBy r s); setDram { z.drm with issuer := none } z) := by
  rw [asRelease, hr]
  exact atInstant_idle hk ..

/-- Without an image that a resynchronisation keeps, a release's work is what it does under its own instant. -/
theorem asRelease_congr {s : State} {task : Nat} {r : Release} (hk : s.twin.resync.kept = none) (hr : runningOf s task = some r)
    {f g : State → State} (h : f (issuedBy r s) = g (issuedBy r s)) : asRelease task f s = asRelease task g s := by
  rw [asRelease_of_running hk hr, asRelease_of_running hk hr, h]

theorem takeFlags_fst {s : State} {task : Nat} (h : entryFlags s task = (false, false)) : (takeFlags task s).1 = false := by
  show ((entryFlags s task).1 || (entryFlags s task).2) = false
  rw [h]
  rfl

/-! ### Modem tasks -/

section
variable {s : State} {r : Release} {n : Nat}

theorem ltcDecoderTask_of_work (hw : workOf s (20480 + n) = some r) (hf : entryFlags s (20480 + n) = (false, false)) :
    ltcDecoderTask n s =
      (let rate := cfgF s (flightStart s r.flight) (Reg.TCM_DEC_CFG_RATE n)
       let xs := legInput s r.flight (cfgF s (flightStart s r.flight) (Reg.TCM_DEC_CFG_LEG n))
       let z := xs.foldl (fun z x => ltcSample n (ratePeriod rate) rate x.1 x.2 z) (takeFlags (20480 + n) s).2
       firmwareExit (20480 + n) (ltcTimeouts n (ratePeriod rate) (flightStart z (r.flight + 1)) 16 z)) := by
  simp only [ltcDecoderTask, hw, takeFlags_fst hf]
  rfl

theorem ltcGeneratorTask_of_work (hw : workOf s (20544 + n) = some r) :
    ltcGeneratorTask n s =
      (let w := (takeFlags (20544 + n) s).2
       firmwareExit (20544 + n) ((List.range (flightSamples w)).foldl (fun z i =>
         let c := genAt (generatorOf s n) (flightStart z r.flight + 2940 * i)
         let high := ltcHigh n c (flightStart z r.flight + 2940 * i)
         if c.en then galPut r.flight c.leg i (.present (if high then ltcAmpl c else -ltcAmpl c)) true z else z) w)) := by
  simp only [ltcGeneratorTask, hw]

theorem toneDetectorTask_of_work (hw : workOf s (20608 + n) = some r) (hf : entryFlags s (20608 + n) = (false, false)) :
    toneDetectorTask n s =
      (let from_ := flightStart s r.flight
       let xs := legInput s r.flight (cfgF s from_ (Reg.TCM_TONE_CFG_LEG n))
       firmwareExit (20608 + n) (xs.foldl (fun z x => toneSample from_ n x.1 x.2 z) (takeFlags (20608 + n) s).2)) := by
  simp only [toneDetectorTask, hw, takeFlags_fst hf]
  rfl

end

/-- Settles O17: a pop is its command's effect, and a task's work is its own under the instant of its release. -/
theorem modemCommands : Obligations.ModemCommands := by
  refine ⟨fun s t d n hc => ?_, fun s t r dec gen det hc hk => ⟨fun hw hf => ?_, fun hw => ?_, fun hw hf => ?_⟩⟩
  · intro x y
    refine ⟨fun hw => ?_, fun hw => ?_⟩
    · refine acts_eq_same hc ((busWrite_of_writeCheck hw _).trans ?_) rfl rfl
      rw [decoderPop, List.drop_one]
      rfl
    · refine acts_eq_same hc ((busWrite_of_writeCheck hw _).trans ?_) rfl rfl
      rw [tonePop, List.drop_one]
      rfl
  · exact acts_eq_after hc (asRelease_congr (s := arriveAt t s) hk (runningOf_of_workOf hw)
      (ltcDecoderTask_of_work (s := issuedBy r (arriveAt t s)) hw hf))
  · exact acts_eq_after hc (asRelease_congr (s := arriveAt t s) hk (runningOf_of_workOf hw)
      (ltcGeneratorTask_of_work (s := issuedBy r (arriveAt t s)) hw))
  · exact acts_eq_after hc (asRelease_congr (s := arriveAt t s) hk (runningOf_of_workOf hw)
      (toneDetectorTask_of_work (s := issuedBy r (arriveAt t s)) hw hf))

end Sys2Proof.Machine
end

section
/-! SUPPORT. Start-up step by step, and the resets. -/

namespace Sys2Proof.Machine

/-! ### Stores: what changes registers and doors alone -/

/-- What stores into registers and doors change. -/
def Stores (s s' : State) : Prop := ∃ regs doors, s' = { s with regs := regs, doors := doors }

theorem Stores.refl (s : State) : Stores s s := ⟨_, _, rfl⟩

theorem Stores.trans {a b c : State} : Stores a b → Stores b c → Stores a c := by
  rintro ⟨_, _, rfl⟩ ⟨_, _, rfl⟩
  exact ⟨_, _, rfl⟩

theorem Stores.ite {s a b : State} {p : Prop} [Decidable p] (ha : Stores s a) (hb : Stores s b) : Stores s (if p then a else b) := by
  split
  · exact ha
  · exact hb

theorem stores_rset (s : State) (a : Nat) (w : Word) : Stores s (rset s a w) := ⟨_, _, rfl⟩

theorem stores_setF (s : State) (f : Fld) (v : Nat) : Stores s (setF s f v) := ⟨_, _, rfl⟩

theorem stores_setDoor (s : State) (d : Nat) (x : Door) : Stores s (setDoor s d x) := ⟨_, _, rfl⟩

theorem stores_foldl {α : Type} {f : State → α → State} (hf : ∀ s a, Stores s (f s a)) : ∀ (l : List α) (s : State),
    Stores s (l.foldl f s)
  | [], s => .refl s
  | a :: l, s => (hf s a).trans (stores_foldl hf l _)

theorem Stores.eq {s s' : State} : Stores s s' → s' = { s with regs := s'.regs, doors := s'.doors } := by
  rintro ⟨_, _, rfl⟩
  rfl

theorem Stores.quiet {s s' : State} : Stores s s' → quiet s' = quiet s := by
  rintro ⟨_, _, rfl⟩
  rfl

theorem Stores.pending {s s' : State} : Stores s s' → s'.pending = s.pending := by
  rintro ⟨_, _, rfl⟩
  rfl

theorem Stores.cht {s s' : State} : Stores s s' → s'.cht = s.cht := by
  rintro ⟨_, _, rfl⟩
  rfl

theorem Stores.twin {s s' : State} : Stores s s' → s'.twin = s.twin := by
  rintro ⟨_, _, rfl⟩
  rfl

theorem Stores.tim {s s' : State} : Stores s s' → s'.tim = s.tim := by
  rintro ⟨_, _, rfl⟩
  rfl

theorem Stores.now {s s' : State} : Stores s s' → s'.now = s.now := by
  rintro ⟨_, _, rfl⟩
  rfl

/-! ### Doors -/

theorem doorOf_setDoor {s : State} (h : sorted 0 s.doors = true) (d : Nat) (x : Door) (e : Nat) :
    doorOf (setDoor s d x) e = if e = d then x else doorOf s e := sgetC_ssetC h ..

theorem sorted_setDoor {s : State} (h : sorted 0 s.doors = true) (d : Nat) (x : Door) : sorted 0 (setDoor s d x).doors = true :=
  sput_sorted h (Nat.zero_le d)

/-- Phases for every door of a list. -/
theorem doorOf_setPhases (g : Nat → DoorPhase) (e : Nat) : ∀ (ds : List Nat) {s : State}, sorted 0 s.doors = true →
    doorOf (ds.foldl (fun z d => setPhase (g d) d z) s) e = if e ∈ ds then { doorOf s e with phase := g e } else doorOf s e
  | [], s, _ => (if_neg List.not_mem_nil).symm
  | d :: ds, s, h => by
    rw [List.foldl_cons, doorOf_setPhases g e ds (s := setPhase (g d) d s) (sorted_setDoor h ..), setPhase, doorOf_setDoor h]
    by_cases hd : e = d
    · subst hd
      simp
    · simp [hd]

theorem mem_allDoors {d : Nat} (h : d < 4) : d ∈ allDoors := by
  unfold allDoors
  obtain rfl | rfl | rfl | rfl := door_cases h <;> simp

theorem stores_setPhases (g : Nat → DoorPhase) (ds : List Nat) (s : State) :
    Stores s (ds.foldl (fun z d => setPhase (g d) d z) s) := stores_foldl (fun _ _ => stores_setDoor ..) ds s

/-! ### Steps of start-up -/

theorem atStep_iff {s : State} {n : Nat} : atStep s n = true ↔ s.cht.inReset = false ∧ s.cht.stopped = false ∧ s.cht.step + 1 = n := by
  simp [atStep, and_assoc]

/-- The words that the fuses give. -/
def fuseWords (f : FuseRead) (s : State) : State :=
  let s := setF (setF s Reg.PLT_SERIAL_SERIAL_LO (f.serial.toNat % 4294967296)) Reg.PLT_SERIAL_SERIAL_HI (f.serial.toNat / 4294967296)
  setF (setF s Reg.PLT_PART_VARIANT f.variant.toNat) Reg.CIP_STAT_KEK_OK f.kek.isSome.toNat

theorem fuseWords_eq (f : FuseRead) (s : State) : ∃ regs, fuseWords f s = { s with regs := regs } := ⟨_, rfl⟩

theorem parityOk_fuseArray (f : FuseRead) (s : State) : (fuseArray f s).parityOk = f.parityOk := by
  unfold fuseArray
  split <;> rfl

theorem fuseRead_of_parity {s : State} {us : Nat} {f : FuseRead} (hs : atStep s 2 = true) (hf : f.parityOk = true) :
    ∃ regs, fuseRead us f s = { s with
      regs := regs, cht := { s.cht with step := 2, stepStart := us, fuses := some (fuseArray f s), keyHash := (fuseArray f s).keyHash } } := by
  have heff : fuseRead us f s = stepDone 2 us (setCht { (fuseWords (fuseArray f s) s).cht with
      fuses := some (fuseArray f s), keyHash := (fuseArray f s).keyHash } (fuseWords (fuseArray f s) s)) := by
    simp only [fuseRead, hs, parityOk_fuseArray, hf, Bool.not_true, Bool.false_eq_true, if_false]
    rfl
  obtain ⟨regs, h⟩ := fuseWords_eq (fuseArray f s) s
  rw [heff, h]
  exact ⟨_, rfl⟩

theorem fuseRead_of_parity_error {s : State} {us : Nat} {f : FuseRead} (hs : atStep s 2 = true) (hf : f.parityOk = false) :
    fuseRead us f s = stopWith 13 { s with cht := { s.cht with fuses := some (fuseArray f s), keyHash := (fuseArray f s).keyHash } } := by
  simp only [fuseRead, hs, parityOk_fuseArray, hf, Bool.not_true, Bool.false_eq_true, if_false, Bool.not_false, if_true]
  rfl

/-- The words of the PLL step of a Cold start. -/
def pllWords (s : State) : State :=
  (List.range 8).foldl (fun s n => setF s (Reg.NWL_LANE_STAT_STATE n) 1) (setF (setF s Reg.CLK_PLL_STAT_LOCK 255) Reg.CLK_PLL_STAT_TREAD_LOCK 1)

theorem pllWords_eq (s : State) : ∃ regs, pllWords s = { s with regs := regs } := by
  have stored : Stores s (pllWords s) := by
    unfold pllWords
    refine (Stores.trans (stores_setF ..) (stores_setF ..)).trans (stores_foldl (fun z n => ?_) ..)
    exact stores_setF ..
  have hd : (pllWords s).doors = s.doors := by
    unfold pllWords
    refine foldl_proj State.doors (fun z n => ?_) _ _
    exact setF_doors ..
  obtain ⟨regs, doors, h⟩ := stored
  rw [h] at hd
  exact ⟨regs, by rw [h, ← hd]⟩

/-- The PLL step of a Cold start: the count at 0:0, the servo UNSET, and words. -/
theorem pllCold_eq (s : State) : ∃ regs, pllCold s = { s with
    regs := regs, now := 0
    tim := { s.tim with servo := servoInit, flightFirst := 0, firstDue := false, lastFlight := 0, replicas := [] } } := by
  have heff : pllCold s = setServo servoInit { pllWords { s with now := 0 } with
    tim := { (pllWords { s with now := 0 }).tim with flightFirst := 0, firstDue := false, lastFlight := 0, replicas := [] } } := rfl
  obtain ⟨regs, h⟩ := pllWords_eq { s with now := 0 }
  rw [heff, h]
  exact ⟨_, rfl⟩

/-- The end of the PLL step: every door enters SHUT. -/
def pllShut (us : Nat) (p : Population) (y : State) : State :=
  let z := allDoors.foldl (fun z d => setPhase .shut d z) y
  stepDone 3 us (setCht { z.cht with population := p } z)

theorem stores_pllShut (us : Nat) (p : Population) (y : State) :
    Stores { y with cht := { y.cht with step := 3, stepStart := us, population := p } } (pllShut us p y) := by
  obtain ⟨regs, doors, h⟩ := stores_setPhases (fun _ => .shut) allDoors y
  unfold pllShut
  rw [h]
  exact ⟨_, _, rfl⟩

theorem phase_pllShut (us : Nat) (p : Population) {y : State} (hd : sorted 0 y.doors = true) {d : Nat} (h : d < 4) :
    (doorOf (pllShut us p y) d).phase = .shut := by
  show (doorOf (allDoors.foldl (fun z d => setPhase .shut d z) y) d).phase = .shut
  rw [doorOf_setPhases (fun _ => .shut) d allDoors hd, if_pos (mem_allDoors h)]

theorem pllLock_eq {s : State} {us : Nat} {p : Population} (hs : atStep s 3 = true) :
    pllLock us p s = pllShut us p
      (if s.cht.warm then setF s Reg.CLK_PLL_STAT_LOCK (getF s Reg.CLK_PLL_STAT_LOCK ||| lockable s) else pllCold s) := by
  simp only [pllLock, hs, Bool.not_true, Bool.false_eq_true, if_false]
  rfl

theorem charterLoad_of_slots {s y : State} {us : Nat} {a b : SlotRead} (hs : atStep s 4 = true) {ok : Bool}
    (h : loadSlots a b { s with cht := { s.cht with xspiReset := false } } = (ok, y)) :
    charterLoad us a b s = if ok then stepDone 4 us y else y := by
  have h' : loadSlots a b (setCht { s.cht with xspiReset := false } s) = (ok, y) := h
  simp only [charterLoad, hs, Bool.not_true, Bool.false_eq_true, if_false, h']
  cases ok <;> rfl

theorem stores_showIds (c : Charter) (s : State) : Stores s (showIds c s) := stores_foldl (fun _ _ => stores_setDoor ..) _ s

theorem stores_charterGates (s : State) : Stores s (charterGates s) := stores_foldl (fun _ _ => stores_setF ..) _ s

theorem stores_showFences (s : State) : Stores s (showFences s) :=
  stores_foldl (fun z _ => .ite (stores_setF ..) (.refl z)) _ s

/-- The state of the pair after the configuration step. -/
def sealedPair (c : Charter) (s : State) : PairState :=
  if c.twinRole = 0 then .solo else if s.cht.warm && s.cht.loaded.digest == c.digest then .withdrawn else .pairing

/-- The configuration step seals the charter and sets the pair's state; the rest is stores. -/
theorem stores_configurationSeal {s : State} {us : Nat} {c : Charter} {ws : Sparse Word} (hs : atStep s 5 = true)
    (hst : s.cht.staged = some (c, ws)) :
    Stores { s with
      cht := { s.cht with
        loaded := c, staged := none, charterWords := ws, sealed := true, step := 5, stepStart := us
        fresh := s.cht.warm && s.cht.loaded.digest != c.digest }
      twin := { s.twin with state := sealedPair c s } } (configurationSeal us s) := by
  have hpair : (if c.twinRole = 0 then PairState.solo
      else if s.cht.warm && !(s.cht.warm && s.cht.loaded.digest != c.digest) then .withdrawn else .pairing) = sealedPair c s := by
    unfold sealedPair
    cases s.cht.warm <;> simp [bne]
  have shown (z : State) : Stores z (showFences (charterGates (showIds c z))) :=
    (stores_showIds c z).trans <| (stores_charterGates _).trans (stores_showFences _)
  simp only [configurationSeal, hst, hs, Bool.not_true, Bool.false_eq_true, if_false]
  obtain ⟨regs, doors, h⟩ := shown (setCht { (loadWords ws s).cht with
    loaded := c, staged := none, charterWords := ws, sealed := true
    fresh := s.cht.warm && s.cht.loaded.digest != c.digest } (loadWords ws s))
  rw [h, ← hpair]
  exact ⟨_, _, rfl⟩

section
variable {s : State} {us : Nat} (hs : atStep s 6 = true)
include hs

theorem dramTraining_of_warm {failed : List Nat} (hw : s.cht.warm = true) (hf : s.cht.fresh = false) :
    dramTraining us failed s =
      (let z := stepDone 6 us (selfRefreshReset failed s)
       if archiveUp z then beginTime us (stepDone 7 us (storeStaged (flightNumber z z.now) z)) else z) := by
  simp [dramTraining, hs, hw, hf]

theorem dramTraining_of_cold {failed : List Nat} (h : s.cht.warm = false ∨ s.cht.fresh = true) :
    dramTraining us failed s = if failed.isEmpty then stepDone 6 us (trainDram failed s) else stopWith 14 (trainDram failed s) := by
  have hcold : (s.cht.warm && !s.cht.fresh) = false := by
    rcases h with h | h
    · simp [h]
    · simp [h]
  simp [dramTraining, hs, hcold]

end

/-- Settles O18: each step takes the branch that its hypotheses name; what it changes beyond that are stores. -/
theorem startToCharter : Obligations.StartToCharter := by
  refine ⟨fun s t us f p hc hd => ?_, fun s t us a b c ws failed trained hc => ?_⟩
  · intro x at_
    refine ⟨fun hr ht => ?_, fun ht => ?_, fun h1 => ?_, fun h2 hf => ?_, fun h2 hf => ?_, fun h3 hw => ?_, fun h3 hw => ?_⟩
    · have hgo : ¬ ((!x.cht.inReset) = true ∨ x.pins.tripped = true) := by simp [x, hr, ht]
      exact acts_eq_same hc (if_neg hgo) rfl rfl
    · exact acts_idle hc (if_pos (.inr ht))
    · exact acts_eq_same hc (if_pos (atStep_iff.2 h1)) rfl rfl
    · obtain ⟨regs, h⟩ := fuseRead_of_parity (s := x) (us := us) (atStep_iff.2 h2) hf
      exact ⟨_, acts_eq_same hc h rfl rfl, rfl, rfl⟩
    · exact ⟨_, acts_eq_same hc (fuseRead_of_parity_error (s := x) (atStep_iff.2 h2) hf) rfl rfl, rfl, by have := h2.2.2; exact Nat.succ.inj this⟩
    · obtain ⟨regs, hcold⟩ := pllCold_eq x
      have heff : pllLock us p x = pllShut us p (pllCold x) := by
        rw [pllLock_eq (s := x) (atStep_iff.2 h3), show x.cht.warm = false from hw]
        rfl
      have stored := stores_pllShut us p (pllCold x)
      have hshut : ∀ d, d < 4 → (doorOf (pllShut us p (pllCold x)) d).phase = .shut :=
        fun d => phase_pllShut us p (by rw [hcold]; exact hd)
      rw [hcold] at stored
      rw [hcold] at heff hshut
      exact ⟨_, acts_eq_same hc heff stored.quiet stored.pending, stored.now, congrArg TimeUnit.servo stored.tim, stored.cht, hshut⟩
    · have heff := pllLock_eq (s := x) (us := us) (p := p) (atStep_iff.2 h3)
      rw [show x.cht.warm = true from hw, if_pos rfl] at heff
      have stored := stores_pllShut us p (setF x Reg.CLK_PLL_STAT_LOCK (getF x Reg.CLK_PLL_STAT_LOCK ||| lockable x))
      exact ⟨_, acts_eq_same hc heff stored.quiet stored.pending, stored.now, stored.tim, stored.cht,
        fun d => phase_pllShut us p hd⟩
  · intro x at_
    refine ⟨fun h4 y hy => ?_, fun h4 y hy => ?_, fun h5 hst => ?_, fun h6 hw hf => ?_, fun h6 hcold hnone => ?_, fun h6 hcold hsome => ?_,
      fun h7 => ?_⟩
    · exact acts_eq_after hc (charterLoad_of_slots (s := x) (atStep_iff.2 h4) hy)
    · exact acts_eq_after hc (charterLoad_of_slots (s := x) (atStep_iff.2 h4) hy)
    · have stored := stores_configurationSeal (s := x) (us := us) (atStep_iff.2 h5) hst
      refine ⟨_, acts_eq_same hc rfl stored.quiet stored.pending, ?_⟩
      rw [stored.cht, stored.twin]
      exact ⟨rfl, rfl, rfl, rfl, rfl, rfl⟩
    · exact acts_eq_after hc (dramTraining_of_warm (s := x) (atStep_iff.2 h6) hw hf)
    · subst hnone
      exact acts_eq_after hc (dramTraining_of_cold (s := x) (failed := []) (atStep_iff.2 h6) hcold)
    · refine acts_eq_after hc ((dramTraining_of_cold (s := x) (atStep_iff.2 h6) hcold).trans (if_neg ?_))
      simpa using hsome
    · exact acts_eq_after hc (if_pos (atStep_iff.2 h7))

end Sys2Proof.Machine
end

section
/-! SUPPORT. The last steps of start-up, and Cold, Warm and Door resets. -/

namespace Sys2Proof.Machine

theorem Signals.twin_state {s s' : State} (h : Signals s s') : s'.twin.state = s.twin.state := by
  obtain ⟨_, _, _, _, _, _, _, _, rfl⟩ := h
  rfl

/-! ### The last steps -/

/-- Step 10: every enabled door opens. -/
theorem doorsOpen_of_step {s : State} {us : Nat} (hs : atStep s 10 = true) :
    doorsOpen us s =
      (let z := allDoors.foldl (fun z d => setPhase (if doorEnabled s d then .opened else .shut) d z) s
       stepDone 10 us (setCht { z.cht with openedAt := z.now } z)) := by
  simp only [doorsOpen, hs, Bool.not_true, Bool.false_eq_true, if_false]
  rfl

theorem stores_doorsOpen {s : State} {us : Nat} (hs : atStep s 10 = true) :
    Stores { s with cht := { s.cht with step := 10, stepStart := us, openedAt := s.now } } (doorsOpen us s) := by
  obtain ⟨regs, doors, h⟩ := stores_setPhases (fun d => if doorEnabled s d then .opened else .shut) allDoors s
  rw [doorsOpen_of_step hs, h]
  exact ⟨_, _, rfl⟩

theorem doorOf_doorsOpen {s : State} {us : Nat} (hs : atStep s 10 = true) (hd : sorted 0 s.doors = true) {d : Nat} (h : d < 4) :
    doorOf (doorsOpen us s) d = { doorOf s d with phase := if doorEnabled s d then .opened else .shut } := by
  rw [doorsOpen_of_step hs]
  show doorOf (allDoors.foldl (fun z d => setPhase (if doorEnabled s d then .opened else .shut) d z) s) d = _
  rw [doorOf_setPhases (fun d => if doorEnabled s d then .opened else .shut) d allDoors hd, if_pos (mem_allDoors h)]

/-- The first flight of a device that waits for its boundary alone. -/
theorem firstFlight_of_ready {s : State} {us : Nat} (hs : atStep s 11 = true) (hstop : s.tim.flights = .stopped)
    (hst : s.tim.servo.stepped = true) (hsolo : s.twin.state = .solo) (hnone : s.twin.startFlight = none) (hlen : 0 < flightLen s)
    (htaken : boundaryTaken s s.now = false) :
    firstFlight us s = if s.now = nextBoundary (s.cht.openedAt + 141120) (flightLen s) then startFirst us s else s := by
  simp [firstFlight, hs, hstop, hst, hsolo, hnone, hlen, htaken, pairFlies, firstBoundary]

/-- Settles O19: each command takes the branch that its hypotheses name. -/
theorem lateStartSteps : Obligations.LateStartSteps := by
  intro s t us hc hd x at_
  refine ⟨fun h8 htold hwait => ?_, fun htold => acts_idle hc (if_neg ?_), fun h9 hprim hnone hwait => ?_, fun h10 => ?_,
    fun h11 hstop hst hsolo hnone hlen htaken => ?_⟩
  · refine acts_eq_after hc (if_pos ⟨atStep_iff.2 h8, ?_, hwait⟩)
    rw [show x.cht.ptpTold = false from htold]
    rfl
  · rintro ⟨-, h, -⟩
    rw [show x.cht.ptpTold = true from htold] at h
    cases h
  · have raised := signals_raiseEvent (stepDone 9 us (setPair .alone x)) 0x045
    have heff : pairWaitExpiry us x = raiseEvent 0x045 (stepDone 9 us (setPair .alone x)) := by
      refine if_pos ⟨atStep_iff.2 h9, ?_, ?_, hwait⟩
      · exact beq_iff_eq.2 hprim
      · rw [show x.twin.startFlight = none from hnone]
        rfl
    exact ⟨_, acts_eq_same hc heff raised.quiet raised.pending, raised.twin_state, raised.cht⟩
  · have stored := stores_doorsOpen (s := x) (us := us) (atStep_iff.2 h10)
    refine ⟨_, acts_eq_same hc rfl stored.quiet stored.pending, stored.cht,
      fun d h => doorOf_doorsOpen (s := x) (atStep_iff.2 h10) hd h, ?_⟩
    rw [stored.cht]
    exact stored.eq
  · have heff := firstFlight_of_ready (s := x) (us := us) (atStep_iff.2 h11) hstop hst hsolo hnone hlen htaken
    exact ⟨fun hb => acts_eq_after hc (heff.trans (if_pos hb)), fun hb => acts_idle hc (heff.trans (if_neg hb))⟩

/-! ### Resets -/

theorem brownOut_of_powered {s : State} (h : s.pins.pwrMainEn = true ∨ s.pins.tripped = true) (hg : s.pins.pwrGood = true) :
    brownOut s = inCold { s.pins with pwrGood := false } s := if_pos ⟨h, hg⟩

theorem brownOut_of_unpowered {s : State}
    (h : (s.pins.pwrMainEn = false ∧ s.pins.tripped = false) ∨ s.pins.pwrGood = false) :
    brownOut s = { s with pins := { s.pins with pwrGood := false } } := by
  refine if_neg ?_
  rintro ⟨hp, hg⟩
  rcases h with ⟨hm, ht⟩ | hg'
  · simp [hm, ht] at hp
  · simp [hg] at hg'

theorem pwrGoodRise_of_enabled {s : State} (hm : s.pins.pwrMainEn = true) (hg : s.pins.pwrGood = false) (hw : s.clk.power ≠ .waking) :
    pwrGoodRise s = { s with pins := { s.pins with pwrGood := true } } := by
  simp [pwrGoodRise, hm, hg, hw]

/-- A door's request for a reset, as a write of CHT_RESET: DOOR set, WARM clear, the door named. -/
theorem doorReset_word (d : Fin 4) : (BitVec.ofNat 32 (2 + 4 * d.val)).getLsbD 0 = false ∧
    (BitVec.ofNat 32 (2 + 4 * d.val)).getLsbD 1 = true ∧ ((BitVec.ofNat 32 (2 + 4 * d.val)).extractLsb' 2 2).toNat = d.val := by
  revert d
  decide

/-- The judgement of a write that asks for a reset of door d alone. -/
theorem judgeReset_of_door {s : State} {w : Nat} (d : Fin 4) : judgeReset w (BitVec.ofNat 32 (2 + 4 * d.val)) s =
    if d.val ≠ w ∧ w ≠ devOwner s then partitionError .cht w s
    else if doorEnabled s d = false then configError .cht w s
    else resetDoor d s := by
  obtain ⟨h0, h1, htarget⟩ := doorReset_word d
  simp only [judgeReset, h0, h1, htarget, Bool.false_eq_true, false_and, if_false, true_and, if_true]

/-- The judgement of a write that asks for a Warm reset alone. -/
theorem judgeReset_of_warm {s : State} {d : Nat} : judgeReset d 1 s =
    if d ≠ devOwner s then partitionError .cht d s
    else if s.epoch.newest = 0 then configError .cht d s
    else askWarm s := by
  by_cases hd : d = devOwner s <;> simp [judgeReset, hd]

theorem askWarm_of_running {s : State} (hw : s.cht.warmAt = none) (hf : s.tim.flights = .running) :
    askWarm s = setCht { s.cht with warmAt := some (boundaryAfter s s.now) } s := by
  simp [askWarm, hw, hf]

theorem askWarm_of_stopped {s : State} (hw : s.cht.warmAt = none) (hf : s.tim.flights = .stopped) : askWarm s = beginWarm s := by
  simp [askWarm, hw, hf]

/-- Settles O20: a Cold reset is one assignment; a write of CHT_RESET is its judgement (R97). -/
theorem resets : Obligations.Resets := by
  refine ⟨fun s t hot hc => ?_, fun s t d w hc => ?_⟩
  · intro x cold
    refine ⟨?_, fun h hg => ?_, fun h => ?_, fun hm hg hw => ?_, fun h => acts_idle hc (if_pos ?_)⟩
    · exact acts_eq_next hc rfl rfl rfl
    · exact acts_eq_next hc (brownOut_of_powered (s := x) h hg) rfl rfl
    · exact acts_eq_same hc (brownOut_of_unpowered (s := x) h) rfl rfl
    · exact acts_eq_same hc (pwrGoodRise_of_enabled (s := x) hm hg hw) rfl rfl
    · rcases h with h | h
      · exact .inl (by rw [show x.pins.pwrMainEn = false from h]; rfl)
      · exact .inr h
  · intro x a askDoor
    refine ⟨fun hw => ?_, fun hw hne hown => ?_, fun hw hown hen => ?_, fun hshut => acts_idle hc (if_pos hshut),
      fun hshut => acts_eq_after hc (if_neg hshut)⟩
    · have heff : warmReset d x = _ := (chtReset_eq_judgeReset hw).trans judgeReset_of_warm
      refine ⟨fun hd => ?_, fun hd hn => ?_, fun hd hn hwarm hf => ?_, fun hd hn hwarm hf => ?_⟩
      · exact acts_eq_after hc (heff.trans (if_pos hd))
      · exact acts_eq_after hc (heff.trans ((if_neg (Classical.not_not.2 hd)).trans (if_pos hn)))
      · refine acts_eq_same hc (heff.trans ((if_neg (Classical.not_not.2 hd)).trans ((if_neg (Nat.ne_of_gt hn)).trans ?_))) rfl rfl
        exact askWarm_of_running hwarm hf
      · refine acts_eq_after hc (heff.trans ((if_neg (Classical.not_not.2 hd)).trans ((if_neg (Nat.ne_of_gt hn)).trans ?_)))
        exact askWarm_of_stopped hwarm hf
    · refine acts_eq_after hc ((chtReset_eq_judgeReset hw).trans ((judgeReset_of_door d).trans (if_pos ⟨?_, hown⟩)))
      exact fun h => hne h.symm
    · refine acts_eq_after hc ((chtReset_eq_judgeReset hw).trans ((judgeReset_of_door d).trans ((if_neg ?_).trans (if_neg ?_))))
      · rintro ⟨h1, h2⟩
        rcases hown with h | h
        · exact h1 h.symm
        · exact h2 h
      · rw [show doorEnabled x d = true from hen]
        decide

end Sys2Proof.Machine
end

section
/-! SUPPORT. The owner query, and the recovery registers of a stopped device. -/

namespace Sys2Proof.Machine

/-! ### Fields of one word -/

/-- A field keeps its value when another one of its word is replaced. -/
theorem bitsOf_putBits_of_apart {w : Word} {hi lo v hi' lo' : Nat} (hlh : lo ≤ hi) (h32 : hi < 32) (h : hi' < lo ∨ hi < lo') :
    bitsOf (putBits w hi lo v) hi' lo' = bitsOf w hi' lo' := by
  refine Nat.eq_of_testBit_eq fun j => ?_
  by_cases hj : j < hi' + 1 - lo'
  · rw [testBit_bitsOf hj, testBit_bitsOf hj, getLsbD_putBits_outside hlh h32 (by omega)]
  · rw [bitsOf, bitsOf, Nat.testBit_mod_two_pow, Nat.testBit_mod_two_pow, decide_eq_false hj, Bool.false_and, Bool.false_and]

theorem getF_setF_of_apart {s : State} {f g : Fld} {v : Nat} (h : swf resetWord s.regs = true) (ha : g.addr = f.addr)
    (hlh : f.lo ≤ f.hi) (h32 : f.hi < 32) (hap : g.hi < f.lo ∨ f.hi < g.lo) : getF (setF s f v) g = getF s g := by
  rw [getF, ha, rget_setF_self h, bitsOf_putBits_of_apart hlh h32 hap, getF, ha]

/-! ### Words above CHT_REC_CTRL -/

theorem rget_storeWord_of_lt {s : State} {a b : Nat} {v : Word} (h : a < b) : rget (storeWord a v s) b = rget s b := by
  unfold storeWord
  split
  · rfl
  · exact rget_rset_of_lt h

theorem storeWord_cht (a : Nat) (v : Word) (s : State) : (storeWord a v s).cht = s.cht := by
  unfold storeWord
  split <;> rfl

theorem storeWord_eq (a : Nat) (v : Word) (s : State) : ∃ regs, storeWord a v s = { s with regs := regs } := by
  unfold storeWord
  split
  · exact ⟨_, rfl⟩
  · exact ⟨_, rfl⟩

/-- The device after a command has been written to CHT_REC_CTRL. -/
def recWritten (v : Word) (s : State) : State := storeWord Reg.CHT_REC_CTRL_CMD.addr v s

theorem recWritten_eq (v : Word) (s : State) : ∃ regs, recWritten v s = { s with regs := regs } := storeWord_eq ..

theorem stores_recWritten (v : Word) (s : State) : Stores s (recWritten v s) := by
  obtain ⟨regs, h⟩ := recWritten_eq v s
  exact ⟨regs, s.doors, h⟩

theorem getF_addr_recWritten (v : Word) (s : State) : getF (recWritten v s) Reg.CHT_REC_ADDR_ADDR = getF s Reg.CHT_REC_ADDR_ADDR := by
  rw [getF, recWritten, rget_storeWord_of_lt (by decide), getF]

theorem recoveryBuf_recWritten (v : Word) (n : Nat) (s : State) :
    recoveryBuf (setF (recWritten v s) Reg.CHT_REC_CTRL_BUSY n) = recoveryBuf s := by
  unfold recoveryBuf
  congr 1
  funext i
  have hlt : Reg.CHT_REC_CTRL_CMD.addr < (Reg.CHT_REC_BUF_DATA i).addr := by
    show 0x400200 < 0x400300 + 4 * i
    omega
  rw [getF_setF_of_lt (f := Reg.CHT_REC_CTRL_BUSY) hlt, getF, recWritten, rget_storeWord_of_lt hlt, getF]

/-- A write of CHT_REC_CTRL that passes its check and sets GO. -/
theorem recoveryWrite_of_go {s : State} {d : Nat} {v : Word} (h : writeCheck s d Reg.CHT_REC_CTRL_CMD.addr v = none)
    (hgo : bitsOf v 3 3 = 1) : recoveryWrite d v s = goRecovery (bitsOf v 2 0) (recWritten v s) := by
  rw [recoveryWrite, busWrite_of_writeCheck h, if_pos hgo]
  rfl

/-- A command that is not refused begins to run. -/
theorem runRecovery_recWritten (cmd : Nat) (v : Word) (s : State) :
    runRecovery cmd (recWritten v s) = { setF (recWritten v s) Reg.CHT_REC_CTRL_BUSY 1 with
      cht := { s.cht with recRunning := cmd }
      out := { s.out with xspi := s.out.xspi ++ recoveryCommands cmd (getF s Reg.CHT_REC_ADDR_ADDR) (recoveryBuf s) } } := by
  have hbuf := recoveryBuf_recWritten v 1 s
  have hrun : runRecovery cmd (recWritten v s) = { setF (recWritten v s) Reg.CHT_REC_CTRL_BUSY 1 with
      cht := { (recWritten v s).cht with recRunning := cmd }
      out := { (recWritten v s).out with
        xspi := (recWritten v s).out.xspi ++ recoveryCommands cmd (getF (recWritten v s) Reg.CHT_REC_ADDR_ADDR)
          (recoveryBuf (setF (recWritten v s) Reg.CHT_REC_CTRL_BUSY 1)) } } := rfl
  rw [hrun, hbuf, getF_addr_recWritten]
  obtain ⟨regs, h⟩ := recWritten_eq v s
  rw [h]

section
variable {s : State} (hstop : s.cht.stopped = true) (hidle : s.cht.recRunning = 0)
include hstop hidle

/-- GO in the stopped state with no command running: the command's own checks decide. -/
theorem goRecovery_recWritten {cmd : Nat} (hcmd : cmd ≠ 0) (v : Word) : goRecovery cmd (recWritten v s) =
    if (cmd = 1 ∨ cmd = 2) ∧ getF s Reg.CHT_REC_ADDR_ADDR % 256 ≠ 0 then refuseRecovery (recWritten v s)
    else if cmd = 3 ∧ getF s Reg.CHT_REC_ADDR_ADDR % 65536 ≠ 0 then refuseRecovery (recWritten v s)
    else if cmd = 4 ∧ s.cht.keyHash.any (· != 0) then refuseRecovery (recWritten v s)
    else runRecovery cmd (recWritten v s) := by
  have hcht : (recWritten v s).cht = s.cht := storeWord_cht ..
  simp [goRecovery, hcht, hstop, hidle, hcmd, getF_addr_recWritten]

end

/-! ### Data of a read, and the key hash -/

theorem leNat_lt : ∀ bs : List Byte, leNat bs < 256 ^ bs.length
  | [] => Nat.one_pos
  | b :: bs => by
    have ih := leNat_lt bs
    have hb : b.toNat < 256 := b.isLt
    rw [leNat, List.length_cons, Nat.pow_succ]
    omega

theorem leAt_lt (bs : List Byte) (i n : Nat) : leAt bs i n < 256 ^ n :=
  Nat.lt_of_lt_of_le (leNat_lt _) (Nat.pow_le_pow_right (by decide) (by rw [List.length_take]; omega))

/-- Words of the recovery buffer, each stored once. -/
theorem getF_fillBuf {v : Nat → Nat} {n : Nat} : ∀ {l : List Nat} {s : State}, swf resetWord s.regs = true →
    getF (l.foldl (fun s n => setF s (Reg.CHT_REC_BUF_DATA n) (v n)) s) (Reg.CHT_REC_BUF_DATA n) =
      if n ∈ l then v n % 2 ^ 32 else getF s (Reg.CHT_REC_BUF_DATA n)
  | [], s, _ => (if_neg List.not_mem_nil).symm
  | m :: l, s, h => by
    rw [List.foldl_cons, getF_fillBuf (setF_swf h)]
    by_cases hnm : n = m
    · subst hnm
      rw [getF_setF_self h (Nat.zero_le 31) (show 31 < 32 by decide), if_pos List.mem_cons_self]
      exact ite_self _
    · have hne : (Reg.CHT_REC_BUF_DATA n).addr ≠ (Reg.CHT_REC_BUF_DATA m).addr := by
        show 0x400300 + 4 * n ≠ 0x400300 + 4 * m
        omega
      rw [getF_setF_of_addr_ne h hne]
      exact ite_congr (propext (by simp [hnm])) (fun _ => rfl) (fun _ => rfl)

/-- A word outside the recovery buffer keeps its value. -/
theorem getF_fillBuf_of_lt {v : Nat → Nat} {f : Fld} (hf : f.addr < 0x400300) : ∀ {l : List Nat} {s : State}, swf resetWord s.regs = true →
    getF (l.foldl (fun s n => setF s (Reg.CHT_REC_BUF_DATA n) (v n)) s) f = getF s f
  | [], _, _ => rfl
  | m :: l, s, h => by
    have hne : f.addr ≠ (Reg.CHT_REC_BUF_DATA m).addr := by
      show f.addr ≠ 0x400300 + 4 * m
      omega
    rw [List.foldl_cons, getF_fillBuf_of_lt hf (setF_swf h), getF_setF_of_addr_ne h hne]

/-- The end of a command: BUSY clears, and ERR says whether it failed. -/
def recEnded (failed : Bool) (s : State) : State :=
  setF (setF { s with cht := { s.cht with recRunning := 0 } } Reg.CHT_REC_CTRL_BUSY 0) Reg.CHT_REC_CTRL_ERR failed.toNat

theorem swf_recEnded {s : State} (h : swf resetWord s.regs = true) (failed : Bool) : swf resetWord (recEnded failed s).regs = true :=
  setF_swf (setF_swf (s := { s with cht := { s.cht with recRunning := 0 } }) h)

section
variable {s : State} {data : List Byte}

theorem recoveryDone_of_failed (h : s.cht.recRunning ≠ 0) : recoveryDone true data s = recEnded true s := by
  simp only [recoveryDone, h, if_false, if_true]
  rfl

theorem recoveryDone_of_read (h : s.cht.recRunning = 1) : recoveryDone false data s =
    (List.range 64).foldl (fun s n => setF s (Reg.CHT_REC_BUF_DATA n) (leAt data (4 * n) 4)) (recEnded false s) := by
  have h0 : ¬ (1 : Nat) = 0 := by decide
  simp only [recoveryDone, h, h0, Bool.false_eq_true, if_false]
  rfl

theorem recoveryDone_of_hash (h : s.cht.recRunning = 4) : recoveryDone false data s =
    (let hash := (List.range 12).map fun n => rget (recEnded false s) (Reg.CHT_REC_BUF_DATA n).addr
     setCht { (recEnded false s).cht with
       keyHash := hash, fuses := (recEnded false s).cht.fuses.map fun f => { f with keyHash := hash } } (recEnded false s)) := by
  have h0 : ¬ (4 : Nat) = 0 := by decide
  simp only [recoveryDone, h, h0, Bool.false_eq_true, if_false]
  rfl

/-- BUSY and ERR are clear after a command that did not fail. -/
theorem getF_ctrl_recEnded (h : swf resetWord s.regs = true) :
    getF (recEnded false s) Reg.CHT_REC_CTRL_BUSY = 0 ∧ getF (recEnded false s) Reg.CHT_REC_CTRL_ERR = 0 := by
  have hbusy := setF_swf (s := { s with cht := { s.cht with recRunning := 0 } }) (f := Reg.CHT_REC_CTRL_BUSY) (v := 0) h
  constructor
  · refine (getF_setF_of_apart (f := Reg.CHT_REC_CTRL_ERR) (g := Reg.CHT_REC_CTRL_BUSY) hbusy rfl (by decide) (by decide) (by decide)).trans ?_
    exact getF_setF_self (s := { s with cht := { s.cht with recRunning := 0 } }) h (by decide) (by decide)
  · exact getF_setF_self hbusy (by decide) (by decide)

theorem rget_buf_recEnded (failed : Bool) (n : Nat) :
    rget (recEnded failed s) (Reg.CHT_REC_BUF_DATA n).addr = rget s (Reg.CHT_REC_BUF_DATA n).addr := by
  have hlt : 0x400200 < (Reg.CHT_REC_BUF_DATA n).addr := by
    show 0x400200 < 0x400300 + 4 * n
    omega
  exact (rget_rset_of_lt hlt).trans (rget_rset_of_lt hlt)

end

theorem ownerQuery_of_writeCheck {s : State} {d : Nat} {v : Word} (h : writeCheck s d Reg.CHT_OWNER_QUERY_KIND.addr v = none) :
    ownerQuery d v s = setDoor s d { doorOf s d with
      ownerResult := ownerResult s (v.extractLsb' 0 4).toNat (v.extractLsb' 4 17).toNat } := by
  rw [ownerQuery, busWrite_of_writeCheck h, toNat_extractLsb'_eq_bitsOf v 0 3, toNat_extractLsb'_eq_bitsOf v 4 16]

/-- Settles O22: a command's own checks decide whether it runs; its end stores what the store returned or what the fuses now hold. -/
theorem queryAndRecovery : Obligations.QueryAndRecovery := by
  intro s t d v data hc hd x a addr wrote
  refine ⟨fun hw => ?_, fun hstop hidle hregs => ?_, fun hrun hregs => ?_, fun hrun hregs => ?_, fun hrun => ?_⟩
  · exact acts_eq_same hc (ownerQuery_of_writeCheck hw) rfl rfl
  · have asks (v : Word) (hw : writeCheck x d a v = none) (hgo : bitsOf v 3 3 = 1) (h0 : bitsOf v 2 0 ≠ 0) :=
      (recoveryWrite_of_go hw hgo).trans (goRecovery_recWritten (s := x) hstop hidle h0 v)
    have kept (v : Word) (f : Fld) : Stores x (setF (wrote v x) f 1) := (stores_recWritten v x).trans (stores_setF ..)
    refine ⟨fun hw h => ?_, fun hw h => ?_, fun hw h => ?_, fun hw h => ?_, fun hw h => ?_, fun hw h => ?_⟩
    · refine acts_eq_same hc ((asks 9 hw rfl (by decide)).trans ?_) (kept 9 Reg.CHT_REC_CTRL_BUSY).quiet (kept 9 Reg.CHT_REC_CTRL_BUSY).pending
      exact (if_neg fun n => n.2 h).trans <| (if_neg fun n => absurd n.1 (by decide)).trans <|
        (if_neg fun n => absurd n.1 (by decide)).trans (runRecovery_recWritten 1 9 x)
    · exact acts_eq_same hc ((asks 9 hw rfl (by decide)).trans (if_pos ⟨by decide, h⟩)) (kept 9 Reg.CHT_REC_CTRL_ERR).quiet (kept 9 Reg.CHT_REC_CTRL_ERR).pending
    · refine acts_eq_same hc ((asks 10 hw rfl (by decide)).trans ?_) (kept 10 Reg.CHT_REC_CTRL_BUSY).quiet (kept 10 Reg.CHT_REC_CTRL_BUSY).pending
      exact (if_neg fun n => n.2 h).trans <| (if_neg fun n => absurd n.1 (by decide)).trans <|
        (if_neg fun n => absurd n.1 (by decide)).trans (runRecovery_recWritten 2 10 x)
    · refine acts_eq_same hc ((asks 11 hw rfl (by decide)).trans ?_) (kept 11 Reg.CHT_REC_CTRL_BUSY).quiet (kept 11 Reg.CHT_REC_CTRL_BUSY).pending
      exact (if_neg fun n => absurd n.1 (by decide)).trans <| (if_neg fun n => n.2 h).trans <|
        (if_neg fun n => absurd n.1 (by decide)).trans (runRecovery_recWritten 3 11 x)
    · have hzero : ¬ x.cht.keyHash.any (· != 0) = true := by
        rw [List.any_eq_true]
        rintro ⟨w, hw, hne⟩
        exact absurd (h w hw) (by simpa using hne)
      refine acts_eq_same hc ((asks 12 hw rfl (by decide)).trans ?_) (kept 12 Reg.CHT_REC_CTRL_BUSY).quiet (kept 12 Reg.CHT_REC_CTRL_BUSY).pending
      refine (if_neg fun n => absurd n.1 (by decide)).trans <| (if_neg fun n => absurd n.1 (by decide)).trans <|
        (if_neg fun n => hzero n.2).trans <| (runRecovery_recWritten 4 12 x).trans ?_
      obtain ⟨regs, hregs'⟩ := recWritten_eq 12 x
      rw [show recoveryCommands 4 _ _ = [] from rfl, List.append_nil, show wrote 12 x = recWritten 12 x from rfl, hregs']
      rfl
    · obtain ⟨w, hmem, hne⟩ := h
      have hsome : x.cht.keyHash.any (· != 0) = true := List.any_eq_true.2 ⟨w, hmem, by simpa using hne⟩
      refine acts_eq_same hc ((asks 12 hw rfl (by decide)).trans ?_) (kept 12 Reg.CHT_REC_CTRL_ERR).quiet (kept 12 Reg.CHT_REC_CTRL_ERR).pending
      exact (if_neg fun n => absurd n.1 (by decide)).trans <| (if_neg fun n => absurd n.1 (by decide)).trans (if_pos ⟨by decide, hsome⟩)
  · have heff := recoveryDone_of_read (s := x) (data := data) hrun
    have hwf := swf_recEnded (s := x) hregs false
    obtain ⟨hbusy, herr⟩ := getF_ctrl_recEnded (s := x) hregs
    have stored : Stores (recEnded false x) (recoveryDone false data x) := by
      rw [heff]
      exact stores_foldl (fun _ _ => stores_setF ..) _ _
    refine ⟨_, acts_eq_same hc rfl stored.quiet stored.pending, ?_, ?_, ?_, fun n hn => ?_⟩
    · rw [stored.cht]
      rfl
    · rw [heff, getF_fillBuf_of_lt (by decide) hwf, hbusy]
    · rw [heff, getF_fillBuf_of_lt (by decide) hwf, herr]
    · rw [heff, getF_fillBuf hwf, if_pos (List.mem_range.2 hn)]
      exact Nat.mod_eq_of_lt (leAt_lt data (4 * n) 4)
  · have heff := recoveryDone_of_hash (s := x) (data := data) hrun
    refine ⟨_, acts_eq_same hc heff rfl rfl, rfl, ?_, rfl⟩
    exact List.map_congr_left fun n _ => rget_buf_recEnded (s := x) false n
  · exact acts_eq_same hc (recoveryDone_of_failed (s := x) hrun) rfl rfl

end Sys2Proof.Machine
end

section
/-! SUPPORT. The rings of the doors (R105 to R131): doorbells, received entries, disables. -/

namespace Sys2Proof.Machine

/-! ### Field stores, one after another -/

/-- A field of the same word keeps its value under a guarded store of another field. -/
theorem getF_setIf_of_apart {s : State} {f g : Fld} {v : Nat} (c : Bool) (h : swf resetWord s.regs = true) (ha : g.addr = f.addr)
    (hlh : f.lo ≤ f.hi) (h32 : f.hi < 32) (hap : g.hi < f.lo ∨ f.hi < g.lo) : getF (setIf c f v s) g = getF s g := by
  unfold setIf
  split
  · exact getF_setF_of_apart h ha hlh h32 hap
  · rfl

theorem swf_setIf {s : State} (h : swf resetWord s.regs = true) (c : Bool) (f : Fld) (v : Nat) :
    swf resetWord (setIf c f v s).regs = true := by
  unfold setIf
  split
  · exact setF_swf h
  · exact h

/-- A cleared field reads 0. -/
theorem getF_setF_zero {s : State} {f : Fld} (h : swf resetWord s.regs = true) (hlh : f.lo ≤ f.hi) (h32 : f.hi < 32) :
    getF (setF s f 0) f = 0 :=
  (getF_setF_self h hlh h32).trans (Nat.zero_mod _)

theorem stores_setIf (s : State) (c : Bool) (f : Fld) (v : Nat) : Stores s (setIf c f v s) := by
  unfold setIf
  split
  · exact stores_setF ..
  · exact .refl s

/-! ### Disables -/

/-- The words of a disabled completion ring. -/
def cqStopped (d c : Nat) (s : State) : State :=
  setF (setF (setIf (0 < cqReservedOf s d c) (Reg.DOR_CQ_CFG_LOST d c) 1 (setF s (Reg.DOR_CQ_CFG_EN d c) 0)) (Reg.DOR_CQ_PTR_TAIL d c) 0)
    (Reg.DOR_CQ_PTR_HEAD d c) 0

/-- The words of a disabled journal. -/
def journalStopped (d : Nat) (s : State) : State :=
  setF (setF (setF s (Reg.DOR_JRN_CFG_EN d) 0) (Reg.DOR_JRN_TAIL_TAIL d) 0) (Reg.DOR_JRN_HEAD_HEAD d) 0

theorem disableJournal_regs (d : Nat) (s : State) : (disableJournal d s).regs = (journalStopped d s).regs := rfl

theorem stores_disableCompletionRing (d c : Nat) (s : State) : Stores s (disableCompletionRing d c s) := by
  have words : Stores s (cqStopped d c s) :=
    (stores_setF ..).trans <| (stores_setIf ..).trans <| (stores_setF ..).trans <| stores_setF ..
  exact words.trans (stores_setDoor ..)

theorem stores_disableJournal (d : Nat) (s : State) : Stores s (disableJournal d s) :=
  (stores_setF ..).trans <| (stores_setF ..).trans <| (stores_setF ..).trans <| stores_setDoor ..

section
variable {s : State} (h : swf resetWord s.regs = true) (d c : Nat)
include h

theorem getF_cqStopped_cfg {g : Fld} (ha : g.addr = (Reg.DOR_CQ_CFG_EN d c).addr) : getF (cqStopped d c s) g =
    getF (setIf (0 < cqReservedOf s d c) (Reg.DOR_CQ_CFG_LOST d c) 1 (setF s (Reg.DOR_CQ_CFG_EN d c) 0)) g := by
  have hne : g.addr ≠ (Reg.DOR_CQ_PTR_TAIL d c).addr := by
    simp only [ha, Reg.DOR_CQ_CFG_EN, Reg.DOR_CQ_PTR_TAIL]
    omega
  have hw := swf_setIf (setF_swf (f := Reg.DOR_CQ_CFG_EN d c) (v := 0) h) (0 < cqReservedOf s d c) (Reg.DOR_CQ_CFG_LOST d c) 1
  rw [cqStopped, getF_setF_of_addr_ne (f := Reg.DOR_CQ_PTR_HEAD d c) (setF_swf hw) hne,
    getF_setF_of_addr_ne (f := Reg.DOR_CQ_PTR_TAIL d c) hw hne]

theorem getF_cqStopped_en : getF (cqStopped d c s) (Reg.DOR_CQ_CFG_EN d c) = 0 := by
  rw [getF_cqStopped_cfg h d c rfl, getF_setIf_of_apart (g := Reg.DOR_CQ_CFG_EN d c) (f := Reg.DOR_CQ_CFG_LOST d c) _ (setF_swf h) rfl
    (Nat.le_refl 17) (show 17 < 32 by omega) (.inl (show 0 < 17 by omega))]
  exact getF_setF_zero (f := Reg.DOR_CQ_CFG_EN d c) h (Nat.le_refl 0) (show 0 < 32 by omega)

theorem getF_cqStopped_lost (hr : 0 < cqReservedOf s d c) : getF (cqStopped d c s) (Reg.DOR_CQ_CFG_LOST d c) = 1 := by
  rw [getF_cqStopped_cfg (g := Reg.DOR_CQ_CFG_LOST d c) h d c rfl, setIf, decide_eq_true hr, if_pos rfl]
  exact getF_setF_self (f := Reg.DOR_CQ_CFG_LOST d c) (setF_swf h) (Nat.le_refl 17) (show 17 < 32 by omega)

theorem getF_cqStopped_indexes :
    getF (cqStopped d c s) (Reg.DOR_CQ_PTR_TAIL d c) = 0 ∧ getF (cqStopped d c s) (Reg.DOR_CQ_PTR_HEAD d c) = 0 := by
  have hw := swf_setIf (setF_swf (f := Reg.DOR_CQ_CFG_EN d c) (v := 0) h) (0 < cqReservedOf s d c) (Reg.DOR_CQ_CFG_LOST d c) 1
  have htail := setF_swf (f := Reg.DOR_CQ_PTR_TAIL d c) (v := 0) hw
  refine ⟨?_, getF_setF_zero (f := Reg.DOR_CQ_PTR_HEAD d c) htail (Nat.zero_le 15) (show 15 < 32 by omega)⟩
  rw [cqStopped, getF_setF_of_apart (g := Reg.DOR_CQ_PTR_TAIL d c) (f := Reg.DOR_CQ_PTR_HEAD d c) htail rfl (Nat.zero_le 15)
    (show 15 < 32 by omega) (.inr (show 15 < 16 by omega))]
  exact getF_setF_zero (f := Reg.DOR_CQ_PTR_TAIL d c) hw (show 16 ≤ 31 by omega) (show 31 < 32 by omega)

theorem getF_journalStopped : getF (journalStopped d s) (Reg.DOR_JRN_CFG_EN d) = 0 ∧
    getF (journalStopped d s) (Reg.DOR_JRN_TAIL_TAIL d) = 0 ∧ getF (journalStopped d s) (Reg.DOR_JRN_HEAD_HEAD d) = 0 := by
  have far : (Reg.DOR_JRN_CFG_EN d).addr ≠ (Reg.DOR_JRN_TAIL_TAIL d).addr ∧ (Reg.DOR_JRN_CFG_EN d).addr ≠ (Reg.DOR_JRN_HEAD_HEAD d).addr ∧
      (Reg.DOR_JRN_TAIL_TAIL d).addr ≠ (Reg.DOR_JRN_HEAD_HEAD d).addr := by
    simp only [Reg.DOR_JRN_CFG_EN, Reg.DOR_JRN_TAIL_TAIL, Reg.DOR_JRN_HEAD_HEAD]
    omega
  have hen := setF_swf (f := Reg.DOR_JRN_CFG_EN d) (v := 0) h
  have htail := setF_swf (f := Reg.DOR_JRN_TAIL_TAIL d) (v := 0) hen
  refine ⟨?_, ?_, getF_setF_zero (f := Reg.DOR_JRN_HEAD_HEAD d) htail (Nat.zero_le 19) (show 19 < 32 by omega)⟩
  · rw [journalStopped, getF_setF_of_addr_ne (f := Reg.DOR_JRN_HEAD_HEAD d) htail far.2.1,
      getF_setF_of_addr_ne (f := Reg.DOR_JRN_TAIL_TAIL d) hen far.1]
    exact getF_setF_zero (f := Reg.DOR_JRN_CFG_EN d) h (Nat.le_refl 0) (show 0 < 32 by omega)
  · rw [journalStopped, getF_setF_of_addr_ne (f := Reg.DOR_JRN_HEAD_HEAD d) htail far.2.2]
    exact getF_setF_zero (f := Reg.DOR_JRN_TAIL_TAIL d) hen (Nat.zero_le 19) (show 19 < 32 by omega)

end

/-- A request ring without an open group stops, its indexes 0. -/
theorem disableRequestRing_of_no_group {d r : Nat} {s : State} (h : openGroup s d r = []) : disableRequestRing d r s =
    setGroup d r [] (setF (setF (setF s (Reg.DOR_RQ_CFG_EN d r) 0) (Reg.DOR_RQ_PTR_TAIL d r) 0) (Reg.DOR_RQ_PTR_HEAD d r) 0) :=
  if_pos (List.isEmpty_iff.2 h)

theorem ringDoorbell_of_admitted {d r : Nat} {v : Word} {s : State} (h : phaseAdmits s d (Reg.DOR_RQ_PTR_TAIL d r).addr true = true) :
    ringDoorbell d r v s = if rqSize s d r ≤ v.toNat % 65536 then configError .dor d s
      else setF s (Reg.DOR_RQ_PTR_TAIL d r) (v.toNat % 65536) :=
  if_neg (by rw [h]; decide)

/-- Settles O23: each clause is the branch of the doorbell, of the arrival or of the disable that its hypotheses name; a disable only
stores, so what its words hold afterwards follows from the store rules of fields. -/
theorem rings : Obligations.Rings := by
  unfold Obligations.Rings
  intro s t d r v e data hc hregs x tail
  refine ⟨fun hw hadm => ?_, fun hf => ?_, fun hf => ?_, fun hen hadm => ?_, fun hen hadm => ?_, fun hen hadm hg => ?_⟩
  · have bell := (busWrite_of_writeCheck hw (ringDoorbell d r v)).trans (ringDoorbell_of_admitted hadm)
    refine ⟨fun hlt => ?_, fun hle => ?_⟩
    · exact acts_eq_same hc (bell.trans (if_neg (Nat.not_le.2 hlt))) rfl rfl
    · exact acts_eq_after hc (bell.trans (if_pos hle))
  · exact acts_eq_after hc (if_pos (show canFetch x d r = true from hf))
  · exact acts_idle hc (if_neg (show ¬ canFetch x d r = true from by rw [show canFetch x d r = false from hf]; decide))
  · have stored := stores_disableCompletionRing d r x
    obtain ⟨htail, hhead⟩ := getF_cqStopped_indexes (s := x) hregs d r
    exact ⟨_, acts_eq_same hc (if_pos ⟨hen, hadm⟩) stored.quiet stored.pending, stored.eq, getF_cqStopped_en (s := x) hregs d r,
      htail, hhead, getF_cqStopped_lost (s := x) hregs d r⟩
  · have stored := stores_disableJournal d x
    have words := getF_of_regs_eq (disableJournal_regs d x)
    obtain ⟨hstopped, htail, hhead⟩ := getF_journalStopped (s := x) hregs d
    exact ⟨_, acts_eq_same hc (if_pos ⟨hen, hadm⟩) stored.quiet stored.pending, stored.eq, (words _).trans hstopped,
      (words _).trans htail, (words _).trans hhead⟩
  · exact acts_eq_same hc ((if_pos ⟨hen, hadm⟩).trans (disableRequestRing_of_no_group hg)) rfl rfl

end Sys2Proof.Machine
end

section
/-! SUPPORT. Completions, journal records and immediate requests leave a door in order (R114, R122, R127, R148, R149, R401). -/

namespace Sys2Proof.Machine

section
variable {s : State} {d : Nat}

theorem nextCompletion_of_cons {y : Completion} {ys : List Completion} (h : (doorOf s d).completions = y :: ys) :
    nextCompletion d s = writeCompletion d y (setDoor s d { doorOf s d with completions := ys }) := by
  rw [nextCompletion, h]

theorem nextCompletion_of_nil (h : (doorOf s d).completions = []) : nextCompletion d s = s := by
  rw [nextCompletion, h]

theorem nextJournal_of_cons {j : JournalRec} {js : List JournalRec} (h : (doorOf s d).held = j :: js) : nextJournal d s =
    if j.stamp + holdTreads ≤ s.now then journalWrite d j (setDoor s d { doorOf s d with held := js }) else s := by
  rw [nextJournal, h]

variable {op : Nat} {f : Req → List Byte → List Byte → State → State}

theorem runImmediate_of_nil (h : (doorOf s d).immediate = []) : runImmediate d op f s = s := by
  rw [runImmediate, h, takeOpcode]

/-- The oldest immediate request runs where it is of the opcode. -/
theorem runImmediate_of_cons {r : Req} {i : Treads} {rest : List (Req × Treads)} {a data : List Byte} (hb : r.body = .entry op a data)
    (h : (doorOf s d).immediate = (r, i) :: rest) :
    runImmediate d op f s = f r a data (setDoor s d { doorOf s d with immediate := rest }) := by
  have first : takeOpcode op ((r, i) :: rest) = some ((r, i), rest) := by
    rw [takeOpcode]
    simp only [hb, if_true]
  rw [runImmediate, h, first]
  simp only [hb]

end

/-- Settles O24: each command's effect reads the head of the one list of its door, in which a calm command sees what it held before. -/
theorem answersAndImmediates : Obligations.AnswersAndImmediates := by
  unfold Obligations.AnswersAndImmediates
  intro s t d y ys j js r i rest op a data lads hc x rest_
  refine ⟨fun h => acts_eq_after hc (nextCompletion_of_cons (s := x) h), fun h => acts_idle hc (nextCompletion_of_nil (s := x) h),
    fun h hheld => acts_eq_after hc ((nextJournal_of_cons (s := x) h).trans (if_pos hheld)),
    fun h hheld => acts_idle hc ((nextJournal_of_cons (s := x) h).trans (if_neg (Nat.not_le.2 hheld))),
    fun hb h => ⟨?_, ?_, ?_, ?_⟩, fun h => ⟨acts_idle hc (runImmediate_of_nil (s := x) h), acts_idle hc (runImmediate_of_nil (s := x) h),
      acts_idle hc (runImmediate_of_nil (s := x) h), acts_idle hc (runImmediate_of_nil (s := x) h)⟩⟩
  all_goals
    rintro rfl
    exact acts_eq_after hc (runImmediate_of_cons (s := x) hb h)

end Sys2Proof.Machine
end

section
/-! SUPPORT. Accesses of the doors (R12 to R17, R104, R113, R118, R123, R129, R456): stored, dropped, staged and malformed writes, views and
snapshots. -/

namespace Sys2Proof.Machine

/-! ### Stored, dropped and malformed accesses -/

theorem busWrite_of_drop {d a : Nat} {v : Word} {s : State} {r : WriteDrop} (h : writeCheck s d a v = some r) (f : State → State) :
    busWrite d a v f s = dropRecord d a r s := by
  rw [busWrite, h]

/-- A word without a row and without RWE fields is written by its effect, after the check. -/
theorem writeBus_of_no_row {d a : Nat} {v : Word} (hs : wordStages a = false) (hr : (rowWrite d a v).isNone = true) (s : State) :
    writeBus d a v s = busWrite d a v (wordEffect d a v) s := by
  simp [writeBus, stages, busWrite32, hs, Option.isNone_iff_eq_none.1 hr]

theorem stores_storeWord (a : Nat) (v : Word) (s : State) : Stores s (storeWord a v s) := by
  obtain ⟨regs, h⟩ := storeWord_eq a v s
  exact ⟨regs, s.doors, h⟩

theorem accessAligned_eq_false {size : AccessSize} {off : Nat} (h : off % (match size with | .word => 4 | .dword => 8) ≠ 0) :
    accessAligned size off = false := by
  cases size
  · exact beq_eq_false_iff_ne.2 h
  · exact beq_eq_false_iff_ne.2 h

theorem barAccess_of_misaligned {d off : Nat} {win : Window} {size : AccessSize} (h : accessAligned size off = false) (v : BitVec 64) :
    barAccess d win off size v = malformedAccess d :=
  funext fun _ => if_pos (by rw [h]; rfl)

/-- Settles O7: an aligned write without a row is its check and its effect; a misaligned one is the command MALFORMED_ACCESS. -/
theorem barWrites : Obligations.BarWrites := by
  unfold Obligations.BarWrites
  refine ⟨?_, ?_⟩
  · intro s t d off v hc hal x a w hs hr heff
    have written (y : State) : barAccess d .bar0 off.toNat .word v y = busWrite d a w (wordEffect d a w) y :=
      (barAccess_bar0_word hal v y).trans (writeBus_of_no_row hs hr y)
    refine ⟨fun hw => ?_, fun r hw => acts_eq_after hc ((written x).trans (busWrite_of_drop hw _))⟩
    have stored := stores_storeWord a w x
    exact acts_eq_same hc ((written x).trans ((busWrite_of_writeCheck hw _).trans (heff x))) stored.quiet stored.pending
  · intro s t d win off v malformed
    refine ⟨rfl, rfl, fun h => ?_, fun h => ?_⟩
    · exact congrArg (fun f => acts t f s) (barAccess_of_misaligned (accessAligned_eq_false (size := .word) h) v)
    · exact congrArg (fun f => acts t f s) (barAccess_of_misaligned (accessAligned_eq_false (size := .dword) h) v)

/-! ### Tables written with a value that stays listed -/

/-- A write that lists its value is read back by every number, in whatever order the table lists its numbers. -/
theorem sget_sput_listed {α : Type} {d : Nat → α} {k : Nat} {v : α} (j : Nat) :
    ∀ m : Sparse α, sget d (sput k v true m) j = if j = k then v else sget d m j
  | [] => by
    by_cases h : j = k <;> simp [sput, sget, h]
  | (k', v') :: m => by
    rw [sput]
    by_cases h : k < k'
    · rw [if_pos h, if_pos rfl, sget]
      by_cases hj : j < k
      · simp [sget, hj, Nat.ne_of_lt hj, Nat.ne_of_lt (Nat.lt_trans hj h), Nat.lt_trans hj h]
      · simp [sget, hj]
    · rw [if_neg h]
      by_cases hk : k = k'
      · subst hk
        by_cases hj : j = k <;> simp [hj, sget]
      · rw [if_neg hk, sget, sget_sput_listed j m, sget]
        by_cases hj : j = k'
        · simp [hj, Ne.symm hk]
        · by_cases hlt : j < k'
          · have hne : j ≠ k := by omega
            simp [hlt, hne]
          · simp [hj, hlt]

/-- A door that holds more than at reset is found under its number, in whatever order the doors are listed. -/
theorem doorOf_setDoor_listed {s : State} {d : Nat} {y : Door} (h : y ≠ doorInit) (e : Nat) :
    doorOf (setDoor s d y) e = if e = d then y else doorOf s e := by
  rw [doorOf, setDoor, ssetC, sset, decide_eq_true h]
  exact sget_sput_listed e s.doors

/-! ### Staged writes -/

theorem insertRec_ne_nil (r : JournalRec) (l : List JournalRec) : insertRec r l ≠ [] := by
  cases l with
  | nil => simp [insertRec]
  | cons x l =>
    rw [insertRec]
    split
    · exact List.cons_ne_nil _ _
    · exact List.cons_ne_nil _ _

/-- A record changes what a door's journal holds, and nothing else of it. -/
theorem immediate_journalHold (j : Nat) (r : JournalRec) (s : State) (d : Nat) :
    (doorOf (journalHold j r s) d).immediate = (doorOf s d).immediate := by
  unfold journalHold
  split
  · have listed : { doorOf s j with held := insertRec r (doorOf s j).held } ≠ doorInit := fun h =>
      insertRec_ne_nil r _ (congrArg Door.held h)
    rw [doorOf_setDoor_listed listed]
    split
    · next h => rw [h]
    · rfl
  · rfl

theorem journalAdd_now (d : Nat) (r : JournalRec) {s : State} (h : r.stamp = s.now) : journalAdd d r s = journalHold d r s :=
  if_pos (h ▸ Nat.le_add_right ..)

/-- A record of the present is held by the journals that receive it. -/
theorem journalRequest_now (d : Nat) {r : JournalRec} {s : State} (h : r.stamp = s.now) : ∃ doors,
    journalRequest d r s = { s with doors := doors } ∧ ∀ e, (doorOf (journalRequest d r s) e).immediate = (doorOf s e).immediate := by
  have held (j : Nat) (y : State) : ∃ doors, journalHold j r y = { y with doors := doors } := by
    unfold journalHold
    split
    · exact ⟨_, rfl⟩
    · exact ⟨_, rfl⟩
  unfold journalRequest requestJournals
  obtain ⟨doors, hd⟩ := held d s
  have first : journalAdd d r s = { s with doors := doors } := (journalAdd_now d r h).trans hd
  have kept (e : Nat) : (doorOf { s with doors := doors } e).immediate = (doorOf s e).immediate := by
    rw [← hd, immediate_journalHold]
  split
  · obtain ⟨doors', hd'⟩ := held (devOwner s) { s with doors := doors }
    have second : journalAdd (devOwner s) r { s with doors := doors } = { s with doors := doors' } :=
      (journalAdd_now _ r (by exact h)).trans hd'
    rw [List.foldl_cons, List.foldl_cons, List.foldl_nil, first, second]
    refine ⟨doors', rfl, fun e => ?_⟩
    rw [show ({ s with doors := doors' } : State) = _ from hd'.symm, immediate_journalHold, kept]
  · rw [List.foldl_cons, List.foldl_nil, first]
    exact ⟨doors, rfl, kept⟩

/-- A request without a ring arrives at an opened door: the next sequence, and its record; nothing that waits changes. -/
theorem arriveReq_of_opened {d : Nat} {s : State} (r : Req) (hp : (doorOf s d).phase = .opened) : ∃ doors,
    arriveReq d s.now r s = ({ r with seq := nextSeq s d }, { s with doors := doors }) ∧
    (doorOf { s with doors := doors } d).immediate = (doorOf s d).immediate := by
  have listed : { doorOf s d with seq := (doorOf s d).seq + 1 } ≠ doorInit := by
    intro h
    have hshut : (doorOf s d).phase = .shut := congrArg Door.phase h
    rw [hp] at hshut
    cases hshut
  obtain ⟨doors, hj, himm⟩ := journalRequest_now d (s := setDoor s d { doorOf s d with seq := (doorOf s d).seq + 1 })
    (r := ⟨s.now, 1, 0, d, 0, nextSeq s d, r.tag.toNat⟩) rfl
  refine ⟨doors, congrArg _ hj, ?_⟩
  rw [show ({ s with doors := doors } : State) = _ from hj.symm, himm, doorOf_setDoor_listed listed, if_pos rfl]

/-- A request without a ring stands behind no request of its tread where none of those came by a ring. -/
theorem tieSwaps_of_no_ring {s : State} {d : Nat} {r : Req} (h : ∀ q ∈ tiedReqs s d, q.ring = none) :
    tieSwaps s d [r] = [] := by
  have none_behind : ((tiedReqs s d).filter fun q => decide (([r].map tieRank).foldl max 0 < tieRank q)) = [] := by
    rw [List.filter_eq_nil_iff]
    intro q hq
    simp [tieRank, h q hq]
  simp only [tieSwaps, none_behind, List.map_nil, List.isEmpty_nil, if_true]

/-- The request of a staged write of one word. -/
def stagedReq (seq a : Nat) (w : Word) : Req := ⟨seq, none, 0, false, false, none, .barWrite [(a, w)], 0, 0⟩

/-- A staged write joins the epoch's arrivals of a device that runs alone. -/
theorem stageWrite_of_alone {s : State} {d a : Nat} {w : Word} (hp : (doorOf s d).phase = .opened) (hh : handsOver s = false)
    (he : exchanges s = false) (ht : ∀ r ∈ tiedReqs s d, r.ring = none) : ∃ doors, stageWrite d [(a, w)] s = { s with
      doors := doors
      epoch := { s.epoch with arrived := s.epoch.arrived ++ [⟨d, s.now, 0, [stagedReq (nextSeq s d) a w]⟩] } } := by
  obtain ⟨doors, harr, himm⟩ := arriveReq_of_opened (stagedReq 0 a w) hp
  have tied : tiedReqs { s with doors := doors } d = tiedReqs s d := by
    rw [tiedReqs, himm, tiedReqs]
  have now : arriveNow d [stagedReq 0 a w] s = ([stagedReq (nextSeq s d) a w], { s with doors := doors }) := by
    rw [arriveNow, arriveAll, harr]
    exact if_pos (List.isEmpty_iff.2 (tieSwaps_of_no_ring fun q hq => ht q (tied ▸ hq)))
  have running : s.twin.state ≠ .copying := by
    intro hcopy
    rw [handsOver, he, hcopy] at hh
    exact absurd hh (by decide)
  refine ⟨doors, ?_⟩
  rw [stageWrite, arriveUnit]
  simp only [List.isEmpty_cons, Bool.false_eq_true, if_false]
  rw [show (⟨0, none, 0, false, false, none, .barWrite [(a, w)], 0, 0⟩ : Req) = stagedReq 0 a w from rfl, now]
  exact (if_neg (ne_via_eq (show handsOver { s with doors := doors } = false from hh) (by decide))).trans <|
    (congrArg (placeUnit _) (if_neg (ne_via_eq (show exchanges { s with doors := doors } = false from he) (by decide)))).trans <|
    if_neg running

/-- A door's phase admits a write of BAR2 once it is opened. -/
theorem opened_of_phaseAdmits {s : State} {d a : Nat} (hd : d < 4) (ha : 0x80000000 ≤ a) (h : phaseAdmits s d a true = true) :
    (doorOf s d).phase = .opened := by
  have hlow : decide (a < 0x80000000) = false := decide_eq_false (Nat.not_lt.2 ha)
  have hring : ringWord d a = false := by
    simp only [ringWord, Bool.or_eq_false_iff, Bool.and_eq_false_iff, decide_eq_false_iff_not]
    omega
  unfold phaseAdmits at h
  simp only [hlow, hring, Bool.false_and, Bool.and_false, Bool.or_false] at h
  cases hp : (doorOf s d).phase with
  | opened => rfl
  | shut => simp [hp] at h
  | time => simp [hp] at h

/-- A write of an unmixed RWE word that phase and world allow is staged, and stores nothing. -/
theorem writeBus_of_staged {s : State} {d a : Nat} {w : Word} (hs : wordStages a = true) (hm : wordMixed a = false)
    (hp : phaseAdmits s d a true = true) (hr : writeReaches s d a = true) : writeBus d a w s = stageWrite d [(a, w)] s := by
  simp [writeBus, stages, busWrite32, hs, hm, hp, hr]

/-- Settles O8: the write is staged as one request, which joins the epoch's arrivals of a device that runs alone. -/
theorem stagedWrites : Obligations.StagedWrites := by
  unfold Obligations.StagedWrites
  intro s t d off v hc hal x a w hs hm hp hr
  have staged : barAccess d .bar2 off.toNat .word v x = stageWrite d [(a, w)] x :=
    (if_neg (by simp [accessAligned, hal])).trans (writeBus_of_staged hs hm hp hr)
  refine ⟨acts_eq_after hc staged, fun hh he ht => ?_⟩
  obtain ⟨doors, halone⟩ := stageWrite_of_alone (opened_of_phaseAdmits d.isLt (Nat.le_add_right ..) hp) hh he ht
  exact ⟨_, acts_eq_same hc (staged.trans halone) rfl rfl, rfl, rfl, rfl⟩

end Sys2Proof.Machine
end

section
/-! SUPPORT. Views and snapshots of a door (R12, R13, R90, R123). -/

namespace Sys2Proof.Machine

/-! ### Snapshots -/

/-- The snapshots of a door, with the words of a wide quantity taken. -/
def snapsTaken (s : State) (d base words : Nat) : Sparse (Option Word) :=
  (List.range words).foldl (fun m i => ssetC none m (base + 4 * i) (some (currentWord s d (base + 4 * i)))) (doorOf s d).snaps

theorem takeSnapshot_eq (s : State) (d base words : Nat) :
    takeSnapshot s d base words = setDoor s d { doorOf s d with snaps := snapsTaken s d base words } := rfl

/-- A table into which numbers base, base + 4, … of a list are written holds what was written. -/
theorem sgetC_foldl_ssetC {α : Type} [DecidableEq α] {v : α} (base : Nat) (g : Nat → α) (j : Nat) : ∀ (l : List Nat) {m : Sparse α},
    sorted 0 m = true → sgetC v (l.foldl (fun m i => ssetC v m (base + 4 * i) (g i)) m) (base + 4 * j) =
      if j ∈ l then g j else sgetC v m (base + 4 * j)
  | [], _, _ => (if_neg List.not_mem_nil).symm
  | i :: l, m, h => by
    rw [List.foldl_cons, sgetC_foldl_ssetC base g j l (m := ssetC v m (base + 4 * i) (g i)) (sput_sorted h (Nat.zero_le _)), sgetC_ssetC h]
    have same : base + 4 * j = base + 4 * i ↔ j = i := by omega
    simp only [same]
    by_cases hj : j = i <;> simp [hj]

theorem sgetC_snapsTaken {s : State} {d base words i : Nat} (h : sorted 0 (doorOf s d).snaps = true) (hi : i < words) :
    sgetC none (snapsTaken s d base words) (base + 4 * i) = some (currentWord s d (base + 4 * i)) :=
  (sgetC_foldl_ssetC base (fun i => some (currentWord s d (base + 4 * i))) i _ h).trans (if_pos (List.mem_range.2 hi))

/-! ### What a door's commands change: its own state -/

/-- Only one door's own state changes. -/
structure DoorOnly (d : Nat) (s s' : State) : Prop where
  same : ∃ doors, s' = { s with doors := doors }
  others : sorted 0 s.doors = true → sorted 0 s'.doors = true ∧ ∀ e, e ≠ d → doorOf s' e = doorOf s e

theorem doorOnly_setDoor (s : State) (d : Nat) (y : Door) : DoorOnly d s (setDoor s d y) :=
  ⟨⟨_, rfl⟩, fun h => ⟨sorted_setDoor h d y, fun e he => (doorOf_setDoor h d y e).trans (if_neg he)⟩⟩

theorem DoorOnly.trans {d : Nat} {a b c : State} (h : DoorOnly d a b) (h' : DoorOnly d b c) : DoorOnly d a c := by
  refine ⟨?_, fun hs => ?_⟩
  · obtain ⟨_, rfl⟩ := h.same
    obtain ⟨_, rfl⟩ := h'.same
    exact ⟨_, rfl⟩
  · obtain ⟨hb, hab⟩ := h.others hs
    obtain ⟨hcs, hbc⟩ := h'.others hb
    exact ⟨hcs, fun e he => (hbc e he).trans (hab e he)⟩

theorem DoorOnly.eq {d : Nat} {s s' : State} (h : DoorOnly d s s') : s' = { s with doors := s'.doors } := by
  obtain ⟨_, rfl⟩ := h.same
  rfl

theorem DoorOnly.quiet {d : Nat} {s s' : State} (h : DoorOnly d s s') : quiet s' = quiet s := by
  obtain ⟨_, rfl⟩ := h.same
  rfl

theorem DoorOnly.pending {d : Nat} {s s' : State} (h : DoorOnly d s s') : s'.pending = s.pending := by
  obtain ⟨_, rfl⟩ := h.same
  rfl

theorem doorOf_setDoor_self {s : State} (h : sorted 0 s.doors = true) (d : Nat) (y : Door) : doorOf (setDoor s d y) d = y :=
  (doorOf_setDoor h d y d).trans (if_pos rfl)

/-! ### Views -/

theorem viewRead_of_admitted {s : State} {d : Nat} (h : phaseAdmits s d (Reg.DOR_VIEW_EPOCH_LO d).addr false = true) : viewRead d s =
    noteRead d (Reg.DOR_VIEW_EPOCH_LO d).addr [currentWord (moveView d s) d (Reg.DOR_VIEW_EPOCH_LO d).addr]
      (takeSnapshot (moveView d s) d (Reg.DOR_VIEW_EPOCH_LO d).addr 2) :=
  if_neg (by rw [h]; decide)

theorem viewRead_of_refused {s : State} {d : Nat} (h : phaseAdmits s d (Reg.DOR_VIEW_EPOCH_LO d).addr false = false) :
    viewRead d s = noteRead d (Reg.DOR_VIEW_EPOCH_LO d).addr [0] s :=
  if_pos (by rw [h]; rfl)

/-- What a view read leaves of its door. -/
theorem doorOf_viewRead {s : State} {d : Nat} (hs : sorted 0 s.doors = true)
    (h : phaseAdmits s d (Reg.DOR_VIEW_EPOCH_LO d).addr false = true) : DoorOnly d s (viewRead d s) ∧
      (doorOf (viewRead d s) d).view = s.epoch.newest ∧ (doorOf (viewRead d s) d).retain = [] ∧
      (doorOf (viewRead d s) d).seq = (doorOf s d).seq := by
  have moved := doorOnly_setDoor s d { doorOf s d with view := s.epoch.newest, retain := [] }
  obtain ⟨hmoved, -⟩ := moved.others hs
  have taken := doorOnly_setDoor (moveView d s) d
    { doorOf (moveView d s) d with snaps := snapsTaken (moveView d s) d (Reg.DOR_VIEW_EPOCH_LO d).addr 2 }
  obtain ⟨htaken, -⟩ := taken.others hmoved
  rw [viewRead_of_admitted h]
  refine ⟨moved.trans (taken.trans (doorOnly_setDoor ..)), ?_⟩
  rw [noteRead, doorOf_setDoor_self (s := takeSnapshot (moveView d s) d _ 2) htaken, takeSnapshot_eq, doorOf_setDoor_self (s := moveView d s) hmoved,
    moveView, doorOf_setDoor_self hs]
  exact ⟨rfl, rfl, rfl⟩

/-! ### Reads of one word -/

section
variable {s : State} {d a base words : Nat} (hs : sorted 0 s.doors = true) (hp : phaseAdmits s d a false = true)
  (hr : reaches s d a = true) (hm : msixHidden s d a = false) (hw : wideQuantity a = some (base, words)) (hf : (findWord a).isSome = true)
include hp hr hm hw hf

/-- What a read of a word of a wide quantity answers (R13). -/
theorem readWord_of_wide :
    readWord s d a = if a = base then currentWord s d a else (snapOf s d a).getD (currentWord s d a) := by
  obtain ⟨⟨w, is⟩, hfw⟩ := Option.isSome_iff_exists.1 hf
  have shown : ¬ (0x508000 ≤ a ∧ a < 0x528400 ∧ (!guardAdmits s d w.guard is) = true) := by
    rintro ⟨hlo, hhi, hg⟩
    rw [msixHidden, hfw, decide_eq_true hlo, decide_eq_true hhi, Option.any_some, hg] at hm
    exact absurd hm (by decide)
  rw [readWord, hp, hr, hfw, hw]
  exact if_neg shown

include hs
omit hf

/-- The read of a word of a wide quantity notes its answer, and takes the snapshot at the lowest word (R13). -/
theorem readOne_of_wide (hv : a ≠ (Reg.DOR_VIEW_EPOCH_LO d).addr) : readOne d a s =
    if a = base then snapshotAt d base words (noteRead d a [readWord s d a] s) else noteRead d a [readWord s d a] s := by
  have phase : phaseAdmits (noteRead d a [readWord s d a] s) d a false = true := by
    have hphase : (doorOf (noteRead d a [readWord s d a] s) d).phase = (doorOf s d).phase := by
      rw [noteRead, doorOf_setDoor_self hs]
    rw [← hp, phaseAdmits, hphase]
    rfl
  have reach : reaches (noteRead d a [readWord s d a] s) d a = true := hr
  have hidden : msixHidden (noteRead d a [readWord s d a] s) d a = false := hm
  simp only [readOne, phase, reach, hidden, hw, hv, Bool.not_true, Bool.false_and, Bool.false_eq_true, if_false, and_false]

end

/-- The nanoseconds that a read of TIM_NOW keeps leave the snapshots, the answer and the other doors alone. -/
theorem doorOf_snapshotAt {s : State} (hs : sorted 0 s.doors = true) (d base words : Nat) : DoorOnly d s (snapshotAt d base words s) ∧
    (doorOf (snapshotAt d base words s) d).snaps = snapsTaken s d base words ∧
    (doorOf (snapshotAt d base words s) d).lastRead = (doorOf s d).lastRead := by
  have taken := doorOnly_setDoor s d { doorOf s d with snaps := snapsTaken s d base words }
  obtain ⟨htaken, -⟩ := taken.others hs
  have door : doorOf (takeSnapshot s d base words) d = { doorOf s d with snaps := snapsTaken s d base words } :=
    doorOf_setDoor_self hs ..
  unfold snapshotAt
  split
  · refine ⟨taken.trans (doorOnly_setDoor ..), ?_⟩
    rw [doorOf_setDoor_self (s := takeSnapshot s d base words) htaken, door]
    exact ⟨rfl, rfl⟩
  · rw [door]
    exact ⟨taken, rfl, rfl⟩

theorem snapshotRead_of_misaligned {d a : Nat} {size : AccessSize} (h : accessAligned size a = false) :
    snapshotRead d a size = malformedRead d a :=
  funext fun _ => if_pos (by rw [h]; rfl)

/-- Settles O9: a read changes its door's own state alone; the snapshot fold keeps every word of the quantity, and a misaligned read is
the malformed access. -/
theorem viewsAndSnapshots : Obligations.ViewsAndSnapshots := by
  unfold Obligations.ViewsAndSnapshots
  refine ⟨?_, ?_, ?_⟩
  · intro s t d hc hd x a
    refine ⟨fun hp => ?_, fun hp => acts_eq_same hc (viewRead_of_refused hp) rfl rfl⟩
    obtain ⟨honly, hview, hretain, hseq⟩ := doorOf_viewRead (s := x) hd hp
    exact ⟨_, acts_eq_same hc rfl honly.quiet honly.pending, honly.eq, hview, hretain, hseq, (honly.others hd).2⟩
  · intro s t d off base words hc hd hsnaps x a hp hr hm hv hw hf hal
    have read : snapshotRead d a .word x = _ :=
      (if_neg (by simp [accessAligned, a, hal])).trans (readOne_of_wide (s := x) hd hp hr hm hw hv)
    have value := readWord_of_wide (s := x) hp hr hm hw hf
    have noted := doorOnly_setDoor x d { doorOf x d with lastRead := some (a, [readWord x d a]) }
    obtain ⟨hsorted, -⟩ := noted.others hd
    have door : doorOf (noteRead d a [readWord x d a] x) d = { doorOf x d with lastRead := some (a, [readWord x d a]) } :=
      doorOf_setDoor_self hd ..
    by_cases hb : a = base
    · obtain ⟨honly, htaken, hread⟩ := doorOf_snapshotAt hsorted d base words
      have whole := noted.trans honly
      refine ⟨_, acts_eq_same hc (read.trans (if_pos hb)) whole.quiet whole.pending, whole.eq, (whole.others hd).2, fun _ => ⟨fun i hi => ?_, ?_⟩,
        fun h => absurd hb h⟩
      · rw [← show readWord x d a = currentWord x d a from value.trans (if_pos hb)]
        refine (congrArg (fun m => sgetC none m (base + 4 * i)) htaken).trans (sgetC_snapsTaken ?_ hi)
        exact (congrArg (fun y : Door => sorted 0 y.snaps) door).trans hsnaps
      · rw [← show readWord x d a = currentWord x d a from value.trans (if_pos hb)]
        exact hread.trans (congrArg Door.lastRead door)
    · refine ⟨_, acts_eq_same hc (read.trans (if_neg hb)) noted.quiet noted.pending, noted.eq, (noted.others hd).2, fun h => absurd h hb,
        fun _ => ⟨(congrArg Door.snaps door :), ?_⟩⟩
      rw [show (snapOf s d a).getD (currentWord x d a) = readWord x d a from (value.trans (if_neg hb)).symm]
      exact congrArg Door.lastRead door
  · intro s t d off hc a
    refine ⟨fun hal => acts_eq_after hc (if_neg (by simp [accessAligned, hal])), fun hal => ?_, fun hal => ?_⟩
    all_goals
      have same : codedAddr .bar0 (off.setWidth 30).toNat = off.toNat := by
        rw [codedAddr, BitVec.toNat_setWidth]
        exact Nat.mod_eq_of_lt (by omega)
    · exact (congrArg (fun f => acts t f s) (snapshotRead_of_misaligned (accessAligned_eq_false (size := .word) hal))).trans
        (congrArg (fun n => acts t (malformedRead d n) s) same.symm)
    · exact (congrArg (fun f => acts t f s) (snapshotRead_of_misaligned (accessAligned_eq_false (size := .dword) hal))).trans
        (congrArg (fun n => acts t (malformedRead d n) s) same.symm)

end Sys2Proof.Machine
end

section
/-! SUPPORT. Frames, paths and links of the media ports (R132, R133, R141). -/

namespace Sys2Proof.Machine

theorem frameReceive_of_disabled {f : RxFrame} {s : State} (h : getF s (Reg.ETH_PORT_CFG_EN f.port.val) = 0) : frameReceive f s = s := if_pos h

theorem frameReceive_of_enabled {f : RxFrame} {s : State} (h : getF s (Reg.ETH_PORT_CFG_EN f.port.val) ≠ 0) :
    frameReceive f s = ingress f (ethCount f.port.val 0 (addF s (Reg.ETH_CNT_COUNT f.port.val 14) f.corrected)) := if_neg h

theorem ingress_of_bad_fcs {f : RxFrame} {s : State} (h : f.fcsOk = false) : ingress f s = ethCount f.port.val 1 s :=
  if_pos (by rw [h]; rfl)

theorem ingress_of_short {f : RxFrame} {s : State} (h : f.fcsOk = true) (hlen : f.raw.length + 4 < 64) :
    ingress f s = ethCount f.port.val 2 s :=
  (if_neg (by rw [h]; decide)).trans (if_pos (.inl hlen))

/-- The words of a port's link. -/
def linkShown (p : Nat) (up hiSer : Bool) (s : State) : State :=
  setF (setF (setF (setF s (Reg.ETH_PORT_STAT_HI_SER p) hiSer.toNat) (Reg.ETH_PORT_STAT_LINK p) up.toNat)
    (Reg.ETH_PORT_STAT_ALIGN p) up.toNat) (Reg.ETH_PORT_STAT_FEC_LOCK p) up.toNat

theorem getF_linkShown {s : State} (h : swf resetWord s.regs = true) (p : Nat) (up hiSer : Bool) :
    getF (linkShown p up hiSer s) (Reg.ETH_PORT_STAT_LINK p) = up.toNat ∧
    getF (linkShown p up hiSer s) (Reg.ETH_PORT_STAT_FEC_LOCK p) = up.toNat := by
  have bit : up.toNat % 2 = up.toNat := by cases up <;> rfl
  have hser := setF_swf (f := Reg.ETH_PORT_STAT_HI_SER p) (v := hiSer.toNat) h
  have hlink := setF_swf (f := Reg.ETH_PORT_STAT_LINK p) (v := up.toNat) hser
  have halign := setF_swf (f := Reg.ETH_PORT_STAT_ALIGN p) (v := up.toNat) hlink
  refine ⟨?_, ?_⟩
  · rw [linkShown,
      getF_setF_of_apart (g := Reg.ETH_PORT_STAT_LINK p) (f := Reg.ETH_PORT_STAT_FEC_LOCK p) halign rfl (Nat.le_refl 2) (show 2 < 32 by omega)
        (.inl (show 0 < 2 by omega)),
      getF_setF_of_apart (g := Reg.ETH_PORT_STAT_LINK p) (f := Reg.ETH_PORT_STAT_ALIGN p) hlink rfl (Nat.le_refl 1) (show 1 < 32 by omega)
        (.inl (show 0 < 1 by omega))]
    exact (getF_setF_self (f := Reg.ETH_PORT_STAT_LINK p) hser (Nat.le_refl 0) (show 0 < 32 by omega)).trans bit
  · exact (getF_setF_self (f := Reg.ETH_PORT_STAT_FEC_LOCK p) halign (Nat.le_refl 2) (show 2 < 32 by omega)).trans bit

section
variable {s : State} {kind otype object path : Nat}

theorem pathTimeoutAt_of_down (h : pathOf s (mergeKey kind otype object) path = none) : pathTimeoutAt kind otype object path s = s := by
  rw [pathTimeoutAt, h]

theorem pathTimeoutAt_of_up {seen : Treads} (h : pathOf s (mergeKey kind otype object) path = some seen) :
    pathTimeoutAt kind otype object path s =
      if seen + pathTimeout s ≤ s.now then
        pathChange kind object path (objectChans s kind object) false { s with ports := { s.ports with
          pathSeen := ssetC none s.ports.pathSeen (2 * mergeKey kind otype object + path) none } }
      else s := by
  rw [pathTimeoutAt, h]

end

/-- Settles O25: the branches of the port's commands, and what the link's word holds after its stores. -/
theorem portCommands : Obligations.PortCommands := by
  unfold Obligations.PortCommands
  intro s t f kind otype object path p up hiSer seen hc hregs x key down
  refine ⟨fun h => acts_idle hc (frameReceive_of_disabled (s := x) h), fun h => ?_, fun h hle => ?_, fun h hlt => ?_, fun h => ?_, ?_, rfl⟩
  · intro counted
    have enabled := frameReceive_of_enabled (s := x) h
    exact ⟨acts_eq_after hc enabled, fun hfcs => acts_eq_same hc (enabled.trans (ingress_of_bad_fcs hfcs)) rfl rfl,
      fun hfcs hlen => acts_eq_same hc (enabled.trans (ingress_of_short hfcs hlen)) rfl rfl⟩
  · exact acts_eq_after hc ((pathTimeoutAt_of_up (s := x) h).trans (if_pos hle))
  · exact acts_idle hc ((pathTimeoutAt_of_up (s := x) h).trans (if_neg (Nat.not_le.2 hlt)))
  · exact acts_idle hc (pathTimeoutAt_of_down (s := x) h)
  · exact ⟨rfl, getF_linkShown (s := x) hregs p up hiSer⟩

end Sys2Proof.Machine
end

section
/-! SUPPORT. Leg queues, the scheduler's gates and the cipher engine (R153 to R156, R168 to R174, R313 to R323). -/

namespace Sys2Proof.Machine

/-! ### Queues -/

theorem stallLimitExpiry_of_none_outlasted {q : Nat} {s : State}
    (h : ∀ v ∈ (queueOf s q).waits, (decide (v.since + getF s Reg.SHP_Q_CFG_STALL_LIMIT < s.now) && !v.told) = false) :
    stallLimitExpiry q s = setQueue q (queueOf s q) s := by
  have no_event : (queueOf s q).waits.filter (fun v => decide (v.since + getF s Reg.SHP_Q_CFG_STALL_LIMIT < s.now) && !v.told) = [] :=
    List.filter_eq_nil_iff.2 fun v hv => by rw [h v hv]; decide
  have unchanged : (queueOf s q).waits.map (fun v => if decide (v.since + getF s Reg.SHP_Q_CFG_STALL_LIMIT < s.now) && !v.told then
      { v with told := true } else v) = (queueOf s q).waits :=
    (List.map_congr_left fun v hv => by rw [h v hv]; rfl).trans (List.map_id' _)
  simp only [stallLimitExpiry, no_event, unchanged, List.foldl_nil]

theorem expireFuel_of_not_past {q : Nat} {s : State} (h : windowPast s q = false) : ∀ n, expireFuel q n s = s
  | 0 => rfl
  | n + 1 => by
    rw [expireFuel]
    split
    · rfl
    · exact if_pos (by rw [h]; rfl)

theorem emissionWindowExpiry_of_notify {q : Nat} {s : State} (h : getF s (Reg.QUEUE_NOTIFY q) = 1) : emissionWindowExpiry q s = s := if_pos h

theorem emissionWindowExpiry_of_leg {q : Nat} {s : State} (h : getF s (Reg.QUEUE_NOTIFY q) = 0) :
    emissionWindowExpiry q s = expireFuel q (queueOf s q).pkts.length s := if_neg (by rw [h]; decide)

/-! ### Gates and the scheduler -/

section
variable {s : State} {p : Nat}

theorem gateListStart_of_waiting {at_ : Treads} {g : GateList} (h : (gatesOf s p).next = some (at_, g)) : gateListStart p s =
    if at_ ≤ s.now then raiseEvent 0x0C6 (showGates p (setGates p ⟨g, at_, none⟩ s)) else s := by
  rw [gateListStart, h]

theorem gateListStart_of_none (h : (gatesOf s p).next = none) : gateListStart p s = s := by
  rw [gateListStart, h]

theorem stores_setStamp3 (s : State) (a : Nat) (t : Treads) : Stores s (setStamp3 s a t) :=
  (stores_rset ..).trans ((stores_rset ..).trans (stores_rset ..))

theorem stores_showGates (p : Nat) (s : State) : Stores s (showGates p s) := by
  unfold showGates
  exact (stores_setF ..).trans <| (stores_setF ..).trans <| (stores_setF ..).trans <| (stores_setF ..).trans <| stores_setStamp3 ..

/-- A port picks, its gate lists as they are (R314). -/
def pickOnce (p delay : Nat) (fault : Option (Fin 8)) (word : PoisonCause) (errs : List ShpError) (s : State) : State :=
  if getF s (Reg.ETH_PORT_CFG_EN p) = 0 ∨ s.now < sgetC 0 s.shp.portBusy p ∨ !portAllows s p then s
  else
    let s := errs.foldl (fun s e => pickError e s) s
    let s := (portQueues s p).foldl (fun s q => emissionWindowExpiry q s) s
    pickFuel p delay fault (((portQueues s p).map fun q => (queueOf s q).pkts.length).foldl (· + ·) 1) word s

theorem schedulerPick_eq (p delay : Nat) (fault : Option (Fin 8)) (word : PoisonCause) (errs : List ShpError) (s : State) :
    schedulerPick p delay fault word errs s = pickOnce p delay fault word errs (gateListStart p s) := rfl

end

/-- Settles O26: a queue's commands read its waits and its head packet; a port's read its waiting list and whether it may pick. -/
theorem queuesAndGates : Obligations.QueuesAndGates := by
  unfold Obligations.QueuesAndGates
  refine ⟨?_, ?_⟩
  · intro s t q w hc x y outlasted
    refine ⟨acts_eq_after hc rfl, acts_eq_after hc rfl, fun h => ?_, fun h => acts_idle hc (emissionWindowExpiry_of_notify (s := x) h), fun h hpast => ?_,
      fun h => acts_eq_after hc (emissionWindowExpiry_of_leg (s := x) h)⟩
    · exact acts_eq_same hc (stallLimitExpiry_of_none_outlasted (s := x) h) rfl rfl
    · exact acts_idle hc ((emissionWindowExpiry_of_leg (s := x) h).trans (expireFuel_of_not_past hpast _))
  · intro s t delay p fault at_ g word errs hc x
    refine ⟨fun h hle => acts_eq_after hc ((gateListStart_of_waiting (s := x) h).trans (if_pos hle)),
      fun h hlt => acts_idle hc ((gateListStart_of_waiting (s := x) h).trans (if_neg (Nat.not_le.2 hlt))), fun h => ?_⟩
    have stay := gateListStart_of_none (s := x) h
    have pick : schedulerPick p delay fault word errs x = pickOnce p delay fault word errs x :=
      (schedulerPick_eq ..).trans (congrArg (pickOnce p delay fault word errs) stay)
    refine ⟨acts_idle hc stay, ?_, fun hno => ?_, fun hen hidle hallow => ?_⟩
    · exact acts_eq_same hc (congrArg (showGates p) stay) (stores_showGates p x).quiet (stores_showGates p x).pending
    · refine acts_idle hc (pick.trans (if_pos ?_))
      obtain hen | hbusy | hlim := hno
      · exact .inl hen
      · exact .inr (.inl hbusy)
      · exact .inr (.inr (by rw [hlim]; rfl))
    · refine acts_eq_after hc (pick.trans (if_neg ?_))
      rintro (hno | hbusy | hlim)
      · exact hen hno
      · exact Nat.not_lt.2 hidle hbusy
      · rw [hallow] at hlim
        exact absurd hlim (by decide)

/-! ### The cipher engine -/

/-- The records that a pass takes, in its order (R168). -/
def passOrder (s : State) (f : Treads) (recs : List ArrRec) : List (Nat × ArrRec) :=
  ((indexed 0 recs).filter fun r => r.2.trust == .waiting).foldl (fun l r => passInsert s f r l) []

theorem mem_indexed {α : Type} {e : Nat × α} : ∀ {i : Nat} {l : List α}, e ∈ indexed i l → e.2 ∈ l
  | _, [], h => absurd h List.not_mem_nil
  | i, x :: l, h => by
    obtain rfl | h := List.mem_cons.1 h
    · exact List.mem_cons_self
    · exact List.mem_cons_of_mem _ (mem_indexed h)

theorem passOrder_of_none_waiting {recs : List ArrRec} (h : (recs.all fun r => r.trust != .waiting) = true) (s : State) (f : Treads) :
    passOrder s f recs = [] := by
  have none_waits : (indexed 0 recs).filter (fun r => r.2.trust == .waiting) = [] := List.filter_eq_nil_iff.2 fun e he => by
    simpa using List.all_eq_true.1 h e.2 (mem_indexed he)
  rw [passOrder, none_waits, List.foldl_nil]

section
variable {s : State} {o : SetOwner} {flight : Nat} {y : ArrSet}

theorem cipherReceivePass_of_no_set (h : setOf s o flight = none) : cipherReceivePass o flight s = s := by
  rw [cipherReceivePass, h]

theorem cipherReceivePass_of_early (h : setOf s o flight = some y)
    (hno : y.final = false ∨ y.passed = true ∨ passWaits s o (setStart s o flight) = true) : cipherReceivePass o flight s = s := by
  rw [cipherReceivePass, h]
  refine if_pos ?_
  obtain hf | hp | hw := hno
  · exact .inl (by rw [hf]; rfl)
  · exact .inr (.inl hp)
  · exact .inr (.inr (.inl hw))

theorem cipherReceivePass_of_due (h : setOf s o flight = some y) (hf : y.final = true) (hp : y.passed = false)
    (hw : passWaits s o (setStart s o flight) = false) (hc : s.twin.state ≠ .copying) (hk : s.twin.resync.kept = none) :
    cipherReceivePass o flight s =
      let w := (passOrder s (setStart s o flight) y.recs).foldl (fun (acc : List ArrRec × State) r =>
        (acc.1.set r.1 (passRecord (setStart s o flight) r.2 acc.2).1, (passRecord (setStart s o flight) r.2 acc.2).2)) (y.recs, s)
      settle (putSet { y with recs := w.1, passed := true } w.2) := by
  rw [cipherReceivePass, h]
  refine (if_neg ?_).trans (atInstant_idle hk)
  rw [hf, hp, hw]
  simp [hc]

variable {n i : Nat} {r : ArrRec} {fault : Option (Fin 8)}

theorem tagCheck_of_pending (hs : setOf s o flight = some y) (hn : y.recs[n]? = some r) (ht : r.trust = .pending i)
    (hk : s.twin.resync.kept = none) :
    tagCheck o flight n fault s = if tagWaits s y n r i then s else settle (tagVerdict y n r i fault s) := by
  rw [tagCheck, hs]
  simp only [hn, ht]
  rw [atInstant_idle hk]

/-- The state in which a record is not trusted (R171). -/
def distrust (y : ArrSet) (n : Nat) (r : ArrRec) : State → State := putRecord y n { r with trust := .untrusted }

theorem tagVerdict_of_mismatch {lane : Fin 8} (h : workingLane s fault = some lane) :
    tagVerdict y n r i fault s = distrust y n r (laneMismatch lane 0 r.cix 0x01 1 s) := by
  rw [tagVerdict, h]
  rfl

theorem tagVerdict_of_key {k use : RxKey} {from_ : Option Treads} (h : workingLane s fault = none)
    (hkey : rxKeyAt (rxOf s r.cix) (setStart s y.owner y.flight) = some k)
    (huse : keyFor (rxOf s r.cix) (setStart s y.owner y.flight) i = some (use, from_)) : tagVerdict y n r i fault s =
      if recReplayed s k r i then distrust y n r (replayHit r.cix s)
      else if !(openRecord use r i).2 then
        distrust y n r (raiseEvent 0x0E0 (incF (incF s (Reg.RXC_AUTH_FAIL r.cix)) (Reg.CIP_CNT_COUNT 1)))
      else
        rtcpRecord { r with trust := .trusted } y.flight
          (putRecord y n { r with trust := .trusted } (trustRecord (setStart s y.owner y.flight) { r with trust := .trusted } i s)) := by
  rw [tagVerdict, h, hkey, huse]
  rfl

end

/-- Settles O27: a pass and a tag check act at once where no replay of a join is kept, and their branches are those of R168 to R171. -/
theorem cipherEngine : Obligations.CipherEngine := by
  unfold Obligations.CipherEngine
  refine ⟨?_, ?_, fun s t hc => ⟨rfl, acts_eq_same hc rfl rfl rfl⟩⟩
  · intro s t flight o y hc hk x
    refine ⟨fun h => acts_idle hc (cipherReceivePass_of_no_set (s := x) h), fun h => ⟨fun hno =>
      acts_idle hc (cipherReceivePass_of_early (s := x) h hno), fun hf hp hw hcopy => ?_⟩⟩
    have due := cipherReceivePass_of_due (s := x) h hf hp hw hcopy hk
    refine ⟨acts_eq_after hc due, fun hall => acts_eq_after hc (due.trans ?_)⟩
    rw [passOrder_of_none_waiting hall]
    rfl
  · intro s t flight n i o y r k use from_ fault lane hc hk hs hn ht x f does bad
    have check := tagCheck_of_pending (s := x) (fault := fault) hs hn ht hk
    have judged {u : State} (hw : tagWaits x y n r i = false) (h : tagVerdict y n r i fault x = u) :
        tagCheck o flight n fault x = settle u := by
      rw [check, hw, h]
      rfl
    refine ⟨fun hw => ?_, fun hw hl => ?_, fun hw hl hkey huse => ?_⟩
    · exact acts_eq_after hc (congrArg fillFoyers (check.trans (if_pos hw)))
    · exact acts_eq_after hc (congrArg fillFoyers (judged hw (tagVerdict_of_mismatch (s := x) hl)))
    · have verdict := tagVerdict_of_key (s := x) (n := n) hl hkey huse
      refine ⟨fun hrep => ?_, fun hrep hopen => ?_, fun hrep hopen => ?_⟩
      · exact acts_eq_after hc (congrArg fillFoyers (judged hw (verdict.trans (if_pos hrep))))
      · have replay : ¬ recReplayed x k r i = true := by rw [show recReplayed x k r i = false from hrep]; decide
        exact acts_eq_after hc (congrArg fillFoyers (judged hw (verdict.trans ((if_neg replay).trans (if_pos (by rw [hopen]; rfl))))))
      · have replay : ¬ recReplayed x k r i = true := by rw [show recReplayed x k r i = false from hrep]; decide
        exact acts_eq_after hc (congrArg fillFoyers (judged hw (verdict.trans ((if_neg replay).trans (if_neg (by rw [hopen]; decide))))))

end Sys2Proof.Machine
end

section
/-! SUPPORT. Task entry on a core whose table entry is repeated (R185, R195). -/

namespace Sys2Proof.Machine

/-- A release on core 0's running slot. -/
def shadowedRelease : Release := ⟨7, 10240, 0, 0, 0, none, [], [], .running 0, none, [], false, 0, none, []⟩

/-- The core table lists core 0 twice: first as at reset, then with foyer 1 active and filled. The canonical form (no entry equal to the
default, numbers rising) forbids both; the statement does not ask for it. -/
def shadowedCore : State :=
  { State.reset with
    stw := { State.reset.stw with releases := [shadowedRelease] }
    lnd := { State.reset.lnd with cores := [(0, coreInit), (0, { coreInit with foyer := 1, filled := some 7 })] } }

/-- The entry of the core's bad words takes the first entry away, so the core enters from the second one's foyer. -/
theorem foyer_shadowedCore : (coreOf (after 0 (coreTaskEntry 0 []) shadowedCore) 0).foyer = 0 := by decide

/-- Refutes O28: the statement asks for no canonical form of the core table, and where a core is listed twice, first as at reset, the write
of its known bad words uncovers the second entry, from whose foyer the core enters. -/
theorem not_taskEntry : ¬ Obligations.TaskEntry := by
  unfold Obligations.TaskEntry
  intro h
  obtain ⟨-, -, hrun⟩ := h shadowedCore 0 0 shadowedRelease [] (by decide) (by decide) (by decide)
  obtain ⟨-, -, henter⟩ := hrun (by decide) (by decide) (by decide) (by decide) (by decide)
  obtain ⟨u, hu, -, -, -, -, hfoyer, -⟩ := henter (.inr (by decide)) (by decide)
  cases hu
  have hother := hfoyer.symm.trans foyer_shadowedCore
  revert hother
  decide

end Sys2Proof.Machine
end

section
/-! SUPPORT. PUT delivery, the cycle limit and peeks (R194, R198, R203). -/

namespace Sys2Proof.Machine

/-! ### PUT delivery -/

section
variable {s : State} {n : Nat}

theorem putDelivery_idle (h : s.twin.resync.kept = none) : putDelivery n s = putStep n s := atInstant_idle h

theorem putStep_of_nil (h : (coreOf s n).puts = []) : putStep n s = endWait n s := by
  rw [putStep, h]

variable {e : PutEntry} {es : List PutEntry}

theorem putStep_of_queue {q : Nat} {bs : List Byte} {last poison : Bool} (h : (coreOf s n).puts = e :: es)
    (he : e.put = .queue q bs last poison) : putStep n s =
      let z := if (coreOf s n).putOut then s else presentPut n e.task q bs last poison s
      if (queueOf z q).backlog.any (·.src == e.task) then z else popPut n z := by
  rw [putStep, h]
  simp only [he]

theorem putStep_of_other (h : (coreOf s n).puts = e :: es) (he : ∀ q bs last poison, e.put ≠ .queue q bs last poison) :
    putStep n s = popPut n (deliverPut e s) := by
  rw [putStep, h]
  cases hput : e.put with
  | queue q bs last poison => exact absurd hput (he q bs last poison)
  | gallery => simp only [hput]
  | operand => simp only [hput]
  | timecode => simp only [hput]

end

/-! ### The limit -/

theorem limitExceeded_of_within {n cycles : Nat} {s : State} (h : (coreOf s n).task = none ∨ (coreOf s n).rep.isSome = true ∨
    max ((coreOf s n).cycles + (if (coreOf s n).wait = .none then 0 else waitCycles s (coreOf s n).since)) cycles ≤
      getF s Reg.LND_LIMIT_CYCLES) : limitExceeded n cycles s = s := by
  refine if_neg ?_
  rintro ⟨htask, hrep, hlt⟩
  obtain h | h | h := h
  · rw [h] at htask
    exact absurd htask (by decide)
  · rw [Option.isNone_iff_eq_none.1 hrep] at h
    exact absurd h (by decide)
  · exact absurd hlt (Nat.not_lt.2 h)

theorem limitExceeded_of_beyond {n cycles : Nat} {s : State} (hk : s.twin.resync.kept = none) (ht : (coreOf s n).task.isSome = true)
    (hr : (coreOf s n).rep = none)
    (hlt : getF s Reg.LND_LIMIT_CYCLES <
      max ((coreOf s n).cycles + (if (coreOf s n).wait = .none then 0 else waitCycles s (coreOf s n).since)) cycles) :
    limitExceeded n cycles s = fenceCore n (coreOf s n).pc 6 s :=
  (if_pos ⟨ht, by rw [hr]; rfl, hlt⟩).trans (atInstant_idle hk)

/-! ### Peeks -/

/-- What a peek of a word of a core reads (R194). -/
def peeked (c : Core) (w : Nat) : Word := if inScratch w && !c.scratch.contains w then scratchWord c w else sgetC 0 c.mem w

theorem peekCore_eq (s : State) : peekCore s =
    setF (setF (rset s Reg.LND_PEEK_DATA_DATA.addr (peeked (coreOf s (getF s Reg.LND_PEEK_ADDR_CORE)) (getF s Reg.LND_PEEK_ADDR_WORD)))
      Reg.LND_PEEK_STAT_DONE 1) Reg.LND_PEEK_STAT_POISON
      (sgetC false (coreOf s (getF s Reg.LND_PEEK_ADDR_CORE)).poisoned (getF s Reg.LND_PEEK_ADDR_WORD)).toNat := rfl

/-- The words of a peek, as its data and its marks. -/
def peekWords (v : Word) (mark : Bool) (s : State) : State :=
  setF (setF (rset s Reg.LND_PEEK_DATA_DATA.addr v) Reg.LND_PEEK_STAT_DONE 1) Reg.LND_PEEK_STAT_POISON mark.toNat

theorem peekWords_eq (v : Word) (mark : Bool) (s : State) : ∃ regs, peekWords v mark s = { s with regs := regs } := ⟨_, rfl⟩

/-- A state that differs in its registers alone. -/
theorem eq_of_regs_only {s s' : State} (h : ∃ regs, s' = { s with regs := regs }) : s' = { s with regs := s'.regs } := by
  obtain ⟨_, rfl⟩ := h
  rfl

theorem peekWords_read {s : State} (h : swf resetWord s.regs = true) (v : Word) (mark : Bool) :
    rget (peekWords v mark s) Reg.LND_PEEK_DATA_DATA.addr = v ∧ getF (peekWords v mark s) Reg.LND_PEEK_STAT_DONE = 1 ∧
    getF (peekWords v mark s) Reg.LND_PEEK_STAT_POISON = mark.toNat := by
  have hdata : swf resetWord (rset s Reg.LND_PEEK_DATA_DATA.addr v).regs = true := rset_keeps_wf s _ _ h
  have hdone := setF_swf (f := Reg.LND_PEEK_STAT_DONE) (v := 1) hdata
  have bit : mark.toNat % 2 = mark.toNat := by cases mark <;> rfl
  refine ⟨?_, ?_, (getF_setF_self (f := Reg.LND_PEEK_STAT_POISON) hdone (Nat.le_refl 1) (by decide)).trans bit⟩
  · rw [peekWords, rget_setF_ne hdone (by decide), rget_setF_ne hdata (by decide), rget_rset s _ _ _ h, if_pos rfl]
  · rw [peekWords, getF_setF_of_apart (f := Reg.LND_PEEK_STAT_POISON) (g := Reg.LND_PEEK_STAT_DONE) hdone rfl (by decide) (by decide) (by decide)]
    exact getF_setF_self (f := Reg.LND_PEEK_STAT_DONE) hdata (by decide) (by decide)

theorem swf_storeWord {s : State} (h : swf resetWord s.regs = true) (a : Nat) (v : Word) : swf resetWord (storeWord a v s).regs = true := by
  unfold storeWord
  split
  · exact h
  · exact rset_keeps_wf s _ _ h


/-- Settles O29: the branches of the PUT's delivery and of the wait's end, the limit's test, and a peek's three stores. -/
theorem coreServices : Obligations.CoreServices := by
  unfold Obligations.CoreServices
  intro s t n e es cycles d v hc hk x c used
  have deliver {u : State} (h : putStep n x = u) : putDelivery n x = u := (putDelivery_idle (s := x) hk).trans h
  refine ⟨fun hput => ⟨fun q bs last poison he => ?_, fun he => acts_eq_after hc (deliver (putStep_of_other (s := x) hput he))⟩,
    fun hput => ?_, fun ht hr hlt => acts_eq_after hc (limitExceeded_of_beyond (s := x) hk ht hr hlt),
    fun h => acts_idle hc (limitExceeded_of_within (s := x) h), fun hw hregs => ?_⟩
  · intro held
    have step := putStep_of_queue (s := x) hput he
    refine ⟨fun hout => acts_eq_after hc (deliver (step.trans ?_)), fun hout hheld => acts_idle hc (deliver (step.trans ?_)),
      fun hout hheld => acts_eq_after hc (deliver (step.trans ?_))⟩
    · rw [show (coreOf x n).putOut = false from hout]
      rfl
    · rw [show (coreOf x n).putOut = true from hout]
      exact if_pos hheld
    · rw [show (coreOf x n).putOut = true from hout]
      exact if_neg (ne_via_eq (show held x = false from hheld) (by decide))
  · have ended {u : State} (h : endWait n x = u) : putDelivery n x = u := deliver ((putStep_of_nil (s := x) hput).trans h)
    have empty : (coreOf x n).puts.isEmpty = true := List.isEmpty_iff.2 hput
    refine ⟨fun hw => acts_idle hc (ended ?_), fun hw => acts_eq_same hc (ended ?_) rfl rfl, fun hw => acts_eq_same hc (ended ?_) rfl rfl,
      fun code hw => acts_eq_after hc (ended ?_)⟩
    all_goals rw [endWait, show (coreOf x n).wait = _ from hw]
    · exact if_pos empty
    · rw [show (coreOf x n).puts = [] from hput]
      rfl
    · exact if_pos empty
  · intro z k w
    obtain ⟨regs, hz⟩ := storeWord_eq Reg.LND_PEEK_ADDR_WORD.addr v x
    have lnd : z.lnd = s.lnd := (congrArg State.lnd hz :)
    have cores : coreOf z (getF z Reg.LND_PEEK_ADDR_CORE) = k :=
      congrArg (fun l : LandUnit => sgetC coreInit l.cores (getF z Reg.LND_PEEK_ADDR_CORE)) lnd
    have peek : peekCore z = peekWords (peeked k w) (sgetC false k.poisoned w) z := by
      rw [peekCore_eq, cores]
      rfl
    obtain ⟨regs', hpeek⟩ := peekWords_eq (peeked k w) (sgetC false k.poisoned w) z
    have only : peekWords (peeked k w) (sgetC false k.poisoned w) z = { x with regs := regs' } :=
      hpeek.trans (congrArg (fun y : State => { y with regs := regs' }) hz)
    refine ⟨_, acts_eq_same hc ((busWrite_of_writeCheck hw _).trans peek) (congrArg quiet only :) (congrArg State.pending only :),
      eq_of_regs_only (s := x) ⟨regs', only⟩,
      peekWords_read (s := z) (swf_storeWord (s := x) hregs _ _) (peeked k w) (sgetC false k.poisoned w)⟩

end Sys2Proof.Machine
end

section
/-! SUPPORT. What the audio tasks leave alone, and their work (R204 to R224). -/

namespace Sys2Proof.Machine

/-! ### Tables: where an entry comes from -/

theorem mem_sput {α : Type} {k : Nat} {v : α} {keep : Bool} {e : Nat × α} : ∀ {m : Sparse α}, e ∈ sput k v keep m → e = (k, v) ∨ e ∈ m
  | [], h => by
    cases keep
    · exact absurd h List.not_mem_nil
    · exact .inl (List.mem_singleton.1 h)
  | (k', v') :: m, h => by
    rw [sput] at h
    split at h
    · cases keep
      · exact .inr h
      · exact List.mem_cons.1 h
    · split at h
      · cases keep
        · exact .inr (List.mem_cons_of_mem _ h)
        · exact (List.mem_cons.1 h).imp_right (List.mem_cons_of_mem _)
      · obtain rfl | h := List.mem_cons.1 h
        · exact .inr List.mem_cons_self
        · exact (mem_sput h).imp_right (List.mem_cons_of_mem _)

/-- What a table reads is its default or one of its entries. -/
theorem sgetC_mem {α : Type} {d : α} {k : Nat} : ∀ m : Sparse α, sgetC d m k = d ∨ ∃ e ∈ m, e.2 = sgetC d m k
  | [] => .inl rfl
  | (k', v) :: m => by
    rw [sgetC, sget]
    split
    · exact .inr ⟨_, List.mem_cons_self, rfl⟩
    · split
      · exact .inl rfl
      · exact (sgetC_mem m).imp_right fun ⟨e, he, heq⟩ => ⟨e, List.mem_cons_of_mem _ he, heq⟩

/-! ### Errors that recommend no takeover -/

theorem Signals.recommend {s s' : State} : Signals s s' → s'.twin.recommend = s.twin.recommend := by
  rintro ⟨_, _, _, _, _, _, _, _, rfl⟩
  rfl

theorem noteLog_recommend (e : ErrRec) (held : Bool) (s : State) : (noteLog e held s).twin.recommend = s.twin.recommend :=
  (Signals.ite (signals_logDrop s) (Signals.trans (.ite (signals_setEvt ..) (.refl s)) (signals_logPut ..))).recommend

theorem captureError_recommend {sev : Nat} (h : sev < 3) (b : Block) (code inst detail : Nat) (door : Option Nat) (s : State) :
    (captureError b code sev false inst detail door s).twin.recommend = s.twin.recommend := by
  rw [captureError_of_not_fatal h, captureBase_eq, journalError_twin, noteTwin_recommend h, Bool.or_false, noteLog_recommend, noteFirst_twin]

/-! ### What a leg's work changes -/

/-- What the firmware's work on a leg changes: reports, live words, the cores' and the legs' state, and the Gallery's inputs. -/
structure LegWork (s s' : State) : Prop where
  same : ∃ regs doors evt twin out words lnd gal, s' = { s with
    regs := regs, doors := doors, evt := evt, twin := twin, out := out, epoch := { s.epoch with words := words }, lnd := lnd, gal := gal }
  due : s'.gal.due = s.gal.due
  recommend : s'.twin.recommend = s.twin.recommend
  resync : s'.twin.resync = s.twin.resync
  tasks : ∀ e ∈ s'.lnd.cores, e.2.task = none ∨ ∃ e' ∈ s.lnd.cores, e'.2.task = e.2.task

theorem LegWork.trans {a b c : State} (h : LegWork a b) (h' : LegWork b c) : LegWork a c := by
  refine ⟨?_, h'.due.trans h.due, h'.recommend.trans h.recommend, h'.resync.trans h.resync, fun e he => ?_⟩
  · obtain ⟨_, _, _, _, _, _, _, _, rfl⟩ := h.same
    obtain ⟨_, _, _, _, _, _, _, _, rfl⟩ := h'.same
    exact ⟨_, _, _, _, _, _, _, _, rfl⟩
  · obtain hn | ⟨e', he', htask⟩ := h'.tasks e he
    · exact .inl hn
    · rw [← htask]
      exact h.tasks e' he'

theorem Notes.legWork {s s' : State} (h : Notes s s') (hr : s'.twin.recommend = s.twin.recommend) : LegWork s s' := by
  obtain ⟨_, _, _, _, _, _, _, _, _, _, rfl⟩ := h
  exact ⟨⟨_, _, _, _, _, _, _, _, rfl⟩, rfl, hr, rfl, fun e he => .inr ⟨e, he, rfl⟩⟩

theorem Signals.legWork {s s' : State} (h : Signals s s') : LegWork s s' := h.notes.legWork h.recommend

theorem LegWork.refl (s : State) : LegWork s s := (Signals.refl s).legWork

theorem LegWork.ite {s a b : State} {p : Prop} [Decidable p] (ha : LegWork s a) (hb : LegWork s b) : LegWork s (if p then a else b) := by
  split
  · exact ha
  · exact hb

theorem LegWork.stw {s s' : State} (h : LegWork s s') : s'.stw = s.stw := by
  obtain ⟨_, _, _, _, _, _, _, _, rfl⟩ := h.same
  rfl

theorem LegWork.drm {s s' : State} (h : LegWork s s') : s'.drm = s.drm := by
  obtain ⟨_, _, _, _, _, _, _, _, rfl⟩ := h.same
  rfl

theorem LegWork.quiet {s s' : State} (h : LegWork s s') : quiet s' = quiet s := by
  obtain ⟨_, _, _, _, _, _, _, _, heq⟩ := h.same
  have hdue := h.due
  have hrec := h.recommend
  have hres := h.resync
  subst heq
  simp only [Machine.quiet]
  rw [hdue, hrec, hres]

theorem LegWork.no_core {s s' : State} (h : LegWork s s') {task : Nat}
    (hn : s.lnd.cores.find? (fun e => e.2.task == some task) = none) : s'.lnd.cores.find? (fun e => e.2.task == some task) = none := by
  rw [List.find?_eq_none] at hn ⊢
  intro e he hrun
  have hrun : e.2.task = some task := eq_of_beq hrun
  obtain hnone | ⟨e', he', htask⟩ := h.tasks e he
  · rw [hnone] at hrun
    cases hrun
  · exact hn e' he' (by rw [htask, hrun, beq_self_eq_true])

theorem legWork_setFlags (task : Nat) (f : Bool × Bool) (s : State) : LegWork s (setFlags task f s) :=
  ⟨⟨_, _, _, _, _, _, _, _, rfl⟩, rfl, rfl, rfl, fun e he => .inr ⟨e, he, rfl⟩⟩

theorem legWork_setLeg (leg : Nat) (y : LegState) (s : State) : LegWork s (setLeg leg y s) :=
  ⟨⟨_, _, _, _, _, _, _, _, rfl⟩, rfl, rfl, rfl, fun e he => .inr ⟨e, he, rfl⟩⟩

theorem legWork_setL (s : State) (f : Fld) (v : Nat) : LegWork s (setL s f v) :=
  ⟨⟨_, _, _, _, _, _, _, _, rfl⟩, rfl, rfl, rfl, fun e he => .inr ⟨e, he, rfl⟩⟩

theorem legWork_galPut (f leg i : Nat) (v : InSlot) (gen : Bool) (s : State) : LegWork s (galPut f leg i v gen s) := by
  unfold galPut
  exact .ite (.refl s) ⟨⟨_, _, _, _, _, _, _, _, rfl⟩, rfl, rfl, rfl, fun e he => .inr ⟨e, he, rfl⟩⟩

theorem legWork_foldl {α : Type} {f : State → α → State} (hf : ∀ s a, LegWork s (f s a)) : ∀ (l : List α) (s : State),
    LegWork s (l.foldl f s)
  | [], s => .refl s
  | a :: l, s => (hf s a).trans (legWork_foldl hf l _)

theorem legWork_putSamples (flight leg : Nat) (poison : Bool) (xs : List (Int × Bool)) (s : State) :
    LegWork s (putSamples flight leg poison xs s) := by
  unfold putSamples
  exact legWork_foldl (fun s e => legWork_galPut ..) _ s

/-- A core that changes beside its task. -/
theorem legWork_setCore {s : State} {n : Nat} {c : Core} (h : c.task = (coreOf s n).task) : LegWork s (setCore n c s) := by
  refine ⟨⟨_, _, _, _, _, _, _, _, rfl⟩, rfl, rfl, rfl, fun e he => ?_⟩
  obtain rfl | he := mem_sput he
  · obtain hinit | ⟨e', he', hcore⟩ := sgetC_mem (d := coreInit) (k := n) s.lnd.cores
    · exact .inl (h.trans (congrArg Core.task hinit))
    · exact .inr ⟨e', he', (congrArg Core.task hcore).trans h.symm⟩
  · exact .inr ⟨e, he, rfl⟩

theorem legWork_corePoison (n : Nat) (s : State) : LegWork s (corePoison n s) := by
  unfold corePoison
  refine LegWork.trans ?_ (signals_raiseEvent ..).legWork
  refine LegWork.trans ?_ ((notes_captureError ..).legWork (captureError_recommend (by decide) ..))
  exact LegWork.trans (signals_setF ..).legWork (legWork_setCore rfl)

theorem legWork_loadPoison (t leg : Nat) (s : State) : LegWork s (loadPoison t leg s) := by
  unfold loadPoison
  dsimp only
  split
  · exact (legWork_setFlags ..).trans (legWork_corePoison ..)
  · exact legWork_setFlags ..

/-- The flags of a task that no core has entered. -/
theorem legWork_takeFlags {s : State} {task : Nat} (h : s.lnd.cores.find? (fun e => e.2.task == some task) = none) :
    LegWork s (takeFlags task s).2 := by
  unfold takeFlags
  dsimp only
  rw [h]
  exact (legWork_setFlags ..).trans (signals_raiseIf ..).legWork

theorem legWork_heldEvent (e : Nat) (held : Bool) (run : Nat) (s : State) : LegWork s (heldEvent e held run s).2 :=
  (signals_raiseIf ..).legWork

/-- A leg-in task works, and its release ends with exit code 0. -/
theorem legInTask_of_work {s : State} {leg : Nat} {r : Release} (hw : workOf s leg = some r)
    (h : s.lnd.cores.find? (fun e => e.2.task == some leg) = none) (given : List (List Int)) :
    ∃ z, legInTask leg given s = firmwareExit leg z ∧ LegWork s z := by
  unfold legInTask
  rw [hw]
  refine ⟨_, rfl, ?_⟩
  refine LegWork.trans ?_ (legWork_setL ..)
  refine LegWork.trans ?_ (legWork_setL ..)
  refine LegWork.trans ?_ (legWork_setL ..)
  refine LegWork.trans ?_ (legWork_setL ..)
  refine LegWork.trans ?_ (legWork_putSamples ..)
  refine LegWork.trans ?_ (legWork_setLeg ..)
  refine LegWork.trans ?_ (legWork_heldEvent ..)
  refine LegWork.trans ?_ (legWork_heldEvent ..)
  split
  · exact (legWork_takeFlags h).trans (legWork_loadPoison ..)
  · exact legWork_takeFlags h

end Sys2Proof.Machine
end

section
/-! SUPPORT. The audio tasks of a running release (R204 to R224). -/

namespace Sys2Proof.Machine

theorem asRelease_of_idle {s : State} {task : Nat} (h : runningOf s task = none) (f : State → State) : asRelease task f s = f s := by
  rw [asRelease, h]

/-- A release whose task changes nothing leaves the device as it was. -/
theorem asRelease_of_still {s : State} {task : Nat} {r : Release} {f : State → State} (hi : s.drm.issuer = none)
    (hk : s.twin.resync.kept = none) (hr : runningOf s task = some r) (h : f (issuedBy r s) = issuedBy r s) : asRelease task f s = s := by
  have drm : ({ s.drm with issuer := none } : DramUnit) = s.drm := by rw [← hi]
  rw [asRelease_of_running hk hr, h]
  exact (congrArg (fun y => setDram y s) drm :)

theorem workOf_of_idle {s : State} {task : Nat} (h : runningOf s task = none) : workOf s task = none := by
  rw [workOf, h]
  rfl

theorem workOf_of_running {s : State} {task : Nat} {r : Release} (h : runningOf s task = some r) (he : r.exit = none) :
    workOf s task = some r := by
  rw [workOf, h, Option.filter_some, he]
  rfl

/-- A release that no core has entered ends with the exit code of its firmware. -/
theorem firmwareExit_of_no_core {s : State} {task : Nat} {r : Release} (h : s.lnd.cores.find? (fun e => e.2.task == some task) = none)
    (hr : runningOf s task = some r) : firmwareExit task s = putRelease { r with exit := some 0 } s := by
  rw [firmwareExit, h]
  simp only [setExit, hr]

theorem runningOf_of_stw_eq {s s' : State} (h : s'.stw = s.stw) (task : Nat) : runningOf s' task = runningOf s task := by
  rw [runningOf, h, runningOf]

section
variable {s : State} {r : Release} {n : Nat}

theorem legOutTask_of_work {leg : Nat} {frames : List (Option (List Byte))} (hw : workOf s (10240 + leg) = some r) :
    legOutTask leg frames s =
      let t := flightStart s r.flight
      let fl := takeFlags (10240 + leg) s
      let s := fl.2
      let start := encoderStart s leg r.flight fl.1
      let x := legOf s leg
      let s := setLeg leg { x with encFrom := some start, encReinit := if fromFlight x.encReinit r.flight then none else x.encReinit } s
      let poison := (outputLegs s t leg).any fun l => (galleryOperand s l r.flight).2.contains true
      let s := if poison then loadPoison (10240 + leg) leg s else s
      let p := ptimeTreads (cfgF s t (Reg.LEG_OUT_PTIME leg))
      let starts := codecPackets s leg r.flight
      firmwareExit (10240 + leg) (((List.range starts.length).zip starts).foldl (fun s e =>
        if start ≤ e.2 then sendCodec leg p e.2 ((frames[e.1]?).getD none) s else s) s) := by
  unfold legOutTask
  simp only [hw]

variable {faults : List (GalWord × Bool)}

theorem busTask_of_done (hr : runningOf s (21632 + n) = some r) (hd : s.gal.busDone.contains (r.flight, n) = true) : busTask n faults s = s := by
  rw [busTask, hr]
  exact if_pos hd

theorem busTask_of_due (hr : runningOf s (21632 + n) = some r) (hd : s.gal.busDone.contains (r.flight, n) = false) : busTask n faults s =
    let g := galFaults faults (busTaskReads s n r.flight) s
    let z := (List.range 32).foldl (fun z i => runBus r.flight (32 * n + i) g.1 z) g.2
    let z := setL z Reg.GAL_STAT_ACTIVE_XP (activeXps z ((r.flight + 1) * flightSamples z - 1)).length
    setExit (21632 + n) 0 (setGal { z.gal with busDone := z.gal.busDone ++ [(r.flight, n)] } z) := by
  rw [busTask, hr]
  exact if_neg (ne_via_eq hd (by decide))

theorem recipeTask_of_due (hr : runningOf s (21664 + n) = some r) (hd : s.gal.recDone.contains (r.flight, n) = false) :
    recipeTask n faults s =
      let g := galFaults faults (recipeTaskReads n) s
      let z := addF g.2 (Reg.GAL_CNT_COUNT 0) (absentCount g.2 n r.flight)
      let work := recipeWork z n r.flight
      let z := work.foldl (fun z l => beginPackets r.flight l z) (work.foldl (fun z l => runRecipe r.flight l g.1 z) z)
      let z := setExit (21664 + n) 0 (writeReady (setGal { z.gal with recDone := z.gal.recDone ++ [(r.flight, n)] } z))
      if recipesDone z r.flight then publishAll (setGal { z.gal with meterDue := z.gal.meterDue ++ [r.flight] } z) else z := by
  rw [recipeTask, hr]
  exact if_neg (ne_via_eq hd (by decide))

theorem sidetonePacketWrite_of_packet {leg : Nat} {p : OutPkt} (h : (s.gal.packets.find? fun q => q.side && q.leg == leg) = some p) :
    sidetonePacketWrite leg s =
      if audioSlot p.t0 p.ptime (flightLen s) ≤ s.now + 1470 ∧ pktReady s p then publishAll (writePacket p s) else s := by
  rw [sidetonePacketWrite, h]

end

/-- The leg-in task under the instant of its release. -/
theorem asRelease_legIn {s : State} {leg : Nat} {r : Release} (hi : s.drm.issuer = none) (hk : s.twin.resync.kept = none)
    (hr : runningOf s leg = some r) (he : r.exit = none) (hn : s.lnd.cores.find? (fun e => e.2.task == some leg) = none)
    (given : List (List Int)) : ∃ z, LegWork s z ∧ asRelease leg (legInTask leg given) s = putRelease { r with exit := some 0 } z := by
  obtain ⟨z, hz, hwork⟩ := legInTask_of_work (s := issuedBy r s) (workOf_of_running (s := s) hr he) hn given
  have stw : z.stw = s.stw := hwork.stw
  have drm : ({ z.drm with issuer := none } : DramUnit) = s.drm := by
    rw [hwork.drm, ← hi]
    rfl
  obtain ⟨regs, doors, evt, twin, out, words, lnd, gal, hsame⟩ := hwork.same
  have back : setDram { z.drm with issuer := none } z = { s with
      regs := regs, doors := doors, evt := evt, twin := twin, out := out, epoch := { s.epoch with words := words }, lnd := lnd, gal := gal } := by
    rw [drm, hsame]
    rfl
  refine ⟨setDram { z.drm with issuer := none } z, ⟨⟨_, _, _, _, _, _, _, _, back⟩, hwork.due, hwork.recommend, hwork.resync, hwork.tasks⟩, ?_⟩
  rw [asRelease_of_running hk hr, hz, firmwareExit_of_no_core (hwork.no_core hn) ((runningOf_of_stw_eq stw leg).trans hr)]
  rfl

/-- Settles O30: without a running release a task changes nothing; with one it does its work under the release's instant. -/
theorem audioTasks : Obligations.AudioTasks := by
  unfold Obligations.AudioTasks
  intro s t leg given frames b n faults r p hc hi hk x
  have idle {task : Nat} {f : State → State} (hr : runningOf s task = none) (h : f x = x) : acts t (asRelease task f) s = .next x :=
    acts_idle hc ((asRelease_of_idle (s := x) hr f).trans h)
  have works {task : Nat} {f g : State → State} (hr : runningOf s task = some r) (h : f (issuedBy r x) = g (issuedBy r x)) :
      acts t (asRelease task f) s = .next (after t (asRelease task g) s) :=
    acts_eq_after hc (asRelease_congr (s := x) hk hr h)
  refine ⟨fun hr => idle hr ?_, fun hr => idle hr ?_, fun hr => idle hr ?_, fun hr => idle hr ?_, fun hr he hn => ?_, fun hr he => ?_,
    fun hr hd => ?_, fun hr hd => ?_, fun hr hd => ?_, fun hp => ⟨fun hle hready => ?_, fun hlt => ?_⟩, fun hp => acts_idle hc ?_⟩
  · rw [legInTask, workOf_of_idle (s := x) hr]
  · rw [legOutTask, workOf_of_idle (s := x) hr]
  · rw [busTask, show runningOf x _ = none from hr]
  · rw [recipeTask, show runningOf x _ = none from hr]
  · obtain ⟨z, hwork, heff⟩ := asRelease_legIn (s := x) hi hk hr he hn given
    have hq : quiet (putRelease { r with exit := some 0 } z) = quiet x := (show _ = quiet z from rfl).trans hwork.quiet
    have hstw := hwork.stw
    obtain ⟨_, _, _, _, _, _, _, _, rfl⟩ := hwork.same
    exact ⟨_, acts_eq_same hc heff hq rfl, rfl, rfl⟩
  · exact works hr (legOutTask_of_work (s := issuedBy r x) (workOf_of_running (s := x) hr he))
  · exact works hr (busTask_of_due (s := issuedBy r x) hr hd)
  · exact acts_idle hc (asRelease_of_still (s := x) hi hk hr (busTask_of_done (s := issuedBy r x) hr hd))
  · exact works hr (recipeTask_of_due (s := issuedBy r x) hr hd)
  · exact acts_eq_after hc ((sidetonePacketWrite_of_packet (s := x) hp).trans (if_pos ⟨hle, hready⟩))
  · exact acts_idle hc ((sidetonePacketWrite_of_packet (s := x) hp).trans (if_neg fun h => Nat.not_le.2 hlt h.1))
  · rw [sidetonePacketWrite, show x.gal.packets.find? _ = none from hp]

end Sys2Proof.Machine
end

section
/-! SUPPORT. Video, Hall and port tasks of a running release (R146, R240 to R312). -/

namespace Sys2Proof.Machine


theorem Notes.stw {s s' : State} : Notes s s' → s'.stw = s.stw := by
  rintro ⟨_, _, _, _, _, _, _, _, _, _, rfl⟩
  rfl

theorem setL_stw (s : State) (f : Fld) (v : Nat) : (setL s f v).stw = s.stw := rfl

theorem setVleg_stw (v : Nat) (y : VlegState) (s : State) : (setVleg v y s).stw = s.stw := rfl

theorem setCap_stw (v c : Nat) (t : Treads) (s : State) : (setCap v t c s).stw = s.stw := by
  rw [setCap, setVleg_stw, setL_stw]

theorem startLeg_stw (v : Nat) (s : State) : (startLeg v s).stw = s.stw := by
  rw [startLeg, setCap_stw]
  simp only [setL_stw, setVleg_stw]

theorem forwardError_stw (e : FwdError) (s : State) : (forwardError e s).stw = s.stw := by
  have told (ev inst : Nat) (sev code : Nat) (y : State) :
      (raiseEvent ev (captureError .shp code sev false inst 0 none y)).stw = y.stw :=
    ((notes_captureError ..).trans (signals_raiseEvent ..).notes).stw
  cases e with
  | corrected => exact told 0x0CC 0 1 0x01 (shpCount 7 s)
  | leg v => exact (told 0x0CD v.val 2 0x02 (startLeg v s)).trans (startLeg_stw v s)

/-- A release without an exit code is not one that has ended. -/
theorem not_ended {r : Release} (h : r.exit = none) : ¬ r.exit.isSome = true := by
  rw [h]
  decide

section
variable {s : State} {r : Release}

theorem decodeTask_of_untrusted {n : Nat} (hr : runningOf s (21704 + n) = some r) (ht : trustFinal s (.stream n) r.flight = false)
    (starts : List Nat) (results : List AuResult) (sram : Nat) : decodeTask n starts results sram s = s := by
  rw [decodeTask, hr]
  exact if_pos (.inr (by rw [ht]; rfl))

theorem decodeTimeout_of_within {n : Nat} (hr : runningOf s (21704 + n) = some r) (hle : s.now ≤ r.started + getF s Reg.DEC_CFG_TIMEOUT)
    (starts : List Nat) : decodeTimeout n starts s = s := by
  rw [decodeTimeout, hr]
  exact if_pos (.inr hle)

theorem hallTimeout_of_within {task : Nat} (hr : runningOf s task = some r) (hle : s.now ≤ r.started + getF s Reg.HAL_CFG_TIMEOUT) :
    hallTimeout task s = s := by
  rw [hallTimeout, hr]
  exact if_pos (.inr (.inl hle))

theorem encodeTimeout_of_within {p l : Nat} (hr : runningOf s (encTaskNo p l) = some r)
    (hle : s.now ≤ r.started + getF s Reg.ENC_CFG_TIMEOUT) : encodeTimeout p l s = s := by
  rw [encodeTimeout, hr]
  exact if_pos (.inr hle)

/-- What an output task shows: the picture of its composition, or the event of its absence (R271). -/
def outputShown (o : Nat) (r : Release) (sram : Nat) (rows : List Nat) (s : State) : State :=
  match compAt s r.instant (cfgF s r.instant (Reg.OUTC_COMP o)) with
  | none => raiseEvent 0x163 s
  | some p => outputFrame o r.flight r.instant p (if sram = 2 then rows else []) s

theorem outputShown_of_none {o : Nat} {rows : List Nat} (h : compAt s r.instant (cfgF s r.instant (Reg.OUTC_COMP o)) = none) :
    outputShown o r 0 rows s = raiseEvent 0x163 s := by
  rw [outputShown, h]

theorem outputShown_of_some {o : Nat} {rows : List Nat} {p : PicRec}
    (h : compAt s r.instant (cfgF s r.instant (Reg.OUTC_COMP o)) = some p) :
    outputShown o r 0 rows s = outputFrame o r.flight r.instant p [] s := by
  rw [outputShown, h]
  rfl

/-- What a forwarding task sends of its program's picture of the instant. -/
def forwardShown (p : Nat) (r : Release) (s : State) : State :=
  match (programOf s p).pubs.find? (fun q => q.start == r.instant) with
  | none => s
  | some pub =>
    let a := outSlot s r.instant p pub.slot
    let pkts := readSlot s a (a + outSlotBytes s r.instant p) (outSlotBytes s r.instant p / 16)
    (programLegs s r.instant p).foldl (fun s v => forwardLeg r.instant r.deadline p pub pkts v s) s

theorem forwardShown_of_none {p : Nat} (h : ((programOf s p).pubs.find? fun q => q.start == r.instant) = none) :
    forwardShown p r s = s := by
  rw [forwardShown, h]

theorem forwardShown_of_some {p : Nat} {pub : EncPub} (h : ((programOf s p).pubs.find? fun q => q.start == r.instant) = some pub) :
    forwardShown p r s =
      let a := outSlot s r.instant p pub.slot
      let pkts := readSlot s a (a + outSlotBytes s r.instant p) (outSlotBytes s r.instant p / 16)
      (programLegs s r.instant p).foldl (fun s v => forwardLeg r.instant r.deadline p pub pkts v s) s := by
  rw [forwardShown, h]

theorem forwardingTask_of_running {p : Nat} (he : r.exit = none) (hr : runningOf s (22240 + p) = some r) :
    forwardingTask p [] s = setExit (22240 + p) 0 (forwardShown p r s) := by
  rw [forwardingTask, hr]
  exact if_neg (not_ended he)

/-- Errors that a forwarding task meets only precede its work. -/
theorem forwardingTask_of_errors {p : Nat} (he : r.exit = none) (hr : runningOf s (22240 + p) = some r) (errs : List FwdError) :
    forwardingTask p errs s = forwardingTask p [] (errs.foldl (fun z e => forwardError e z) s) := by
  have running : runningOf (errs.foldl (fun z e => forwardError e z) s) (22240 + p) = some r :=
    (runningOf_of_stw_eq (foldl_proj State.stw (fun z e => forwardError_stw e z) errs s) _).trans hr
  rw [forwardingTask, hr, forwardingTask, running]
  exact (if_neg (not_ended he)).trans (if_neg (not_ended he)).symm

end

/-- Settles O31: a task with a running release that has no exit code does its work under the release's instant, and nothing where it waits
for the trust of its records or is within its time. -/
theorem videoTasks : Obligations.VideoTasks := by
  unfold Obligations.VideoTasks
  intro s t sram n c i o h l port starts results bad rows errs r hc hk he x
  have works {task : Nat} {f g : State → State} (hr : runningOf s task = some r) (h : f (issuedBy r x) = g (issuedBy r x)) :
      acts t (asRelease task f) s = .next (after t (asRelease task g) s) :=
    acts_eq_after hc (asRelease_congr (s := x) hk hr h)
  have waits {task : Nat} {f : State → State} (hr : runningOf s task = some r) (hi : s.drm.issuer = none)
      (h : f (issuedBy r x) = issuedBy r x) : acts t (asRelease task f) s = .next x :=
    acts_idle hc (asRelease_of_still (s := x) hi hk hr h)
  have late {a b : Nat} (hlt : a < b) : ¬ (r.exit.isSome = true ∨ b ≤ a) := fun h => h.elim (not_ended he) (Nat.not_le.2 hlt)
  refine ⟨fun hr => ⟨fun ht => works hr ?_, fun ht hi => ?_, fun hlt => works hr ?_, fun hle hi => ?_⟩, ?_, fun hr => works hr ?_,
    fun hr ht => works hr ?_, fun hr => ?_, fun hr => ⟨fun hlt => works hr ?_, fun hle hi => ?_⟩, fun hr => ?_, fun hr hp => works hr ?_,
    fun pub hr hp => works hr ?_, fun hr => ?_, fun hr => works hr ?_⟩
  · rw [decodeTask, show runningOf (issuedBy r x) _ = some r from hr]
    exact if_neg (not_or.2 ⟨not_ended he, by rw [show trustFinal (issuedBy r x) (.stream n) r.flight = true from ht]; decide⟩)
  · exact waits hr hi (decodeTask_of_untrusted (s := issuedBy r x) hr ht ..)
  · rw [decodeTimeout, show runningOf (issuedBy r x) _ = some r from hr]
    exact if_neg (late hlt)
  · exact waits hr hi (decodeTimeout_of_within (s := issuedBy r x) hr hle starts)
  · exact acts_eq_same hc rfl rfl rfl
  · rw [compositionTask, show runningOf (issuedBy r x) _ = some r from hr]
    exact if_neg (not_ended he)
  · rw [inputTask, show runningOf (issuedBy r x) _ = some r from hr]
    exact if_neg (not_or.2 ⟨not_ended he, by rw [show trustFinal (issuedBy r x) (.input i) r.flight = true from ht]; decide⟩)
  · have task (k : Nat) : outputTask o k rows (issuedBy r x) =
        setExit (22040 + o.val) 0 (outputShown o r k rows (halSram k 0 (cfgF (issuedBy r x) r.instant (Reg.OUTC_COMP o)) (issuedBy r x))) := by
      rw [outputTask, show runningOf (issuedBy r x) _ = some r from hr]
      exact if_neg (not_ended he)
    intro shown
    refine ⟨fun hs => works hr ((task 0).trans ?_), fun p hs => works hr ((task 0).trans ?_), works hr (task sram)⟩
    · exact congrArg _ (outputShown_of_none (s := issuedBy r x) hs)
    · exact congrArg _ (outputShown_of_some (s := issuedBy r x) hs)
  · have comp : (if 21960 + h.val < 22024 then 21960 + h.val - 21960 else 0) = if h.val < 64 then h.val else 0 := by
      rw [Nat.add_sub_cancel_left]
      exact ite_congr (propext (by omega)) (fun _ => rfl) (fun _ => rfl)
    rw [hallTimeout, show runningOf (issuedBy r x) _ = some r from hr]
    refine (if_neg ?_).trans ?_
    · rintro (hend | hle | hlow | hhigh)
      · exact not_ended he hend
      · exact Nat.not_le.2 hlt hle
      · omega
      · omega
    · exact congrArg (fun k => setExit (21960 + h.val) 0xFF (raiseEvent 0x167 (halError 0x04 0 k (issuedBy r x)))) comp
  · exact waits hr hi (hallTimeout_of_within (s := issuedBy r x) hr hle)
  · intro dead
    refine ⟨fun hd => works hr ?_, fun hd => works hr ?_, fun hlt => works hr ?_, fun hle hi =>
      waits hr hi (encodeTimeout_of_within (s := issuedBy r x) hr hle)⟩
    · rw [encodeTask, show runningOf (issuedBy r x) (encTaskNo c l) = some r from hr]
      exact (if_neg (not_ended he)).trans (if_neg (ne_via_eq (show dead = false from hd) (by decide)))
    · rw [encodeTask, show runningOf (issuedBy r x) (encTaskNo c l) = some r from hr]
      exact (if_neg (not_ended he)).trans (if_pos hd)
    · rw [encodeTimeout, show runningOf (issuedBy r x) (encTaskNo c l) = some r from hr]
      exact if_neg (late hlt)
  · exact (forwardingTask_of_running (s := issuedBy r x) he hr).trans
      (congrArg _ (forwardShown_of_none (s := issuedBy r x) hp))
  · exact (forwardingTask_of_running (s := issuedBy r x) he hr).trans
      (congrArg _ (forwardShown_of_some (s := issuedBy r x) hp))
  · exact acts_eq_after hc (asRelease_congr (s := x) hk hr (forwardingTask_of_errors (s := issuedBy r x) he hr errs))
  · rw [rtcpTask, show runningOf (issuedBy r x) _ = some r from hr]
end Sys2Proof.Machine
end

section
/-! SUPPORT. The ALU functions of a Landing core (R189): results, flags and saturation as the words' own arithmetic says them. -/

namespace Sys2Proof.Machine

/-! ### Arithmetic of 32-bit words -/

section
variable (x y : Word)

theorem toInt_bounds : -2147483648 ≤ x.toInt ∧ x.toInt ≤ 2147483647 := by
  have h1 := BitVec.le_toInt x
  have h2 := BitVec.toInt_lt (x := x)
  omega

theorem saddOverflow_iff : x.saddOverflow y = true ↔ x.toInt + y.toInt < -2147483648 ∨ 2147483647 < x.toInt + y.toInt := by
  rw [BitVec.saddOverflow, Bool.or_eq_true, decide_eq_true_iff, decide_eq_true_iff]
  omega

theorem ssubOverflow_iff : x.ssubOverflow y = true ↔ x.toInt - y.toInt < -2147483648 ∨ 2147483647 < x.toInt - y.toInt := by
  rw [BitVec.ssubOverflow, Bool.or_eq_true, decide_eq_true_iff, decide_eq_true_iff]
  omega

theorem toInt_add_ne_iff : (x + y).toInt ≠ x.toInt + y.toInt ↔ x.saddOverflow y = true := by
  obtain ⟨hx, hx'⟩ := toInt_bounds x
  obtain ⟨hy, hy'⟩ := toInt_bounds y
  rw [saddOverflow_iff, BitVec.toInt_add, Int.bmod_def]
  omega

theorem toInt_sub_ne_iff : (x - y).toInt ≠ x.toInt - y.toInt ↔ x.ssubOverflow y = true := by
  obtain ⟨hx, hx'⟩ := toInt_bounds x
  obtain ⟨hy, hy'⟩ := toInt_bounds y
  rw [ssubOverflow_iff, BitVec.toInt_sub, Int.bmod_def]
  omega

end

theorem satTo_32 (v : Int) : satTo 32 v = if v < -2147483648 then -2147483648 else if 2147483647 < v then 2147483647 else v := by
  unfold satTo
  split
  · omega
  · split <;> omega

theorem satTo_32_ne_iff (v : Int) : satTo 32 v ≠ v ↔ v < -2147483648 ∨ 2147483647 < v := by
  rw [satTo_32]
  split
  · omega
  · split <;> omega

theorem ofInt_toInt_add (x y : Word) : BitVec.ofInt 32 (x.toInt + y.toInt) = x + y := by
  rw [BitVec.ofInt_add, BitVec.ofInt_toInt, BitVec.ofInt_toInt]

theorem ofInt_toInt_sub (x y : Word) : BitVec.ofInt 32 (x.toInt - y.toInt) = x - y :=
  BitVec.eq_of_toInt_eq (by rw [BitVec.toInt_ofInt, BitVec.toInt_sub])

theorem msb_iff_toInt_neg (x : Word) : x.msb = true ↔ x.toInt < 0 := by
  rw [BitVec.msb_eq_toInt, decide_eq_true_iff]

/-- A sum or difference out of range clamps to the side of its first operand's sign (R189). -/
theorem ofInt_satTo_32 {v : Int} {w x : Word} {o : Bool} (hv : BitVec.ofInt 32 v = w)
    (ho : o = true ↔ v < -2147483648 ∨ 2147483647 < v) (hn : v < -2147483648 → x.toInt < 0) (hp : 2147483647 < v → 0 ≤ x.toInt) :
    BitVec.ofInt 32 (satTo 32 v) = if o then (if x.msb then 0x80000000 else 0x7FFFFFFF) else w := by
  rw [satTo_32]
  by_cases h : v < -2147483648
  · rw [if_pos h, if_pos (ho.2 (.inl h)), if_pos ((msb_iff_toInt_neg x).2 (hn h))]
    rfl
  · rw [if_neg h]
    by_cases h' : 2147483647 < v
    · rw [if_pos h', if_pos (ho.2 (.inr h')), if_neg (fun hm => Int.not_le.2 ((msb_iff_toInt_neg x).1 hm) (hp h'))]
      rfl
    · rw [if_neg h', if_neg (fun hs => (ho.1 hs).elim h h'), hv]

theorem satTo_32_bne {v : Int} {o : Bool} (ho : o = true ↔ v < -2147483648 ∨ 2147483647 < v) : (satTo 32 v != v) = o := by
  rw [Bool.eq_iff_iff, ho, bne_iff_ne, satTo_32_ne_iff]

/-- The magnitude of a word, clamped to 32 bits (ABS). -/
theorem ofInt_satTo_natAbs (x : Word) : BitVec.ofInt 32 (satTo 32 (x.toInt.natAbs : Nat)) =
    if x = 0x80000000 then 0x7FFFFFFF else if x.msb then -x else x := by
  obtain ⟨hlo, hhi⟩ := toInt_bounds x
  rw [satTo_32, if_neg (by omega)]
  by_cases hmin : x = 0x80000000
  · subst hmin
    rfl
  · have hne : x.toInt ≠ -2147483648 := fun h => hmin (BitVec.eq_of_toInt_eq h)
    rw [if_neg (by omega), if_neg hmin]
    by_cases hneg : x.toInt < 0
    · rw [if_pos ((msb_iff_toInt_neg x).2 hneg), show ((x.toInt.natAbs : Nat) : Int) = -x.toInt by omega, BitVec.ofInt_neg,
        BitVec.ofInt_toInt]
    · rw [if_neg (fun h => hneg ((msb_iff_toInt_neg x).1 h)), show ((x.toInt.natAbs : Nat) : Int) = x.toInt by omega,
        BitVec.ofInt_toInt]

theorem satTo_natAbs_bne (x : Word) : (satTo 32 (x.toInt.natAbs : Nat) != ((x.toInt.natAbs : Nat) : Int)) = (x == 0x80000000) := by
  obtain ⟨hlo, hhi⟩ := toInt_bounds x
  rw [Bool.eq_iff_iff, bne_iff_ne, satTo_32_ne_iff, beq_iff_eq]
  refine ⟨fun h => BitVec.eq_of_toInt_eq ?_, fun h => ?_⟩
  · have hmin : x.toInt = -2147483648 := by omega
    exact hmin
  · subst h
    decide

theorem toNat_extractLsb'_five {w : Nat} (y : BitVec w) : (y.extractLsb' 0 5).toNat = y.toNat % 32 := by
  rw [BitVec.extractLsb'_toNat, Nat.shiftRight_zero]

theorem min_eq_slt (x y : Word) : (if x.toInt ≤ y.toInt then x else y) = if x.slt y then x else y := by
  rw [BitVec.slt]
  obtain h | h | h := Int.lt_trichotomy x.toInt y.toInt
  · rw [if_pos (Int.le_of_lt h), if_pos (by simpa using h)]
  · rw [BitVec.eq_of_toInt_eq h]
    simp
  · rw [if_neg (by omega), if_neg (by simpa using (Int.le_of_lt h))]

theorem max_eq_slt (x y : Word) : (if x.toInt ≤ y.toInt then y else x) = if x.slt y then y else x := by
  rw [BitVec.slt]
  obtain h | h | h := Int.lt_trichotomy x.toInt y.toInt
  · rw [if_pos (Int.le_of_lt h), if_pos (by simpa using h)]
  · rw [BitVec.eq_of_toInt_eq h]
    simp
  · rw [if_neg (by omega), if_neg (by simpa using (Int.le_of_lt h))]

theorem normCount_eq (x : Word) : normCount x = ((List.range 31).filter fun i => x.getLsbD i == x.getLsbD 31).length := by
  rw [normCount, List.countP_eq_length_filter, BitVec.msb_eq_getLsbD_last]

theorem ofNat_high_half (imm : BitVec 16) : BitVec.ofNat 32 (imm.toNat * 65536) = imm.zeroExtend 32 <<< 16 := by
  refine BitVec.eq_of_toNat_eq ?_
  have h := imm.isLt
  rw [BitVec.toNat_ofNat, BitVec.toNat_shiftLeft, Nat.shiftLeft_eq, BitVec.toNat_setWidth, Nat.mod_eq_of_lt (a := imm.toNat) (by omega)]

/-! ### The flags of sums and differences -/

theorem flagAdd_eq (x y : Word) (c : Core) :
    flagAdd x y c = { flagZN (x + y) c with c := x.uaddOverflow y, v := x.saddOverflow y } := by
  have carry : decide (4294967296 ≤ x.toNat + y.toNat) = x.uaddOverflow y := rfl
  have wraps : decide ((x + y).toInt ≠ x.toInt + y.toInt) = x.saddOverflow y := by
    rw [Bool.eq_iff_iff, decide_eq_true_iff, toInt_add_ne_iff]
  rw [flagAdd, carry, wraps]

theorem flagSub_eq (x y : Word) (c : Core) :
    flagSub x y c = { flagZN (x - y) c with c := !x.usubOverflow y, v := x.ssubOverflow y } := by
  have borrow : decide (y.toNat ≤ x.toNat) = !x.usubOverflow y := by
    rw [BitVec.usubOverflow, Bool.eq_iff_iff]
    simp
  have wraps : decide ((x - y).toInt ≠ x.toInt - y.toInt) = x.ssubOverflow y := by
    rw [Bool.eq_iff_iff, decide_eq_true_iff, toInt_sub_ne_iff]
  rw [flagSub, borrow, wraps]

theorem clamped_add (d : Nat) (x y : Word) (c : Core) : clamped d (x.toInt + y.toInt) c = { resultIn d
    (if x.saddOverflow y then (if x.msb then 0x80000000 else 0x7FFFFFFF) else x + y) c with sat := c.sat || x.saddOverflow y } := by
  obtain ⟨hlo, hhi⟩ := toInt_bounds y
  rw [clamped, ofInt_satTo_32 (x := x) (ofInt_toInt_add x y) (saddOverflow_iff x y) (fun h => by omega) (fun h => by omega),
    satTo_32_bne (saddOverflow_iff x y)]
  rfl

theorem clamped_sub (d : Nat) (x y : Word) (c : Core) : clamped d (x.toInt - y.toInt) c = { resultIn d
    (if x.ssubOverflow y then (if x.msb then 0x80000000 else 0x7FFFFFFF) else x - y) c with sat := c.sat || x.ssubOverflow y } := by
  obtain ⟨hlo, hhi⟩ := toInt_bounds y
  rw [clamped, ofInt_satTo_32 (x := x) (ofInt_toInt_sub x y) (ssubOverflow_iff x y) (fun h => by omega) (fun h => by omega),
    satTo_32_bne (ssubOverflow_iff x y)]
  rfl

theorem clamped_abs (d : Nat) (x : Word) (c : Core) : clamped d (x.toInt.natAbs : Nat) c = { resultIn d
    (if x = 0x80000000 then 0x7FFFFFFF else if x.msb then -x else x) c with sat := c.sat || x == 0x80000000 } := by
  rw [clamped, ofInt_satTo_natAbs, satTo_natAbs_bne]
  rfl

/-- Settles O32: each function is pure on its core; its result and flags are the words' own arithmetic. -/
theorem aluInstructions : Obligations.AluInstructions := by
  unfold Obligations.AluInstructions
  refine ⟨?_, ?_⟩
  · intro s t n d a b hc hr x y c c1 leaves
    have two {f : Core → Core} {w : Core} (h : f c = w) : acts t (coreInstr n 0 [(a : Nat), (b : Nat)] (pureBody n f)) s = leaves w :=
      (acts_pure hc hr).trans (congrArg leaves h)
    have one {f : Core → Core} {w : Core} (h : f c1 = w) : acts t (coreInstr n 0 [(a : Nat)] (pureBody n f)) s = leaves w :=
      (acts_pure hc hr).trans (congrArg leaves h)
    refine ⟨two (flagAdd_eq ..), two (flagSub_eq ..), two (flagSub_eq ..), two (clamped_add ..), two (clamped_sub ..), two rfl, two rfl,
      two rfl, two ?_, two ?_, two ?_, two ?_, two ?_, one (clamped_abs ..), one ?_⟩
    · exact congrArg (fun k => result d (x <<< k) c) (toNat_extractLsb'_five y).symm
    · exact congrArg (fun k => result d (x >>> k) c) (toNat_extractLsb'_five y).symm
    · exact congrArg (fun k => result d (x.sshiftRight k) c) (toNat_extractLsb'_five y).symm
    · exact congrArg (fun w => result d w c) (min_eq_slt x y)
    · exact congrArg (fun w => result d w c) (max_eq_slt x y)
    · exact congrArg (fun k => result d (BitVec.ofNat 32 k) c1) (normCount_eq x)
  · intro s t n d a imm hc hr x k c leaves
    have one {f : Core → Core} {w : Core} (h : f c = w) : acts t (coreInstr n 1 [(a : Nat)] (pureBody n f)) s = leaves w :=
      (acts_pure hc hr).trans (congrArg leaves h)
    refine ⟨one (flagAdd_eq ..), one (flagSub_eq ..), one rfl, one rfl, one rfl, one ?_, one ?_, one ?_, (acts_pure hc hr).trans ?_⟩
    · exact congrArg (fun k => result d (x <<< k) c) (toNat_extractLsb'_five imm).symm
    · exact congrArg (fun k => result d (x >>> k) c) (toNat_extractLsb'_five imm).symm
    · exact congrArg (fun k => result d (x.sshiftRight k) c) (toNat_extractLsb'_five imm).symm
    · exact congrArg (fun w => leaves (result d w (fetched (coreOf s n) []))) (ofNat_high_half imm)

end Sys2Proof.Machine
end

section
/-! SUPPORT. The multiplier, the accumulators and their scaled moves (R189, R192). -/

namespace Sys2Proof.Machine

/-! ### Products and sums -/

theorem toSigned_16_mod (v : Nat) : toSigned 16 v = toSigned 16 (v % 65536) := by
  rw [toSigned, toSigned, show (2 : Nat) ^ 16 = 65536 from rfl, Nat.mod_mod]

theorem halfReg_eq (c : Core) (i : Nat) (hi : Bool) : halfReg c i hi = signedHalf (gOf c i) hi := by
  cases hi
  · rw [halfReg, signedHalf, if_neg (by decide), if_neg (by decide), toSigned_16_mod, ← toSigned_16_toNat, BitVec.extractLsb'_toNat,
      Nat.shiftRight_zero]
  · rw [halfReg, signedHalf, if_pos rfl, if_pos rfl, toSigned_16_mod, ← toSigned_16_toNat, BitVec.extractLsb'_toNat,
      Nat.shiftRight_eq_div_pow]

theorem fits40_iff {x : Int} : fits40 x = true ↔ -549755813888 ≤ x ∧ x ≤ 549755813887 := by
  simp [fits40]

theorem setAcc_of_fits {x : Int} (h : fits40 x = true) (i : Nat) (c : Core) : setAcc i x c = accIn i x false c := by
  rw [setAcc_eq_accIn, sat40_eq_self_iff.2 h, h]
  rfl

theorem signedHalf_bounds (w : Word) (hi : Bool) : -32768 ≤ signedHalf w hi ∧ signedHalf w hi ≤ 32767 := by
  have bound (h : BitVec 16) : -32768 ≤ h.toInt ∧ h.toInt ≤ 32767 := by
    have h1 := BitVec.le_toInt h
    have h2 := BitVec.toInt_lt (x := h)
    omega
  unfold signedHalf
  split
  · exact bound _
  · exact bound _

/-- A product of two signed halfwords fits an accumulator. -/
theorem fits40_mul (w v : Word) (hi hi' : Bool) : fits40 (signedHalf w hi * signedHalf v hi') = true := by
  obtain ⟨h1, h2⟩ := signedHalf_bounds w hi
  obtain ⟨h3, h4⟩ := signedHalf_bounds v hi'
  rw [fits40_iff]
  have h : (signedHalf w hi * signedHalf v hi').natAbs ≤ 32768 * 32768 := by
    rw [Int.natAbs_mul]
    exact Nat.mul_le_mul (by omega) (by omega)
  omega

theorem fits40_toInt (w : Word) : fits40 w.toInt = true := by
  obtain ⟨h1, h2⟩ := toInt_bounds w
  rw [fits40_iff]
  omega

/-! ### Scaled moves -/

theorem shrI_eq_fdiv (x : Int) (k : Nat) : shrI x k = x.fdiv (2 ^ k) := by
  rw [shrI, Int.fdiv_eq_ediv_of_nonneg _ (Int.le_of_lt (Int.pow_pos (by decide)))]

/-- A clamp to z bits, case by case. -/
theorem satTo_eq {z : Nat} (v : Int) :
    satTo z v = if v < -(2 ^ (z - 1)) then -(2 ^ (z - 1)) else if 2 ^ (z - 1) - 1 < v then 2 ^ (z - 1) - 1 else v := by
  have hpos : (0 : Int) < 2 ^ (z - 1) := Int.pow_pos (by decide)
  unfold satTo
  generalize (2 : Int) ^ (z - 1) = p at hpos
  split
  · omega
  · split <;> omega

theorem satTo_bne {z : Nat} (v : Int) : (satTo z v != v) = (decide (v < -(2 ^ (z - 1))) || decide (2 ^ (z - 1) - 1 < v)) := by
  have hpos : (0 : Int) < 2 ^ (z - 1) := Int.pow_pos (by decide)
  rw [satTo_eq, Bool.eq_iff_iff, bne_iff_ne, Bool.or_eq_true, decide_eq_true_iff, decide_eq_true_iff]
  generalize (2 : Int) ^ (z - 1) = p at hpos
  split
  · omega
  · split <;> omega

/-- An accumulator shifted for a move of z bits, rounded where RND asks for it (R192). -/
def scaledValue (x : Int) (k : Int) (z : Nat) (rnd : Bool) : Int :=
  let r := 32 - (z : Int) - k
  if 0 < r then (x + if rnd then 2 ^ (r - 1).toNat else 0).fdiv (2 ^ r.toNat) else x * 2 ^ (-r).toNat

theorem scaledMove_eq (x : Int) (sm z : Nat) (rnd : Bool) : scaledMove x sm z rnd =
    (satTo z (scaledValue x (scaleShift sm) z rnd), satTo z (scaledValue x (scaleShift sm) z rnd) !=
      scaledValue x (scaleShift sm) z rnd) := by
  have value : (if 0 < (32 - (z : Int)) - scaleShift sm then
        (if rnd then shrI (x + 2 ^ (((32 - (z : Int)) - scaleShift sm).toNat - 1)) ((32 - (z : Int)) - scaleShift sm).toNat
        else shrI x ((32 - (z : Int)) - scaleShift sm).toNat)
      else x * 2 ^ (-((32 - (z : Int)) - scaleShift sm)).toNat) = scaledValue x (scaleShift sm) z rnd := by
    unfold scaledValue
    generalize (32 - (z : Int)) - scaleShift sm = r
    dsimp only
    have hpre : r.toNat - 1 = (r - 1).toNat := by omega
    cases rnd
    · simp only [shrI_eq_fdiv, Bool.false_eq_true, if_false, Int.add_zero]
    · simp only [shrI_eq_fdiv, hpre, if_true]
  unfold scaledMove
  dsimp only
  rw [value]

theorem scaledAcc_eq (z acc : Nat) (c : Core) : scaledAcc z acc c =
    (satTo z (scaledValue (accOf c acc) (scaleShift c.sm) z c.rnd), { c with sat := c.sat ||
      (decide (scaledValue (accOf c acc) (scaleShift c.sm) z c.rnd < -(2 ^ (z - 1))) ||
        decide (2 ^ (z - 1) - 1 < scaledValue (accOf c acc) (scaleShift c.sm) z c.rnd)) }) := by
  unfold scaledAcc
  dsimp only
  rw [scaledMove_eq, satTo_bne]

theorem writeWord_setCore {n w : Nat} {v : Word} {c : Core} {s : State} (ht : c.task.isSome = true) :
    writeWord n w v (setCore n c s) = setCore n (wordIn w v c) s := by
  have opened : (if inScratch w ∧ !c.scratch.contains w then c.scratch ++ [w] else c.scratch) =
      if inScratch w && !c.scratch.contains w then c.scratch ++ [w] else c.scratch := by
    simp only [Bool.and_eq_true]
  unfold writeWord
  dsimp only
  rw [coreOf_setCore ht, setCore_setCore ht, opened]
  rfl

theorem ofSigned_16_eq (v : Int) : ofSigned 16 v = (BitVec.ofInt 16 v).toNat := by
  rw [BitVec.toNat_ofInt]
  rfl

section
variable {n acc a mode addr : Nat} {na : Int} {c : Core} {s : State} (ht : c.task.isSome = true)
include ht

/-- A scaled move of a whole word into memory. -/
theorem storeAcc_word (hagu : agu c a mode 4 0 = .ok (addr, na)) (hacc : accessFault c addr 4 4 = none) :
    storeAcc n 32 acc a mode 0 (setCore n c s) =
      (none, setCore n (wordIn (addr / 4) (BitVec.ofInt 32 (scaledAcc 32 acc c).1) (setA a na (scaledAcc 32 acc c).2)) s) := by
  have moved : (setA a na (scaledAcc 32 acc c).2).task.isSome = true := ht
  unfold storeAcc
  simp only [coreOf_setCore ht, show 32 / 8 = 4 from rfl, hagu, hacc, if_true, setCore_setCore ht, writeWord_setCore moved]

/-- A scaled move of a halfword into memory. -/
theorem storeAcc_half (hagu : agu c a mode 2 0 = .ok (addr, na)) (hacc : accessFault c addr 2 2 = none)
    (hread : readable c (addr / 4) = true) : storeAcc n 16 acc a mode 0 (setCore n c s) =
      (none, setCore n (halfIn addr (BitVec.ofInt 16 (scaledAcc 16 acc c).1) (setA a na (scaledAcc 16 acc c).2)) s) := by
  have moved : (setA a na (scaledAcc 16 acc c).2).task.isSome = true := ht
  unfold storeAcc
  simp only [coreOf_setCore ht, show 16 / 8 = 2 from rfl, hagu, hacc, show ¬ 16 = 32 by decide, if_false, setCore_setCore ht, ofSigned_16_eq]
  rw [writeHalf_setCore moved hread]

end

/-- An accumulator shifted left by k, or right for a negative k, before its clamp. -/
def shifted (k x : Int) : Int := if 0 ≤ k then x * 2 ^ k.toNat else shrI x (-k).toNat

theorem execSha_of_listed {shift : BitVec 8} (h : ¬ (shift.toInt < -32 ∨ 32 < shift.toInt)) (t : Nat) (n : Fin 512) (acc : Fin 4)
    (s : State) : execSha t n acc shift s =
      acts t (coreInstr n 4 [] (pureBody n fun c => setAcc acc (shifted shift.toInt (accOf c acc)) c)) s := by
  have body : (fun (_ : Nat) (s : State) => if shift.toInt < -32 ∨ 32 < shift.toInt then ((some 1, s) : Done)
      else pureBody n (fun c => setAcc acc (shifted shift.toInt (accOf c acc)) c) 0 s) =
      pureBody n fun c => setAcc acc (shifted shift.toInt (accOf c acc)) c := by
    funext i y
    rw [if_neg h]
    rfl
  exact congrArg (fun b => acts t (coreInstr n 4 [] b) s) body

/-- Settles O33: an accumulator form is pure on its core, its sum clamped by the one rule of a write of an accumulator; a scaled move is
the clamped value of its shift. -/
theorem accumulatorMoves : Obligations.AccumulatorMoves := by
  unfold Obligations.AccumulatorMoves
  refine ⟨?_, ?_⟩
  · intro s t n acc acc2 a b g ah bh shift hc hr p x y c c0 clamped leaves
    have pure {cls : Nat} {reads : List Nat} {f : Core → Core} {w : Core} (h : f (fetched (coreOf s n) reads) = w) :
        acts t (coreInstr n cls reads (pureBody n f)) s = leaves w := (acts_pure hc hr).trans (congrArg leaves h)
    have product : halfReg c a ah * halfReg c b bh = p := by
      rw [halfReg_eq, halfReg_eq]
      rfl
    refine ⟨pure ?_, pure ?_, pure ?_, pure (setAcc_of_fits (by decide) acc c0),
      pure (setAcc_of_fits (fits40_toInt (gOf (coreOf s n) g)) acc _), pure (setAcc_eq_accIn acc (x + y) c0),
      pure (setAcc_eq_accIn acc (-x) c0), fun hy => pure (setAcc_of_fits hy acc c0), fun hlo hhi => ?_⟩
    · exact (congrArg (fun v => setAcc acc v c) product).trans (setAcc_of_fits (fits40_mul (gOf (coreOf s n) a) (gOf (coreOf s n) b) ah bh) acc c)
    · exact (congrArg (fun v => setAcc acc (x + v) c) product).trans (setAcc_eq_accIn acc (x + p) c)
    · exact (congrArg (fun v => setAcc acc (x - v) c) product).trans (setAcc_eq_accIn acc (x - p) c)
    · have listed : ¬ (shift.toInt < -32 ∨ 32 < shift.toInt) := by omega
      refine (execSha_of_listed listed t n acc s).trans (pure ((setAcc_eq_accIn acc _ c0).trans ?_))
      simp only [shifted, shrI_eq_fdiv]
      rfl
  · intro s t n acc a g mode addr na hc hr c moved clamps k leaves
    have ht := fetched_task hr []
    have value (z : Nat) : (scaledAcc z acc c).1 = moved z k := by
      rw [scaledAcc_eq, satTo_eq]
      rfl
    have noted (z : Nat) : (scaledAcc z acc c).2 = { c with sat := c.sat || clamps z k } := by
      rw [scaledAcc_eq]
      rfl
    have intoRegister (z : Nat) : acts t (moveAcc n z acc g) s =
        leaves { c with g := ssetC 0 c.g g (BitVec.ofInt 32 (moved z k)), sat := c.sat || clamps z k } := by
      refine (acts_pure hc hr).trans (congrArg leaves ?_)
      show setG g (BitVec.ofInt 32 (scaledAcc z acc c).1) (scaledAcc z acc c).2 = _
      rw [value, noted]
      rfl
    refine ⟨intoRegister 32, intoRegister 16, fun hagu hacc => ?_, fun hagu hacc hread => ?_⟩
    · refine (acts_core hc hr (storeAcc_word ht hagu hacc) ⟨rfl, rfl, rfl, rfl, rfl⟩ rfl).trans (congrArg leaves ?_)
      rw [value, noted]
      rfl
    · refine (acts_core hc hr (storeAcc_half ht hagu hacc hread) ⟨rfl, rfl, rfl, rfl, rfl⟩ rfl).trans (congrArg leaves ?_)
      rw [value, noted]
      rfl

end Sys2Proof.Machine
end

section
/-! SUPPORT. A product of memory on a core whose address registers are listed out of order (R188, R189). -/

namespace Sys2Proof.Machine

/-- Core 0 runs a task, with A[3] listed before A[1] and holding its default: A[1] reads as 0 until A[3] leaves the list. The canonical
form of the table forbids both; the statement does not ask for it. -/
def hiddenAddressCore : Core := { coreInit with task := some 0, a := [(3, 0), (1, 8)] }

def hiddenAddress : State := { State.reset with lnd := { State.reset.lnd with cores := [(0, hiddenAddressCore)] } }

/-- The address registers of core 0 after an outcome. -/
def addressesAfter : Out → Sparse Nat
  | .next u => (coreOf u 0).a
  | _ => []

/-- MACM steps A[1] from the address that it found, 0. -/
theorem addressesAfter_macm : addressesAfter (exec (.macm 0 0 0 3 1 0 0 [] []) hiddenAddress) = [] := by decide

/-- Refutes O34: the statement asks for no rising order of a core's address registers, and where they are listed out of order, the step of
X's register can change what Y's reads as, though Y's step starts from what it held before. -/
theorem not_memoryAccesses : ¬ Obligations.MemoryAccesses := by
  unfold Obligations.MemoryAccesses
  intro h
  obtain ⟨hprod, -⟩ := h.2 hiddenAddress 0 0 0 3 1 0 0 0 0 8 0 0 8 (by decide) (by decide)
  obtain ⟨hmacm, -⟩ := hprod (by decide) (by decide) rfl rfl rfl (by decide) (by decide) (by decide) (by decide)
  have hother := (congrArg addressesAfter hmacm).symm.trans addressesAfter_macm
  revert hother
  decide

end Sys2Proof.Machine
end

section
/-! SUPPORT. Control, address-register and faulting instructions of a Landing core (R188 to R191, R194, R202). -/

namespace Sys2Proof.Machine

/-! ### Control -/

/-- A jump takes two further cycles and leaves the core at its target. -/
theorem jumpTo_setCore {n pc : Nat} {c : Core} {s : State} (h : c.task.isSome = true) :
    jumpTo n pc (setCore n c s) = setCore n { c with pc := pc % 8192, cycles := c.cycles + 2, busy := c.busy + 2 } s := by
  unfold jumpTo coreCycles
  simp only [coreOf_setCore h]
  rw [setCore_setCore h, coreOf_setCore (by exact h), setCore_setCore (by exact h)]

section
variable {s : State} {t : Nat} {n : Fin 512} (hc : calm t s = true) (hr : running s n = true)
include hc hr

theorem exec_br_taken {cond : Fin 16} (target : BitVec 13) (h : branchCond (fetched (coreOf s n) []) cond = some true) :
    exec (.br t n cond target) s = .next (setCore n { fetched (coreOf s n) [] with
      pc := target.toNat % 8192, cycles := (fetched (coreOf s n) []).cycles + 2, busy := (fetched (coreOf s n) []).busy + 2 }
      (arriveAt t s)) := by
  refine acts_core hc hr ?_ ⟨rfl, rfl, rfl, rfl, rfl⟩ rfl
  simp only [coreOf_setCore (fetched_task hr []), h, jumpTo_setCore (fetched_task hr [])]

theorem exec_br_untaken {cond : Fin 16} (target : BitVec 13) (h : branchCond (fetched (coreOf s n) []) cond = some false) :
    exec (.br t n cond target) s = .next (setCore n (fetched (coreOf s n) []) (arriveAt t s)) := by
  refine acts_core hc hr ?_ ⟨rfl, rfl, rfl, rfl, rfl⟩ rfl
  simp only [coreOf_setCore (fetched_task hr []), h]

theorem exec_br_unlisted {cond : Fin 16} (target : BitVec 13) (h : branchCond (fetched (coreOf s n) []) cond = none) :
    exec (.br t n cond target) s =
      .next (after t (fun x => programFault n (coreOf s n).pc 1 (setCore n (fetched (coreOf s n) []) x)) s) := by
  refine acts_fault hc hr ?_
  simp only [coreOf_setCore (fetched_task hr []), h]

/-- The effect of RPT and RPTG on the core that has fetched it. -/
theorem acts_repeatNext {reads : List Nat} {k : Nat} {body : Nat → State → Done}
    (hb : body 0 (setCore n (fetched (coreOf s n) reads) (arriveAt t s)) =
      repeatNext n k (setCore n (fetched (coreOf s n) reads) (arriveAt t s))) :
    acts t (coreInstr n 6 reads body) s =
      .next (setCore n { fetched (coreOf s n) reads with rep := some k, lc := k } (arriveAt t s)) := by
  refine acts_core hc hr (hb.trans ?_) ⟨rfl, rfl, rfl, rfl, rfl⟩ rfl
  unfold repeatNext
  rw [coreOf_setCore (fetched_task hr reads), setCore_setCore (fetched_task hr reads)]

end

/-- Settles O36: a taken branch, a call and a return are the fetched core at its target, two cycles on. -/
theorem controlInstructions : Obligations.ControlInstructions := by
  intro s t n cond target imm g back rest hc hr c goes holds
  have ht : c.task.isSome = true := fetched_task hr []
  have core : coreOf (setCore n c (arriveAt t s)) n = c := coreOf_setCore ht
  refine ⟨exec_nop hc hr, fun hcond => ?_, fun hs => ?_, fun hs => ?_, acts_repeatNext hc hr rfl, ?_⟩
  · have listed : branchCond c cond = some (holds cond) := by
      obtain ⟨k, hk⟩ := cond
      have : k ≤ 10 := hcond
      have cases : k = 0 ∨ k = 1 ∨ k = 2 ∨ k = 3 ∨ k = 4 ∨ k = 5 ∨ k = 6 ∨ k = 7 ∨ k = 8 ∨ k = 9 ∨ k = 10 := by omega
      rcases cases with rfl | rfl | rfl | rfl | rfl | rfl | rfl | rfl | rfl | rfl | rfl <;> simp [branchCond, holds]
    by_cases h : holds cond = true
    · exact (exec_br_taken hc hr target (listed.trans (congrArg some h))).trans (if_pos h).symm
    · exact (exec_br_untaken hc hr target (listed.trans (congrArg some (eq_false_of_ne_true h)))).trans (if_neg h).symm
  · refine acts_core hc hr ?_ ⟨rfl, rfl, rfl, rfl, rfl⟩ rfl
    simp only [core, c]
    rw [if_neg (Nat.not_le.2 hs), setCore_setCore ht, jumpTo_setCore (by exact ht)]
  · refine acts_core hc hr ?_ ⟨rfl, rfl, rfl, rfl, rfl⟩ rfl
    simp only [core, c]
    rw [hs]
    dsimp only
    rw [setCore_setCore ht, jumpTo_setCore (by exact ht)]
  · intro c1 k
    refine acts_repeatNext hc hr ?_
    simp only [coreOf_setCore (fetched_task hr [(g : Nat)]), c1, k]

/-! ### Address registers -/

/-- A circular step stays in its buffer and is the plain step modulo the buffer's length (R188). -/
theorem circStep_bounds {c : Core} {i AB AL : Nat} {m : Int} (hb : sgetC 0 c.ab i = AB) (hl : sgetC 0 c.al i = AL) (h : AL ≠ 0) :
    (AB : Int) ≤ circStep c i m ∧ circStep c i m < AB + AL ∧ (AL : Int) ∣ circStep c i m - (aOf c i + m) := by
  have hal : 0 < (AL : Int) := by omega
  have h0 := Int.emod_nonneg ((aOf c i : Int) - AB + m) (Int.ne_of_gt hal)
  have h1 := Int.emod_lt_of_pos ((aOf c i : Int) - AB + m) hal
  have hd : (AL : Int) ∣ ((aOf c i : Int) - AB + m) % AL - ((aOf c i : Int) - AB + m) := Int.dvd_emod_sub_self
  have step : circStep c i m = AB + ((aOf c i : Int) - AB + m) % AL := by rw [← hb, ← hl]; rfl
  rw [step, show (AB : Int) + ((aOf c i : Int) - AB + m) % AL - (aOf c i + m) =
    ((aOf c i : Int) - AB + m) % AL - ((aOf c i : Int) - AB + m) by omega]
  exact ⟨by omega, by omega, hd⟩

/-- Mode 5 uses the register's own address and steps it in its buffer. -/
theorem agu_circular {c : Core} {i size addr : Nat} {na : Int} (h : agu c i 5 size 0 = .ok (addr, na)) :
    sgetC 0 c.al i ≠ 0 ∧ addr = aOf c i ∧ na = circStep c i (amOf c i) := by
  by_cases hal : sgetC 0 c.al i = 0
  · simp [agu, hal] at h
  · simp [agu, hal] at h
    exact ⟨hal, h.1.symm, h.2.symm⟩

/-- The step register read as a number of 17 bits. -/
theorem amOf_eq {c : Core} {i m : Nat} (h : sgetC 0 c.am i = m) :
    amOf c i = if m % 131072 < 65536 then (m : Int) % 131072 else (m : Int) % 131072 - 131072 := by
  subst h
  rfl

/-- Settles O39: each form is a pure change of the fetched core, and mode 5's step is an Euclidean remainder in the buffer. -/
theorem addressRegisters : Obligations.AddressRegisters := by
  refine ⟨?_, ?_⟩
  · intro s t n a g imm hc hr c c1 leaves
    have kept : ∀ (c' : Core) (v : Nat), v < 131072 → setA a v c' = { c' with a := ssetC 0 c'.a a v } := fun c' v h => by
      unfold setA
      rw [show ((v : Int) % 131072).toNat = v by omega]
    refine ⟨?_, ?_, acts_pure hc hr, acts_pure hc hr, acts_pure hc hr, fun _ => acts_pure hc hr⟩
    · refine (acts_pure hc hr).trans (congrArg (fun c' => Host.Outcome.next (setCore n c' (arriveAt t s))) ?_)
      rw [show ((gOf c1 g).extractLsb' 0 17).toNat = (gOf c1 g).toNat % 131072 by
        rw [BitVec.extractLsb'_toNat, Nat.shiftRight_zero]]
      exact kept c1 _ (Nat.mod_lt _ (by decide))
    · exact (acts_pure hc hr).trans (congrArg (fun c' => Host.Outcome.next (setCore n c' (arriveAt t s))) (kept c _ imm.isLt))
  · intro c i size addr na h AB AL AM
    obtain ⟨hal, ha, hn⟩ := agu_circular h
    have hm : amOf c i = AM := amOf_eq rfl
    rw [hn, hm]
    exact ⟨ha, circStep_bounds rfl rfl hal⟩

/-! ### Faults -/

/-- A core that finds the word at its program counter bad fences itself (R187, R203). -/
theorem coreInstr_bad {n cls : Nat} {reads : List Nat} {body : Nat → State → Done} {s : State} (hw : working s n = true)
    (hb : (coreOf s n).bad.contains (coreOf s n).pc = true) :
    coreInstr n cls reads body s = fenceCore n (coreOf s n).pc 7 s := by
  simp only [working, Bool.and_eq_true, Bool.not_eq_true', beq_iff_eq, Option.isNone_iff_eq_none] at hw
  obtain ⟨⟨⟨ht, hwait⟩, hf⟩, hk⟩ := hw
  have works : ¬ ((coreOf s n).task.isNone ∨ (coreOf s n).wait ≠ .none ∨ coreFenced s n) := by
    rintro (h | h | h)
    · rw [Option.isNone_iff_eq_none.1 h] at ht
      cases ht
    · exact h hwait
    · exact Bool.false_ne_true (hf.symm.trans h)
  rw [coreInstr, atInstant_idle hk]
  exact (if_neg works).trans (if_pos hb)

section
variable {s : State} {t : Nat} {n : Fin 512} (hc : calm t s = true) (hr : running s n = true)
  {g : Fin 16} {a : Fin 4} {mode : Fin 8} {disp : BitVec 16}
include hc hr

/-- A load whose address cannot be formed is a program fault. -/
theorem exec_ldw_of_agu_error {cause : Nat} (h : agu (fetched (coreOf s n) []) a mode 4 disp.toNat = .error cause) :
    exec (.ldw t n g a mode disp []) s =
      .next (after t (fun x => programFault n (coreOf s n).pc cause (setCore n (fetched (coreOf s n) []) x)) s) := by
  refine acts_fault hc hr ?_
  simp only [loadMem, coreOf_setCore (fetched_task hr []), h]

/-- A load at an address that the core may not read is a program fault. -/
theorem exec_ldw_of_accessFault {cause addr : Nat} {na : Int} (h : agu (fetched (coreOf s n) []) a mode 4 disp.toNat = .ok (addr, na))
    (hf : accessFault (fetched (coreOf s n) []) addr 4 4 = some cause) :
    exec (.ldw t n g a mode disp []) s =
      .next (after t (fun x => programFault n (coreOf s n).pc cause (setCore n (fetched (coreOf s n) []) x)) s) := by
  refine acts_fault hc hr ?_
  simp only [loadMem, coreOf_setCore (fetched_task hr []), h, hf]

end

/-- A buffer length is no power of two between 4 and 65,536 where bit-reversed addressing refuses it. -/
theorem length_refused {AL : Nat} (h : ¬ ∃ k, 2 ≤ k ∧ k ≤ 16 ∧ AL = 2 ^ k) : AL < 4 ∨ 2 ^ Nat.log2 AL ≠ AL ∨ 65536 < AL := by
  refine Classical.byContradiction fun hn => ?_
  rw [not_or, not_or, Classical.not_not] at hn
  obtain ⟨hlow, hpow, hhigh⟩ := hn
  refine h ⟨Nat.log2 AL, ?_, ?_, hpow.symm⟩
  · exact (Nat.le_log2 (by omega)).2 (by omega)
  · have : 2 ^ Nat.log2 AL ≤ 2 ^ 16 := by omega
    exact (Nat.pow_le_pow_iff_right (by decide)).1 this

theorem foyerBase_ge (f : Nat) : 0x11000 ≤ foyerBase f ∧ foyerBase f + 0x3800 ≤ 0x18000 := by
  unfold foyerBase
  split <;> decide

/-- Settles O42: each case meets the branch condition, the address generation or the access check that refuses it. -/
theorem programFaults : Obligations.ProgramFaults := by
  refine ⟨fun s t n hc hw hb => ?_, ?_⟩
  · exact (acts_after t _ s).trans (congrArg _ (after_congr_of_calm hc (coreInstr_bad (s := arriveAt t s) hw hb)))
  · intro s t n cond g a mode disp target hc hr c traps
    have mode0 : mode.val = 0 → disp = 0 → agu c a mode 4 disp.toNat = .ok (aOf c a, aOf c a) := fun hm hd => by
      rw [hm, hd]
      rfl
    refine ⟨fun hcond => ?_, fun hm hd => ?_, fun hm hd hal => ?_, fun hm hd hal => ?_, fun hm hd ha => ?_, fun hm hd ha ho => ?_⟩
    · refine exec_br_unlisted hc hr target ?_
      obtain ⟨k, hk⟩ := cond
      have : 10 < k := hcond
      have cases : k = 11 ∨ k = 12 ∨ k = 13 ∨ k = 14 ∨ k = 15 := by omega
      rcases cases with rfl | rfl | rfl | rfl | rfl <;> rfl
    · have hd' : disp.toNat ≠ 0 := fun h0 => hd (BitVec.eq_of_toNat_eq h0)
      exact exec_ldw_of_agu_error hc hr (if_pos ⟨hm, hd'⟩)
    · refine exec_ldw_of_agu_error hc hr ?_
      rw [hm, hd]
      exact if_pos hal
    · refine exec_ldw_of_agu_error hc hr ?_
      rw [hm, hd]
      exact if_pos (length_refused hal)
    · exact exec_ldw_of_accessFault hc hr (mode0 hm hd) (if_pos ha)
    · have hf := foyerBase_ge c.foyer
      refine exec_ldw_of_accessFault hc hr (mode0 hm hd) ((if_neg (Classical.not_not.2 ha)).trans (if_neg ?_))
      rw [show (fetched (coreOf s n) []).foyer = c.foyer from rfl]
      omega

end Sys2Proof.Machine
end

section
/-! SUPPORT. WAITP and EXIT of a Landing core (R198, R201, R202). -/

namespace Sys2Proof.Machine

/-! ### Ending a wait -/

theorem waitCycles_now (s : State) : waitCycles s s.now = 0 := by rw [waitCycles, Nat.sub_self, Nat.zero_mul, Nat.zero_div]

theorem coreCycles_setCore {n k : Nat} {c : Core} {s : State} (h : c.task.isSome = true) :
    coreCycles n k (setCore n c s) = setCore n { c with cycles := c.cycles + k, busy := c.busy + k } s := by
  unfold coreCycles
  rw [coreOf_setCore h, setCore_setCore h]

/-- A wait that ends in the instant in which it began costs no cycle. -/
theorem stopWait_at_once {n : Nat} {c : Core} {s : State} (h : c.task.isSome = true) (hs : c.since = s.now) :
    stopWait n (setCore n c s) = setCore n { c with wait := .none } s := by
  unfold stopWait
  simp only [coreOf_setCore h]
  rw [setCore_setCore h, hs, show waitCycles (setCore n c s) s.now = 0 from waitCycles_now s, coreCycles_setCore (by exact h)]
  rfl

section
variable {n : Nat} {c : Core} {s : State} (h : c.task.isSome = true)
include h

theorem endWait_drain_of_empty (hw : c.wait = .drain) (hp : c.puts = []) (hs : c.since = s.now) :
    endWait n (setCore n c s) = setCore n { c with wait := .none } s := by
  unfold endWait
  simp only [coreOf_setCore h, hw]
  exact (if_pos (List.isEmpty_iff.2 hp)).trans (stopWait_at_once h hs)

theorem endWait_drain_of_full (hw : c.wait = .drain) (hp : c.puts ≠ []) : endWait n (setCore n c s) = setCore n c s := by
  unfold endWait
  simp only [coreOf_setCore h, hw]
  exact if_neg (by simpa using hp)

theorem endWait_leave_of_empty {code : Nat} (hw : c.wait = .leave code) (hp : c.puts = []) (hs : c.since = s.now) :
    endWait n (setCore n c s) = leaveTask n code (setCore n { c with wait := .none } s) := by
  unfold endWait
  simp only [coreOf_setCore h, hw]
  exact (if_pos (List.isEmpty_iff.2 hp)).trans (congrArg _ (stopWait_at_once h hs))

theorem endWait_leave_of_full {code : Nat} (hw : c.wait = .leave code) (hp : c.puts ≠ []) :
    endWait n (setCore n c s) = setCore n c s := by
  unfold endWait
  simp only [coreOf_setCore h, hw]
  exact if_neg (by simpa using hp)

end

/-! ### Leaving a task -/

/-- What a core keeps when its task ends. -/
def left (c : Core) : Core := { c with task := none, wait := .none, rep := none, lc := 0, prev := (false, false) }

/-- A release that gets its exit code changes the dispatch tables alone, and those by what they hold. -/
theorem setExit_congr {k code : Nat} {s s' : State} (h : s'.stw = s.stw) :
    setExit k code s' = { s' with stw := (setExit k code s).stw } := by
  unfold setExit
  rw [runningOf_of_stw_eq h]
  cases runningOf s k with
  | none => simp only [← h]
  | some r => simp only [putRelease, setStair, h]

theorem setExit_traceHeld (k code : Nat) (s : State) : (setExit k code s).stw.traceHeld = s.stw.traceHeld := by
  unfold setExit
  cases runningOf s k <;> rfl

/-- The registers of a core whose task has ended (R201). -/
def exitShown (n code : Nat) (s : State) : State :=
  setF (setF (setF s (Reg.LND_CORE_STAT_STATE n) 0) (Reg.LND_CORE_STAT_LAST_EXIT n) code) (Reg.LND_CORE_TASK_RUNNING n) 0

theorem leaveTask_of_task {n code k : Nat} {s : State} (h : (coreOf s n).task = some k) :
    leaveTask n code s = setExit k code (exitShown n code (setCore n (left (coreOf s n))
      (setFlags k ((flagsOf s k).1, (flagsOf s k).2 || (coreOf s n).poison) s))) := by
  unfold leaveTask
  simp only [h]
  rfl

section
variable {n code : Nat} {s : State} (hs : swf resetWord s.regs = true)
include hs

theorem exitShown_lastExit (hcode : code < 256) : getF (exitShown n code s) (Reg.LND_CORE_STAT_LAST_EXIT n) = code := by
  have h1 := setF_swf (f := Reg.LND_CORE_STAT_STATE n) (v := 0) hs
  have h2 := setF_swf (f := Reg.LND_CORE_STAT_LAST_EXIT n) (v := code) h1
  refine (getF_setF_of_addr_ne h2 (by simp only [Reg.LND_CORE_STAT_LAST_EXIT, Reg.LND_CORE_TASK_RUNNING]; omega)).trans ?_
  exact (getF_setF_self (f := Reg.LND_CORE_STAT_LAST_EXIT n) h1 (show 16 ≤ 23 by decide) (show 23 < 32 by decide)).trans (Nat.mod_eq_of_lt hcode)

theorem exitShown_state : getF (exitShown n code s) (Reg.LND_CORE_STAT_STATE n) = 0 := by
  have h1 := setF_swf (f := Reg.LND_CORE_STAT_STATE n) (v := 0) hs
  have h2 := setF_swf (f := Reg.LND_CORE_STAT_LAST_EXIT n) (v := code) h1
  refine (getF_setF_of_addr_ne h2 (by simp only [Reg.LND_CORE_STAT_STATE, Reg.LND_CORE_TASK_RUNNING]; omega)).trans ?_
  refine (getF_setF_of_apart (f := Reg.LND_CORE_STAT_LAST_EXIT n) (g := Reg.LND_CORE_STAT_STATE n) h1 rfl
    (show 16 ≤ 23 by decide) (show 23 < 32 by decide) (.inl (show 1 < 16 by decide))).trans ?_
  exact (getF_setF_self (f := Reg.LND_CORE_STAT_STATE n) hs (show 0 ≤ 1 by decide) (show 1 < 32 by decide)).trans (Nat.zero_mod _)

theorem exitShown_running : getF (exitShown n code s) (Reg.LND_CORE_TASK_RUNNING n) = 0 :=
  (getF_setF_self (f := Reg.LND_CORE_TASK_RUNNING n) (setF_swf (setF_swf hs)) (show 31 ≤ 31 by decide)
    (show 31 < 32 by decide)).trans (Nat.zero_mod _)

end

/-- A core that has counted a cycle stays in the table, with or without a task. -/
theorem coreOf_setCore_of_cycles {n : Nat} {c : Core} {s : State} (h : 0 < c.cycles) : coreOf (setCore n c s) n = c := by
  have listed : c ≠ coreInit := fun e => absurd (e ▸ h) (by decide)
  unfold coreOf setCore sgetC ssetC sset
  rw [decide_eq_true listed]
  exact sget_sput_true

theorem flagsOf_setFlags {k : Nat} {f : Bool × Bool} {s : State} (h : sorted 0 s.lnd.flags = true) :
    flagsOf (setFlags k f s) k = f :=
  (sgetC_ssetC h _ _ _).trans (if_pos rfl)

/-! ### The obligation -/

/-- A core that begins to wait, after further cycles. -/
def waiting (w : CoreWait) (now k : Nat) (c : Core) : Core :=
  { c with wait := w, since := now, cycles := c.cycles + k, busy := c.busy + k }

section
variable {s : State} {t : Nat} {n : Fin 512} (hc : calm t s = true) (hr : running s n = true)
include hc hr

theorem exec_waitp {s' : State}
    (h : endWait n (setCore n (waiting .drain (arriveAt t s).now 0 (fetched (coreOf s n) [])) (arriveAt t s)) = s')
    (hq : KeepsQuiet s s') (hp : s'.pending = s.pending) : exec (.waitp t n) s = .next s' := by
  refine acts_core hc hr ?_ hq hp
  simp only [coreOf_setCore (fetched_task hr [])]
  rw [setCore_setCore (fetched_task hr [])]
  exact congrArg (Prod.mk none) h

/-- EXIT waits for an empty buffer once its eight cycles are counted, one of them by the fetch. -/
theorem exec_exit {code : BitVec 8} {s' : State}
    (h : endWait n (setCore n (waiting (.leave code.toNat) (arriveAt t s).now 7 (fetched (coreOf s n) [])) (arriveAt t s)) = s')
    (hq : KeepsQuiet s s') (hp : s'.pending = s.pending) : exec (.exit t n code) s = .next s' := by
  refine acts_core hc hr ?_ hq hp
  have ht := fetched_task hr []
  rw [coreCycles_setCore ht]
  simp only [coreOf_setCore (c := { fetched (coreOf s n) [] with
    cycles := (fetched (coreOf s n) []).cycles + 7, busy := (fetched (coreOf s n) []).busy + 7 }) ht]
  rw [setCore_setCore (by exact ht)]
  exact congrArg (Prod.mk none) h

end

/-- Settles O38: a wait ends in its own instant where the PUT buffer is empty, so WAITP costs nothing more and EXIT leaves the task. -/
theorem waitAndExit : Obligations.WaitAndExit := by
  refine ⟨?_, ?_⟩
  · intro s t n code hc hr c0 c
    have ht : c.task.isSome = true := fetched_task hr []
    have wait : c.wait = .none := (running_iff.1 hr).2.1
    refine ⟨fun hp => ?_, fun hp => ?_, fun hp => ?_⟩
    · refine exec_waitp hc hr ?_ ⟨rfl, rfl, rfl, rfl, rfl⟩ rfl
      refine (endWait_drain_of_empty (c := waiting .drain (arriveAt t s).now 0 c0) ht rfl hp rfl).trans ?_
      exact congrArg (fun w => setCore n { c with wait := w } (arriveAt t s)) wait.symm
    · exact exec_waitp hc hr (endWait_drain_of_full (c := waiting .drain (arriveAt t s).now 0 c0) ht rfl hp) ⟨rfl, rfl, rfl, rfl, rfl⟩ rfl
    · exact exec_exit hc hr (endWait_leave_of_full (c := waiting (.leave code.toNat) (arriveAt t s).now 7 c0) ht rfl hp)
        ⟨rfl, rfl, rfl, rfl, rfl⟩ rfl
  · intro s t n code task hc hr hp htask hs hf
    let c := waiting .none (arriveAt t s).now 7 (fetched (coreOf s n) [])
    let z := setCore n c (arriveAt t s)
    have ht : c.task.isSome = true := fetched_task hr []
    have core : coreOf z n = c := coreOf_setCore ht
    let z' := setCore n (left c) (setFlags task ((flagsOf s task).1, (flagsOf s task).2 || (coreOf s n).poison) z)
    have hs' : swf resetWord z'.regs = true := hs
    let y := exitShown n code.toNat z'
    let u := { y with stw := (setExit task code.toNat s).stw }
    have leaves : leaveTask n code.toNat z = u := by
      rw [leaveTask_of_task ((congrArg Core.task core).trans htask), core]
      exact setExit_congr rfl
    have hcore : coreOf u n = left c := coreOf_setCore_of_cycles (c := left c) (Nat.succ_pos _)
    have hflags : flagsOf u task = ((flagsOf s task).1, (flagsOf s task).2 || (coreOf s n).poison) := flagsOf_setFlags (s := z) hf
    refine ⟨u, ?_, congrArg Core.task hcore, congrArg Core.wait hcore, (congrArg Core.g hcore :), (congrArg Prod.fst hflags :),
      (congrArg Prod.snd hflags :), ?_, ?_, ?_, rfl, rfl⟩
    · refine exec_exit hc hr ?_ ⟨rfl, rfl, rfl, rfl, setExit_traceHeld ..⟩ rfl
      exact (endWait_leave_of_empty (c := waiting (.leave code.toNat) (arriveAt t s).now 7 (fetched (coreOf s n) [])) ht rfl hp rfl).trans
        leaves
    · exact (getF_of_regs_eq (s := y) (s' := u) rfl _).trans (exitShown_lastExit hs' code.isLt)
    · exact (getF_of_regs_eq (s := y) (s' := u) rfl _).trans (exitShown_state hs')
    · exact (getF_of_regs_eq (s := y) (s' := u) rfl _).trans (exitShown_running hs')

end Sys2Proof.Machine
end

section
/-! SUPPORT. PUTs and the correlator of a Landing core (R198, R200). -/

namespace Sys2Proof.Machine

/-! ### Runs of words read by a PUT -/

/-- Reading words that meet no error changes nothing. -/
theorem readRun_of_readableRun {n addr len : Nat} {s : State} (h : readableRun (coreOf s n) addr len = true) :
    readRun n addr len [] s = s := by
  unfold readableRun at h
  unfold readRun
  generalize List.range ((addr % 4 + len + 3) / 4) = words at h ⊢
  induction words with
  | nil => rfl
  | cons i is ih =>
    rw [List.all_cons, Bool.and_eq_true] at h
    exact (congrArg (fun z => is.foldl _ z) (congrArg Prod.snd (readMem_of_readable h.1))).trans (ih h.2)

/-- Below the foyers every aligned access of a core is allowed. -/
theorem accessFault_of_low {c : Core} {addr size len : Nat} (ha : addr % size = 0) (h : addr + len ≤ 0x11000) :
    accessFault c addr size len = none := (if_neg (Classical.not_not.2 ha)).trans (if_pos (.inl h))

/-! ### A PUT into the buffer -/

/-- What a PUT that is no operand does for the core's task. -/
theorem issuePut_eq {n k : Nat} {p : Put} {s : State} (h : (coreOf s n).task = some k) (hop : ∀ l b q, p ≠ .operand l b q) :
    issuePut n p s =
      let c := coreOf s n
      let e : PutEntry := ⟨p, k, c.flight, c.instant⟩
      if !putAllowed s n k p then (some 5, s)
      else if 16 ≤ c.puts.length then (none, setCore n { c with wait := .room e, since := s.now } s)
      else if putHeld s k p then (none, setCore n { c with puts := c.puts ++ [e], wait := .held, since := s.now } s)
      else (none, setCore n { c with puts := c.puts ++ [e] } s) := by
  unfold issuePut
  simp only [h]
  cases p with
  | operand l b q => exact absurd rfl (hop l b q)
  | gallery | queue | timecode => rfl

theorem allowed_after {n k : Nat} {c : Core} {p : Put} {s : State} (ha : putAllowed s n k p = true) :
    (!putAllowed (setCore n c s) n k p) ≠ true := by
  rw [show putAllowed (setCore n c s) n k p = true from ha]
  decide

section
variable {n k : Nat} {c : Core} {p : Put} {s : State} (h : c.task = some k) (ha : putAllowed s n k p = true)
  (hop : ∀ l b q, p ≠ .operand l b q)
include h ha hop

/-- An allowed PUT that finds room and whose queue, if any, holds nothing enters the buffer. -/
theorem issuePut_enters (hr : c.puts.length < 16) (hh : putHeld s k p = false) :
    issuePut n p (setCore n c s) = (none, setCore n { c with puts := c.puts ++ [⟨p, k, c.flight, c.instant⟩] } s) := by
  have ht : c.task.isSome = true := h ▸ rfl
  rw [issuePut_eq (by rw [coreOf_setCore ht, h]) hop, coreOf_setCore ht]
  refine (if_neg (allowed_after ha)).trans ((if_neg (Nat.not_le.2 hr)).trans
    ((if_neg (ne_via_eq (show putHeld (setCore n c s) k p = false from hh) (by decide))).trans ?_))
  rw [setCore_setCore ht]

/-- One whose queue holds its word waits with it in the buffer. -/
theorem issuePut_held (hr : c.puts.length < 16) (hh : putHeld s k p = true) :
    issuePut n p (setCore n c s) =
      (none, setCore n { c with puts := c.puts ++ [⟨p, k, c.flight, c.instant⟩], wait := .held, since := s.now } s) := by
  have ht : c.task.isSome = true := h ▸ rfl
  rw [issuePut_eq (by rw [coreOf_setCore ht, h]) hop, coreOf_setCore ht]
  refine (if_neg (allowed_after ha)).trans ((if_neg (Nat.not_le.2 hr)).trans ((if_pos hh).trans ?_))
  rw [setCore_setCore ht]
  rfl

/-- One that finds the buffer full waits for room. -/
theorem issuePut_waits (hr : 16 ≤ c.puts.length) :
    issuePut n p (setCore n c s) = (none, setCore n { c with wait := .room ⟨p, k, c.flight, c.instant⟩, since := s.now } s) := by
  have ht : c.task.isSome = true := h ▸ rfl
  rw [issuePut_eq (by rw [coreOf_setCore ht, h]) hop, coreOf_setCore ht]
  refine (if_neg (allowed_after ha)).trans ((if_pos hr).trans ?_)
  rw [setCore_setCore ht]
  rfl

end

/-- An operand's PUT is noted in the running release that sends it, and enters the buffer. -/
theorem issuePut_operand {n k l : Nat} {c : Core} {b : List Byte} {q : Bool} {s : State} (h : c.task = some k)
    (hr : c.puts.length < 16) : ∃ w, w.traceHeld = s.stw.traceHeld ∧ issuePut n (.operand l b q) (setCore n c s) =
      (none, { setCore n { c with puts := c.puts ++ [⟨.operand l b q, k, c.flight, c.instant⟩] } s with stw := w }) := by
  have ht : c.task.isSome = true := h ▸ rfl
  unfold issuePut
  simp only [coreOf_setCore ht, h]
  cases runningOf (setCore n c s) k with
  | none =>
    refine ⟨s.stw, rfl, (if_neg Bool.false_ne_true).trans ((if_neg (Nat.not_le.2 hr)).trans ((if_neg Bool.false_ne_true).trans ?_))⟩
    rw [setCore_setCore ht]
    rfl
  | some r =>
    refine ⟨(putRelease { r with sent := r.sent ++ [l] } s).stw, rfl,
      (if_neg Bool.false_ne_true).trans ((if_neg (Nat.not_le.2 hr)).trans ((if_neg Bool.false_ne_true).trans ?_))⟩
    exact congrArg (fun z => ((none, { z with stw := (putRelease { r with sent := r.sent ++ [l] } s).stw }) : Done)) (setCore_setCore ht)

/-! ### The correlator -/

/-- The history of R200 after the first j bits of a word. -/
def historyAfter (w : Word) (h j : Nat) : Nat := (List.range j).foldl (fun h j => (2 * h + (w.getLsbD j).toNat) % 65536) h

/-- The match bits of one pattern over the first k bits of a word. -/
def matchesOf (w : Word) (h word m k : Nat) : Nat :=
  ((List.range k).map fun i => if historyAfter w h (i + 1) = word then 2 ^ (m + i) else 0).sum

theorem historyAfter_succ (w : Word) (h j : Nat) :
    historyAfter w h (j + 1) = (2 * historyAfter w h j + (w.getLsbD j).toNat) % 65536 := by
  rw [historyAfter, List.range_succ, List.foldl_append]
  rfl

theorem matchesOf_succ (w : Word) (h word m k : Nat) :
    matchesOf w h word m (k + 1) = matchesOf w h word m k + if historyAfter w h (k + 1) = word then 2 ^ (m + k) else 0 := by
  rw [matchesOf, List.range_succ, List.map_append, List.sum_append, List.map_singleton, List.sum_singleton]
  rfl

/-- The model's correlator goes on from any bit of its word. -/
theorem correlate_from (w : Word) (h : Nat) : ∀ k i, correlate w k i (historyAfter w h i)
    (matchesOf w h 0x3FFD 0 i + matchesOf w h 0xBFFC 16 i) =
      (historyAfter w h (i + k), matchesOf w h 0x3FFD 0 (i + k) + matchesOf w h 0xBFFC 16 (i + k))
  | 0, i => rfl
  | k + 1, i => by
    have next := correlate_from w h k (i + 1)
    rw [matchesOf_succ, matchesOf_succ, historyAfter_succ, Nat.zero_add, show i + 1 + k = i + (k + 1) by omega] at next
    rw [correlate, ← next]
    congr 1
    omega

theorem correlate_eq (w : Word) (h k : Nat) :
    correlate w k 0 h 0 = (historyAfter w h k, matchesOf w h 0x3FFD 0 k + matchesOf w h 0xBFFC 16 k) := by
  have whole := correlate_from w h k 0
  rwa [Nat.zero_add] at whole

theorem zipIdx_map_range {α : Type} (f : Nat → α) (k : Nat) : ((List.range k).map f).zipIdx = (List.range k).map fun i => (f i, i) :=
  List.ext_getElem (by simp) fun i h1 h2 => by simp

/-- The match bits, summed over the listed histories. -/
theorem sum_matches (w : Word) (h word m k : Nat) :
    ((((List.range k).map fun i => historyAfter w h (i + 1)).zipIdx).map fun e => if e.1 = word then 2 ^ (m + e.2) else 0).sum =
      matchesOf w h word m k := by
  rw [zipIdx_map_range, List.map_map]
  rfl

theorem last_history (w : Word) (h k : Nat) :
    ((List.range (k + 1)).map fun i => historyAfter w h (i + 1)).getLast?.getD h = historyAfter w h (k + 1) := by
  rw [List.range_succ, List.map_append, List.map_singleton, List.getLast?_concat]
  rfl

/-! ### The obligation -/

section
variable {s : State} {t : Nat} {n : Fin 512} (hc : calm t s = true) (hr : running s n = true)
include hc hr

/-- PUTG and PUTGC issue their sample and do nothing else. -/
theorem acts_putSample {g tr : Fin 16} {conc : Bool} (c' : Core)
    (h : issuePut n (.gallery ((gOf (fetched (coreOf s n) [(g : Nat), tr]) tr).toNat % 16384)
        ((gOf (fetched (coreOf s n) [(g : Nat), tr]) tr).toNat / 16384 % 64)
        (gOf (fetched (coreOf s n) [(g : Nat), tr]) g &&& 0xFFFFFF00) conc (fetched (coreOf s n) [(g : Nat), tr]).poison)
      (setCore n (fetched (coreOf s n) [(g : Nat), tr]) (arriveAt t s)) = (none, setCore n c' (arriveAt t s))) :
    acts t (coreInstr n 8 [(g : Nat), tr] (putSample n g tr conc)) s = .next (setCore n c' (arriveAt t s)) := by
  refine acts_core hc hr ?_ ⟨rfl, rfl, rfl, rfl, rfl⟩ rfl
  simp only [putSample, coreOf_setCore (fetched_task hr _)]
  exact h

/-- PUTT issues the 32 bytes at A[a], where no word of them meets an error. -/
theorem exec_putt {a : Fin 4} (c' : Core) (hlow : aOf (fetched (coreOf s n) []) a + 32 ≤ 0x10000)
    (hread : readableRun (fetched (coreOf s n) []) (aOf (fetched (coreOf s n) []) a) 32 = true)
    (h : issuePut n (.timecode (coreBytes (fetched (coreOf s n) []) (aOf (fetched (coreOf s n) []) a) 32).1
        (fetched (coreOf s n) []).poison) (setCore n (fetched (coreOf s n) []) (arriveAt t s)) =
      (none, setCore n c' (arriveAt t s))) :
    exec (.putt t n a []) s = .next (setCore n c' (arriveAt t s)) := by
  refine acts_core hc hr ?_ ⟨rfl, rfl, rfl, rfl, rfl⟩ rfl
  have core : coreOf (setCore n (fetched (coreOf s n) []) (arriveAt t s)) n = fetched (coreOf s n) [] :=
    coreOf_setCore (fetched_task hr _)
  simp only [core, accessFault_of_low (Nat.mod_one _) (Nat.le_trans hlow (by decide : 0x10000 ≤ 0x11000)),
    readRun_of_readableRun ((congrArg (fun c => readableRun c _ 32) core).trans hread)]
  exact h

/-- PUTQ issues the 64 bytes at A[a] three cycles on, where no word of them meets an error. -/
theorem exec_putq {tr : Fin 16} {a : Fin 4} (c' : Core) (halign : aOf (fetched (coreOf s n) [(tr : Nat)]) a % 64 = 0)
    (hlow : aOf (fetched (coreOf s n) [(tr : Nat)]) a + 64 ≤ 0x10000)
    (hread : readableRun (fetched (coreOf s n) [(tr : Nat)]) (aOf (fetched (coreOf s n) [(tr : Nat)]) a) 64 = true)
    (h : issuePut n (.queue ((gOf (fetched (coreOf s n) [(tr : Nat)]) tr).toNat % 32768)
        (coreBytes (fetched (coreOf s n) [(tr : Nat)]) (aOf (fetched (coreOf s n) [(tr : Nat)]) a) 64).1
        ((gOf (fetched (coreOf s n) [(tr : Nat)]) tr).toNat / 65536 % 2 == 1) (fetched (coreOf s n) [(tr : Nat)]).poison)
      (setCore n { fetched (coreOf s n) [(tr : Nat)] with
        cycles := (fetched (coreOf s n) [(tr : Nat)]).cycles + 3, busy := (fetched (coreOf s n) [(tr : Nat)]).busy + 3 } (arriveAt t s)) =
      (none, setCore n c' (arriveAt t s))) :
    exec (.putq t n tr a []) s = .next (setCore n c' (arriveAt t s)) := by
  refine acts_core hc hr ?_ ⟨rfl, rfl, rfl, rfl, rfl⟩ rfl
  have ht := fetched_task hr [(tr : Nat)]
  have core : coreOf (setCore n (fetched (coreOf s n) [(tr : Nat)]) (arriveAt t s)) n = fetched (coreOf s n) [(tr : Nat)] :=
    coreOf_setCore ht
  simp only [core, accessFault_of_low halign (Nat.le_trans hlow (by decide : 0x10000 ≤ 0x11000)),
    readRun_of_readableRun ((congrArg (fun c => readableRun c _ 64) core).trans hread), coreCycles_setCore ht]
  rw [coreOf_setCore (by exact ht)]
  exact h

/-- PUTO issues its bytes at A[a], where no word of them meets an error. -/
theorem exec_puto {tr : Fin 16} {a : Fin 4} {imm : BitVec 14} {s' : State} (h4 : 4 ≤ imm.toNat) (hmax : imm.toNat ≤ 8192)
    (hlow : aOf (fetched (coreOf s n) [(tr : Nat)]) a + imm.toNat ≤ 0x10000)
    (hread : readableRun (fetched (coreOf s n) [(tr : Nat)]) (aOf (fetched (coreOf s n) [(tr : Nat)]) a) imm.toNat = true)
    (h : issuePut n (.operand ((gOf (fetched (coreOf s n) [(tr : Nat)]) tr).toNat % 16)
        (coreBytes (fetched (coreOf s n) [(tr : Nat)]) (aOf (fetched (coreOf s n) [(tr : Nat)]) a) imm.toNat).1
        (fetched (coreOf s n) [(tr : Nat)]).poison) (setCore n (fetched (coreOf s n) [(tr : Nat)]) (arriveAt t s)) = (none, s'))
    (hq : KeepsQuiet s s') (hp : s'.pending = s.pending) : exec (.puto t n tr a imm []) s = .next s' := by
  refine acts_core hc hr ?_ hq hp
  have core : coreOf (setCore n (fetched (coreOf s n) [(tr : Nat)]) (arriveAt t s)) n = fetched (coreOf s n) [(tr : Nat)] :=
    coreOf_setCore (fetched_task hr _)
  simp only [core, accessFault_of_low (Nat.mod_one _) (Nat.le_trans hlow (by decide : 0x10000 ≤ 0x11000)),
    readRun_of_readableRun ((congrArg (fun c => readableRun c _ imm.toNat) core).trans hread)]
  exact (if_neg (by omega)).trans h

/-- CORR is a pure change of its core: the last history, and the match bits in the register. -/
theorem exec_corr {g tr : Fin 16} {imm : BitVec 14} : exec (.corr t n g tr imm) s =
    (let c := fetched (coreOf s n) [(g : Nat)]
     let steps := (List.range (imm.toNat % 16 + 1)).map fun i => historyAfter (gOf c g) c.hist (i + 1)
     let bits := fun m word => (steps.zipIdx.map fun e => if e.1 = word then 2 ^ (m + e.2) else 0).sum
     .next (setCore n { c with g := ssetC 0 c.g tr (BitVec.ofNat 32 (bits 0 0x3FFD + bits 16 0xBFFC)),
                               hist := steps.getLast?.getD c.hist } (arriveAt t s))) := by
  refine (acts_pure hc hr).trans ?_
  simp only [sum_matches, last_history]
  rw [correlate_eq]
  rfl

end

/-- Settles O41: an allowed PUT enters a buffer with room, waits with its word there or waits for room; CORR is the model's correlator as a
list of histories. -/
theorem putsAndCorrelator : Obligations.PutsAndCorrelator := by
  refine ⟨?_, ?_⟩
  · intro s t n g tr a imm task hc hr hk hroom c ct c0 v at_ bytes entry enters sample
    refine ⟨fun hp => ?_, fun halign hlow hread hleg => ?_, fun h4 hmax hlow hread => ?_, fun hlow hread => ?_, ?_⟩
    · have allowed (conc : Bool) : putAllowed (arriveAt t s) n task (sample conc) = true := beq_iff_eq.2 hp
      have one (conc : Bool) := acts_putSample hc hr (g := g) (tr := tr) (conc := conc) _
        (issuePut_enters (s := arriveAt t s) (c := c) hk (allowed conc) (fun _ _ _ h => by cases h) hroom rfl)
      exact ⟨one false, one true⟩
    · intro c1 p
      have allowed : putAllowed (arriveAt t s) n task p = true := hleg
      refine ⟨fun hfree => ?_, fun hheld => ?_⟩
      · refine exec_putq hc hr _ halign hlow hread
          (issuePut_enters (s := arriveAt t s) (c := c1) hk allowed (fun _ _ _ h => by cases h) hroom ?_)
        exact bne_eq_false_iff_eq.2 hfree
      · refine exec_putq hc hr _ halign hlow hread
          (issuePut_held (s := arriveAt t s) (c := c1) hk allowed (fun _ _ _ h => by cases h) hroom ?_)
        exact bne_iff_ne.2 hheld
    · obtain ⟨w, hw, hput⟩ := issuePut_operand (n := n) (l := v % 16) (b := bytes imm.toNat) (q := c.poison) (s := arriveAt t s) (c := ct) hk hroom
      refine ⟨_, exec_puto hc hr h4 hmax hlow hread hput ⟨rfl, rfl, rfl, rfl, hw⟩ rfl, ?_, rfl⟩
      exact coreOf_setCore (s := arriveAt t s) (n := n) (c := { ct with puts := c.puts ++ [entry (.operand (v % 16) (bytes imm.toNat) c.poison)] })
        (fetched_task hr [(tr : Nat)])
    · exact exec_putt hc hr _ hlow hread
        (issuePut_enters (s := arriveAt t s) (c := c0) hk rfl (fun _ _ _ h => by cases h) hroom rfl)
    · exact exec_corr hc hr
  · intro s t n g tr a task hc hr hk hfull c c0 v at_ waits sample
    refine ⟨fun hp => ?_, fun hlow hread => ?_⟩
    · have allowed (conc : Bool) : putAllowed (arriveAt t s) n task (sample conc) = true := beq_iff_eq.2 hp
      have one (conc : Bool) := acts_putSample hc hr (g := g) (tr := tr) (conc := conc) _
        (issuePut_waits (s := arriveAt t s) (c := c) hk (allowed conc) (fun _ _ _ h => by cases h) hfull)
      exact ⟨one false, one true⟩
    · exact exec_putt hc hr _ hlow hread
        (issuePut_waits (s := arriveAt t s) (c := c0) hk rfl (fun _ _ _ h => by cases h) hfull)

end Sys2Proof.Machine
end

section
/-! SUPPORT. The Stairwell's releases: opening, deliveries, staging, completion, misses and time-outs (R331 to R347). -/

namespace Sys2Proof.Machine

/-! ### Opening releases (R331, R332, R334) -/

section
variable {s : State} {k : Nat}

theorem releaseInstant_of_halted (h : s.tim.flights ≠ .running ∨ boundaryTaken s s.now = true) : releaseInstant k s = s := by
  refine if_neg fun hn => ?_
  obtain ⟨hrun, hfree⟩ := hn
  rcases h with h | h
  · exact h hrun
  · rw [h] at hfree
    cases hfree

theorem releaseInstant_of_running (hrun : s.tim.flights = .running) (hfree : boundaryTaken s s.now = false) :
    releaseInstant k s = settle (releaseAt k s) := if_pos ⟨hrun, by rw [hfree]; rfl⟩

theorem releaseAt_between (h : s.now % taskPeriod s k ≠ 0) : releaseAt k s = s := if_pos (.inr (.inl h))

theorem taskOn_of_live (h : taskLive s k = true) : taskOn s k = true ∧ taskLost s k = false := by
  simpa [taskLive] using h

/-- The state of a task whose release instant has come. -/
def instantReached (k : Nat) (s : State) : State := setStair { s.stw with reached := ssetC none s.stw.reached k (some s.now) } s

/-- A live task's instant that has come for the first time, with no release open for it: its release opens or overruns. -/
theorem releaseAt_due (hp : 0 < taskPeriod s k) (hm : s.now % taskPeriod s k = 0) (hlive : taskLive s k = true)
    (hnew : sgetC none s.stw.reached k ≠ some s.now) (hnone : ((openOf s k).find? fun q => q.instant == s.now) = none)
    (hover : s.stw.overran.contains (k, s.now) = false) :
    releaseAt k s =
      let f := freshRelease s k (s.now / taskPeriod s k) s.now
      if taskDepth s k ≤ (openOf s k).length then deliverAbsent f (noteOverrun f (instantReached k s)) else openRelease f (instantReached k s) := by
  obtain ⟨hon, hlost⟩ := taskOn_of_live hlive
  have comes : ¬ (taskPeriod s k = 0 ∨ s.now % taskPeriod s k ≠ 0 ∨ !taskOn s k ∨ sgetC none s.stw.reached k = some s.now) := by
    rintro (h | h | h | h)
    · omega
    · exact h hm
    · rw [hon] at h
      cases h
    · exact hnew h
  refine (if_neg comes).trans ?_
  refine (if_neg (ne_via_eq (show taskLost (instantReached k s) k = false from hlost) (by decide))).trans ?_
  have hnone' : ((openOf (instantReached k s) k).find? fun r => r.instant == (instantReached k s).now) = none := hnone
  have hover' : (instantReached k s).stw.overran.contains (k, (instantReached k s).now) ≠ true := ne_via_eq hover (by decide)
  dsimp only
  rw [show setStair { s.stw with reached := ssetC none s.stw.reached k (some s.now) } s = instantReached k s from rfl, hnone']
  exact if_neg hover'

/-! ### Deliveries -/

variable {op : Nat} {src : Treads} {next : Bool} {v : Operand}

theorem deliver_of_off (h : taskOn s k = false) : deliver deliverFuel k op src next v [] s = raiseEvent 0x1A8 s :=
  if_pos (by rw [h]; rfl)

theorem deliver_of_lost (hon : taskOn s k = true) (h : taskLost s k = true) : deliver deliverFuel k op src next v [] s = s :=
  (if_neg (by rw [hon]; decide)).trans (if_pos h)

/-- A delivery that finds its release decides the operand that waits there. -/
theorem deliver_of_found {r : Release} (hlive : taskLive s k = true) (hp : 0 < taskPeriod s k)
    (hr : ((openOf s k).find? fun q => q.instant == nextBoundary src (taskPeriod s k) + if next then taskPeriod s k else 0) = some r)
    (hw : r.ops.getD op .absent = .waiting) :
    deliver deliverFuel k op src next v [] s =
      putRelease { r with ops := r.ops.set op v, timed := r.timed.filter (· != op) } s := by
  obtain ⟨hon, hlost⟩ := taskOn_of_live hlive
  have found : matchDelivery s k op src next = .found r := by
    refine (if_neg (Nat.ne_of_gt hp)).trans ?_
    simp only [matchInstant, hr]
  have takes : operandTakes s r op = true := by
    rw [operandTakes, hw]
    rfl
  refine (if_neg (by rw [hon]; decide)).trans ((if_neg (by rw [hlost]; decide)).trans ?_)
  rw [found]
  exact if_pos takes

end

/-- Settles O44: an instant opens its release, overruns or does nothing, and a delivery meets one of the cases of R334. -/
theorem releasesOpen : Obligations.ReleasesOpen := by
  intro s t src k op next present poison r hc x p fresh reached due
  have opens (hd : due) : releaseInstant k x = settle (if taskDepth s k ≤ (openOf s k).length then
      deliverAbsent fresh (noteOverrun fresh (reached x)) else openRelease fresh (reached x)) := by
    obtain ⟨hrun, hfree, hp, hm, hlive, hnew, hnone, hover⟩ := hd
    exact (releaseInstant_of_running (s := x) hrun hfree).trans
      (congrArg settle (releaseAt_due (s := x) hp hm hlive hnew hnone hover))
  refine ⟨fun h => ?_, fun hrun hfree hm => ?_, fun hd hdepth => ?_, fun hd hdepth => ?_, fun hon => ?_, fun hon hlost => ?_,
    fun hlive hp hr hw => ?_⟩
  · exact acts_idle hc (releaseInstant_of_halted (s := x) h)
  · exact acts_eq_after hc ((releaseInstant_of_running (s := x) hrun hfree).trans (congrArg settle (releaseAt_between (s := x) hm)))
  · exact acts_eq_after hc ((opens hd).trans (congrArg settle (if_neg (Nat.not_le.2 hdepth))))
  · exact acts_eq_after hc ((opens hd).trans (congrArg settle (if_pos hdepth)))
  · exact acts_eq_after hc (congrArg settle (deliver_of_off (s := x) hon))
  · exact acts_eq_after hc (congrArg settle (deliver_of_lost (s := x) hon hlost))
  · exact acts_eq_after hc (congrArg settle (deliver_of_found (s := x) hlive hp hr hw))

/-! ### Staging (R339, R347) -/

/-- The order of the ready list (R339), of deadlines, task numbers and flights. -/
def Earlier (d t f d' t' f' : Nat) : Prop := d < d' ∨ d = d' ∧ (t < t' ∨ t = t' ∧ f < f')

theorem readyBefore_iff {a b : Release} :
    readyBefore a b = true ↔ Earlier a.deadline a.task a.flight b.deadline b.task b.flight := by
  unfold readyBefore Earlier
  by_cases hd : a.deadline = b.deadline
  · rw [if_neg (Classical.not_not.2 hd), hd]
    by_cases ht : a.task = b.task
    · rw [if_neg (Classical.not_not.2 ht), decide_eq_true_eq]
      omega
    · rw [if_pos ht, decide_eq_true_eq]
      omega
  · rw [if_pos hd, decide_eq_true_eq]
    exact ⟨.inl, fun h => h.resolve_right fun h' => hd h'.1⟩

theorem not_readyBefore_self (a : Release) : readyBefore a a ≠ true := by
  rw [Ne, readyBefore_iff, Earlier]
  omega

theorem readyBefore_asymm {a b : Release} (h : readyBefore a b = true) : readyBefore b a ≠ true := by
  rw [Ne, readyBefore_iff, Earlier]
  rw [readyBefore_iff, Earlier] at h
  omega

/-- The choice between the best release so far and one more. -/
def betterOf (b : Option Release) (r : Release) : Option Release :=
  match b with | none => some r | some x => if readyBefore r x then some r else some x

/-- A release that comes before all others is chosen, once it has been seen. -/
theorem foldl_betterOf {r : Release} : ∀ (l : List Release) (b : Option Release), (∀ q ∈ l, q = r ∨ readyBefore r q = true) →
    (∀ q, b = some q → q = r ∨ readyBefore r q = true) → r ∈ l ∨ b = some r → l.foldl betterOf b = some r
  | [], b, _, _, h => h.resolve_left (List.not_mem_nil)
  | q :: l, b, hl, hb, h => by
    have first := hl q List.mem_cons_self
    have kept : betterOf (some r) q = some r := by
      refine if_neg fun hq => ?_
      rcases first with rfl | h
      · exact not_readyBefore_self q hq
      · exact readyBefore_asymm h hq
    have taken (hq : q = r) : betterOf b q = some r := by
      subst hq
      match b, hb with
      | none, _ => rfl
      | some x, hb =>
        rcases hb x rfl with rfl | hx
        · exact kept
        · exact if_pos hx
    have goes : ∀ q', betterOf b q = some q' → q' = r ∨ readyBefore r q' = true := by
      intro q' hq'
      match b, hb with
      | none, _ => exact Option.some.inj hq' ▸ first
      | some x, hb =>
        by_cases hx : readyBefore q x = true
        · exact Option.some.inj ((if_pos hx).symm.trans hq') ▸ first
        · exact Option.some.inj ((if_neg hx).symm.trans hq') ▸ hb x rfl
    refine foldl_betterOf l _ (fun q' h' => hl q' (List.mem_cons_of_mem q h')) goes ?_
    rcases h with h | rfl
    · rcases List.mem_cons.1 h with rfl | h
      · exact .inr (taken rfl)
      · exact .inl h
    · exact .inr kept

/-- The release that RELEASE_STAGE takes, of an up-to-date Stairwell. -/
def stagedNext (c : Nat) (z : State) : Option Release :=
  (z.stw.releases.filter fun r => r.stage == .ready && getF z (Reg.TASK_CLASS r.task) == c && (engineFor z c r).isSome).foldl betterOf none

section
variable {c : Nat} {e : StairError} {s : State}

theorem releaseStage_eq : releaseStage c e s =
    match stagedNext c (settle s) with
    | none => settle s
    | some r => match engineFor (settle s) c r with
      | none => settle s
      | some n => stageRead n r e (settle s) := rfl

theorem releaseStage_of_none (h : stagedNext c (settle s) = none) : releaseStage c e s = settle s := by
  rw [releaseStage_eq, h]

theorem releaseStage_of_some {r : Release} {n : Nat} (h : stagedNext c (settle s) = some r) (he : engineFor (settle s) c r = some n) :
    releaseStage c e s = stageRead n r e (settle s) := by
  rw [releaseStage_eq, h]
  simp only [he]

/-- Which releases RELEASE_STAGE considers. -/
def mayStage (c : Nat) (z : State) (q : Release) : Prop :=
  q.stage = .ready ∧ getF z (Reg.TASK_CLASS q.task) = c ∧ (engineFor z c q).isSome = true

theorem mayStage_iff {z : State} {q : Release} : mayStage c z q ↔
    (q.stage == .ready && getF z (Reg.TASK_CLASS q.task) == c && (engineFor z c q).isSome) = true := by
  simp [mayStage, and_assoc]

theorem stagedNext_of_none {z : State} (h : ∀ q ∈ z.stw.releases, ¬ mayStage c z q) : stagedNext c z = none := by
  unfold stagedNext
  rw [List.filter_eq_nil_iff.2 fun q hq hm => h q hq (mayStage_iff.2 hm)]
  rfl

theorem stagedNext_of_first {z : State} {r : Release} (hr : r ∈ z.stw.releases) (hm : mayStage c z r)
    (hfirst : ∀ q ∈ z.stw.releases, mayStage c z q → q = r ∨ readyBefore r q = true) : stagedNext c z = some r := by
  refine foldl_betterOf _ none (fun q hq => ?_) (fun q hq => by cases hq) (.inl (List.mem_filter.2 ⟨hr, mayStage_iff.1 hm⟩))
  obtain ⟨hmem, hmay⟩ := List.mem_filter.1 hq
  exact hfirst q hmem (mayStage_iff.2 hmay)

end

/-! ### Misses (R343) -/

/-- The counters and STW_MISS_LAST of a miss. -/
def missCounted (k c : Nat) (deadline : Treads) (s : State) : State :=
  let s := incF (incF (incL s (Reg.TASK_MISSES k)) (Reg.STW_CLASS_MISS_COUNT c)) (Reg.STW_CNT_COUNT 2)
  let s := setF (setF s Reg.STW_MISS_LAST_TASK k) Reg.STW_MISS_LAST_CLASS c
  let s := setF s Reg.STW_MISS_LAST_TREADS (treadsOf deadline)
  let s := setF s Reg.STW_MISS_LAST_SEC_LO (secondsOf deadline)
  setF s Reg.STW_MISS_LAST_SEC_HI (secondsOf deadline / 4294967296)

/-- The words of STW_CNT, STW_CLASS and STW_MISS_LAST that a miss changes. -/
def MissWord (a : Nat) : Prop := 0x2C00060 ≤ a ∧ a < 0x2C00200

theorem wordsKept_missCounted {k c : Nat} (hcls : c < 12) (d : Treads) (s : State) : WordsKept MissWord s (missCounted k c d s) := by
  have stored (f : Fld) (h : MissWord f.addr) (v : Nat) (y : State) : WordsKept MissWord y (setF y f v) := wordsKept_setF h y v
  have count : MissWord (Reg.STW_CLASS_MISS_COUNT c).addr := by simp only [MissWord, Reg.STW_CLASS_MISS_COUNT]; omega
  refine .trans (s' := incL s (Reg.TASK_MISSES k)) (.of_regs rfl) ?_
  refine (stored _ count _ _).trans ((stored (Reg.STW_CNT_COUNT 2) ?_ _ _).trans ((stored Reg.STW_MISS_LAST_TASK ?_ _ _).trans
    ((stored Reg.STW_MISS_LAST_CLASS ?_ _ _).trans ((stored Reg.STW_MISS_LAST_TREADS ?_ _ _).trans
      ((stored Reg.STW_MISS_LAST_SEC_LO ?_ _ _).trans (stored Reg.STW_MISS_LAST_SEC_HI ?_ _ _)))))) <;>
  · unfold MissWord
    decide

theorem traceTakes_missCounted {s : State} {k c kind : Nat} (hs : swf resetWord s.regs = true) (hcls : c < 12) (d : Treads) :
    traceTakes (missCounted k c d s) kind k = traceTakes s kind k := by
  have same (f : Fld) (h : ¬ MissWord f.addr) : getF (missCounted k c d s) f = getF s f := by
    rw [getF, (wordsKept_missCounted hcls d s).same hs h, getF]
  have high (n : Nat) (h : 0x84000000 ≤ n) : ¬ MissWord n := fun hm => by
    unfold MissWord at hm
    omega
  unfold traceTakes
  rw [same Reg.STW_TRACE_CFG_EN (by unfold MissWord; decide), same Reg.STW_TRACE_CFG_KINDS (by unfold MissWord; decide),
    same Reg.STW_TRACE_CLASS_CLASSES (by unfold MissWord; decide), same (Reg.TASK_CLASS k) (high _ (Nat.le_add_right ..)),
    same (Reg.TASK_TRACE k) (high _ (Nat.le_add_right ..))]

theorem noteMissClass_eq (c : Nat) (s : State) : ∃ m, c ∈ m ∧ noteMissClass c s = setStair { s.stw with missClass := m } s := by
  unfold noteMissClass
  by_cases h : s.stw.missClass.contains c = true
  · rw [if_pos h]
    exact ⟨s.stw.missClass, List.contains_iff_mem.1 h, rfl⟩
  · rw [if_neg h]
    exact ⟨_, List.mem_append_right _ (List.mem_singleton_self c), rfl⟩

/-- The class of a miss is noted, and the events that it raises. -/
def missNoted (c : Nat) (s : State) : State :=
  let s := noteMissClass c s
  let s := if c = 8 then raiseEvent 0x208 s else s
  if s.stw.missEvent then s else raiseEvent 0x1A0 (setStair { s.stw with missEvent := true } s)

/-- A miss of another class than 8, in a flight that has raised its event, raises none. -/
theorem missNoted_silent {c : Nat} {s : State} (h8 : c ≠ 8) (h : s.stw.missEvent = true) : missNoted c s = noteMissClass c s := by
  obtain ⟨m, -, hm⟩ := noteMissClass_eq c s
  unfold missNoted
  simp only [if_neg h8]
  exact if_pos (by rw [hm]; exact h)

section
variable {s : State} {k flight : Nat} {r : Release} (hr : ((openOf s k).find? fun q => q.flight == flight) = some r)
include hr

theorem deadlineMiss_of_known (h : r.missed = true ∨ s.now ≤ r.deadline) : deadlineMiss k flight s = s := by
  unfold deadlineMiss
  rw [hr]
  exact if_pos h

theorem deadlineMiss_of_late (hm : r.missed = false) (hd : r.deadline < s.now) : deadlineMiss k flight s =
    let c := getF s (Reg.TASK_CLASS k)
    missNoted c (trace 7 r false 0 (missCounted k c r.deadline (putRelease { r with missed := true } s))) := by
  have late : ¬ (r.missed ∨ s.now ≤ r.deadline) := by
    rw [hm]
    exact fun h => h.elim Bool.false_ne_true (Nat.not_le.2 hd)
  unfold deadlineMiss
  rw [hr]
  exact if_neg late

end

/-- A decision that the trace does not take leaves no record. -/
theorem trace_of_untaken {kind d : Nat} {r : Release} {late : Bool} {s : State} (h : traceTakes s kind r.task = false) :
    trace kind r late d s = s := if_pos (by rw [h]; rfl)

/-! ### Starting, completing and timing out -/

section
variable {s : State}

theorem releaseStart_of_staged {c e : Nat} {r : Release} (hfree : runningOn s c e = none)
    (h : (s.stw.releases.find? fun q => q.stage == .staged e && getF s (Reg.TASK_CLASS q.task) == c) = some r) :
    releaseStart c e s = trace 4 { r with stage := .running e, started := s.now } false 0
      (putRelease { r with stage := .running e, started := s.now } s) := by
  unfold releaseStart
  rw [hfree, h]

theorem releaseStart_of_none {c e : Nat} (h : (runningOn s c e).isSome = true ∨
    (s.stw.releases.find? fun q => q.stage == .staged e && getF s (Reg.TASK_CLASS q.task) == c) = none) : releaseStart c e s = s := by
  unfold releaseStart
  rcases h with h | h
  · obtain ⟨q, hq⟩ := Option.isSome_iff_exists.1 h
    rw [hq]
  · rw [h]
    cases runningOn s c e <;> rfl

theorem completeRelease_of_held {k code : Nat} (h : producerHeld s k = true) : completeRelease k code s = s := if_pos h

theorem completeRelease_of_free {k code : Nat} (h : producerHeld s k = false) :
    completeRelease k code s = sweepNotified (releaseComplete k code s) := if_neg (ne_via_eq h (by decide))

theorem operandTimeout_of_none {k flight : Nat} (h : ((openOf (settle s) k).find? fun q => q.flight == flight) = none) :
    operandTimeout k flight s = settle s := by
  unfold operandTimeout
  simp only [h]

theorem operandTimeout_of_due {k flight : Nat} {r : Release} (h : ((openOf (settle s) k).find? fun q => q.flight == flight) = some r)
    (hat : ∃ at_, r.timeout = some at_ ∧ at_ ≤ (settle s).now)
    (hdue : ((List.range 15).filter fun n => r.ops.getD n .absent == .waiting && decide (2 ≤ opKind (settle s) k n)) ≠ []) :
    operandTimeout k flight s =
      let z := settle s
      let due := (List.range 15).filter fun n => r.ops.getD n .absent == .waiting && decide (2 ≤ opKind z k n)
      let r' := { r with ops := due.foldl (fun ops n => ops.set n .absent) r.ops, timed := due }
      let y := incF (incL (putRelease r' z) (Reg.TASK_TIMEOUTS k)) (Reg.STW_CNT_COUNT 3)
      let y := incF y (Reg.STW_CLASS_TIMEOUT_COUNT (getF y (Reg.TASK_CLASS k)))
      settle (raiseEvent 0x1A1 (trace 6 r' false due.length y)) := by
  obtain ⟨at_, htime, hle⟩ := hat
  unfold operandTimeout
  simp only [h]
  refine if_pos ⟨?_, ?_⟩
  · rw [htime]
    exact decide_eq_true hle
  · simpa using hdue

end

/-- Settles O45: staging takes the first of the ready list, and each other command is its release's case of R340 to R343. -/
theorem releasesRun : Obligations.ReleasesRun := by
  intro s t flight e cls eng k code r hc x
  refine ⟨?_, ?_, fun hr hh => ?_, fun hh => ?_, fun hr hh => ?_, ?_, ?_, ?_⟩
  · intro z may staged stages
    refine ⟨fun hnone err => ?_, fun hr hm he hfirst => ?_⟩
    · exact acts_eq_after hc (congrArg fillFoyers (releaseStage_of_none (s := x) (stagedNext_of_none hnone)))
    · have takes (err : StairError) : stages err (stageRead e r err z) :=
        acts_eq_after hc (congrArg fillFoyers (releaseStage_of_some (s := x) (stagedNext_of_first hr hm hfirst) he))
      exact ⟨takes .none, takes .corrected, takes .entry, takes .descriptor⟩
  · intro staged
    refine ⟨fun hfree hst => ?_, fun h => ?_⟩
    · exact acts_eq_after hc (congrArg fillFoyers (releaseStart_of_staged (s := x) hfree hst))
    · exact acts_eq_after hc (congrArg fillFoyers (releaseStart_of_none (s := x) h))
  · refine acts_eq_after hc ((completeRelease_of_free (s := x) hh).trans (congrArg sweepNotified ?_))
    rw [releaseComplete, show runningOf (arriveAt t s) k = some r from hr]
  · exact acts_idle hc (completeRelease_of_held (s := x) hh)
  · refine acts_eq_after hc ((completeRelease_of_free (s := x) hh).trans (congrArg sweepNotified ?_))
    rw [releaseComplete, show runningOf (arriveAt t s) k = none from hr]
  · intro mine
    refine ⟨fun hn => acts_idle hc ?_, fun hr => ⟨fun h => acts_idle hc (deadlineMiss_of_known (s := x) hr h), ?_⟩⟩
    · unfold deadlineMiss
      rw [show ((openOf (arriveAt t s) k).find? fun q => q.flight == flight) = none from hn]
    · intro hm hd htrace hevent hcls h8 htask hs
      let y := missCounted k (getF s (Reg.TASK_CLASS k)) r.deadline (putRelease { r with missed := true } x)
      have untraced : trace 7 r false 0 y = y := by
        refine trace_of_untaken ?_
        rw [htask]
        exact (traceTakes_missCounted (s := putRelease { r with missed := true } x) hs hcls r.deadline).trans htrace
      obtain ⟨m, hmem, hnote⟩ := noteMissClass_eq (getF s (Reg.TASK_CLASS k)) y
      have missed : deadlineMiss k flight x = setStair { y.stw with missClass := m } y :=
        (deadlineMiss_of_late (s := x) hr hm hd).trans
          ((congrArg (missNoted _) untraced).trans ((missNoted_silent (s := y) h8 hevent).trans hnote))
      exact ⟨_, acts_eq_same hc missed rfl rfl, rfl, hmem, rfl⟩
  · intro z hn
    exact acts_eq_after hc (operandTimeout_of_none (s := x) hn)
  · intro z due hr hat hdue r'
    exact acts_eq_after hc (operandTimeout_of_due (s := x) hr hat hdue)

end Sys2Proof.Machine
end

section
/-! SUPPORT. The DRAM controller's commands, read answers, fences and alerts (R354 to R358, R364 to R368). -/

namespace Sys2Proof.Machine

/-! ### What the controller's work changes -/

/-- What the controller's work changes, with no byte of memory: what an event does, and the controller's own state. -/
structure DramWork (s s' : State) : Prop where
  same : ∃ regs doors evt twin out drm, s' = { s with regs := regs, doors := doors, evt := evt, twin := twin, out := out, drm := drm }
  recommend : s'.twin.recommend = s.twin.recommend
  resync : s'.twin.resync = s.twin.resync
  mem : s'.drm.mem = s.drm.mem

namespace DramWork

variable {a b c : State}

theorem refl (s : State) : DramWork s s := ⟨⟨_, _, _, _, _, _, rfl⟩, rfl, rfl, rfl⟩

theorem trans (h : DramWork a b) (h' : DramWork b c) : DramWork a c := by
  refine ⟨?_, h'.recommend.trans h.recommend, h'.resync.trans h.resync, h'.mem.trans h.mem⟩
  obtain ⟨_, _, _, _, _, _, rfl⟩ := h.same
  obtain ⟨_, _, _, _, _, _, rfl⟩ := h'.same
  exact ⟨_, _, _, _, _, _, rfl⟩

theorem ite {p : Prop} [Decidable p] (ha : DramWork a b) (hb : DramWork a c) : DramWork a (if p then b else c) := by
  split
  · exact ha
  · exact hb

theorem quiet (h : DramWork a b) : quiet b = quiet a := by
  obtain ⟨_, _, _, _, _, _, heq⟩ := h.same
  have hrec := h.recommend
  have hres := h.resync
  subst heq
  simp only [Machine.quiet]
  rw [hrec, hres]

theorem pending (h : DramWork a b) : b.pending = a.pending := by
  obtain ⟨_, _, _, _, _, _, rfl⟩ := h.same
  rfl

end DramWork

theorem Notes.dramWork {s s' : State} (h : Notes s s') (hr : s'.twin.recommend = s.twin.recommend) : DramWork s s' := by
  obtain ⟨_, _, _, _, _, _, _, _, _, _, rfl⟩ := h
  exact ⟨⟨_, _, _, _, _, _, rfl⟩, hr, rfl, rfl⟩

theorem Signals.dramWork {s s' : State} (h : Signals s s') : DramWork s s' := h.notes.dramWork h.recommend

theorem dramWork_setF (s : State) (f : Fld) (v : Nat) : DramWork s (setF s f v) := (signals_setF s f v).dramWork

theorem dramWork_setSub (c : Nat) (x : SubState) (s : State) : DramWork s (setSub c x s) := ⟨⟨_, _, _, _, _, _, rfl⟩, rfl, rfl, rfl⟩

theorem dramWork_foldl {α : Type} {f : State → α → State} (hf : ∀ s a, DramWork s (f s a)) : ∀ (l : List α) (s : State),
    DramWork s (l.foldl f s)
  | [], s => .refl s
  | a :: l, s => (hf s a).trans (dramWork_foldl hf l (f s a))

/-- Requests that the controller takes change its own queues alone. -/
theorem admitWaiting_eq (s : State) :
    ∃ drm, admitWaiting s = { s with drm := drm } ∧ drm.mem = s.drm.mem ∧ drm.accepting = s.drm.accepting := by
  have steps : ∀ (l : List DramReq) (p : List DramReq × State), ∃ drm,
      (l.foldl admitStep p).2 = { p.2 with drm := drm } ∧ drm.mem = p.2.drm.mem ∧ drm.accepting = p.2.drm.accepting := by
    intro l
    induction l with
    | nil => exact fun p => ⟨p.2.drm, rfl, rfl, rfl⟩
    | cons r l ih =>
      intro p
      have first : ∃ drm, (admitStep p r).2 = { p.2 with drm := drm } ∧ drm.mem = p.2.drm.mem ∧ drm.accepting = p.2.drm.accepting := by
        by_cases h : (p.2.drm.accepting && !(p.1.any fun q => q.port == r.port) && hasRoom (subAt p.2 (subOf p.2 r.line)) r.write) = true
        · rw [show admitStep p r = _ from if_pos h]
          exact ⟨_, rfl, rfl, rfl⟩
        · rw [show admitStep p r = _ from if_neg h]
          exact ⟨p.2.drm, rfl, rfl, rfl⟩
      obtain ⟨d, hd, hm, ha⟩ := first
      obtain ⟨d', hd', hm', ha'⟩ := ih (admitStep p r)
      rw [hd] at hd' hm' ha'
      exact ⟨d', hd', hm'.trans hm, ha'.trans ha⟩
  obtain ⟨d, hd, hm, ha⟩ := steps s.drm.waiting ([], s)
  refine ⟨{ d with waiting := (s.drm.waiting.foldl admitStep ([], s)).1 }, ?_, hm, ha⟩
  unfold admitWaiting
  simp only [hd]
  rfl

theorem dramWork_admitWaiting (s : State) : DramWork s (admitWaiting s) := by
  obtain ⟨drm, h, hm, -⟩ := admitWaiting_eq s
  rw [h]
  exact ⟨⟨_, _, _, _, _, _, rfl⟩, rfl, rfl, hm⟩

theorem dramWork_settleFences (s : State) : DramWork s (settleFences s) := ⟨⟨_, _, _, _, _, _, rfl⟩, rfl, rfl, rfl⟩

theorem dramWork_answer (r : DramReq) (bs : List Byte) (bad : Bool) (s : State) : DramWork s (answer r bs bad s) :=
  (dramWork_setF s _ _).trans (.ite (.refl _) ⟨⟨_, _, _, _, _, _, rfl⟩, rfl, rfl, rfl⟩)

theorem dramWork_noteUrgency (c : Nat) (s : State) : DramWork s (noteUrgency c s) := by
  unfold noteUrgency
  have counted (l : List DramReq) (y : State) : DramWork y
      (l.foldl (fun s r => incSatF (incF s (Reg.DRM_CNT_COUNT 4)) (Reg.DRM_PORT_LAT_URGENT r.port)) y) :=
    dramWork_foldl (fun _ _ => (dramWork_setF ..).trans (dramWork_setF ..)) l y
  have told (y : State) : DramWork y (raiseEvent 0x1C8 (setDram { y.drm with urgentTold := true } y)) :=
    .trans (b := setDram { y.drm with urgentTold := true } y) ⟨⟨_, _, _, _, _, _, rfl⟩, rfl, rfl, rfl⟩ (signals_raiseEvent ..).dramWork
  exact (dramWork_setSub ..).trans ((counted _ _).trans (.ite (.refl _) (told _)))

theorem dramWork_noteDrain (c : Nat) (s : State) : DramWork s (noteDrain c s) := dramWork_setSub ..

/-! ### Commands (R354, R356) -/

/-- Outside a resynchronisation a write of a line changes the controller's memory alone. -/
theorem writeLine_of_inactive {a : Nat} {bs : List Byte} {p : Bool} {s : State} (h : s.twin.resync.active = false) :
    ∃ drm, writeLine a bs p s = { s with drm := drm } ∧ drm.mem = putBytes bs a s.drm.mem := by
  have same : noteWrite a bs p s = s := if_pos (.inl (by rw [h]; rfl))
  refine ⟨(writeLine a bs p s).drm, ?_, writeLine_mem a bs p s⟩
  unfold writeLine
  simp only [same]
  rfl

section
variable {c : Nat} {r : DramReq} {s : State}

/-- Whether the command that advances a request writes its line. -/
def writesLine (c : Nat) (r : DramReq) (s : State) : Prop :=
  r.write = true ∧ r.bytes.length = 64 ∧ openRow (subAt s c) (bankOf s (lineOf s r.line)) = some (rowOf s (lineOf s r.line))

/-- The use of an open row is noted, and an aged request is counted. -/
def rowUsed (c : Nat) (r : DramReq) (s : State) : State :=
  let x := subAt s c
  let l := lineOf s r.line
  let s := setSub c { x with rows := ssetC none x.rows (bankOf s l) (some (rowOf s l, cycleOf s s.now)) } s
  if agedReq s r (cycleOf s s.now) then incF s (Reg.DRM_CNT_COUNT 3) else s

theorem dramWork_rowUsed (c : Nat) (r : DramReq) (s : State) : DramWork s (rowUsed c r s) :=
  .trans (dramWork_setSub ..) (.ite (dramWork_setF ..) (.refl _))

theorem advance_of_open (h : openRow (subAt s c) (bankOf s (lineOf s r.line)) = some (rowOf s (lineOf s r.line))) :
    advance c r s =
      if r.write && r.bytes.length == 64 then serveWrite c r (rowUsed c r s) else serveRead c r (rowUsed c r s) := by
  unfold advance
  simp only [h]
  exact if_pos trivial

/-- A command that opens or closes a row, or that reads, changes no byte. -/
theorem advance_of_other (h : ¬ writesLine c r s) : DramWork s (advance c r s) := by
  cases hrow : openRow (subAt s c) (bankOf s (lineOf s r.line)) with
  | none =>
    unfold advance
    simp only [hrow]
    exact dramWork_setSub ..
  | some row =>
    by_cases hsame : row = rowOf s (lineOf s r.line)
    · have reads : ¬ (r.write && r.bytes.length == 64) = true := fun hw => by
        rw [Bool.and_eq_true, beq_iff_eq] at hw
        exact h ⟨hw.1, hw.2, hsame ▸ hrow⟩
      rw [advance_of_open (hsame ▸ hrow), if_neg reads]
      exact (dramWork_rowUsed c r s).trans (dramWork_setSub ..)
    · unfold advance
      simp only [hrow, if_neg hsame]
      exact dramWork_setSub ..

/-- One that serves a whole line's write writes its bytes. -/
theorem advance_of_write (h : writesLine c r s) :
    DramWork (writeLine (r.line + r.ofs) r.bytes r.poison (rowUsed c r s)) (advance c r s) := by
  obtain ⟨hw, hlen, hrow⟩ := h
  rw [advance_of_open hrow, if_pos (by rw [hw, hlen]; rfl)]
  exact (dramWork_setSub ..).trans ((dramWork_answer ..).trans (dramWork_settleFences _))

theorem dramCommand_of_stopped {blocked : List Nat} (h : subRunning s c = false) : dramCommand c blocked s = s :=
  if_pos (by rw [h]; rfl)

theorem dramCommand_of_none {blocked : List Nat} (h : subRunning s c = true)
    (hp : pick (noteDrain c (noteUrgency c s)) c blocked = none) : dramCommand c blocked s = noteDrain c (noteUrgency c s) := by
  refine (if_neg (by rw [h]; decide)).trans ?_
  simp only [hp]

theorem dramCommand_of_some {blocked : List Nat} (h : subRunning s c = true)
    (hp : pick (noteDrain c (noteUrgency c s)) c blocked = some r) :
    dramCommand c blocked s = admitWaiting (advance c r (noteDrain c (noteUrgency c s))) := by
  refine (if_neg (by rw [h]; decide)).trans ?_
  simp only [hp]

end

/-- What memory holds after the command that advances a request. -/
theorem mem_advance {c : Nat} {r : DramReq} {s z : State} (hz : DramWork s z) (hin : s.twin.resync.active = false)
    (hwf : Memory.wf s.drm.mem = true) :
    let u := admitWaiting (advance c r z)
    quiet u = quiet s ∧ u.pending = s.pending ∧ Memory.wf u.drm.mem = true ∧
      ((¬ writesLine c r z ∧ u.drm.mem = s.drm.mem) ∨ (writesLine c r z ∧ u.drm.mem = putBytes r.bytes (r.line + r.ofs) s.drm.mem)) := by
  intro u
  have hu := dramWork_admitWaiting (advance c r z)
  by_cases hw : writesLine c r z
  · have hy : DramWork s (rowUsed c r z) := hz.trans (dramWork_rowUsed c r z)
    obtain ⟨drm, hline, hmem⟩ := writeLine_of_inactive (a := r.line + r.ofs) (bs := r.bytes) (p := r.poison)
      (s := rowUsed c r z) (by rw [hy.resync]; exact hin)
    have done : DramWork { rowUsed c r z with drm := drm } u := hline ▸ (advance_of_write hw).trans hu
    have mem : u.drm.mem = putBytes r.bytes (r.line + r.ofs) s.drm.mem := done.mem.trans (hmem.trans (by rw [hy.mem]))
    exact ⟨done.quiet.trans hy.quiet, done.pending.trans hy.pending, mem ▸ putBytes_wf _ _ _ hwf, .inr ⟨hw, mem⟩⟩
  · have done : DramWork s u := hz.trans ((advance_of_other hw).trans hu)
    exact ⟨done.quiet, done.pending, done.mem ▸ hwf, .inl ⟨hw, done.mem⟩⟩

/-! ### Read data (R365 to R368) -/

/-- A line's bytes as a read without a lost word finds them. -/
theorem lineRead_all {s : State} {r : DramReq} (h : r.ofs + r.bytes.length ≤ 64) :
    ((lineRead s r []).drop r.ofs).take r.bytes.length = memBytes s (r.line + r.ofs) r.bytes.length := by
  refine List.ext_getElem ?_ fun i h1 h2 => ?_
  · simp [lineRead, memBytes]
    omega
  · simp [lineRead, memBytes, Nat.add_assoc]

/-- What a read whose side band has named its line returns and does. -/
def readChecked (c : Nat) (r : DramReq) (o : ReadOutcome) (s : State) : List Byte × Bool × State :=
  if linePoisoned s r.line then (lineRead s r o.lost, true, s)
  else
    let back := !o.lost.isEmpty || o.corrected
    let bytes := lineRead s r o.lost
    let s := if !o.lost.isEmpty then uncorrectable c r o.lost s else if o.corrected then correctable c r s else s
    (bytes, !o.lost.isEmpty, if back && r.port == 23 then incF s (Reg.DRM_CNT_COUNT 7) else s)

section
variable {c : Nat} {r : DramReq} {o : ReadOutcome} {s : State}

theorem readLine_eq : readLine c r o s =
    let z := if o.tag ≠ addrTag s r.line then incF s (Reg.DRM_CNT_COUNT 2) else s
    if o.tag ≠ addrTag s r.line ∧ o.retryTag ≠ addrTag s r.line then
      (lineRead z r [0, 1, 2, 3, 4, 5, 6, 7], true, commandError c r.port r.line z)
    else readChecked c r o z := rfl

theorem readLine_of_tag (h : o.tag = addrTag s r.line) : readLine c r o s = readChecked c r o s := by
  rw [readLine_eq, if_neg (Classical.not_not.2 h)]
  exact if_neg fun hn => hn.1 h

theorem readLine_of_retry (h : o.tag ≠ addrTag s r.line) (h' : o.retryTag = addrTag s r.line) :
    readLine c r o s = readChecked c r o (incF s (Reg.DRM_CNT_COUNT 2)) := by
  rw [readLine_eq, if_pos h]
  exact if_neg fun hn => hn.2 h'

theorem readLine_of_error (h : o.tag ≠ addrTag s r.line) (h' : o.retryTag ≠ addrTag s r.line) :
    readLine c r o s = (lineRead s r [0, 1, 2, 3, 4, 5, 6, 7], true, commandError c r.port r.line (incF s (Reg.DRM_CNT_COUNT 2))) := by
  rw [readLine_eq, if_pos h]
  exact if_pos ⟨h, h'⟩

/-- A line without an error comes back as it is, with its poison. -/
theorem readChecked_clean (hl : o.lost = []) (hc : o.corrected = false) :
    readChecked c r o s = (lineRead s r [], linePoisoned s r.line, s) := by
  unfold readChecked
  rw [hl, hc]
  cases hp : linePoisoned s r.line <;> rfl

theorem readChecked_corrected (hl : o.lost = []) (hc : o.corrected = true) (hp : linePoisoned s r.line = false) (h23 : r.port ≠ 23) :
    readChecked c r o s = (lineRead s r [], false, correctable c r s) := by
  unfold readChecked
  rw [hl, hc, hp, beq_eq_false_iff_ne.2 h23]
  rfl

theorem readChecked_lost (hl : o.lost ≠ []) (hp : linePoisoned s r.line = false) (h23 : r.port ≠ 23) :
    readChecked c r o s = (lineRead s r o.lost, true, uncorrectable c r o.lost s) := by
  unfold readChecked
  have some : o.lost.isEmpty = false := by simpa using hl
  rw [some, hp, beq_eq_false_iff_ne.2 h23]
  rfl

theorem readOutcome_of_read {bytes : List Byte} {bad : Bool} {z : State} (h : readLine c r o s = (bytes, bad, z)) (hw : r.write = false) :
    readOutcome c r o s = answer r ((bytes.drop r.ofs).take r.bytes.length) bad z := by
  unfold readOutcome
  rw [h]
  exact if_pos (by rw [hw]; rfl)

theorem readOutcome_of_good {bytes : List Byte} {z : State} (h : readLine c r o s = (bytes, false, z)) (hw : r.write = true) :
    readOutcome c r o s = answer r [] false (writeLine (r.line + r.ofs) r.bytes r.poison z) := by
  unfold readOutcome
  rw [h]
  exact (if_neg (by rw [hw]; decide)).trans (if_neg Bool.false_ne_true)

theorem readOutcome_of_bad {bytes : List Byte} {z : State} (h : readLine c r o s = (bytes, true, z)) (hw : r.write = true) :
    readOutcome c r o s = answer r [] true (writeLine r.line (patchBytes bytes r.ofs r.bytes) true z) := by
  unfold readOutcome
  rw [h]
  exact (if_neg (by rw [hw]; decide)).trans (if_pos rfl)

/-! The branches of a read's end, by its tags, its lost words and its line's poison. -/

theorem readOutcome_read_clean (htag : o.tag = addrTag s r.line) (hl : o.lost = []) (hco : o.corrected = false) (hw : r.write = false)
    (hofs : r.ofs + r.bytes.length ≤ 64) :
    readOutcome c r o s = answer r (memBytes s (r.line + r.ofs) r.bytes.length) (linePoisoned s r.line) s := by
  rw [readOutcome_of_read ((readLine_of_tag htag).trans (readChecked_clean hl hco)) hw, lineRead_all hofs]

theorem readOutcome_read_retried (htag : o.tag ≠ addrTag s r.line) (hre : o.retryTag = addrTag s r.line) (hl : o.lost = [])
    (hco : o.corrected = false) (hw : r.write = false) (hofs : r.ofs + r.bytes.length ≤ 64) :
    readOutcome c r o s =
      answer r (memBytes s (r.line + r.ofs) r.bytes.length) (linePoisoned s r.line) (incF s (Reg.DRM_CNT_COUNT 2)) := by
  rw [readOutcome_of_read ((readLine_of_retry htag hre).trans (readChecked_clean hl hco)) hw, lineRead_all hofs]
  rfl

theorem readOutcome_write_clean (htag : o.tag = addrTag s r.line) (hl : o.lost = []) (hco : o.corrected = false) (hw : r.write = true)
    (hp : linePoisoned s r.line = false) :
    readOutcome c r o s = answer r [] false (writeLine (r.line + r.ofs) r.bytes r.poison s) := by
  refine readOutcome_of_good (bytes := lineRead s r []) ?_ hw
  rw [readLine_of_tag htag, readChecked_clean hl hco, hp]

section
variable (h23 : r.port ≠ 23) (hp : linePoisoned s r.line = false)
include h23 hp

theorem readOutcome_read_corrected (htag : o.tag = addrTag s r.line) (hl : o.lost = []) (hco : o.corrected = true) (hw : r.write = false)
    (hofs : r.ofs + r.bytes.length ≤ 64) :
    readOutcome c r o s = answer r (memBytes s (r.line + r.ofs) r.bytes.length) false (correctable c r s) := by
  rw [readOutcome_of_read ((readLine_of_tag htag).trans (readChecked_corrected hl hco hp h23)) hw, lineRead_all hofs]

theorem readOutcome_read_lost (htag : o.tag = addrTag s r.line) (hl : o.lost ≠ []) (hw : r.write = false) :
    readOutcome c r o s = answer r (((lineRead s r o.lost).drop r.ofs).take r.bytes.length) true (uncorrectable c r o.lost s) :=
  readOutcome_of_read ((readLine_of_tag htag).trans (readChecked_lost hl hp h23)) hw

end

theorem readData_of_some {rest : List DramReq} (hr : (subAt s c).reading = r :: rest) (h23 : r.port ≠ 23) :
    readData c o s = settleFences (readOutcome c r o (setSub c { subAt s c with reading := rest } s)) := by
  unfold readData
  simp only [hr, if_neg h23]

theorem rowIdle_of_closed {b : Nat} (h : sgetC none (subAt s c).rows b = none) : rowIdle c b s = s := by
  unfold rowIdle
  simp only [h]

/-- A row that no request hits closes once IDLE cycles have passed since its last use. -/
theorem rowIdle_of_unused {b row last : Nat} (h : sgetC none (subAt s c).rows b = some (row, last))
    (hhit : ((subAt s c).queue.any fun q => bankOf s (lineOf s q.line) == b && rowOf s (lineOf s q.line) == row) = false) :
    rowIdle c b s = if last + getF s Reg.DRM_PAGE_CFG_IDLE ≤ cycleOf s s.now then
      setSub c { subAt s c with rows := ssetC none (subAt s c).rows b none } s else s := by
  unfold rowIdle
  simp only [h, hhit, Bool.not_false, true_and]

/-- A fence with nothing owed before it, and no other fence waiting, is counted at once. -/
theorem fencePort_of_settled {port : Nat} (hf : s.drm.fences = []) (h : portOwes s port s.drm.nextId = false) :
    fencePort port s = { s with drm := { s.drm with fenced := ssetC 0 s.drm.fenced port (sgetC 0 s.drm.fenced port + 1) } } := by
  let y := setDram { s.drm with fences := [(port, s.drm.nextId)] } s
  have owes : portOwes y port s.drm.nextId = false := h
  have done : ([(port, s.drm.nextId)].filter fun f => !portOwes y f.1 f.2) = [(port, s.drm.nextId)] :=
    List.filter_cons_of_pos (by rw [owes]; rfl)
  have left : ([(port, s.drm.nextId)].filter fun f => portOwes y f.1 f.2) = [] := List.filter_cons_of_neg (by rw [owes]; decide)
  have settled : settleFences y = setDram { y.drm with
      fences := [], fenced := ssetC 0 s.drm.fenced port (sgetC 0 s.drm.fenced port + 1) } y := by
    unfold settleFences
    simp only [show y.drm.fences = [(port, s.drm.nextId)] from rfl, done, left]
    rfl
  unfold fencePort
  rw [hf, List.nil_append, settled, ← hf]
  rfl

/-- A fence waits with others that are owed something. -/
theorem fencePort_of_owed {port : Nat} (h : portOwes s port s.drm.nextId = true)
    (hf : ∀ f ∈ s.drm.fences, portOwes s f.1 f.2 = true) :
    fencePort port s = { s with drm := { s.drm with fences := s.drm.fences ++ [(port, s.drm.nextId)] } } := by
  have all : ∀ f ∈ s.drm.fences ++ [(port, s.drm.nextId)],
      portOwes (setDram { s.drm with fences := s.drm.fences ++ [(port, s.drm.nextId)] } s) f.1 f.2 = true := by
    intro f hmem
    rcases List.mem_append.1 hmem with hmem | hmem
    · exact hf f hmem
    · rw [List.mem_singleton.1 hmem]
      exact h
  unfold fencePort settleFences
  simp only [setDram_drm] at all ⊢
  rw [List.filter_eq_self.2 all, List.filter_eq_nil_iff.2 fun f hm => by rw [all f hm]; decide]
  rfl

theorem caParityAlert_of_once {window : List Nat} : caParityAlert c window false s = incF s (Reg.DRM_CNT_COUNT 2) := rfl

theorem caParityAlert_of_repeat {window : List Nat} :
    caParityAlert c window true s =
      let x := subAt s c
      let hit := (x.queue ++ x.reading).filter fun r => window.contains r.id
      let y := setSub c { x with
        queue := x.queue.filter (fun r => !window.contains r.id)
        reading := x.reading.filter fun r => !window.contains r.id } (incF s (Reg.DRM_CNT_COUNT 2))
      let y := hit.foldl (fun z r => answer r (if r.write then []
        else ((lineRead z r [0, 1, 2, 3, 4, 5, 6, 7]).drop r.ofs).take r.bytes.length) true z) (admitWaiting y)
      settleFences (commandError c ((hit.head?.map (·.port)).getD 0) ((hit.head?.map (·.line)).getD 0) y) := by
  unfold caParityAlert
  refine (if_neg (by decide)).trans ?_
  have same : subAt (incF s (Reg.DRM_CNT_COUNT 2)) c = subAt s c := rfl
  simp only [same]
  cases ((subAt s c).queue ++ (subAt s c).reading).filter fun r => window.contains r.id <;> rfl

end

/-! ### The obligation -/

/-- Settles O46: memory after a command is that of the one line it may write, and each answer is the branch of readOutcome that its tags, its
lost words and its line's poison choose. -/
theorem dramCommandsAndAnswers : Obligations.DramCommandsAndAnswers := by
  refine ⟨?_, ?_⟩
  · intro s t c blocked r bank row last hc x z open_
    refine ⟨fun h => ?_, fun h hp => ?_, fun h hp hin hwf => ?_, fun hrow hhit => ⟨fun hi => ?_, fun hi => ?_⟩, fun hrow => ?_⟩
    · exact acts_idle hc (dramCommand_of_stopped (s := x) h)
    · exact acts_eq_after hc (dramCommand_of_none (s := x) h hp)
    · have hz : DramWork x z := (dramWork_noteUrgency c x).trans (dramWork_noteDrain c _)
      obtain ⟨hq, hpend, hmemwf, hmem⟩ := mem_advance (c := c) (r := r) hz hin hwf
      refine ⟨_, acts_eq_same hc (dramCommand_of_some (s := x) h hp) hq hpend, hmemwf, fun a => ?_⟩
      rcases hmem with ⟨hno, hmem⟩ | ⟨⟨hw, hlen, hopen⟩, hmem⟩
      · rw [hmem, if_neg fun hn => hno ⟨hn.1, hn.2.1, hn.2.2.1⟩]
        rfl
      · rw [hmem, show x.drm.mem = s.drm.mem from rfl, sgetC_putBytes a hwf]
        by_cases ha : r.line + r.ofs ≤ a ∧ a < r.line + r.ofs + r.bytes.length
        · rw [if_pos ha, if_pos ⟨hw, hlen, hopen, ha⟩]
        · rw [if_neg ha, if_neg fun hn => ha hn.2.2.2]
    · exact acts_eq_same hc ((rowIdle_of_unused (s := x) hrow hhit).trans (if_pos hi)) rfl rfl
    · exact acts_idle hc ((rowIdle_of_unused (s := x) hrow hhit).trans (if_neg (Nat.not_le.2 hi)))
    · exact acts_idle hc (rowIdle_of_closed (s := x) hrow)
  · intro s t c r rest o port window hc x taken want
    refine ⟨fun h => acts_idle hc ?_, fun hr h23 => ?_, fun hf h => ?_, fun h hf => ?_, ?_, ?_⟩
    · unfold readData
      rw [show (subAt (arriveAt t s) c).reading = [] from h]
    · intro answers got own
      have ends (f : State → State) (h : readOutcome c r o (taken x) = f (taken x)) : answers f :=
        acts_eq_after hc ((readData_of_some (s := x) hr h23).trans (congrArg settleFences h))
      refine ⟨fun htag hl hw hofs => ⟨fun hco => ?_, fun hco hp => ?_⟩, fun htag hre hl hco hw hofs => ?_, fun htag hl hw hp => ?_,
        fun htag hl hco hw hp => ?_, fun htag hre => ?_⟩
      · exact ends (answer r own (linePoisoned s r.line)) (readOutcome_read_clean (s := taken x) htag hl hco hw hofs)
      · exact ends (fun y => answer r own false (correctable c r y)) (readOutcome_read_corrected (s := taken x) h23 hp htag hl hco hw hofs)
      · exact ends (fun y => answer r own (linePoisoned s r.line) (incF y (Reg.DRM_CNT_COUNT 2)))
          (readOutcome_read_retried (s := taken x) htag hre hl hco hw hofs)
      · exact ends (fun y => answer r (got o.lost) true (uncorrectable c r o.lost y))
          (readOutcome_read_lost (s := taken x) h23 hp htag hl hw)
      · exact ends (fun y => answer r [] false (writeLine (r.line + r.ofs) r.bytes r.poison y))
          (readOutcome_write_clean (s := taken x) htag hl hco hw hp)
      · intro lost noted
        have line := readLine_of_error (c := c) (s := taken x) htag hre
        exact ⟨fun hw => ends (fun y => answer r ((lost.drop r.ofs).take r.bytes.length) true (noted y)) (readOutcome_of_read line hw),
          fun hw => ends (fun y => answer r [] true (writeLine r.line (patchBytes lost r.ofs r.bytes) true (noted y)))
            (readOutcome_of_bad line hw)⟩
    · exact acts_eq_same hc (fencePort_of_settled (s := x) hf h) rfl rfl
    · exact acts_eq_same hc (fencePort_of_owed (s := x) h hf) rfl rfl
    · exact acts_eq_same hc (caParityAlert_of_once (s := x)) rfl rfl
    · intro hit
      exact acts_eq_after hc caParityAlert_of_repeat

end Sys2Proof.Machine
end

section
/-! SUPPORT. The DRAM controller's upkeep: refresh, temperature, trim, retraining, the patrol scrub and self-refresh (R359 to R364, R369). -/

namespace Sys2Proof.Machine

/-! ### Work over a list of units -/

/-- What each step of a walk establishes for its own unit, and every step keeps, holds of every unit of the list. -/
theorem foldl_establishes {α : Type} {f : State → α → State} {I : State → Prop} {P : α → State → Prop}
    (hI : ∀ s a, I s → I (f s a)) (hset : ∀ s a, I s → P a (f s a)) (hkeep : ∀ s a b, I s → P b s → P b (f s a)) :
    ∀ (l : List α) (s : State), I s → ∀ b, b ∈ l ∨ P b s → P b (l.foldl f s)
  | [], _, _, _, h => h.resolve_left List.not_mem_nil
  | a :: l, s, hs, b, h => by
    refine foldl_establishes hI hset hkeep l (f s a) (hI s a hs) b ?_
    rcases h with h | h
    · rcases List.mem_cons.1 h with rfl | h
      · exact .inr (hset s b hs)
      · exact .inl h
    · exact .inr (hkeep s a b hs h)

theorem mem_allSubs (b : Fin 16) : b.val ∈ allSubs := List.mem_range.2 b.isLt

theorem subAt_setSub {c b : Nat} {y : SubState} {s : State} (h : sorted 0 s.drm.subs = true) :
    subAt (setSub c y s) b = if b = c then y else subAt s b := sgetC_ssetC h c b y

theorem sorted_setSub {c : Nat} {y : SubState} {s : State} (h : sorted 0 s.drm.subs = true) :
    sorted 0 (setSub c y s).drm.subs = true := sput_sorted h (Nat.zero_le _)

/-! ### Refresh (R359) -/

section
variable {s : State} {c rank : Nat}

theorem dramRefresh_of_stopped (h : subRunning s c = false) : dramRefresh c rank s = s := if_pos (by rw [h]; rfl)

/-- A subchannel whose refresh of a rank has fallen due, with the next one's instant. -/
def refreshFallsDue (c rank : Nat) (s : State) : SubState :=
  let x := subAt s c
  let due := sgetC 0 x.refDue rank
  { x with refDue := ssetC 0 x.refDue rank ((if due = 0 then cycleOf s s.now else due) + refreshInterval s c) }

/-- A refresh that has fallen due is met by one pulled in, postponed, or issued. -/
theorem dramRefresh_of_due (h : subRunning s c = true) (hdue : sgetC 0 (subAt s c).refDue rank ≤ cycleOf s s.now) :
    dramRefresh c rank s =
      let x := subAt s c
      let y := refreshFallsDue c rank s
      let z := setSub c y s
      if 0 < sgetC 0 x.pulled rank then setSub c { y with pulled := ssetC 0 x.pulled rank (sgetC 0 x.pulled rank - 1) } z
      else if x.queue.any (fun r => urgency s r (cycleOf s s.now) == 3) ∧ sgetC 0 x.postponed rank < getF s Reg.DRM_REFRESH_CFG_POSTPONE then
        incF (setSub c { y with postponed := ssetC 0 x.postponed rank (sgetC 0 x.postponed rank + 1) } z) (Reg.DRM_CNT_COUNT 5)
      else issueRefresh c rank z :=
  (if_neg (by rw [h]; decide)).trans (if_pos hdue)

end

theorem dramWork_issueRefresh (c rank : Nat) (s : State) : DramWork s (issueRefresh c rank s) :=
  .trans (dramWork_setSub ..) (.ite (dramWork_setF ..) (.refl _))

/-! ### Trim (R362) -/

theorem trimLane_pos (s : State) (x : Lane) (m : LaneTrim) : ((trimLane s x m).pos - x.pos).natAbs ≤ 1 := by
  unfold trimLane
  dsimp only
  split
  · show (x.pos + 1 - x.pos).natAbs ≤ 1
    omega
  · split
    · show (x.pos - 1 - x.pos).natAbs ≤ 1
      omega
    · show (x.pos - x.pos).natAbs ≤ 1
      omega

/-- A period moves the lanes from i on by at most one step each, and no lane before i. -/
theorem trimLanes_pos (s : State) : ∀ (ls : List LaneTrim) (i : Nat) (m : Sparse Lane), sorted 0 m = true → ∀ j,
    ((sgetC ⟨0, false⟩ (trimLanes s i ls m).1 j).pos - (sgetC ⟨0, false⟩ m j).pos).natAbs ≤ 1 ∧
      (j < i → sgetC ⟨0, false⟩ (trimLanes s i ls m).1 j = sgetC ⟨0, false⟩ m j)
  | [], i, m, _, j => by simp [trimLanes]
  | l :: ls, i, m, hm, j => by
    have rest := trimLanes_pos s ls (i + 1) (ssetC ⟨0, false⟩ m i (trimLane s (sgetC ⟨0, false⟩ m i) l)) (sput_sorted hm (Nat.zero_le _)) j
    rw [sgetC_ssetC hm] at rest
    obtain ⟨hstep, hkeep⟩ := rest
    have goes : (trimLanes s i (l :: ls) m).1 =
        (trimLanes s (i + 1) ls (ssetC ⟨0, false⟩ m i (trimLane s (sgetC ⟨0, false⟩ m i) l))).1 := rfl
    rw [goes]
    by_cases hj : j = i
    · subst hj
      rw [hkeep (Nat.lt_succ_self j), if_pos rfl]
      exact ⟨trimLane_pos .., fun h => absurd h (Nat.lt_irrefl j)⟩
    · rw [if_neg hj] at hstep hkeep
      exact ⟨hstep, fun h => hkeep (Nat.lt_succ_of_lt h)⟩

section
variable {s : State} {c : Nat} {lanes : List LaneTrim} {osc : List Nat}

theorem trimPeriod_early (h : s.now < (subAt s c).trimAt + getF s Reg.DRM_TRIM_PERIOD_PERIOD) : trimPeriod c lanes osc s = s := if_pos h

theorem trimPeriod_off (h : (subAt s c).trimAt + getF s Reg.DRM_TRIM_PERIOD_PERIOD ≤ s.now)
    (hoff : getF s Reg.DRM_TRIM_CFG_EN = 0 ∨ subRunning s c = false) :
    trimPeriod c lanes osc s = setSub c { subAt s c with corrected := 0, trimAt := s.now } s :=
  (if_neg (Nat.not_lt.2 h)).trans (if_pos (hoff.imp_right fun h => by rw [h]; rfl))

/-- The subchannel after a period of live trim. -/
def trimPassed (c : Nat) (lanes : List LaneTrim) (osc : List Nat) (s : State) : SubState :=
  let x := subAt s c
  { x with
    lanes := (trimLanes s 0 lanes x.lanes).1, writeTrim := (writeSteps 0 osc x.writeTrim).1, corrected := 0, trimAt := s.now
    retrain := x.retrain || lanes.any (·.atEnd) ||
      lanes.any fun l => decide (getF s Reg.DRM_TRIM_CFG_RETRAIN_THR < l.early) && decide (getF s Reg.DRM_TRIM_CFG_RETRAIN_THR < l.late) }

/-- A period of live trim changes the subchannel, and otherwise reports alone. -/
theorem trimPeriod_live (h : (subAt s c).trimAt + getF s Reg.DRM_TRIM_PERIOD_PERIOD ≤ s.now) (hen : getF s Reg.DRM_TRIM_CFG_EN ≠ 0)
    (hrun : subRunning s c = true) : Signals (setSub c (trimPassed c lanes osc s) s) (trimPeriod c lanes osc s) := by
  have live : ¬ (getF s Reg.DRM_TRIM_CFG_EN = 0 ∨ !subRunning s c) := by
    rw [hrun]
    rintro (h | h)
    · exact hen h
    · cases h
  unfold trimPeriod
  rw [if_neg (Nat.not_lt.2 h), if_neg live]
  exact (signals_setF ..).trans ((signals_setF ..).trans (signals_raiseIf ..))

end

/-! ### Retraining and the patrol scrub (R363, R364, R369) -/

theorem dramWork_dramError {code : Nat} (h : (code == 6) = false) (port addr sub : Nat) (s : State) :
    DramWork s (dramError code port addr sub s) := by
  have captured (y : State) : DramWork y (captureError .drm code (if code = 1 then 1 else 2) (code == 6) sub port none y) := by
    rw [h]
    exact (notes_captureError ..).dramWork (captureError_recommend (by split <;> decide) ..)
  have first : DramWork s (setF (setF s Reg.DRM_ERR_LAST_ADDR_LO addr) Reg.DRM_ERR_LAST_ADDR_HI (addr / 4294967296)) :=
    (dramWork_setF ..).trans (dramWork_setF ..)
  exact first.trans (.trans (.trans (.trans (dramWork_setF ..) (dramWork_setF ..)) (dramWork_setF ..)) (captured _))

theorem dramWork_degrade (c : Nat) (s : State) : DramWork s (degrade c s) :=
  (dramWork_setSub ..).trans ((dramWork_setF ..).trans ((dramWork_dramError rfl ..).trans (signals_raiseEvent ..).dramWork))

section
variable {s : State} {c : Nat}

theorem retrainSub_of_state {ok : Bool} (h : getF s (Reg.DRM_SUB_STAT_STATE c) = 2) : retrainSub c ok s =
    let x := subAt s c
    let s := setSub c { x with retrain := false, corrected := 0, rows := [], lanes := if ok then [] else x.lanes
                               writeTrim := if ok then [] else x.writeTrim } s
    let s := incSatF (incF s (Reg.DRM_CNT_COUNT 6)) (Reg.DRM_SUB_TRIM_RETRAINS c)
    let s := raiseEvent 0x1C4 (setIf ok (Reg.DRM_SUB_STAT_TRIM_EDGE c) 0 s)
    if ok then setF s (Reg.DRM_SUB_STAT_STATE c) (if x.degraded then 3 else 1) else degrade c s := if_neg (Classical.not_not.2 h)

theorem retrainSub_of_other {ok : Bool} (h : getF s (Reg.DRM_SUB_STAT_STATE c) ≠ 2) : retrainSub c ok s = s := if_pos h

/-- The request by which the patrol scrub reads its line. -/
def scrubAsked (c line : Nat) (s : State) : State := (enqueue 23 false (addrOfLine s c line) 0 (List.replicate 64 0) false s).2

theorem enqueue_regs (port : Nat) (write : Bool) (a ofs : Nat) (bs : List Byte) (poison : Bool) (s : State) :
    (enqueue port write a ofs bs poison s).2.regs = s.regs := by
  unfold enqueue
  dsimp only
  obtain ⟨drm, h, -, -⟩ := admitWaiting_eq (setDram { s.drm with
    nextId := s.drm.nextId + 1
    waiting := s.drm.waiting ++ [⟨s.drm.nextId, port, write, a / 64 * 64, ofs, bs, poison, cycleOf s s.now, false⟩] } s)
  rw [h]
  rfl

theorem scrubAsked_regs (c line : Nat) (s : State) : (scrubAsked c line s).regs = s.regs := enqueue_regs ..

theorem patrolScrub_of_idle {ecs : Nat} (h : subRunning s c = false ∨ s.now < (subAt s c).scrubDue) : patrolScrub c ecs s = s :=
  if_pos (h.imp_left fun h => by rw [h]; rfl)

theorem patrolScrub_of_due {ecs : Nat} (hrun : subRunning s c = true) (hdue : (subAt s c).scrubDue ≤ s.now) : patrolScrub c ecs s =
    let x := subAt s c
    let z := scrubAsked c x.scrubLine s
    let next := if x.scrubLine + 1 < subLines z then x.scrubLine + 1 else 0
    let y := setSub c { subAt z c with
      scrubLine := next, scrubDue := x.scrubDue + lineGap s c x.scrubLine, quick := x.quick && next != 0 } z
    if next = 0 then setF (incSatF y (Reg.DRM_SUB_SCRUB_PASSES c)) (Reg.DRM_SUB_SCRUB_ECS_MAX c) ecs else y := by
  refine if_neg ?_
  rw [hrun]
  rintro (h | h)
  · cases h
  · exact Nat.not_lt.2 hdue h

theorem subLines_scrubAsked {line : Nat} : subLines (scrubAsked c line s) = subLines s := by
  rw [subLines, getF_of_regs_eq (scrubAsked_regs c line s), subLines]

/-- Before its last line the scrub goes on to the next. -/
theorem patrolScrub_of_next {ecs : Nat} (hrun : subRunning s c = true) (hdue : (subAt s c).scrubDue ≤ s.now)
    (h : (subAt s c).scrubLine + 1 < subLines s) : patrolScrub c ecs s =
      let x := subAt s c
      let z := scrubAsked c x.scrubLine s
      setSub c { subAt z c with
        scrubLine := x.scrubLine + 1, scrubDue := x.scrubDue + lineGap s c x.scrubLine, quick := x.quick } z := by
  rw [patrolScrub_of_due hrun hdue]
  dsimp only
  rw [subLines_scrubAsked, if_pos h, if_neg (Nat.succ_ne_zero _), show ((subAt s c).scrubLine + 1 != 0) = true from rfl, Bool.and_true]

/-- With its last line a pass ends and is counted. -/
theorem patrolScrub_of_last {ecs : Nat} (hrun : subRunning s c = true) (hdue : (subAt s c).scrubDue ≤ s.now)
    (h : subLines s ≤ (subAt s c).scrubLine + 1) : patrolScrub c ecs s =
      let x := subAt s c
      let z := scrubAsked c x.scrubLine s
      setF (incSatF (setSub c { subAt z c with
          scrubLine := 0, scrubDue := x.scrubDue + lineGap s c x.scrubLine, quick := false } z)
        (Reg.DRM_SUB_SCRUB_PASSES c)) (Reg.DRM_SUB_SCRUB_ECS_MAX c) ecs := by
  rw [patrolScrub_of_due hrun hdue]
  dsimp only
  rw [subLines_scrubAsked, if_neg (Nat.not_lt.2 h), if_pos rfl, show ((0 : Nat) != 0) = false from rfl, Bool.and_false]

end

/-! ### Self-refresh (R360) -/

/-- Registers and subchannels in canonical form. -/
def DramFormed (s : State) : Prop := swf resetWord s.regs = true ∧ sorted 0 s.drm.subs = true

theorem getF_state_of_other {b c v : Nat} {s : State} (hs : swf resetWord s.regs = true) (h : b ≠ c) :
    getF (setF s (Reg.DRM_SUB_STAT_STATE c) v) (Reg.DRM_SUB_STAT_STATE b) = getF s (Reg.DRM_SUB_STAT_STATE b) :=
  getF_setF_of_addr_ne hs (by simp only [Reg.DRM_SUB_STAT_STATE]; omega)

theorem getF_state_self {c v : Nat} {s : State} (hs : swf resetWord s.regs = true) (h : v < 8) :
    getF (setF s (Reg.DRM_SUB_STAT_STATE c) v) (Reg.DRM_SUB_STAT_STATE c) = v :=
  (getF_setF_self (f := Reg.DRM_SUB_STAT_STATE c) hs (show 0 ≤ 2 by decide) (show 2 < 32 by decide)).trans (Nat.mod_eq_of_lt h)

/-- A subchannel that is in self-refresh with no row open. -/
def Asleep (b : Nat) (s : State) : Prop := getF s (Reg.DRM_SUB_STAT_STATE b) = 4 ∧ (subAt s b).rows = []

theorem asleep_subSleeps {c : Nat} {s : State} (h : DramFormed s) : Asleep c (subSleeps s c) :=
  ⟨getF_state_self (s := setSub c { subAt s c with rows := [], postponed := [], pulled := [], refDue := [] } s) h.1 (by decide),
    congrArg SubState.rows ((subAt_setSub h.2).trans (if_pos rfl))⟩

theorem asleep_subSleeps_of_other {b c : Nat} {s : State} (h : DramFormed s) (hbc : b ≠ c) (hb : Asleep b s) : Asleep b (subSleeps s c) :=
  ⟨(getF_state_of_other (s := setSub c { subAt s c with rows := [], postponed := [], pulled := [], refDue := [] } s) h.1 hbc).trans hb.1,
    (congrArg SubState.rows ((subAt_setSub h.2).trans (if_neg hbc))).trans hb.2⟩

theorem dramFormed_subSleeps {c : Nat} {s : State} (h : DramFormed s) : DramFormed (subSleeps s c) :=
  ⟨setF_swf (s := setSub c { subAt s c with rows := [], postponed := [], pulled := [], refDue := [] } s) h.1, sorted_setSub h.2⟩

/-- Every subchannel that is put to sleep is asleep. -/
theorem subSleeps_all {s : State} (h : DramFormed s) (b : Fin 16) : Asleep b (allSubs.foldl subSleeps s) :=
  foldl_establishes (I := DramFormed) (P := Asleep) (fun _ _ => dramFormed_subSleeps) (fun _ _ => asleep_subSleeps)
    (fun _ c b hz hb => (Classical.em (b = c)).elim (fun h => h ▸ asleep_subSleeps hz) fun h => asleep_subSleeps_of_other hz h hb)
    allSubs s h b (.inl (mem_allSubs b))

/-- Sleep changes registers and the subchannels alone. -/
theorem subSleeps_frame (l : List Nat) (s : State) :
    ∃ regs subs, l.foldl subSleeps s = { s with regs := regs, drm := { s.drm with subs := subs } } := by
  refine List.foldlRecOn (motive := fun z => ∃ regs subs, z = { s with regs := regs, drm := { s.drm with subs := subs } }) l subSleeps
    ⟨s.regs, s.drm.subs, rfl⟩ fun z hz c _ => ?_
  obtain ⟨regs, subs, rfl⟩ := hz
  exact ⟨_, _, rfl⟩

/-- One subchannel leaves self-refresh. -/
def subWakes (failed : List Nat) (s : State) (c : Nat) : State :=
  if getF s (Reg.DRM_SUB_STAT_STATE c) ≠ 4 then s
  else if failed.contains c then degrade c s
  else setF s (Reg.DRM_SUB_STAT_STATE c) (if (subAt s c).degraded then 3 else 1)

theorem selfRefreshExit_eq (failed : List Nat) (s : State) : selfRefreshExit failed s =
    (let z := allSubs.foldl (subWakes failed) s
     admitWaiting (setDram { z.drm with accepting := true } z)) := rfl

theorem admitWaiting_of_none {s : State} (h : s.drm.waiting = []) : admitWaiting s = s := by
  unfold admitWaiting
  simp only [h, List.foldl_nil]
  rw [← h]
  rfl

theorem dramWork_subWakes (failed : List Nat) (s : State) (c : Nat) : DramWork s (subWakes failed s c) :=
  .ite (.refl s) (.ite (dramWork_degrade c s) (dramWork_setF ..))

theorem subWakes_frame (l : List Nat) (s : State) : ∃ regs, l.foldl (subWakes []) s = { s with regs := regs } := by
  refine List.foldlRecOn (motive := fun z => ∃ regs, z = { s with regs := regs }) l (subWakes []) ⟨s.regs, rfl⟩ fun z hz c _ => ?_
  obtain ⟨regs, rfl⟩ := hz
  by_cases h : getF { s with regs := regs } (Reg.DRM_SUB_STAT_STATE c) = 4
  · exact ⟨_, (if_neg (Classical.not_not.2 h)).trans rfl⟩
  · exact ⟨regs, if_pos h⟩

/-- The state in which a subchannel wakes. -/
def wokenState (s : State) (b : Nat) : Nat := if (subAt s b).degraded then 3 else 1

theorem wokenState_lt (s : State) (b : Nat) : wokenState s b < 8 := by
  unfold wokenState
  split <;> decide

theorem subWakes_of_asleep {c : Nat} {z : State} (h : getF z (Reg.DRM_SUB_STAT_STATE c) = 4) :
    subWakes [] z c = setF z (Reg.DRM_SUB_STAT_STATE c) (wokenState z c) := (if_neg (Classical.not_not.2 h)).trans rfl

theorem subWakes_of_awake {c : Nat} {z : State} (h : getF z (Reg.DRM_SUB_STAT_STATE c) ≠ 4) : subWakes [] z c = z := if_pos h

theorem subWakes_state {b c : Nat} {z : State} (hs : swf resetWord z.regs = true) :
    getF (subWakes [] z c) (Reg.DRM_SUB_STAT_STATE b) =
      if b = c ∧ getF z (Reg.DRM_SUB_STAT_STATE b) = 4 then wokenState z b else getF z (Reg.DRM_SUB_STAT_STATE b) := by
  by_cases h : getF z (Reg.DRM_SUB_STAT_STATE c) = 4
  · rw [subWakes_of_asleep h]
    by_cases hbc : b = c
    · subst hbc
      rw [if_pos ⟨rfl, h⟩]
      exact getF_state_self hs (wokenState_lt z b)
    · rw [if_neg fun hn => hbc hn.1, getF_state_of_other hs hbc]
  · rw [subWakes_of_awake h]
    refine (if_neg ?_).symm
    rintro ⟨rfl, h4⟩
    exact h h4

/-- A walk that wakes subchannels keeps the registers' form and the subchannels, and b asleep or woken. -/
def Waking (s : State) (b : Nat) (z : State) : Prop :=
  (swf resetWord z.regs = true ∧ z.drm = s.drm) ∧
    (getF z (Reg.DRM_SUB_STAT_STATE b) = 4 ∨ getF z (Reg.DRM_SUB_STAT_STATE b) = wokenState s b)

theorem Waking.woken {s z : State} {b : Nat} (h : Waking s b z) : wokenState z b = wokenState s b := by
  unfold wokenState subAt
  rw [h.1.2]

theorem Waking.step {s z : State} {b c : Nat} (h : Waking s b z) : Waking s b (subWakes [] z c) := by
  refine ⟨?_, ?_⟩
  · by_cases h4 : getF z (Reg.DRM_SUB_STAT_STATE c) = 4
    · rw [subWakes_of_asleep h4]
      exact ⟨setF_swf h.1.1, h.1.2⟩
    · rw [subWakes_of_awake h4]
      exact h.1
  · rw [subWakes_state h.1.1, h.woken]
    split
    · exact .inr rfl
    · exact h.2

/-- Every sleeping subchannel wakes into the state that its last training gives. -/
theorem subWakes_all {s : State} (hs : swf resetWord s.regs = true) (b : Fin 16) (h4 : getF s (Reg.DRM_SUB_STAT_STATE b) = 4) :
    getF (allSubs.foldl (subWakes []) s) (Reg.DRM_SUB_STAT_STATE b) = wokenState s b := by
  refine foldl_establishes (I := Waking s b) (P := fun c z => b.val = c → getF z (Reg.DRM_SUB_STAT_STATE b) = wokenState s b)
    (fun z c => Waking.step) (fun z c hz hbc => ?_) (fun z c a hz ha hba => ?_) allSubs s ⟨⟨hs, rfl⟩, .inl h4⟩ b
    (.inl (mem_allSubs b)) rfl
  · rw [subWakes_state hz.1.1, hz.woken]
    split
    · rfl
    · next hn => exact hz.2.resolve_left fun h => hn ⟨hbc, h⟩
  · rw [subWakes_state hz.1.1, hz.woken]
    split
    · rfl
    · exact ha hba

/-! ### The obligation -/

/-- Settles O47: each upkeep command is its branch of R359 to R369, and the walks over the subchannels set each one's own state. -/
theorem dramUpkeep : Obligations.DramUpkeep := by
  intro s t ecs c rank hot lanes osc hc hs hsubs x y cyc urgent
  refine ⟨fun h => ⟨acts_idle hc (dramRefresh_of_stopped (s := x) h), acts_idle hc (patrolScrub_of_idle (s := x) (.inl h))⟩,
    fun h => acts_idle hc (trimPeriod_early (s := x) h), fun h hoff => acts_eq_same hc (trimPeriod_off (s := x) h hoff) rfl rfl,
    fun h => acts_idle hc (patrolScrub_of_idle (s := x) (.inr h)), ?_, ?_, ?_, ?_, ?_, ?_, ?_, ?_, ?_, ?_⟩
  · intro h hdue due y'
    refine ⟨fun hpull => ?_, fun hpull hissue => ?_, fun hpull hurgent hpost => ?_⟩
    · exact acts_eq_same hc ((dramRefresh_of_due (s := x) h hdue).trans (if_pos hpull)) rfl rfl
    · have work : DramWork x (issueRefresh c rank (setSub c y' x)) := (dramWork_setSub ..).trans (dramWork_issueRefresh ..)
      refine acts_eq_same hc ((dramRefresh_of_due (s := x) h hdue).trans ((if_neg (Nat.not_lt.2 (Nat.le_of_eq hpull))).trans (if_neg ?_))) work.quiet work.pending
      rintro ⟨hu, hp⟩
      rcases hissue with hi | hi
      · exact Bool.false_ne_true (hi.symm.trans hu)
      · exact Nat.not_le.2 hp hi
    · exact acts_eq_same hc ((dramRefresh_of_due (s := x) h hdue).trans ((if_neg (Nat.not_lt.2 (Nat.le_of_eq hpull))).trans (if_pos ⟨hurgent, hpost⟩))) rfl rfl
  · intro hots
    have shown : getF (hots x) (Reg.DRM_SUB_STAT_HOT c) = hot.toNat := by
      have h1 : swf resetWord (setF x (Reg.DRM_SUB_STAT_HOT c) hot.toNat).regs = true := setF_swf (s := x) hs
      refine (getF_setF_of_addr_ne h1 (by simp only [Reg.DRM_SUB_STAT_HOT, Reg.DRM_REFRESH_CFG_HOT]; omega)).trans ?_
      refine (getF_setF_self (f := Reg.DRM_SUB_STAT_HOT c) (s := x) hs (show 3 ≤ 3 by decide) (show 3 < 32 by decide)).trans ?_
      exact Nat.mod_eq_of_lt (show hot.toNat < 2 by cases hot <;> decide)
    refine ⟨shown, fun h => ?_, fun h => ?_⟩
    · exact acts_eq_same hc (if_neg (by rw [decide_eq_true_eq]; exact Classical.not_not.2 h)) rfl rfl
    · exact acts_eq_after hc (if_pos (decide_eq_true h))
  · intro hrun hen hdue hlanes
    have work := trimPeriod_live (s := x) (lanes := lanes) (osc := osc) hdue hen hrun
    have answers := acts_eq_same (f := trimPeriod c lanes osc) hc rfl (work.quiet.trans rfl)
      work.pending
    obtain ⟨_, _, _, _, _, _, _, _, heq⟩ := work
    have self : subAt (trimPeriod c lanes osc x) c = trimPassed c lanes osc x := by
      rw [heq]
      exact (subAt_setSub (s := x) hsubs).trans (if_pos rfl)
    refine ⟨_, answers, ?_, ?_, fun i => ?_, fun b hb => ?_, ?_⟩
    · rw [self]; rfl
    · rw [self]; rfl
    · rw [self]
      exact (trimLanes_pos x lanes 0 y.lanes hlanes i).1
    · rw [heq]
      exact (subAt_setSub (s := x) hsubs).trans (if_neg hb)
    · rw [heq]
      rfl
  · intro h again done
    exact ⟨acts_eq_after hc (retrainSub_of_state (s := x) h), acts_eq_after hc (retrainSub_of_state (s := x) h)⟩
  · exact fun h ok => acts_idle hc (retrainSub_of_other (s := x) h)
  · intro hrun hdue asked due
    exact ⟨fun h => acts_eq_after hc (patrolScrub_of_next (s := x) hrun hdue h),
      fun h => acts_eq_after hc (patrolScrub_of_last (s := x) hrun hdue h)⟩
  · intro h
    exact acts_eq_same hc (if_pos h) rfl rfl
  · intro h
    have sleeps : selfRefreshEntry x = allSubs.foldl subSleeps (setDram { x.drm with accepting := false } x) := if_neg (ne_via_eq h (by decide))
    have asleep := subSleeps_all (s := setDram { x.drm with accepting := false } x) ⟨hs, hsubs⟩
    obtain ⟨regs, subs, heq⟩ := subSleeps_frame allSubs (setDram { x.drm with accepting := false } x)
    rw [heq] at sleeps asleep
    exact ⟨_, acts_eq_same hc sleeps rfl rfl, rfl, rfl, asleep, rfl⟩
  · obtain ⟨regs, hwake⟩ := subWakes_frame allSubs x
    have woken := subWakes_all (s := x) hs
    rw [hwake] at woken
    obtain ⟨drm, hadmit, hmem, hacc⟩ := admitWaiting_eq (setDram { x.drm with accepting := true } { x with regs := regs })
    have exits : selfRefreshExit [] x = { x with regs := regs, drm := drm } := by
      rw [selfRefreshExit_eq, hwake]
      exact hadmit
    refine ⟨_, acts_eq_same hc exits rfl rfl, hacc, hmem, fun hwait => ?_, woken, rfl⟩
    exact (congrArg State.drm (hadmit.symm.trans (admitWaiting_of_none (s := setDram { x.drm with accepting := true } _) hwait)) :)
  · intro failed
    let z := allSubs.foldl (subWakes (failed.map (·.val))) x
    have hz : DramWork x z := dramWork_foldl (dramWork_subWakes _) allSubs x
    obtain ⟨drm, hadmit, hmem, hacc⟩ := admitWaiting_eq (setDram { z.drm with accepting := true } z)
    have exits : selfRefreshExit (failed.map (·.val)) x = { z with drm := drm } := (selfRefreshExit_eq ..).trans hadmit
    exact ⟨_, acts_eq_same hc exits hz.quiet hz.pending, hacc, hmem.trans hz.mem⟩

end Sys2Proof.Machine
end

section
/-! SUPPORT. The DMA channels' doorbells, descriptors, bursts and withdrawals (R370 to R377). -/

namespace Sys2Proof.Machine

section
variable {s : State} {c d : Nat}

/-! ### Doorbells and fetches -/

theorem dmaDoorbell_of_writable {v : Word} (h : writeCheck s d (Reg.DMA_CH_PTR_TAIL c).addr (w32 (v.toNat % 65536)) = none) :
    dmaDoorbell d c v s =
      if dmaSize s c ≤ v.toNat % 65536 then configError .dma d s else setF s (Reg.DMA_CH_PTR_TAIL c) (v.toNat % 65536) := by
  unfold dmaDoorbell
  simp only [h]

theorem dmaFetch_of_unowned {bytes : List Byte} (h : ownerOf s 9 c = none) : dmaFetch c bytes s = s := by
  unfold dmaFetch
  rw [h]

/-- Whether a channel of door d may fetch its next descriptor. -/
def dmaFetches (d c : Nat) (s : State) : Bool :=
  linkUp s d && getF s (Reg.DMA_CH_CFG_EN c) == 1 && !(chanOf s c).idle && (chanOf s c).fetched.isEmpty && (chanOf s c).cur.isNone &&
    decide (0 < dmaWaiting s c) && dmaSlotFree s c

theorem dmaFetch_of_owned {bytes : List Byte} (h : ownerOf s 9 c = some d) : dmaFetch c bytes s =
    if dmaFetches d c s then
      let z := setF s (Reg.DMA_CH_PTR_HEAD c) ((getF s (Reg.DMA_CH_PTR_HEAD c) + 1) % dmaSize s c)
      settle (deliver deliverFuel (dmaTask c) 0 s.now false (.present false false) []
        (setChan c { chanOf s c with fetched := [dmaParse bytes], reserved := (chanOf s c).reserved + 1 } z))
    else s := by
  unfold dmaFetch
  rw [h]
  rfl

/-! ### Descriptors -/

theorem dmaTransfer_of_unowned (h : ownerOf s 9 c = none) : dmaTransfer c s = s := by
  unfold dmaTransfer
  rw [h]

theorem dmaTransfer_of_idle (h : runningOf s (dmaTask c) = none) : dmaTransfer c s = s := by
  unfold dmaTransfer
  rw [h]
  cases ownerOf s 9 c <;> rfl

/-- A channel whose next descriptor begins. -/
def dmaBegun (c : Nat) (y : DmaDesc) (rest : List DmaDesc) (s : State) : State :=
  showSum c (setChan c { sumStart (chanOf s c) y with fetched := rest, cur := some y, poison := false, withdraw := false }
    (setF s (Reg.DMA_CH_DONE_BYTES c) 0))

theorem dmaTransfer_of_next {r : Release} {y : DmaDesc} {rest : List DmaDesc} (h : ownerOf s 9 c = some d)
    (hr : runningOf s (dmaTask c) = some r) (hf : (chanOf s c).fetched = y :: rest) (hcur : (chanOf s c).cur = none) :
    dmaTransfer c s =
      if descStatus s d y (chanOf s c).prevLen ≠ 0 then dmaEnd c d y (descStatus s d y (chanOf s c).prevLen) (dmaBegun c y rest s)
      else startBurst c y (setF (dmaBegun c y rest s) (Reg.DMA_CH_STAT_STATE c) 1) := by
  unfold dmaTransfer
  simp only [h, hr, hf]
  exact if_neg (by rw [hcur]; decide)

/-! ### Bursts -/

theorem dmaBurstComplete_of_unowned {h : HostRead} {lads : List Ladder} (ho : ownerOf s 9 c = none) : dmaBurstComplete c h lads s = s := by
  unfold dmaBurstComplete
  rw [ho]

theorem dmaBurstComplete_of_none {h : HostRead} {lads : List Ladder} (hb : (chanOf s c).burst = none) :
    dmaBurstComplete c h lads s = s := by
  unfold dmaBurstComplete
  rw [hb]
  cases ownerOf s 9 c with
  | none => rfl
  | some d => cases (chanOf s c).cur <;> rfl

theorem chanOf_setChan_of_burst {y : DmaChan} (h : y.burst.isSome = true) : chanOf (setChan c y s) c = y := by
  have listed : y ≠ chanInit := fun e => by
    rw [e] at h
    cases h
  unfold chanOf setChan sgetC ssetC sset
  rw [decide_eq_true listed]
  exact sget_sput_true

/-- A burst whose host read did not fail goes on from its source's data. -/
theorem dmaBurstComplete_of_some {y : DmaDesc} {b : DmaBurst} {h : HostRead} {lads : List Ladder} (ho : ownerOf s 9 c = some d)
    (hcur : (chanOf s c).cur = some y) (hb : (chanOf s c).burst = some b) (hne : ¬ (y.srcKind = 0 ∧ h = .error)) :
    dmaBurstComplete c h lads s =
      let z := dmaAdvance c (burstSource c y b h lads s)
      match (chanOf z c).burst with
      | none => z
      | some b => match b.data with
        | none => z
        | some bs => if y.dstKind = 1 ∧ (burstAcks z b).isNone then z else burstDone c d y b bs z := by
  unfold dmaBurstComplete
  rw [ho, hcur, hb]
  exact if_neg hne

section
variable {y : DmaDesc} {b : DmaBurst} (ho : ownerOf s 9 c = some d) (hcur : (chanOf s c).cur = some y) (hb : (chanOf s c).burst = some b)
  (hsrc : y.srcKind = 0)
include ho hcur hb hsrc

/-- A host read that failed ends the descriptor with HOST_ERROR. -/
theorem dmaBurstComplete_of_error {lads : List Ladder} : dmaBurstComplete c .error lads s =
    dmaEnd c d y 0x1B2 (raiseEvent 0x1E2 (captureError .dma 0x02 2 false c 0 none s)) := by
  unfold dmaBurstComplete
  simp only [ho, hcur, hb]
  exact if_pos ⟨hsrc, trivial⟩

/-- A host's data for the Undercroft completes its burst. -/
theorem dmaBurstComplete_of_data {lads : List Ladder} {bs : List Byte} (hdst : y.dstKind = 2) (hdata : b.data = none)
    (hlen : bs.length = b.len) : dmaBurstComplete c (.data bs) lads s =
      (let b' := { b with data := some bs, poison := false, ids := [] }
       burstDone c d y b' bs (setChan c { chanOf s c with burst := some b' } s)) := by
  let b' : DmaBurst := { b with data := some bs, poison := false, ids := [] }
  let z := setChan c { chanOf s c with burst := some b' } s
  have hz : chanOf z c = { chanOf s c with burst := some b' } := chanOf_setChan_of_burst rfl
  have source : burstSource c y b (.data bs) lads s = z := by
    unfold burstSource
    rw [hdata, hsrc]
    refine (if_neg (by decide)).trans ?_
    simp only [burstData, hdst, List.take_left' hlen]
    exact if_neg (by decide)
  have advance : dmaAdvance c z = z := by
    unfold dmaAdvance
    rw [hz]
    simp only [hcur]
    exact if_neg fun hn => absurd (hsrc.symm.trans hn.1) (by decide)
  have direct : ¬ (y.dstKind = 1 ∧ (burstAcks z b').isNone = true) := fun hn => absurd (hdst.symm.trans hn.1) (by decide)
  have goes := dmaBurstComplete_of_some (h := .data bs) (lads := lads) ho hcur hb fun hn => by cases hn.2
  simp only [source, advance, hz] at goes
  exact goes.trans (if_neg direct)

end

/-! ### Withdrawals -/

theorem dmaWithdraw_of_writable (h : writeCheck s d (Reg.DMA_CH_CTRL_WITHDRAW c).addr 1 = none) :
    dmaWithdraw d c false s = dmaWithdrawNow c s := by
  unfold dmaWithdraw
  simp only [Bool.false_eq_true, if_false, h]

theorem dmaWithdraw_of_clear (h : writeCheck s d (Reg.DMA_CH_CFG_EN c).addr (putBits (rget s (Reg.DMA_CH_CFG_EN c).addr) 0 0 0) = none) :
    dmaWithdraw d c true s = dmaWithdrawNow c (setF s (Reg.DMA_CH_CFG_EN c) 0) := by
  unfold dmaWithdraw
  simp only [if_true, h]

theorem dmaWithdrawNow_of_idle (h : (chanOf s c).cur = none) : dmaWithdrawNow c s = s := if_pos (by rw [h]; rfl)

theorem dmaWithdrawNow_of_busy (h : (chanOf s c).cur.isSome = true) :
    dmaWithdrawNow c s = setF (setChan c { chanOf s c with withdraw := true } s) (Reg.DMA_CH_STAT_STATE c) 2 := by
  refine if_neg fun hn => ?_
  rw [Option.isNone_iff_eq_none.1 hn] at h
  cases h

end

/-- Settles O48: each command of a channel is its branch of R370 to R377. -/
theorem dmaChannels : Obligations.DmaChannels := by
  intro s t door c v bytes r y rest b d lads hc x ch tail n fetches
  refine ⟨fun hw => ⟨fun hn => ?_, fun hn => ?_⟩, fun ho => ⟨?_, ?_, fun h => ?_⟩, fun ho => ⟨fun hf => ?_, fun hf => ?_, ?_, fun hr => ?_,
    ?_, fun hb h => ?_⟩, fun hw => ⟨fun hcur => ?_, fun hcur => ?_⟩, ?_⟩
  · exact acts_eq_same hc ((dmaDoorbell_of_writable (s := x) hw).trans (if_neg (Nat.not_le.2 hn))) rfl rfl
  · exact acts_eq_after hc ((dmaDoorbell_of_writable (s := x) hw).trans (if_pos hn))
  · exact acts_idle hc (dmaFetch_of_unowned (s := x) ho)
  · exact acts_idle hc (dmaTransfer_of_unowned (s := x) ho)
  · exact acts_idle hc (dmaBurstComplete_of_unowned (s := x) ho)
  · exact acts_idle hc ((dmaFetch_of_owned (s := x) ho).trans (if_neg (ne_via_eq hf (by decide))))
  · exact acts_eq_after hc ((dmaFetch_of_owned (s := x) ho).trans (if_pos hf))
  · intro hr hf hcur begun
    exact ⟨fun h => acts_eq_after hc ((dmaTransfer_of_next (s := x) ho hr hf hcur).trans (if_pos h)),
      fun h => acts_eq_after hc ((dmaTransfer_of_next (s := x) ho hr hf hcur).trans (if_neg (Classical.not_not.2 h)))⟩
  · exact acts_idle hc (dmaTransfer_of_idle (s := x) hr)
  · intro hcur hb hsrc
    exact ⟨acts_eq_after hc (dmaBurstComplete_of_error (s := x) ho hcur hb hsrc),
      fun bs hdst hdata hlen => acts_eq_after hc (dmaBurstComplete_of_data (s := x) ho hcur hb hsrc hdst hdata hlen)⟩
  · exact acts_idle hc (dmaBurstComplete_of_none (s := x) hb)
  · exact acts_eq_same hc ((dmaWithdraw_of_writable (s := x) hw).trans (dmaWithdrawNow_of_busy (s := x) hcur)) rfl rfl
  · exact acts_idle hc ((dmaWithdraw_of_writable (s := x) hw).trans (dmaWithdrawNow_of_idle (s := x) hcur))
  · intro en hw hcur
    exact acts_eq_same hc ((dmaWithdraw_of_clear (s := x) hw).trans (dmaWithdrawNow_of_idle (s := setF x en 0) hcur)) rfl rfl

end Sys2Proof.Machine
end

section
/-! SUPPORT. The Undercroft's channel commands, upkeep, records and replays (R378 to R406). -/

namespace Sys2Proof.Machine

/-! ### The Undercroft's clock -/

/-- Whether the Undercroft is without its own clock (R438). -/
def ucrOff (s : State) : Prop :=
  getF s Reg.CLK_PLL_STAT_UCR_ALT = 1 ∨ getF s (Reg.CLK_SW_STAT_CUR 4) = 1 ∨ getF s (Reg.CLK_SW_STAT_BUSY 4) = 1

section
variable {s : State} {t : Nat} {f g : State → State} {u : State} (hc : calm t s = true)

theorem whileUcr_of_off (h : ucrOff s) : whileUcr f s = s := if_pos h

theorem whileUcr_of_on (h : ¬ ucrOff s) : whileUcr f s = f s := if_neg h

include hc

theorem acts_ucr_of_off (h : ucrOff s) : acts t (whileUcr f) s = .next (arriveAt t s) :=
  acts_idle hc (whileUcr_of_off (s := arriveAt t s) h)

variable (hon : ¬ ucrOff s)
include hon

theorem acts_ucr_idle (h : f (arriveAt t s) = arriveAt t s) : acts t (whileUcr f) s = .next (arriveAt t s) :=
  acts_idle hc ((whileUcr_of_on (s := arriveAt t s) hon).trans h)

theorem acts_ucr_same (h : f (arriveAt t s) = u) (hq : quiet u = quiet s) (hp : u.pending = s.pending) :
    acts t (whileUcr f) s = .next u := acts_eq_same hc ((whileUcr_of_on (s := arriveAt t s) hon).trans h) hq hp

theorem acts_ucr_after (h : f (arriveAt t s) = g (arriveAt t s)) : acts t (whileUcr f) s = .next (after t g s) :=
  acts_eq_after hc ((whileUcr_of_on (s := arriveAt t s) hon).trans h)

end

/-! ### Channel commands (R378 to R382, R387, R406) -/

theorem pkgOf_setPkg {k : Nat} {p : UcrPkg} {s : State} (h : sorted 0 s.ucr.pkgs = true) : pkgOf (setPkg k p s) k = p :=
  (sgetC_ssetC h k k p).trans (if_pos rfl)

section
variable {s : State} {k : Nat}

theorem ucrRead_of_busy {p : Nat} {l : Ladder} (h : (sgetC none (pkgOf s k).busy (p % 16)).isSome = true) : ucrRead k p l s = s := if_pos h

theorem ucrRead_of_idle {p : Nat} {l : Ladder} (h : sgetC none (pkgOf s k).busy (p % 16) = none) : ucrRead k p l s =
    (let got := readPhys k p l s
     note k (lineImage { lineAt (pkgOf s k) p with data := got.1.1, poison := got.1.2.1 }) got.2) := if_neg (by rw [h]; decide)

theorem ucrProg_of_idle (h : (pkgOf s k).faulted = true ∨
    ((pkgOf s k).queue.find? fun g => (sgetC none (pkgOf s k).busy (g.line % 16)).isNone) = none) : ucrProg k s = s := by
  by_cases hf : (pkgOf s k).faulted = true
  · exact if_pos hf
  · refine (if_neg hf).trans ?_
    rw [h.resolve_left hf]

theorem ucrProg_of_some {g : UcrProg} (hf : (pkgOf s k).faulted = false)
    (h : ((pkgOf s k).queue.find? fun g => (sgetC none (pkgOf s k).busy (g.line % 16)).isNone) = some g) : ucrProg k s =
      setPkg k { pkgOf s k with
        queue := (pkgOf s k).queue.erase g, busy := ssetC none (pkgOf s k).busy (g.line % 16) (some g) }
        (issueFrame k 2 g.line 0 (lineImage (lineAt (pkgOf s k) g.line)) s) := by
  refine (if_neg (ne_via_eq hf (by decide))).trans ?_
  rw [h]

/-- The frame and the answer of a STATUS whose bank holds a program. -/
def statusShown (k bank : Nat) (g : UcrProg) (busy fail : Bool) (s : State) : State :=
  note k (leBytes 4 (busy.toNat + 2 * fail.toNat) ++ leBytes 4 (if fail then g.line else 0)) (issueFrame k 3 bank 0 [] s)

theorem ucrStatus_of_none {bank : Nat} {busy fail : Bool} (h : sgetC none (pkgOf s k).busy bank = none) :
    ucrStatus k bank busy fail s = note k (List.replicate 8 0) (issueFrame k 3 bank 0 [] s) := by
  have h' : sgetC none (pkgOf (issueFrame k 3 bank 0 [] s) k).busy bank = none := h
  unfold ucrStatus
  dsimp only
  rw [h']
  rfl

theorem ucrStatus_of_some {bank : Nat} {busy fail : Bool} {g : UcrProg} (h : sgetC none (pkgOf s k).busy bank = some g) :
    ucrStatus k bank busy fail s =
      let z := statusShown k bank g busy fail s
      if busy then z
      else
        let z := setPkg k { pkgOf s k with busy := ssetC none (pkgOf s k).busy bank none } z
        if fail then programFailed k g z else z := by
  have h' : sgetC none (pkgOf (issueFrame k 3 bank 0 [] s) k).busy bank = some g := h
  unfold ucrStatus
  dsimp only
  rw [h']
  rfl

theorem programFailed_of_first {g : UcrProg} (h : g.retried = false) :
    programFailed k g s = setPkg k { pkgOf s k with queue := ⟨g.line, true⟩ :: (pkgOf s k).queue } s := if_pos (by rw [h]; rfl)

theorem programFailed_of_second {g : UcrProg} (h : g.retried = true) (hk : inKeep s = false) :
    programFailed k g s = spareLine k g.line s :=
  (if_neg (by rw [h]; decide)).trans (if_neg (ne_via_eq hk (by decide)))

theorem packageTimeout_of_faulted (h : (pkgOf s k).faulted = true) : packageTimeout k s = s := if_pos h

theorem packageTimeout_of_working (h : (pkgOf s k).faulted = false) : packageTimeout k s = faultPackage k s :=
  if_neg (ne_via_eq h (by decide))

end

/-- Settles O49: without its clock the Undercroft answers nothing, and with it each channel command is its branch of R379 to R406. -/
theorem undercroftChannel : Obligations.UndercroftChannel := by
  intro s t line k bank reg value lad rest g busy fail hc hpkgs x y frame off
  refine ⟨fun h => ⟨acts_ucr_of_off hc h, acts_ucr_of_off hc h, acts_ucr_of_off hc h, acts_ucr_of_off hc h, acts_ucr_of_off hc h,
    acts_ucr_of_off hc h, acts_ucr_of_off hc h, fun _ => acts_ucr_of_off hc h⟩, fun hon => ?_⟩
  refine ⟨fun h => ?_, fun h => ?_, fun hf h => ?_, fun h => ?_, ?_⟩
  · exact acts_ucr_idle hc hon (ucrRead_of_busy (s := x) h)
  · exact acts_ucr_after hc hon (ucrRead_of_idle (s := x) h)
  · exact acts_ucr_same hc hon (ucrProg_of_some (s := x) hf h) rfl rfl
  · exact acts_ucr_idle hc hon (ucrProg_of_idle (s := x) h)
  · intro sent x3
    refine ⟨fun h => ?_, fun h => ?_, ?_, ?_, ?_, ⟨?_, ?_⟩, fun h => ?_, fun h => ?_⟩
    · exact acts_ucr_same hc hon (ucrStatus_of_none (s := x) h) rfl rfl
    · intro status freed
      have shown := ucrStatus_of_some (busy := busy) (fail := fail) (s := x) h
      have formed : sorted 0 (statusShown k bank g busy fail x).ucr.pkgs = true := hpkgs
      refine ⟨fun hb => ?_, fun hb hf => ?_, fun hb hf hr => ?_, fun hb hf hr hk => ?_⟩
      · exact acts_ucr_same hc hon (shown.trans (if_pos hb)) rfl rfl
      · exact acts_ucr_same hc hon (shown.trans ((if_neg (ne_via_eq hb (by decide))).trans (if_neg (ne_via_eq hf (by decide))))) rfl rfl
      · refine acts_ucr_same hc hon (shown.trans ((if_neg (ne_via_eq hb (by decide))).trans ((if_pos hf).trans
          ((programFailed_of_first hr).trans ?_)))) rfl rfl
        rw [pkgOf_setPkg formed]
        rfl
      · exact acts_ucr_after hc hon (shown.trans ((if_neg (ne_via_eq hb (by decide))).trans ((if_pos hf).trans
          (programFailed_of_second hr hk))))
    · exact acts_ucr_same hc hon rfl rfl rfl
    · exact acts_ucr_same hc hon rfl rfl rfl
    · exact acts_ucr_same hc hon rfl rfl rfl
    · exact acts_ucr_same hc hon rfl rfl rfl
    · exact acts_ucr_after hc hon rfl
    · exact acts_ucr_idle hc hon (packageTimeout_of_faulted (s := x) h)
    · exact acts_ucr_after hc hon (packageTimeout_of_working (s := x) h)

/-! ### Upkeep (R385 to R395) -/

section
variable {s : State} {k : Nat}

theorem gapMove_of_idle {q : Nat} (h : gapDue s k q = false) : gapMove k q s = s := if_neg (ne_via_eq h (by decide))

/-- A gap move copies the slot below the gap into it, the last one where the gap has reached the first. -/
theorem gapMove_of_due {q : Nat} (h : gapDue s k q = true) : gapMove k q s =
    (let gap := sgetC regionLines (pkgOf s k).gap q
     let z := copySlot k q (if gap = 0 then regionLines else gap - 1) gap (incF s (Reg.UCR_CNT_COUNT 7))
     let p := pkgOf z k
     setPkg k { p with
       gap := ssetC regionLines p.gap q (if gap = 0 then regionLines else gap - 1), sinceGap := ssetC 0 p.sinceGap q 0
       start := if gap = 0 then ssetC 0 p.start q ((sgetC 0 p.start q + 1) % regionLines) else p.start } z) := by
  refine (if_pos h).trans ?_
  unfold moveGap
  by_cases hg : sgetC regionLines (pkgOf s k).gap q = 0
  · simp only [if_pos hg]
    rw [hg]
  · simp only [if_neg hg]

theorem hotMove_of_idle {m : Nat} (h : hotDue s k m = false) : hotMove k m s = s := if_neg (ne_via_eq h (by decide))

theorem hotMove_of_due {m : Nat} (h : hotDue s k m = true) : hotMove k m s = moveHot k m s := if_pos h

theorem checkpointDue_early (h : s.now < (pkgOf s k).savedAt + 141120000) : checkpointDue k s = s := if_pos h

theorem checkpointDue_late (h : (pkgOf s k).savedAt + 141120000 ≤ s.now) :
    checkpointDue k s = setPkg k { pkgOf s k with saved := (pkgOf s k).wear, savedAt := s.now } s := if_neg (Nat.not_lt.2 h)

theorem refreshScrub_early {l : Ladder} (h : s.now < (pkgOf s k).scrubDue) : refreshScrub k l s = s := if_pos h

/-- The scrubber has taken its line, and its next one is due. -/
def scrubPassed (k : Nat) (s : State) : State :=
  let y := pkgOf s k
  setPkg k { y with
    scrubAt := if y.scrubAt + 1 < pkgRegions s * regionLines then y.scrubAt + 1 else 0, scrubDue := y.scrubDue + scrubGap s y.scrubAt } s

theorem refreshScrub_late {l : Ladder} (h : (pkgOf s k).scrubDue ≤ s.now) : refreshScrub k l s =
    if (pkgOf s k).faulted then scrubPassed k s
    else scrubLineNow k (pkgOf s k).scrubAt (lineAt (pkgOf s k) (pkgOf s k).scrubAt) l (scrubPassed k s) := if_neg (Nat.not_lt.2 h)

theorem calibrationPeriod_early (h : s.now < (pkgOf s k).calAt + getF s Reg.UCR_CAL_PERIOD_PERIOD) : calibrationPeriod k s = s := if_pos h

theorem calibrationPeriod_late (h : (pkgOf s k).calAt + getF s Reg.UCR_CAL_PERIOD_PERIOD ≤ s.now) : calibrationPeriod k s =
    (let y := pkgOf s k
     let thr := getF s Reg.UCR_CAL_CFG_CAL_THR
     let z := setPkg k { y with calAt := s.now } s
     if y.eMinus + thr < y.eZero ∧ y.eMinus ≤ y.ePlus then moveRef k (-1) z
     else if y.ePlus + thr < y.eZero then moveRef k 1 z
     else moveRef k 0 z) := if_neg (Nat.not_lt.2 h)

/-! ### Records and replays (R397, R403) -/

variable {r : Release}

theorem recordRelease_of_other {n : Nat} (hr : runningOf s (recordTaskNo n) = some r) (hx : r.exit = none)
    (ht : ((setsToStore s r.instant).any fun z => z.recs.any trustOpen) = false) (ho : otherRecordsDone s n r.flight = false) :
    recordRelease n s = setExit (recordTaskNo n) 0 s := by
  unfold recordRelease
  rw [hr]
  refine (if_neg ?_).trans (if_pos (by rw [ho]; rfl))
  rw [hx, ht]
  decide

/-- The last record task of a flight stores the flight's sets. -/
theorem recordRelease_of_last {n : Nat} (hr : runningOf s (recordTaskNo n) = some r) (hx : r.exit = none)
    (ht : ((setsToStore s r.instant).any fun z => z.recs.any trustOpen) = false) (ho : otherRecordsDone s n r.flight = true) :
    recordRelease n s =
      (let sets := setsToStore s r.instant
       let st := stageSets s sets
       let z := if archiveUp s then storeStaged r.flight (stageRecs st s) else addF s (Reg.UCR_CNT_COUNT 1) st.length
       retireSets (setExit (recordTaskNo n) 0 (markStored sets z))) := by
  unfold recordRelease
  rw [hr]
  refine (if_neg ?_).trans (if_neg (by rw [ho]; decide))
  rw [hx, ht]
  decide

theorem replayClock_frame (s : State) : ∃ regs, replayClock s = { s with regs := regs } := by
  refine List.foldlRecOn (motive := fun z : State => ∃ regs, z = { s with regs := regs }) s.ucr.replays _ ⟨s.regs, rfl⟩ fun z hz e _ => ?_
  obtain ⟨regs, rfl⟩ := hz
  cases e.2 <;> exact ⟨_, rfl⟩

theorem replayTask_of_running {lads : List Ladder} (hr : runningOf s (22348 + k) = some r) (hx : r.exit = none) :
    replayTask k lads s = setExit (22348 + k) 0 (match replayOf s k with
      | some play => replayWork k play (r.instant + flightLen s) lads (replayClock s)
      | none => replayClock s) := by
  obtain ⟨regs, hz⟩ := replayClock_frame s
  unfold replayTask
  rw [hr]
  refine (if_neg (by rw [hx]; decide)).trans ?_
  rw [hz]
  rfl

end

/-- Settles O50: each upkeep command waits for its instant and then does its move, and the record and replay tasks do theirs for their running
release. -/
theorem undercroftUpkeep : Obligations.UndercroftUpkeep := by
  intro s t line region k n lad lads r play hc hk x off
  refine ⟨fun h => ⟨acts_ucr_of_off hc h, acts_ucr_of_off hc h, acts_ucr_of_off hc h, acts_ucr_of_off hc h, acts_ucr_of_off hc h,
    acts_ucr_of_off hc h, acts_ucr_of_off hc h⟩, fun hon => ?_⟩
  intro y thr
  refine ⟨fun h => ?_, fun h => ?_, fun h => ?_, fun h => ?_, fun h => ?_, fun h => ?_, fun h => ?_, ?_, fun h => ?_, fun h => ?_,
    fun hr hx ht => ⟨fun ho => ?_, fun ho => ?_⟩, fun hr hx => ⟨fun hp => ?_, fun hp => ?_⟩⟩
  · exact acts_ucr_idle hc hon (gapMove_of_idle (s := x) h)
  · exact acts_ucr_after hc hon (gapMove_of_due (s := x) h)
  · exact acts_ucr_idle hc hon (hotMove_of_idle (s := x) h)
  · exact acts_ucr_after hc hon (hotMove_of_due (s := x) h)
  · exact acts_ucr_idle hc hon (checkpointDue_early (s := x) h)
  · exact acts_ucr_same hc hon (checkpointDue_late (s := x) h) rfl rfl
  · exact acts_ucr_idle hc hon (refreshScrub_early (s := x) h)
  · intro next
    exact ⟨fun h hf => acts_ucr_same hc hon ((refreshScrub_late (s := x) h).trans (if_pos hf)) rfl rfl,
      fun h hf => acts_ucr_after hc hon ((refreshScrub_late (s := x) h).trans (if_neg (ne_via_eq hf (by decide))))⟩
  · exact acts_ucr_idle hc hon (calibrationPeriod_early (s := x) h)
  · intro moves
    have late := calibrationPeriod_late (s := x) h
    refine ⟨fun h1 h2 => ?_, fun h1 h2 => ?_, fun h1 h2 => ?_⟩
    · exact acts_ucr_after hc hon (late.trans (if_pos ⟨h1, h2⟩))
    · exact acts_ucr_after hc hon (late.trans ((if_neg fun hn => Nat.not_lt.2 hn.2 h2).trans (if_pos h1)))
    · exact acts_ucr_after hc hon (late.trans ((if_neg fun hn => Nat.not_lt.2 h1 hn.1).trans (if_neg (Nat.not_lt.2 h2))))
  · exact acts_ucr_after hc hon (asRelease_congr (s := x) hk hr (recordRelease_of_other (s := issuedBy r x) hr hx ht ho))
  · exact acts_ucr_after hc hon (asRelease_congr (s := x) hk hr (recordRelease_of_last (s := issuedBy r x) hr hx ht ho))
  · refine acts_ucr_after hc hon (asRelease_congr (s := x) hk hr ((replayTask_of_running (s := issuedBy r x) hr hx).trans ?_))
    rw [show replayOf (issuedBy r x) k = none from hp]
  · refine acts_ucr_after hc hon (asRelease_congr (s := x) hk hr ((replayTask_of_running (s := issuedBy r x) hr hx).trans ?_))
    rw [show replayOf (issuedBy r x) k = some play from hp]
    rfl

end Sys2Proof.Machine
end

section
/-! SUPPORT. The Newel link's training, its loss and its flits (R407 to R410), and a DIGEST that waits (R420). -/

namespace Sys2Proof.Machine

/-! ### Commands of a link that is up -/

section
variable {s : State} {t : Nat} {f g : State → State} {u : State} (hc : calm t s = true)

theorem whileUp_of_down (h : s.twin.linkUp = false) : whileUp f s = s := if_neg (ne_via_eq h (by decide))

theorem whileUp_of_up (h : s.twin.linkUp = true) : whileUp f s = f s := if_pos h

include hc

theorem acts_up_of_down (h : s.twin.linkUp = false) : acts t (whileUp f) s = .next (arriveAt t s) :=
  acts_idle hc (whileUp_of_down (s := arriveAt t s) h)

variable (hup : s.twin.linkUp = true)
include hup

theorem acts_up_idle (h : f (arriveAt t s) = arriveAt t s) : acts t (whileUp f) s = .next (arriveAt t s) :=
  acts_idle hc ((whileUp_of_up (s := arriveAt t s) hup).trans h)

theorem acts_up_same (h : f (arriveAt t s) = u) (hq : quiet u = quiet s) (hp : u.pending = s.pending) :
    acts t (whileUp f) s = .next u := acts_eq_same hc ((whileUp_of_up (s := arriveAt t s) hup).trans h) hq hp

theorem acts_up_after (h : f (arriveAt t s) = g (arriveAt t s)) : acts t (whileUp f) s = .next (after t g s) :=
  acts_eq_after hc ((whileUp_of_up (s := arriveAt t s) hup).trans h)

end

/-! ### Training and loss (R407) -/

section
variable {s : State}

theorem Signals.twin_resync {s s' : State} (h : Signals s s') : s'.twin.resync = s.twin.resync := by
  obtain ⟨_, _, _, _, _, _, _, _, rfl⟩ := h
  rfl

/-- Every lane as a training leaves it. -/
def trainLanes (lanes : List (Bool × Fin 8 × BitVec 8)) (s : State) : State :=
  (List.range 8).foldl (fun z n =>
    let l := lanes.getD n (false, 0, 0)
    setF (setF (setF (setF z (Reg.NWL_LANE_STAT_STATE n) 2) (Reg.NWL_LANE_STAT_INVERTED n) l.1.toNat)
      (Reg.NWL_LANE_STAT_SOURCE n) l.2.1.val) (Reg.NWL_LANE_STAT_EYE n) l.2.2.toNat) s

theorem trainLanes_twin (lanes : List (Bool × Fin 8 × BitVec 8)) (s : State) : (trainLanes lanes s).twin = s.twin :=
  Stores.twin (stores_foldl (fun z _ => .trans (stores_setF z ..) (.trans (stores_setF ..) (.trans (stores_setF ..) (stores_setF ..)))) _ s)

theorem newelLinkUp_of_down {lanes : List (Bool × Fin 8 × BitVec 8)} (h : s.twin.linkUp = false) :
    newelLinkUp lanes s = sendHello (raiseEvent 0x220 (setTwin { s.twin with
      linkUp := true, waiting := [], txSeq := 511, rxSeq := 511, unacked := [], nakDue := false, replays := 0 } (trainLanes lanes s))) := by
  refine (if_neg (ne_via_eq h (by decide))).trans ?_
  rw [← trainLanes_twin lanes s]
  rfl

/-- The lanes train again, and what the link held is gone. -/
def dropLink (s : State) : State :=
  setTwin { s.twin with
    linkUp := false, waiting := [], unacked := [], nakDue := false, helloSent := false, helloOk := false, helloKept := none, probesOk := 0 }
    ((List.range 8).foldl (fun z n => setF z (Reg.NWL_LANE_STAT_STATE n) 1) s)

/-- What a lost link does to the pair, by its state. -/
def linkLost (s : State) : State :=
  match s.twin.state with
  | .lockstep => linkFailure s
  | .withdrawn => failAway (raiseEvent 0x221 s)
  | _ => abortResync false (raiseEvent 0x221 s)

theorem linkDown_of_up (h : s.twin.linkUp = true) : linkDown s = linkLost (dropLink s) := by
  have hk : ((List.range 8).foldl (fun z n => setF z (Reg.NWL_LANE_STAT_STATE n) 1) s).twin = s.twin :=
    Stores.twin (stores_foldl (fun z _ => stores_setF z ..) _ s)
  refine (if_neg (by rw [h]; decide)).trans ?_
  unfold dropLink
  rw [← hk]
  rfl

theorem abortResync_of_inactive {tell : Bool} (h : s.twin.resync.active = false) : abortResync tell s = s :=
  if_pos (by rw [h]; rfl)

theorem linkLost_of_lockstep (h : s.twin.state = .lockstep) : linkLost s = linkFailure s := by
  unfold linkLost
  rw [h]

theorem linkLost_of_withdrawn (h : s.twin.state = .withdrawn) : linkLost s = failAway (raiseEvent 0x221 s) := by
  unfold linkLost
  rw [h]

theorem linkLost_of_other (hl : s.twin.state ≠ .lockstep) (hw : s.twin.state ≠ .withdrawn) (ha : s.twin.resync.active = false) :
    linkLost s = raiseEvent 0x221 s := by
  have ha' : (raiseEvent 0x221 s).twin.resync.active = false :=
    (congrArg (·.active) (signals_raiseEvent s 0x221).twin_resync :).trans ha
  have hk : abortResync false (raiseEvent 0x221 s) = raiseEvent 0x221 s := abortResync_of_inactive ha'
  unfold linkLost
  split
  · exact absurd ‹_› hl
  · exact absurd ‹_› hw
  · exact hk

/-! ### Flits (R408, R409) -/

/-- The corrected symbols of a codeword, by lane. -/
def countSymbols (symbols : List Nat) (s : State) : State :=
  let z := (List.range 8).foldl (fun z n => setF z (Reg.NWL_LANE_STAT_SYMBOLS n)
    (min (fieldMax (Reg.NWL_LANE_STAT_SYMBOLS n)) (getF z (Reg.NWL_LANE_STAT_SYMBOLS n) + symbols.getD n 0))) s
  if symbols.any (0 < ·) then incF z (Reg.NWL_CNT_COUNT 1) else z

theorem countSymbols_twin (symbols : List Nat) (s : State) : (countSymbols symbols s).twin = s.twin := by
  have hk : ((List.range 8).foldl (fun z n => setF z (Reg.NWL_LANE_STAT_SYMBOLS n)
      (min (fieldMax (Reg.NWL_LANE_STAT_SYMBOLS n)) (getF z (Reg.NWL_LANE_STAT_SYMBOLS n) + symbols.getD n 0))) s).twin = s.twin :=
    Stores.twin (stores_foldl (fun z _ => stores_setF z ..) _ s)
  unfold countSymbols
  dsimp only
  split
  · exact hk
  · exact hk

variable {symbols : List Nat} {bad nak idle : Bool} {seq ack : BitVec 9} {badMsgs : Nat}

theorem flitReceive_of_down (h : s.twin.linkUp = false) : flitReceive symbols bad seq ack nak idle badMsgs s = s :=
  if_pos (by rw [h]; rfl)

theorem flitReceive_of_bad (h : s.twin.linkUp = true) : flitReceive symbols true seq ack nak idle badMsgs s = discardFlit s :=
  (if_neg (by rw [h]; decide)).trans (if_pos rfl)

theorem flitReceive_of_good (h : s.twin.linkUp = true) : flitReceive symbols false seq ack nak idle badMsgs s =
    takeFlit seq.toNat ack.toNat nak idle badMsgs (countSymbols symbols s) :=
  (if_neg (by rw [h]; decide)).trans (if_neg (by decide))

theorem discardFlit_of_due (h : s.twin.nakDue = true) : discardFlit s = s := if_pos h

theorem discardFlit_of_few (h : s.twin.nakDue = false) (hr : s.twin.replays < 64) :
    discardFlit s = setTwin { s.twin with nakDue := true, replays := s.twin.replays + 1 } s :=
  (if_neg (ne_via_eq h (by decide))).trans
    (if_neg (show ¬ 64 < s.twin.replays + 1 from by omega))

theorem discardFlit_of_many (h : s.twin.nakDue = false) (hr : 64 ≤ s.twin.replays) :
    discardFlit s = linkDown (setTwin { s.twin with nakDue := true, replays := s.twin.replays + 1 } s) :=
  (if_neg (ne_via_eq h (by decide))).trans
    (if_pos (show 64 < s.twin.replays + 1 from by omega))

theorem takeFlit_of_gap {n a : Nat} (hi : idle = false) (h : n ≠ (s.twin.rxSeq + 1) % 512) :
    takeFlit n a nak idle badMsgs s = discardFlit s := if_pos ⟨by rw [hi]; rfl, h⟩

theorem takeFlit_of_next {n a : Nat} (h : idle = true ∨ n = (s.twin.rxSeq + 1) % 512) : takeFlit n a nak idle badMsgs s =
    (let z := if idle then s else setTwin { s.twin with rxSeq := n, nakDue := false } s
     let z := ackFlits a z
     addF (if nak then replayFlits z else z) (Reg.NWL_CNT_COUNT 7) badMsgs) := by
  refine if_neg fun hn => ?_
  obtain ⟨hi, hseq⟩ := hn
  obtain h | h := h
  · rw [h] at hi
    exact absurd hi (by decide)
  · exact hseq h

end

/-- Settles O51: a link that is down trains and one that is up takes flits; the branches of the loss and of the flit's header are
taken one by one. -/
theorem newelLink : Obligations.NewelLink := by
  unfold Obligations.NewelLink
  intro s t lanes symbols seq ack nak idle badMsgs hc x lost counted
  refine ⟨fun h => acts_idle hc (if_pos h), fun h => acts_eq_after hc (newelLinkUp_of_down (s := x) h),
    fun h => ⟨acts_idle hc (if_pos (show (!x.twin.linkUp) = true from by rw [show x.twin.linkUp = false from h]; rfl)),
      fun bad => acts_idle hc (flitReceive_of_down (s := x) h)⟩, fun h => ?_⟩
  have hd : newelLinkDown x = linkLost (dropLink x) := linkDown_of_up (s := x) h
  refine ⟨fun hs => acts_eq_after hc (hd.trans (linkLost_of_lockstep (s := dropLink x) hs)),
    fun hs => acts_eq_after hc (hd.trans (linkLost_of_withdrawn (s := dropLink x) hs)),
    fun hl hw ha => acts_eq_after hc (hd.trans (linkLost_of_other (s := dropLink x) hl hw ha)),
    fun hn => acts_idle hc ((flitReceive_of_bad (s := x) h).trans (discardFlit_of_due (s := x) hn)),
    fun hn hr => acts_eq_same hc ((flitReceive_of_bad (s := x) h).trans (discardFlit_of_few (s := x) hn hr)) rfl rfl,
    fun hn hr => acts_eq_after hc ((flitReceive_of_bad (s := x) h).trans (discardFlit_of_many (s := x) hn hr)),
    fun hi hseq => ?_, fun hok => ?_⟩
  · refine acts_eq_after hc ((flitReceive_of_good (s := x) h).trans (takeFlit_of_gap hi ?_))
    rw [countSymbols_twin]
    exact hseq
  · refine acts_eq_after hc ((flitReceive_of_good (s := x) h).trans (takeFlit_of_next ?_))
    rw [countSymbols_twin]
    exact hok

/-! ### A DIGEST before its own group (R420) -/

theorem digest_of_early {y : GroupSum} {s : State} (h : (s.twin.closed.find? fun x => x.group == y.group) = none) :
    digest y s = setTwin { s.twin with partnerDigests := s.twin.partnerDigests ++ [y] } s := by
  unfold digest
  rw [h]

/-- A device with its link up that holds 64 digests of its partner. -/
def manyDigests : State :=
  { State.reset with twin := { State.reset.twin with linkUp := true, partnerDigests := List.replicate 64 ⟨0, 0, 0, 0⟩ } }

/-- Refutes O54: the model keeps every digest of the partner that comes before the own one, not the last 64: with 64 held, a DIGEST leaves
65. -/
theorem not_lockstepEnds : ¬ Obligations.LockstepEnds := by
  unfold Obligations.LockstepEnds
  intro h
  have hc : calm 0 manyDigests = true := by decide
  have claim := (h manyDigests 0 0 0 ⟨0, 0, 0, 0⟩ ⟨0, 0, 0, 0⟩ false 0 0 0 0 (.seal 0) hc).2.1 rfl |>.1 rfl
  have model : exec (.digest 0 ⟨0, 0, 0, 0⟩) manyDigests = _ := acts_up_same hc rfl (digest_of_early rfl) rfl rfl
  have kept := Host.Outcome.next.inj (model.symm.trans claim)
  have counts := congrArg (fun s : State => s.twin.partnerDigests.length) kept
  revert counts
  decide

end Sys2Proof.Machine
end

section
/-! SUPPORT. HELLO, START, the probes and the deadline of pairing (R411 to R413). -/

namespace Sys2Proof.Machine

section
variable {s : State}

/-! ### HELLO (R411) -/

/-- Whether a device waits for its partner's HELLO. -/
def waitsHello (s : State) : Prop := s.twin.state = .pairing ∧ s.cht.step = 8 ∧ s.twin.startFlight = none

/-- Whether a partner's role completes the own one. -/
def roleFits (role : Nat) (s : State) : Bool := (isPrimary s && role == 2) || (isSecondary s && role == 1)

variable {role letter digit : Nat} {digest : List Word}

theorem hello_of_waits (h : waitsHello s) : hello role digest letter digit s = checkHello role digest letter digit s := by
  obtain ⟨hstate, hstep, hstart⟩ := h
  refine (if_neg (by omega)).trans (if_neg ?_)
  rw [hstart]
  rintro (h | h | h)
  · exact h hstate
  · exact h hstep
  · exact absurd h (by decide)

theorem hello_of_idle (h8 : 8 ≤ s.cht.step) (h : ¬ waitsHello s) : hello role digest letter digit s = s := by
  refine (if_neg (by omega)).trans (if_pos ?_)
  refine Classical.byContradiction fun hn => ?_
  obtain ⟨hstate, hstep, hstart⟩ := not_or.1 hn |>.imp_right not_or.1
  exact h ⟨Classical.not_not.1 hstate, Classical.not_not.1 hstep, Option.not_isSome_iff_eq_none.1 hstart⟩

theorem checkHello_of_digest (h : digest ≠ s.cht.loaded.pairDigest) : checkHello role digest letter digit s = refusePair 1 s := if_pos h

theorem checkHello_of_role (h : digest = s.cht.loaded.pairDigest) (hr : roleFits role s = false) :
    checkHello role digest letter digit s = refusePair 2 s :=
  (if_neg (Classical.not_not.2 h)).trans (if_pos (show (!roleFits role s) = true from by rw [hr]; rfl))

theorem checkHello_of_fits (h : digest = s.cht.loaded.pairDigest) (hr : roleFits role s = true) : checkHello role digest letter digit s =
    if letter ≠ 2 ∨ digit ≠ 1 then refusePair 3 s
    else sendProbe (sendHello (setTwin { s.twin with helloOk := true, probesOk := 0 } s)) :=
  (if_neg (Classical.not_not.2 h)).trans (if_neg (show ¬ (!roleFits role s) = true from by rw [hr]; decide))

/-! ### START and PROBE (R412, R413) -/

theorem start_of_waits {n0 : Nat} (h2 : isSecondary s = true) (hs : s.twin.state = .pairing) (h8 : s.cht.step = 8) :
    start n0 s = setTwin { s.twin with startFlight := some n0 } s := if_pos ⟨h2, hs, h8⟩

theorem probe_of_lockstep {seq t1 t2 t3 : Nat} (h : s.twin.state = .lockstep) : probe_ seq t1 (some (t2, t3)) s =
    (let off := Int.tdiv (((t2 : Int) - t1) - ((s.now : Int) - t3)) 2
     skewProbe off (setF (setF s Reg.NWL_LAT_LAT (ofSigned 16 (Int.tdiv (((t2 : Int) - t1) + ((s.now : Int) - t3)) 2)))
       Reg.NWL_SKEW_OFFSET (ofSigned 32 off))) := by
  unfold probe_
  dsimp only [setF_twin]
  rw [h]

/-! ### The deadline (R413) -/

variable {n0 : Nat}

theorem pairingDeadline_of_late (h : s.twin.startFlight = some n0) (hs : s.twin.state = .pairing) (h10 : s.cht.step < 10)
    (hn : n0 * flightLen s ≤ s.now + 141120) : pairingDeadline s =
      if isPrimary s then raiseEvent 0x045 (enterAlone (sendNewel (.withdraw 9 s.now) (setF s Reg.NWL_STAT_CAUSE 9)))
      else withdraw 9 s := by
  unfold pairingDeadline
  rw [h]
  exact if_pos ⟨hs, h10, hn⟩

theorem pairingDeadline_of_unpaired (h : s.twin.startFlight = none ∨ s.twin.state ≠ .pairing) : pairingDeadline s = s := by
  obtain h | h := h
  · unfold pairingDeadline
    rw [h]
  · unfold pairingDeadline
    split
    · exact if_neg fun hn => h hn.1
    · rfl

end

/-- Settles O52: each received message by the branch of the model that takes it. -/
theorem pairing : Obligations.Pairing := by
  unfold Obligations.Pairing
  intro s t n0 us t1 t2 t3 role digest letter digit seq hc x waits refused fits
  have checked (h : waits) := hello_of_waits (s := x) (role := role.val) (digest := digest) (letter := letter) (digit := digit) h
  refine ⟨fun h => ⟨acts_up_of_down hc h, acts_up_of_down hc h, fun a => acts_up_of_down hc h⟩, fun h => ?_, fun hf hs h10 hn => ?_,
    fun h => acts_idle hc (pairingDeadline_of_unpaired (s := x) h)⟩
  · refine ⟨fun h8 => acts_up_same hc h (if_pos h8) rfl rfl, fun h8 hw => acts_up_idle hc h (hello_of_idle (s := x) h8 hw),
      fun hw hd => acts_up_after hc h ((checked hw).trans (checkHello_of_digest (s := x) hd)),
      fun hw hd hr => acts_up_after hc h ((checked hw).trans (checkHello_of_role (s := x) hd hr)),
      fun hw hd hr hl => acts_up_after hc h
        (((checked hw).trans (checkHello_of_fits (s := x) hd hr)).trans (if_pos (Decidable.not_and_iff_or_not.1 hl))),
      fun hw hd hr hl hg => acts_up_after hc h
        (((checked hw).trans (checkHello_of_fits (s := x) hd hr)).trans (if_neg (by simp only [hl, hg]; decide))),
      fun h2 hs h8 => acts_up_after hc h (congrArg (twinStep us) (start_of_waits (s := x) h2 hs h8)),
      acts_up_after hc h rfl,
      fun hl => acts_up_after hc h (congrArg (twinStep us) (probe_of_lockstep (s := x) hl))⟩
  · have late := pairingDeadline_of_late (s := x) hf hs h10 hn
    exact ⟨fun hp => acts_eq_after hc (late.trans (if_pos hp)),
      fun hp => acts_eq_after hc (late.trans (if_neg (ne_via_eq hp (by decide))))⟩

end Sys2Proof.Machine
end

section
/-! SUPPORT. Agreement on arrivals and requests (R414 to R417, R424). -/

namespace Sys2Proof.Machine

/-! ### What a journal record changes -/

theorem signals_ringMsix (s : State) (d v : Nat) : Signals s (ringMsix d v s) := by
  unfold ringMsix
  split
  · exact .refl s
  · exact signals_sendMsix ..

theorem signals_hostWrite (s : State) (d a : Nat) (bs : List Byte) : Signals s (hostWrite d a bs s) := ⟨_, _, _, _, _, _, _, _, rfl⟩

theorem signals_journalPut (s : State) (d : Nat) (r : JournalRec) : Signals s (journalPut d r s) :=
  .trans (.trans (.trans (.trans (signals_hostWrite ..) (signals_hostWrite ..)) (signals_setF ..)) (.ite (signals_setDoor ..) (.refl _)))
    (signals_ringMsix ..)

theorem signals_journalLose (s : State) (d : Nat) (r : JournalRec) : Signals s (journalLose d r s) := by
  have counted : Signals s (incF s (Reg.DOR_JRN_DROP_COUNT d)) := signals_setF ..
  unfold journalLose
  dsimp only
  split
  · exact counted.trans (signals_setDoor ..)
  · exact counted.trans (.trans (signals_setDoor ..) (signals_raiseEvent ..))

theorem signals_journalWrite (s : State) (d : Nat) (r : JournalRec) : Signals s (journalWrite d r s) := by
  refine .ite (.refl s) (.ite (signals_journalLose ..) ?_)
  split
  · exact signals_journalPut ..
  · exact (signals_setDoor s d { doorOf s d with gap := none }).trans
      (.trans (.ite (signals_journalPut ..) (.refl _)) (.ite (signals_journalLose ..) (signals_journalPut ..)))

theorem signals_journalAdd (s : State) (d : Nat) (r : JournalRec) : Signals s (journalAdd d r s) :=
  .ite (signals_journalHold ..) (.ite (signals_journalWrite ..) (.refl s))

theorem signals_journalRequest (s : State) (d : Nat) (r : JournalRec) : Signals s (journalRequest d r s) :=
  signals_foldl (fun z j => signals_journalAdd z j r) _ s

section
variable {s : State} {c : Nat} {ids : List RecIdent}

/-! ### SUMMARY, COPY and SEAL (R414, R415) -/

theorem summary_of_new (hu : s.twin.unionFrom.isSome = true) (h : atCutoff s.twin.partnerIds c = none) : summary c ids s =
    sendCopies c (setTwin { s.twin with partnerIds := s.twin.partnerIds ++ [(c, ids)] } s) :=
  if_neg (by simp [h, Option.isSome_iff_ne_none.1 hu])

theorem summary_of_known (h : (atCutoff s.twin.partnerIds c).isSome = true) : summary c ids s = s := if_pos (.inr h)

theorem copyIn_of_open {r : ArrRec} (hu : s.twin.unionFrom.isSome = true) (h : atCutoff s.twin.sealed c = none) : copyIn c r s =
    copyToSet c { r with path := 2, port := 4 } (keepSide { r with path := 2, port := 4 } (incF s (Reg.NWL_CNT_COUNT 2))) :=
  if_neg (by simp [h, Option.isSome_iff_ne_none.1 hu])

theorem copyIn_of_sealed {r : ArrRec} (h : (atCutoff s.twin.sealed c).isSome = true) : copyIn c r s = s := if_pos (.inr h)

theorem sealIn_of_new (hu : s.twin.unionFrom.isSome = true) (h : atCutoff s.twin.partnerSeals c = none) : sealIn c ids s =
    sealBoth c (setTwin { s.twin with partnerSeals := s.twin.partnerSeals ++ [(c, ids)] } s) :=
  if_neg (by simp [h, Option.isSome_iff_ne_none.1 hu])

theorem sealTimer_of_due (hu : s.twin.unionFrom.isSome = true) (h : atCutoff s.twin.sealed c = none) (hc : c + 5000 ≤ s.now) :
    sealTimer c s =
      (let missing := ((atCutoff s.twin.partnerIds c).getD []).filter fun i => !((recsAt s c).map identOf).contains i
       let z := sendNewel (.seal c ((recsAt s c).countP fun r => r.path == 2) missing) s
       sealBoth c (setTwin { z.twin with sealed := z.twin.sealed ++ [(c, missing)] } z)) :=
  if_neg (by simp [h, Option.isSome_iff_ne_none.1 hu, Nat.not_lt.2 hc])

theorem sealTimer_of_idle (h : s.twin.unionFrom = none ∨ s.now < c + 5000 ∨ (atCutoff s.twin.sealed c).isSome = true) : sealTimer c s = s :=
  if_pos (h.imp_left fun h => by rw [h]; rfl)

/-! ### REQUEST, REQ_SEAL and COMPLETION (R417, R424) -/

theorem exchanges_of_signals {a b : State} (h : Signals a b) : exchanges b = exchanges a := by
  obtain ⟨_, _, _, _, _, _, _, _, rfl⟩ := h
  rfl

/-- A partner's request once it is journalled and counted. -/
def heardRequest (u : ReqUnit) (s : State) : State :=
  let z := u.members.foldl (fun z r => journalRequest u.door ⟨u.stamp, 1, 2, u.door, 0, r.seq, r.tag.toNat⟩ z) s
  setTwin { z.twin with received := z.twin.received + u.members.length } z

/-- Whether a request comes from before the exchange that a resynchronisation begins. -/
def earlyRequest (u : ReqUnit) (s : State) : Bool :=
  s.twin.resync.joinFlight.any fun n => decide (u.stamp + flightLen s + 4410 < n * flightLen s)

theorem request_eq (u : ReqUnit) (s : State) : request u s =
    (let z := heardRequest (fromPartner u) s
     if exchanges s ∧ !earlyRequest u s then setTwin { z.twin with inbox := z.twin.inbox ++ [fromPartner u] } z
     else if s.twin.state = .alone then placeUnit (fromPartner u) z
     else z) := by
  have journalled := signals_foldl (fun z (r : Req) => signals_journalRequest z (fromPartner u).door
    ⟨(fromPartner u).stamp, 1, 2, (fromPartner u).door, 0, r.seq, r.tag.toNat⟩) (fromPartner u).members s
  have hx : exchanges (heardRequest (fromPartner u) s) = exchanges s := (exchanges_of_signals journalled :)
  have he : earlyRequest u (heardRequest (fromPartner u) s) = earlyRequest u s := by
    obtain ⟨_, _, _, _, _, _, _, _, hz⟩ := journalled
    unfold heardRequest
    dsimp only
    rw [hz]
    rfl
  have hs : (heardRequest (fromPartner u) s).twin.state = s.twin.state := journalled.twin_state
  rw [← hx, ← he, ← hs]
  rfl

theorem reqSeal_of_empty {cut count : Nat} (hx : exchanges s = true) (h : s.twin.inbox = []) : reqSeal cut count s =
    setTwin { s.twin with received := s.twin.received - count, partnerCuts := s.twin.partnerCuts ++ [(cut, count)] } s := by
  refine (if_neg (by rw [hx]; decide)).trans ?_
  dsimp only
  rw [h]
  simp only [List.foldl_nil]

theorem completionIn_of_none {d seq status result epoch : Nat} {late : Bool} (h : (s.twin.away.find? fun e => e.1 == d && e.2.seq == seq) = none) :
    completionIn d seq status result epoch late s = s := by
  unfold completionIn
  rw [h]

theorem completionIn_of_some {d seq status result epoch : Nat} {late : Bool} {e : Nat × Req}
    (h : (s.twin.away.find? fun e => e.1 == d && e.2.seq == seq) = some e) : completionIn d seq status result epoch late s =
      complete d { e.2 with late := late } epoch status result
        (setTwin { s.twin with away := s.twin.away.filter fun x => !(x.1 == d && x.2.seq == seq) } s) := by
  unfold completionIn
  rw [h]

end

/-- Settles O53: each message by the branch of the model that takes it; what a REQUEST's journal records change leaves the exchange as it
was. -/
theorem agreement : Obligations.Agreement := by
  unfold Obligations.Agreement
  intro s t c cut count ids r u d seq status result epoch late q hc x
  refine ⟨fun h => ⟨acts_up_of_down hc h, acts_up_of_down hc h, acts_up_of_down hc h, acts_up_of_down hc h, acts_up_of_down hc h,
    acts_up_of_down hc h⟩, fun h hu => ?_, fun hu hn hd => acts_eq_after hc (sealTimer_of_due (s := x) hu hn hd),
    fun hi => acts_idle hc (sealTimer_of_idle (s := x) hi), fun h => ?_, fun h hx => ?_, fun h => ?_⟩
  · exact ⟨fun hn => acts_up_after hc h (summary_of_new (s := x) hu hn), fun hn => acts_up_idle hc h (summary_of_known (s := x) hn),
      fun hn => acts_up_after hc h (copyIn_of_open (s := x) hu hn), fun hn => acts_up_idle hc h (copyIn_of_sealed (s := x) hn),
      fun hn => acts_up_after hc h (sealIn_of_new (s := x) hu hn)⟩
  · intro v heard early
    have alone (hx : exchanges x = false ∨ early = true) : ¬ (exchanges x ∧ !earlyRequest u x) := by
      rintro ⟨hx', he⟩
      obtain hx | hx := hx
      · exact absurd (hx.symm.trans hx') (by decide)
      · rw [show earlyRequest u x = true from hx] at he
        exact absurd he (by decide)
    exact ⟨fun hx he => acts_up_after hc h ((request_eq u x).trans (if_pos ⟨hx, by rw [show earlyRequest u x = false from he]; rfl⟩)),
      fun hx hs => acts_up_after hc h ((request_eq u x).trans ((if_neg (alone hx)).trans (if_pos hs))),
      fun hx hs => acts_up_after hc h ((request_eq u x).trans ((if_neg (alone hx)).trans (if_neg hs))),
      fun hx hi => acts_up_same hc h (reqSeal_of_empty (s := x) hx hi) rfl rfl⟩
  · exact acts_up_idle hc h (if_pos (show (!exchanges x) = true from by rw [hx]; rfl))
  · intro mine
    exact ⟨fun hm => acts_up_idle hc h (completionIn_of_none (s := x) hm),
      fun hm => acts_up_same hc h (completionIn_of_some (s := x) hm) rfl rfl⟩

end Sys2Proof.Machine
end

section
/-! SUPPORT. Resynchronisation: its start, its passes, the image and its ends (R427 to R431). -/

namespace Sys2Proof.Machine

section
variable {s : State}

/-! ### The start and the ends of a copy (R427, R431) -/

theorem twinStep_of_done {us : Nat} (h : s.cht.step = 11) : twinStep us s = s := by
  refine if_neg fun hn => ?_
  have h9 := atStep_iff.1 hn.1
  omega

theorem resyncNow_of_canJoin (h : canJoin s = true) : resyncNow s = startJoin s := if_pos h

theorem resyncNow_of_not (h : canJoin s = false) : resyncNow s = s := if_neg (ne_via_eq h (by decide))

theorem autoResync_of_due {n : Nat} (hn : s.twin.withdrawnAt = some n) (ha : getF s Reg.NWL_CFG_AUTO_RESYNC = 1)
    (hs : s.twin.state = .withdrawn) (hd : n + treadsPerSecond ≤ s.now) (hj : canJoin s = true) : autoResync s = startJoin s := by
  unfold autoResync
  rw [hn]
  exact if_pos ⟨ha, hs, hd, hj⟩

theorem autoResync_of_early {n : Nat} (hn : s.twin.withdrawnAt = some n)
    (h : getF s Reg.NWL_CFG_AUTO_RESYNC ≠ 1 ∨ s.twin.state ≠ .withdrawn ∨ s.now < n + treadsPerSecond) : autoResync s = s := by
  unfold autoResync
  rw [hn]
  refine if_neg fun hd => ?_
  obtain ⟨ha, hs, hd, -⟩ := hd
  obtain h | h | h := h
  · exact h ha
  · exact h hs
  · exact absurd hd (Nat.not_le.2 h)

theorem resyncTimeout_of_none (h : s.twin.resync.joinFlight = none) : resyncTimeout s = s := by
  unfold resyncTimeout
  rw [h]

theorem resyncTimeout_of_some {n : Nat} (h : s.twin.resync.joinFlight = some n) : resyncTimeout s =
    if n * flightLen s + 1411200000 ≤ s.now then abortResync true s else s := by
  unfold resyncTimeout
  rw [h]
  rfl

/-! ### The passes of the source (R428, R429) -/

theorem passEnd_of_idle (h : s.twin.resync.active = false ∨ s.twin.resync.source = false ∨ s.twin.resync.joinFlight.isSome = true) :
    passEnd s = s := by
  refine if_pos ?_
  obtain h | h | h := h
  · exact .inl (by rw [h]; rfl)
  · exact .inr (.inl (by rw [h]; rfl))
  · exact .inr (.inr h)

theorem passEnd_of_copying (ha : s.twin.resync.active = true) (hs : s.twin.resync.source = true) (hj : s.twin.resync.joinFlight = none) :
    passEnd s =
      (let r := s.twin.resync
       let z := setF s Reg.NWL_RESYNC_DIRTY (min 0xFFFFFF r.dirty.length)
       if r.dirty.length ≤ 4096 then
         let j := flightFrom s (s.now + 141120)
         showResync (sendNewel (.join 1 j) (setTwin { s.twin with
           resync := { r with joinFlight := some j }, unionFrom := some (j * flightLen s) } z))
       else sendBlocks r.dirty (setTwin { s.twin with resync := { r with pass := (r.pass + 1) % 256, dirty := [] } } z)) :=
  if_neg (by simp [ha, hs, hj])

theorem finalPass_of_no_join (h : s.twin.resync.joinFlight = none) : finalPass s = s := by
  unfold finalPass
  dsimp only
  rw [h]

theorem finalPass_of_not_kept (h : s.twin.resync.kept = none) : finalPass s = s := by
  cases hj : s.twin.resync.joinFlight with
  | none => exact finalPass_of_no_join hj
  | some n =>
    unfold finalPass
    dsimp only
    rw [hj, h]

variable {n : Nat}

theorem finalPass_of_open (hj : s.twin.resync.joinFlight = some n)
    (h : s.stw.releases.any (fun y => decide (y.instant < n * flightLen s)) = true) : finalPass s = s := by
  cases hk : s.twin.resync.kept with
  | none => exact finalPass_of_not_kept hk
  | some v =>
    unfold finalPass
    dsimp only
    rw [hj, hk]
    exact if_pos (.inr (.inr (.inr (.inr h))))

/-- The parts of the image at J, and what the copy keeps once they are sent. -/
def sendImage (n : Nat) (v : ImageUnits) (s : State) : State :=
  let r := s.twin.resync
  let z := sendBlocks (r.dirty ++ (r.saved.map (·.1)).filter fun b => !r.dirty.contains b) s
  let parts : List ImagePart :=
    [.words (sgetC z.epoch.newest z.twin.groupEpochs n) (imageWords v),
     .releases { v.stw with releases := v.stw.releases.filter fun q => decide (n * flightLen s ≤ q.instant) } r.given,
     .waiting v.carried v.deferred, .landing v.lnd, .gallery v.gal, .decode v.dec, .hall v.hal, .encode v.enc, .cipher v.cip,
     .queues v.queues, .shaper v.shp, .modem v.modem, .ports v.ports, .complete]
  let z := parts.foldl (fun z p => sendNewel (.image p) z) z
  setTwin { z.twin with resync := { z.twin.resync with done := true, dirty := [], saved := [], kept := none, given := [] } } z

theorem finalPass_of_due {v : ImageUnits} (hj : s.twin.resync.joinFlight = some n) (hk : s.twin.resync.kept = some v)
    (ha : s.twin.resync.active = true) (hs : s.twin.resync.source = true) (hd : s.twin.resync.done = false) (hn : n * flightLen s ≤ s.now)
    (ho : s.stw.releases.any (fun y => decide (y.instant < n * flightLen s)) = false) : finalPass s = sendImage n v s := by
  unfold finalPass
  dsimp only
  rw [hj, hk]
  refine if_neg ?_
  rintro (h | h | h | h | h)
  · rw [ha] at h
    exact absurd h (by decide)
  · rw [hs] at h
    exact absurd h (by decide)
  · exact absurd (hd.symm.trans h) (by decide)
  · exact absurd hn (Nat.not_le.2 h)
  · exact absurd (ho.symm.trans h) (by decide)

/-! ### The image and JOIN on the joiner (R428 to R430) -/

theorem imageCommand_of_other {p : ImagePart} (h : s.twin.state ≠ .copying) : imageCommand p s = s :=
  (if_neg fun hn => h hn.1).trans (if_pos h)

theorem imageCommand_of_part {p : ImagePart} (h : p ≠ .complete) : imageCommand p s = imageIn p s := if_neg fun hn => h hn.2

theorem startSource_of_alone (h : s.twin.state = .alone) (ha : s.twin.resync.active = false) : startSource s =
    raiseEvent 0x227 (sendBlocks (blocksInUse s)
      (setTwin { s.twin with resync := { resyncInit with active := true, source := true } } s)) :=
  if_neg (by simp [h, ha])

theorem startSource_of_other (h : s.twin.state ≠ .alone) : startSource s = s := if_pos (.inl h)

theorem joinMessage_join {j : Nat} (h : s.twin.state = .copying) (hj : s.twin.resync.joinFlight = none) : joinMessage 1 j s =
    showResync (setTwin { s.twin with
      resync := { s.twin.resync with joinFlight := some j }, unionFrom := some (j * flightLen s) } s) :=
  if_pos ⟨h, by rw [hj]; rfl⟩

theorem joinMessage_emit {e : Nat} (h : s.twin.state = .shadowing) : joinMessage 2 e s =
    setTwin { s.twin with resync := { s.twin.resync with emitGroup := some e }, emitFrom := e * flightLen s } s := if_pos h

end

/-- Settles O55: the start, the passes, the image's parts and the ends, each by the branch of the model that makes it. -/
theorem resynchronisation : Obligations.Resynchronisation := by
  unfold Obligations.Resynchronisation
  intro s t us n value d part q bs bad hc x r joins begun
  have still : s.cht.step = 11 → twinStep us x = x := twinStep_of_done (s := x)
  refine ⟨fun hw => ⟨fun hj => ?_, fun hj hd => ?_⟩, fun hw hd => ⟨fun ha hs hn hj => ?_, fun hi => ?_⟩, fun hw => ⟨fun ha => ?_, fun ha => ?_⟩,
    fun hi => acts_idle hc (passEnd_of_idle (s := x) hi), fun ha hs hj => ?_, fun hk => acts_idle hc (finalPass_of_not_kept (s := x) hk),
    fun hj => ⟨acts_idle hc (finalPass_of_no_join (s := x) hj), acts_idle hc (resyncTimeout_of_none (s := x) hj)⟩, fun hj => ?_,
    fun hi => ?_, fun h hs => ?_, fun h ha => ?_, fun h hs hj => acts_up_after hc h (joinMessage_join (s := x) hs hj),
    fun h hs => acts_up_same hc h (joinMessage_emit (s := x) hs) rfl rfl⟩
  · exact acts_eq_after hc ((busWrite_of_writeCheck hw _).trans (congrArg (twinStep us) (resyncNow_of_canJoin (s := x) hj)))
  · exact acts_idle hc ((busWrite_of_writeCheck hw _).trans ((congrArg (twinStep us) (resyncNow_of_not (s := x) hj)).trans (still hd)))
  · exact acts_eq_after hc (congrArg (twinStep us) (autoResync_of_due (s := x) hw ha hs hn hj))
  · exact acts_idle hc ((congrArg (twinStep us) (autoResync_of_early (s := x) hw hi)).trans (still hd))
  · exact acts_idle hc ((busWrite_of_writeCheck hw _).trans (abortResync_of_inactive (s := x) ha))
  · exact acts_eq_after hc (busWrite_of_writeCheck hw _)
  · intro shown
    have copying := passEnd_of_copying (s := x) ha hs hj
    exact ⟨fun hn => acts_eq_after hc (copying.trans (if_pos hn)), fun hn => acts_eq_after hc (copying.trans (if_neg (Nat.not_le.2 hn)))⟩
  · have timed := resyncTimeout_of_some (s := x) hj
    exact ⟨fun ho => acts_idle hc (finalPass_of_open (s := x) hj ho),
      fun v hk ha hs hd hn ho => acts_eq_after hc (finalPass_of_due (s := x) hj hk ha hs hd hn ho),
      fun hn _ => acts_eq_after hc (timed.trans (if_pos hn)), fun hn => acts_idle hc (timed.trans (if_neg (Nat.not_le.2 hn)))⟩
  · obtain hi | hi := hi
    · exact acts_up_of_down hc hi
    · exact acts_idle hc ((congrArg (fun z => if x.twin.linkUp then z else x) (imageCommand_of_other (s := x) hi)).trans (ite_self x))
  · have part {p : ImagePart} {g : State → State} (hp : p ≠ .complete) (hg : imageIn p x = g x) :
        acts t (whileUp (imageCommand p)) s = .next (after t g s) :=
      acts_up_after hc h ((imageCommand_of_part hp).trans hg)
    have taken : ¬ x.twin.state ≠ .copying := Classical.not_not.2 hs
    refine ⟨part nofun (if_neg taken), part nofun (if_neg taken), ?_⟩
    intro shown
    exact ⟨fun v => part nofun (if_neg taken), fun v => part nofun (if_neg taken), fun v => part nofun (if_neg taken),
      fun v => part nofun (if_neg taken), fun v => part nofun (if_neg taken), fun v given => part nofun (if_neg taken),
      acts_up_after hc h ((if_pos ⟨hs, rfl⟩).trans (congrArg catchUp (if_neg taken)))⟩
  · exact ⟨fun hs => acts_up_after hc h (startSource_of_alone (s := x) hs ha),
      fun hs => acts_up_idle hc h (startSource_of_other (s := x) hs), acts_up_idle hc h (abortResync_of_inactive (s := x) ha)⟩

end Sys2Proof.Machine
end

section
/-! SUPPORT. Clock sources, PLLs, domain switches and the gate tree (R433 to R446). -/

namespace Sys2Proof.Machine

theorem rget_storeWord_ne {s : State} {a b : Nat} {v : Word} (hs : swf resetWord s.regs = true) (h : b ≠ a) :
    rget (storeWord a v s) b = rget s b := by
  unfold storeWord
  split
  · rfl
  · rw [rget_rset s _ _ _ hs, if_neg h]

/-! ### The source monitor (R436) -/

section
variable {s : State} {r q n : Nat} {failed : List Nat}

theorem sourceFails_setCount (hs : swf resetWord s.regs = true) : sourceFails (setF s (Reg.CLK_MON_STAT_COUNT q) n) r = sourceFails s r := by
  unfold sourceFails
  by_cases h : r = q
  · rw [h, getF_setF_of_apart (f := Reg.CLK_MON_STAT_COUNT q) (g := Reg.CLK_MON_STAT_FAIL q) hs rfl (show 0 ≤ 15 by decide)
      (show 15 < 32 by decide) (.inr (show 15 < 16 by decide))]
  · rw [getF_setF_of_addr_ne hs (by simp only [Reg.CLK_MON_STAT_FAIL, Reg.CLK_MON_STAT_COUNT]; omega)]

theorem sourceFails_setFail_ne (hs : swf resetWord s.regs = true) (h : r ≠ q) :
    sourceFails (setF s (Reg.CLK_MON_STAT_FAIL q) n) r = sourceFails s r := by
  unfold sourceFails
  rw [getF_setF_of_addr_ne hs (by simp only [Reg.CLK_MON_STAT_FAIL]; omega)]

theorem sourceFails_setFail_self (hs : swf resetWord s.regs = true) : sourceFails (setF s (Reg.CLK_MON_STAT_FAIL q) 0) q = false := by
  unfold sourceFails
  rw [getF_setF_self (f := Reg.CLK_MON_STAT_FAIL q) hs (show 16 ≤ 16 by decide) (show 16 < 32 by decide), Nat.zero_mod]
  rfl

theorem sourceWindow_of_passing (hs : swf resetWord s.regs = true) (hp : windowPasses r n = true) (h : sourceFails s r = false) :
    sourceWindow r n failed s = setF s (Reg.CLK_MON_STAT_COUNT r) n :=
  (if_neg (by rw [hp]; decide)).trans (if_pos (by rw [sourceFails_setCount hs, h]; rfl))

theorem ringWindow_of_passing (hp : windowPasses 2 n = true) :
    ringWindow n s = setF (setF s (Reg.CLK_MON_STAT_COUNT 2) n) (Reg.CLK_MON_STAT_FAIL 2) 0 := if_pos hp

theorem monitorWindow_of_passing {a b c : Nat} (hs : swf resetWord s.regs = true) (ha : windowPasses 0 a = true)
    (hb : windowPasses 1 b = true) (hc : windowPasses 2 c = true) (h0 : sourceFails s 0 = false) (h1 : sourceFails s 1 = false) :
    monitorWindow a b c failed s = setF (setF (setF (setF s (Reg.CLK_MON_STAT_COUNT 2) c)
      (Reg.CLK_MON_STAT_FAIL 2) 0) (Reg.CLK_MON_STAT_COUNT 0) a) (Reg.CLK_MON_STAT_COUNT 1) b := by
  have hs' := setF_swf (f := Reg.CLK_MON_STAT_COUNT 2) (v := c) hs
  have hs'' := setF_swf (f := Reg.CLK_MON_STAT_FAIL 2) (v := 0) hs'
  have kept (r : Nat) (hr : r ≠ 2) :
      sourceFails (setF (setF s (Reg.CLK_MON_STAT_COUNT 2) c) (Reg.CLK_MON_STAT_FAIL 2) 0) r = sourceFails s r :=
    (sourceFails_setFail_ne hs' hr).trans (sourceFails_setCount hs)
  unfold monitorWindow
  dsimp only
  rw [ringWindow_of_passing hc, if_neg (by rw [sourceFails_setFail_self hs']; decide),
    sourceWindow_of_passing hs'' ha ((kept 0 (by decide)).trans h0),
    sourceWindow_of_passing (setF_swf hs'') hb ((sourceFails_setCount hs'').trans ((kept 1 (by decide)).trans h1))]

/-! ### PLLs and switches (R433 to R438) -/

variable {p d src : Nat}

theorem pllLockLoss_of_unlocked (h : getF s Reg.CLK_PLL_STAT_LOCK / 2 ^ p % 2 = 0) : pllLockLoss p s = s := if_pos h

theorem pllLockLoss_of_locked (hs : swf resetWord s.regs = true) (h : getF s Reg.CLK_PLL_STAT_LOCK / 2 ^ p % 2 = 1)
    (hf : sourceFails s (pllSource p) = false) : pllLockLoss p s =
      pllDomain p (raiseEvent 0x023 (captureError .clk 0x02 3 true p 0 none
        (setF s Reg.CLK_PLL_STAT_LOCK (getF s Reg.CLK_PLL_STAT_LOCK - 2 ^ p)))) := by
  have kept : sourceFails (setF s Reg.CLK_PLL_STAT_LOCK (getF s Reg.CLK_PLL_STAT_LOCK - 2 ^ p)) (pllSource p) = false := by
    unfold sourceFails at hf ⊢
    rw [getF_setF_of_addr_ne hs (by simp only [Reg.CLK_MON_STAT_FAIL, Reg.CLK_PLL_STAT_LOCK]; omega)]
    exact hf
  exact (if_neg (by rw [h]; decide)).trans (congrArg (pllDomain p) (if_neg (by rw [kept]; decide)))

theorem quiet_requestSwitch (s : State) (d src : Nat) : quiet (requestSwitch d src s) = quiet s := by
  unfold requestSwitch
  split
  · rfl
  · split
    · rfl
    · split
      · rfl
      · rfl

theorem requestSwitch_pending (s : State) (d src : Nat) : (requestSwitch d src s).pending = s.pending := by
  unfold requestSwitch
  split
  · rfl
  · split
    · rfl
    · split
      · rfl
      · rfl

theorem requestSwitch_of_free {y : State} (h : sgetC none y.clk.switchTo d = none) (hc : getF y (Reg.CLK_SW_STAT_CUR d) ≠ src) :
    requestSwitch d src y = if oldClockRuns y d then switchDone d src y
      else setClk { y.clk with switchTo := ssetC none y.clk.switchTo d (some src) } (setF y (Reg.CLK_SW_STAT_BUSY d) 1) :=
  (if_neg (by rw [h]; decide)).trans (if_neg hc)

/-- The word of CLK_SEL and the word that holds the locks are two. -/
theorem getF_lock_storeWord_sel (hs : swf resetWord s.regs = true) (n : Nat) (v : Word) :
    getF (storeWord (Reg.CLK_SEL_SRC n).addr v s) Reg.CLK_PLL_STAT_LOCK = getF s Reg.CLK_PLL_STAT_LOCK := by
  rw [getF, getF, rget_storeWord_ne hs (by simp only [Reg.CLK_PLL_STAT_LOCK, Reg.CLK_SEL_SRC]; omega)]

section
variable {dst : Fin 2} (hw : writeCheck s d (Reg.CLK_SEL_SRC n).addr (BitVec.ofNat 32 dst.val) = none)
include hw

theorem clockSwitch_of_running (h : s.tim.flights = .running) : clockSwitch d n dst s = configError .clk d s := by
  unfold clockSwitch
  dsimp only
  rw [hw]
  exact if_pos h

variable (hs : swf resetWord s.regs = true) (h : s.tim.flights = .stopped)
include hs h

theorem clockSwitch_of_stopped : clockSwitch d n dst s =
    (let z := storeWord (Reg.CLK_SEL_SRC n).addr (BitVec.ofNat 32 dst.val) s
     if dst.val = 0 ∧ getF s Reg.CLK_PLL_STAT_LOCK / 2 ^ n % 2 = 0 then z else requestSwitch n dst z) := by
  unfold clockSwitch
  dsimp only
  rw [hw, getF_lock_storeWord_sel hs, Nat.mod_eq_of_lt dst.isLt]
  exact if_neg (by rw [h]; decide)

end

theorem forcedSwitch_of_none (h : sgetC none s.clk.switchTo d = none) : forcedSwitch d s = s := by
  unfold forcedSwitch
  rw [h]

theorem Signals.clk {s s' : State} (h : Signals s s') : s'.clk = s.clk := by
  obtain ⟨_, _, _, _, _, _, _, _, rfl⟩ := h
  rfl

theorem forcedSwitch_of_some (h : sgetC none s.clk.switchTo d = some src) (hn : sgetC none s.clk.switchNext d = none) :
    forcedSwitch d s = raiseEvent 0x025 (setF (switchDone d src s) (Reg.CLK_SW_STAT_FORCED d) 1) := by
  have raised := (signals_raiseEvent (setF (switchDone d src s) (Reg.CLK_SW_STAT_FORCED d) 1) 0x025).clk
  have waits : sgetC none (raiseEvent 0x025 (setF (switchDone d src s) (Reg.CLK_SW_STAT_FORCED d) 1)).clk.switchNext d = none := by
    rw [raised]
    exact hn
  unfold forcedSwitch
  rw [h]
  dsimp only
  rw [waits]

theorem clockObserve_of_writeCheck {v : Word} (hw : writeCheck s d Reg.CLK_OBS_SRC.addr v = none) : clockObserve d v s =
    { storeWord Reg.CLK_OBS_SRC.addr v s with clk := { s.clk with obsPhase := 0 } } := by
  obtain ⟨regs, hr⟩ := storeWord_eq Reg.CLK_OBS_SRC.addr v s
  unfold clockObserve
  dsimp only
  rw [hw, hr]
  rfl

/-- Whether PLL p has lost its reference or its lock. -/
def pllLost (s : State) (p : Nat) : Bool := sourceFails s 0 || getF s Reg.CLK_PLL_STAT_LOCK / 2 ^ p % 2 == 0

/-- PLL p locks to MONOSC and carries its domain again. -/
def lockMonosc (p : Nat) (alt : Fld) (s : State) : State :=
  requestSwitch p 0 (setF (setF s Reg.CLK_PLL_STAT_LOCK (getF s Reg.CLK_PLL_STAT_LOCK ||| 2 ^ p)) alt 1)

theorem pllMonoscRelock_eq (s : State) : pllMonoscRelock s =
    (let z := if pllLost s 4 then lockMonosc 4 Reg.CLK_PLL_STAT_UCR_ALT s else s
     if pllLost s 3 then selfRefreshEntry (countMissed (lockMonosc 3 Reg.CLK_PLL_STAT_DRAM_ALT z)) else z) := rfl

theorem pllLost_eq_false (hf : sourceFails s 0 = false) (h : getF s Reg.CLK_PLL_STAT_LOCK / 2 ^ p % 2 = 1) : pllLost s p = false := by
  rw [pllLost, hf, h]
  rfl

theorem pllLost_iff : pllLost s p = true ↔ sourceFails s 0 = true ∨ getF s Reg.CLK_PLL_STAT_LOCK / 2 ^ p % 2 = 0 := by
  rw [pllLost, Bool.or_eq_true, beq_iff_eq]

end

/-- Settles O56: each command by the branch of the model that takes it; the words that the monitor and a lost lock write leave the ones that
are read apart. -/
theorem clockSources : Obligations.ClockSources := by
  unfold Obligations.ClockSources
  intro s t a b c src failed p d n m dst v hc hs x lock sel
  have relocked := pllMonoscRelock_eq x
  refine ⟨acts_eq_after hc rfl,
    fun ha hb hcc h0 h1 => acts_eq_same hc (monitorWindow_of_passing (s := x) hs ha hb hcc h0 h1) rfl rfl,
    fun h => acts_idle hc (pllLockLoss_of_unlocked (s := x) h),
    fun h hf => acts_eq_after hc (pllLockLoss_of_locked (s := x) hs h hf), fun hw => ⟨fun hr => ?_, fun hr => ⟨fun h => ?_, fun h hl => ?_⟩⟩,
    fun y => requestSwitch_of_free, fun h => acts_idle hc (forcedSwitch_of_none (s := x) h),
    fun h hn => acts_eq_after hc (forcedSwitch_of_some (s := x) h hn),
    fun hw => acts_eq_same hc (clockObserve_of_writeCheck hw) ?_ ?_, fun h => ?_, fun h => ?_, fun h => ?_⟩
  · exact acts_eq_after hc (clockSwitch_of_running hw hr)
  · refine acts_eq_same hc ((clockSwitch_of_stopped hw hs hr).trans (if_neg ?_)) ?_ ?_
    · rintro ⟨h0, hl⟩
      have hl' : lock / 2 ^ n.val % 2 = 0 := hl
      omega
    · exact (quiet_requestSwitch ..).trans (stores_storeWord _ _ x).quiet
    · exact (requestSwitch_pending ..).trans (stores_storeWord _ _ x).pending
  · exact acts_eq_same hc ((clockSwitch_of_stopped hw hs hr).trans (if_pos ⟨h, hl⟩)) (stores_storeWord _ _ x).quiet
      (stores_storeWord _ _ x).pending
  · obtain ⟨regs, hr⟩ := storeWord_eq Reg.CLK_OBS_SRC.addr v x
    rw [hr]
    rfl
  · exact (stores_storeWord _ _ x).pending
  · obtain ⟨hf, h3, h4⟩ := h
    have l3 : pllLost x 3 = false := pllLost_eq_false hf h3
    have l4 : pllLost x 4 = false := pllLost_eq_false hf h4
    rw [l3, l4] at relocked
    exact acts_idle hc relocked
  · obtain ⟨hf, h3, h4⟩ := h
    have l3 : pllLost x 3 = false := pllLost_eq_false hf h3
    have l4 : pllLost x 4 = true := pllLost_iff.2 (.inr h4)
    rw [l3, l4] at relocked
    exact acts_eq_after hc relocked
  · have l3 : pllLost x 3 = true := pllLost_iff.2 h
    refine acts_eq_after hc (relocked.trans ((if_pos l3).trans ?_))
    by_cases h4 : sourceFails s 0 = true ∨ lock / 2 ^ 4 % 2 = 0
    · have l4 : pllLost x 4 = true := pllLost_iff.2 h4
      simp only [l4, h4, if_true]
      rfl
    · have l4 : pllLost x 4 = false := Bool.not_eq_true _ ▸ fun hl => h4 (pllLost_iff.1 hl)
      simp only [l4, h4, if_false]
      rfl

end Sys2Proof.Machine
end

section
/-! SUPPORT. The gate tree's requests (R441 to R445) and the power states (R447 to R451, R479, R493). -/

namespace Sys2Proof.Machine

/-! ### Gates (R441 to R443) -/

section
variable {s : State} {d n cmd : Nat} {busy : Bool}

theorem gateWrite_of_absent (hw : writeCheck s d (Reg.CLK_GATE_CMD n).addr (BitVec.ofNat 32 cmd) = none) (h : gateExists n = false) :
    gateWrite d n cmd busy s = s := by
  unfold gateWrite
  dsimp only
  rw [hw]
  exact if_pos (by rw [h]; rfl)

theorem gateWrite_open (hw : writeCheck s d (Reg.CLK_GATE_CMD n).addr 1 = none) (h : gateExists n = true) :
    gateWrite d n 1 busy s = gateOpenReq n s := by
  unfold gateWrite
  dsimp only
  rw [show BitVec.ofNat 32 1 = 1 from rfl, hw]
  exact (if_neg (by rw [h]; decide)).trans (if_pos rfl)

theorem gateWrite_close (hw : writeCheck s d (Reg.CLK_GATE_CMD n).addr 2 = none) (h : gateExists n = true) :
    gateWrite d n 2 busy s = gateCloseReq n busy s := by
  unfold gateWrite
  dsimp only
  rw [show BitVec.ofNat 32 2 = 2 from rfl, hw]
  exact (if_neg (by rw [h]; decide)).trans ((if_neg (by decide)).trans (if_pos rfl))

theorem gateOpenReq_of_closed (hp : (gatePlace n).2 ≠ 0x7F) (h : gateOpen s (gatePlace n).2 = false) :
    gateOpenReq n s = raiseEvent 0x026 (setF s (Reg.CLK_GATE_STATUS n) 3) := if_pos ⟨hp, by rw [h]; rfl⟩

/-- A gate's request is done: it is open or closed, and no close of it is held. -/
def gateSet (n open_ : Nat) (s : State) : State :=
  { setF (setF (setF s (Reg.CLK_GATE_STATUS n) 0) (Reg.CLK_GATE_HELD n) 0) (Reg.CLK_GATE_OPEN n) open_ with
    clk := { s.clk with held := s.clk.held.filter fun h => h.1 != n } }

theorem gateOpenReq_of_open (h : (gatePlace n).2 = 0x7F ∨ gateOpen s (gatePlace n).2 = true) : gateOpenReq n s = gateSet n 1 s := by
  refine if_neg ?_
  rintro ⟨hp, hc⟩
  obtain h | h := h
  · exact hp h
  · rw [h] at hc
    exact absurd hc (by decide)

section
variable (hf : ¬ (n = 0 ∨ n = 3 ∨ n = 7))
include hf

theorem gateCloseReq_of_child (h : (gateChildren n).any (gateOpen s) = true) :
    gateCloseReq n busy s = raiseEvent 0x026 (setF s (Reg.CLK_GATE_STATUS n) 2) := (if_neg hf).trans (if_pos h)

variable (hc : (gateChildren n).any (gateOpen s) = false)
include hc

theorem gateCloseReq_of_used (h : gateInUse s n = true) :
    gateCloseReq n busy s = raiseEvent 0x026 (setF s (Reg.CLK_GATE_STATUS n) 4) :=
  (if_neg hf).trans ((if_neg (ne_via_eq hc (by decide))).trans (if_pos h))

theorem gateCloseReq_of_free (h : gateInUse s n = false) : gateCloseReq n busy s =
    if busy then setClk { s.clk with held := (s.clk.held.filter fun h => h.1 != n) ++ [(n, s.now)] }
      (setF (setF s (Reg.CLK_GATE_STATUS n) 7) (Reg.CLK_GATE_HELD n) 1)
    else gateSet n 0 s :=
  (if_neg hf).trans ((if_neg (ne_via_eq hc (by decide))).trans (if_neg (ne_via_eq h (by decide))))

end

theorem gateCloseReq_of_fixed (h : n = 0 ∨ n = 3 ∨ n = 7) :
    gateCloseReq n busy s = raiseEvent 0x026 (setF s (Reg.CLK_GATE_STATUS n) 5) := if_pos h

theorem gateBusyTimeout_of_none (h : s.clk.held.any (fun h => h.1 == n) = false) : gateBusyTimeout n s = s := by
  have none_ : s.clk.held.find? (fun h => h.1 == n) = none := List.find?_eq_none.2 (List.any_eq_false.1 h)
  unfold gateBusyTimeout
  rw [none_]

theorem gateBusyTimeout_of_some {since : Nat} (h : (s.clk.held.find? fun h => h.1 == n) = some (n, since)) : gateBusyTimeout n s =
    if s.now < since + busyTreads s then s
    else raiseEvent 0x026 (setF (setF (setClk { s.clk with held := s.clk.held.filter fun h => h.1 != n } s)
      (Reg.CLK_GATE_HELD n) 0) (Reg.CLK_GATE_STATUS n) 1) := by
  unfold gateBusyTimeout
  rw [h]
  rfl

end

/-- Settles O57: each request by the branch of R441 to R443 that answers it. -/
theorem clockGates : Obligations.ClockGates := by
  unfold Obligations.ClockGates
  intro s t since d n hc x a parent fixed child forgets sets refused
  refine ⟨fun hw he => ?_, fun hw he => acts_idle hc (gateWrite_of_absent (s := x) hw he), fun hw he busy => ?_,
    fun h => acts_eq_same hc (if_pos h) rfl rfl,
    fun h => ⟨acts_idle hc (if_neg (ne_via_eq h (by decide))), acts_idle hc (gateBusyTimeout_of_none (s := x) h)⟩, fun h => ?_⟩
  · have opens := gateWrite_open (s := x) (busy := false) hw he
    exact ⟨fun hp ho => acts_eq_after hc (opens.trans (gateOpenReq_of_closed (s := x) hp ho)),
      fun ho => acts_eq_same hc (opens.trans (gateOpenReq_of_open (s := x) ho)) rfl rfl⟩
  · have closes (b : Bool) := gateWrite_close (s := x) (busy := b) hw he
    exact ⟨fun hf => acts_eq_after hc ((closes busy).trans (gateCloseReq_of_fixed (s := x) hf)),
      fun hf hch => acts_eq_after hc ((closes busy).trans (gateCloseReq_of_child (s := x) hf hch)),
      fun hf hch hu => acts_eq_after hc ((closes busy).trans (gateCloseReq_of_used (s := x) hf hch hu)),
      fun hf hch hu => ⟨acts_eq_same hc ((closes false).trans (gateCloseReq_of_free (s := x) hf hch hu)) rfl rfl,
        acts_eq_same hc ((closes true).trans (gateCloseReq_of_free (s := x) hf hch hu)) rfl rfl⟩⟩
  · have timed := gateBusyTimeout_of_some (s := x) h
    exact ⟨fun hn => acts_idle hc (timed.trans (if_pos hn)), fun hn => acts_eq_after hc (timed.trans (if_neg (Nat.not_lt.2 hn)))⟩

/-! ### Requests for a power state (R447 to R449) -/

section
variable {s : State} {d target : Nat} {failed : List Nat}

/-- The power state that PWR_CTRL.TARGET names. -/
def targetPower (target : Nat) : PowerState := if target = 0 then .run else if target = 1 then .hold else .keep

theorem powerRequest_of_writeCheck (hw : writeCheck s d Reg.PWR_CTRL_TARGET.addr (BitVec.ofNat 32 target) = none) :
    powerRequest d target failed s =
      if s.epoch.newest = 0 ∨ s.clk.power = .keep ∨ inPower s (targetPower target) then s
      else
        let s := if target ≠ 0 ∧ s.twin.state = .lockstep then withdraw 6 s else s
        if s.clk.power = .hold ∧ target = 0 then beginExit failed s else setClk { s.clk with request := some (targetPower target) } s := by
  unfold powerRequest
  dsimp only
  rw [hw]
  rfl

theorem powerRequest_of_no_epoch (hw : writeCheck s d Reg.PWR_CTRL_TARGET.addr (BitVec.ofNat 32 target) = none)
    (h : s.epoch.newest = 0) : powerRequest d target failed s = s := (powerRequest_of_writeCheck hw).trans (if_pos (.inl h))

theorem powerRequest_of_run (hw : writeCheck s d Reg.PWR_CTRL_TARGET.addr (BitVec.ofNat 32 target) = none) (he : 0 < s.epoch.newest)
    (hp : s.clk.power = .run) (ht : target ≠ 0) (hl : s.twin.state ≠ .lockstep) :
    powerRequest d target failed s = setClk { s.clk with request := some (targetPower target) } s := by
  have elsewhere : inPower s (targetPower target) = false := by
    rw [inPower, hp, targetPower, if_neg ht]
    split
    · rfl
    · rfl
  refine (powerRequest_of_writeCheck hw).trans ((if_neg ?_).trans ?_)
  · rw [hp, elsewhere]
    rintro (h | h | h)
    · omega
    · exact absurd h (by decide)
    · exact absurd h (by decide)
  · have stays : (if target ≠ 0 ∧ s.twin.state = .lockstep then withdraw 6 s else s) = s := if_neg fun h => hl h.2
    dsimp only
    rw [stays]
    exact if_neg fun h => ht h.2

theorem powerRequest_of_hold (hw : writeCheck s d Reg.PWR_CTRL_TARGET.addr (BitVec.ofNat 32 0) = none) (he : 0 < s.epoch.newest)
    (hp : s.clk.power = .hold) : powerRequest d 0 failed s = beginExit failed s := by
  refine (powerRequest_of_writeCheck hw).trans ((if_neg ?_).trans (if_pos ⟨?_, rfl⟩))
  · rw [inPower, hp]
    rintro (h | h | h)
    · omega
    · exact absurd h (by decide)
    · exact absurd h (by decide)
  · exact hp

theorem beginExit_of_failing (h : sourceFails s 0 = true ∨ sourceFails s 1 = true) :
    beginExit failed s = setClk { s.clk with request := some .run } s := if_pos (Bool.or_eq_true _ _ ▸ h)

theorem beginExit_of_sound (h0 : sourceFails s 0 = false) (h1 : sourceFails s 1 = false) : beginExit failed s =
    (let z := charterGates (selfRefreshExit failed s)
     setClk { z.clk with power := .leavingHold, request := none, resumeAt := some (nextBoundary (z.now + 141120) (flightLen z)) } z) :=
  if_neg (by rw [h0, h1]; decide)

/-! ### What follows a request -/

theorem le_nextBoundary {t p : Nat} (hp : 0 < p) : t ≤ nextBoundary t p := by
  rw [nextBoundary, if_neg (by omega)]
  have division := Nat.div_add_mod (t + p - 1) p
  have rest := Nat.mod_lt (t + p - 1) hp
  rw [Nat.mul_comm] at division
  omega

end

section
variable {s : State} {c c' : ClockUnit} (hq : quiet s = true)
include hq

theorem twinWatch_setClk : twinWatch (setClk c s) = setClk c s := by
  obtain ⟨-, -, hrec, hover, -⟩ := quiet_iff.1 hq
  have hrec' : (setClk c s).twin.recommend = false := hrec
  have kept : (if (setClk c s).twin.resync.overflow then abortResync true (setClk c s) else setClk c s) = setClk c s :=
    if_neg (ne_via_eq hover (by decide))
  calc twinWatch (setClk c s)
    _ = takeRecommend (if (setClk c s).twin.recommend then actOnTakeover (setClk c s) else setClk c s) :=
      (congrArg (fun z : State => takeRecommend (if z.twin.recommend then actOnTakeover z else z)) kept :)
    _ = takeRecommend (setClk c s) := congrArg takeRecommend (if_neg (ne_via_eq hrec (by decide)))
    _ = setClk c s := takeRecommend_quiet hrec'

theorem galWatch_setClk : galWatch (setClk c s) = setClk c s := by
  have still := galWatch_quiet hq
  unfold galWatch at still ⊢
  split
  · next hf =>
    rw [if_pos (show s.tim.flights = .stopped from hf)] at still
    obtain ⟨-, -, -, -, hdue, -⟩ := quiet_iff.1 hq
    have hnone : s.gal.due = [] := hdue.resolve_left fun h => absurd ((show s.tim.flights = .stopped from hf).symm.trans h) (by decide)
    unfold galEvents
    rw [show (setClk c s).gal.due = [] from hnone, List.foldl_nil,
      show ({ (setClk c s).gal with due := [] } : GalUnit) = (setClk c s).gal from by rw [← show (setClk c s).gal.due = [] from hnone]]
    rfl
  · rfl

/-- A request that the power transitions take to a state in which they do nothing more. -/
theorem watch_setClk (hn : powerNext (setClk c s) = setClk c' s) (hh : holdWatch (setClk c' s) = setClk c' s)
    (hl : powerNext (setClk c' s) = setClk c' s) : watch (setClk c s) = setClk c' s := by
  rw [watch, galWatch_setClk hq, twinWatch_setClk hq, hn, hh, hl, twinWatch_setClk hq]

/-- In Run, Hold and Keep are entered at a flight boundary that is yet to come (R448). -/
theorem watch_of_entering (hn : powerNext (setClk c s) = setClk c' s) (hp : c'.power = .enteringHold) {b : Nat} (hb : c'.holdAt = some b)
    (hlate : s.now < b) (hf : s.tim.flights = .running) : watch (setClk c s) = setClk c' s := by
  refine watch_setClk hq hn ?_ ?_
  · refine (if_neg (Classical.not_not.2 hp)).trans ?_
    have waits : ((setClk c' s).clk.holdAt.any fun t => decide (t ≤ (setClk c' s).now)) = false := by
      rw [show (setClk c' s).clk.holdAt = some b from hb]
      exact decide_eq_false (Nat.not_le.2 hlate)
    dsimp only
    rw [waits]
    exact if_pos (.inl hf)
  · unfold powerNext
    rw [show (setClk c' s).clk.power = .enteringHold from hp]

/-- In Hold, Run waits for the references (Table 8). -/
theorem watch_of_waiting (hp : s.clk.power = .hold) (h : sourceFails s 0 = true ∨ sourceFails s 1 = true) :
    watch (setClk { s.clk with request := some .run } s) = setClk { s.clk with request := some .run } s := by
  have waits : powerNext (setClk { s.clk with request := some .run } s) = setClk { s.clk with request := some .run } s := by
    unfold powerNext
    rw [show (setClk { s.clk with request := some .run } s).clk.power = .hold from hp,
      show (setClk { s.clk with request := some .run } s).clk.request = some .run from rfl]
    exact if_pos (Bool.or_eq_true _ _ ▸ h)
  exact watch_setClk hq waits (if_pos (ne_via_eq hp (by decide))) waits

end

theorem acts_eq_watch {s u v : State} {t : Nat} {f : State → State} (hc : calm t s = true) (h : f (arriveAt t s) = v) (hw : watch v = u)
    (hp : u.pending = s.pending) : acts t f s = .next u := by
  rw [acts, actAt, traceFlush_quiet (quiet_arriveAt.trans (calm_quiet hc)), warmDue_calm hc, h, hw, ← hp]

/-! ### Wake conditions (R451) -/

/-- Whether a wake condition of Keep is enabled and holds. -/
def wakeEnabled (cause : Fin 3) (s : State) : Bool :=
  match cause.val with
  | 0 => getF s Reg.PWR_WAKE_CFG_PIN_EN == 1
  | 1 => getF s Reg.PWR_WAKE_CFG_ALARM_EN == 1 && wakeHolds s
  | _ => getF s Reg.PWR_WAKE_CFG_CAP_EN == 1

theorem wake_eq (cause : Fin 3) (s : State) : wake (cause.val + 1) s =
    if s.clk.power = .keep ∧ wakeEnabled cause s then beginWake (cause.val + 1) s else s := by
  match cause with
  | 0 => rfl
  | 1 => rfl
  | 2 => rfl

theorem wakeFail_of_late {s : State} (hp : s.clk.power = .waking) (hg : s.pins.pwrGood = false) (h : s.clk.wakeAt + 14112000 ≤ s.now) :
    wakeFail s = setPower .keep (setF { s with pins := { s.pins with pwrMainEn := false } } Reg.PWR_STAT_WAKE_FAIL 1) :=
  if_pos ⟨hp, by rw [hg]; rfl, h⟩

/-- Settles O58: each request by the branch of R447 that takes it, with the transitions that follow it; the rest are single stores. -/
theorem powerStates : Obligations.PowerStates := by
  unfold Obligations.PowerStates
  intro s t d failed cause celsius hc x a entry
  have hq : quiet x = true := quiet_arriveAt.trans (calm_quiet hc)
  refine ⟨fun he hp hl hf hk => ?_, fun he => ?_, fun hw he hp h => ?_, fun hw he hp h0 h1 => ?_, ?_, fun hp hg => ?_, fun h => ?_, fun h => ?_, ?_⟩
  · have hlate : x.now < nextBoundary (x.now + 4410) (flightLen s) := Nat.lt_of_lt_of_le (by omega) (le_nextBoundary hk)
    refine ⟨fun hw => ?_, fun hw => ?_⟩
    · refine acts_eq_watch hc (powerRequest_of_run (s := x) hw he hp (by decide) hl) (watch_of_entering hq ?_ rfl rfl hlate hf) rfl
      unfold powerNext
      rw [show (setClk { x.clk with request := some (targetPower 1) } x).clk.power = .run from hp]
      rfl
    · refine acts_eq_watch hc (powerRequest_of_run (s := x) hw he hp (by decide) hl) (watch_of_entering hq ?_ rfl rfl hlate hf) rfl
      unfold powerNext
      rw [show (setClk { x.clk with request := some (targetPower 2) } x).clk.power = .run from hp]
      rfl
  · exact ⟨fun hw => acts_idle hc (powerRequest_of_no_epoch (s := x) hw he), fun hw => acts_idle hc (powerRequest_of_no_epoch (s := x) hw he),
      fun hw => acts_idle hc (powerRequest_of_no_epoch (s := x) hw he)⟩
  · exact acts_eq_watch hc ((powerRequest_of_hold (s := x) hw he hp).trans (beginExit_of_failing (s := x) h))
      (watch_of_waiting (s := x) hq hp h) rfl
  · exact acts_eq_after hc ((powerRequest_of_hold (s := x) hw he hp).trans (beginExit_of_sound (s := x) h0 h1))
  · intro enabled
    have he : wakeEnabled cause x = enabled := rfl
    refine ⟨fun hp hen => ⟨beginWake (cause.val + 1) x, ?_, rfl, rfl, rfl⟩, fun h => acts_idle hc ((wake_eq cause x).trans (if_neg ?_))⟩
    · refine acts_eq_next hc ((wake_eq cause x).trans (if_pos ⟨hp, he.trans hen⟩)) ?_ rfl
      obtain ⟨hreq, -, hrest⟩ := quiet_iff.1 hq
      exact quiet_iff.2 ⟨hreq, (by decide : PowerState.waking ≠ .enteringHold), hrest⟩
    · rintro ⟨hp, hen⟩
      obtain h | h := h
      · exact h hp
      · exact absurd (h.symm.trans (he.symm.trans hen)) (by decide)
  · refine ⟨fun h => acts_eq_next hc (wakeFail_of_late (s := x) hp hg h) ?_ rfl,
      fun h => acts_idle hc (if_neg fun hn => absurd hn.2.2 (Nat.not_le.2 h))⟩
    obtain ⟨hreq, -, hrest⟩ := quiet_iff.1 hq
    exact quiet_iff.2 ⟨hreq, (by decide : PowerState.keep ≠ .enteringHold), hrest⟩
  · exact acts_idle hc (if_pos h)
  · exact acts_eq_same hc (if_neg (Int.not_lt.2 h)) rfl rfl
  · exact acts_eq_same hc rfl rfl rfl

end Sys2Proof.Machine
end

section
/-! SUPPORT. The host's commands on events and errors, door links (R101, R461 to R472) and the JTAG port (R491). -/

namespace Sys2Proof.Machine

/-! ### Clears and links -/

section
variable {s : State} {d : Nat} {b : Block} {v : Word}

/-- The clear of a block's BLK_EVT_STAT bits, with their RAW bits (R461). -/
def clearBits (b : Block) (v : Word) (s : State) : State :=
  rset (rset s (blockBase b + 0x10) (rget s (blockBase b + 0x10) &&& ~~~v)) (blockBase b + 0x08) (rget s (blockBase b + 0x08) &&& ~~~v)

section
variable (hs : swf resetWord s.regs = true)
include hs

theorem rget_clearBits_stat : rget (clearBits b v s) (blockBase b + 0x10) = rget s (blockBase b + 0x10) &&& ~~~v := by
  rw [clearBits, rget_rset _ _ _ _ (rset_keeps_wf s _ _ hs), if_neg (by omega), rget_rset s _ _ _ hs, if_pos rfl]

theorem rget_clearBits_raw : rget (clearBits b v s) (blockBase b + 0x08) = rget s (blockBase b + 0x08) &&& ~~~v := by
  rw [clearBits, rget_rset _ _ _ _ (rset_keeps_wf s _ _ hs), if_pos rfl]

theorem rget_clearBits_ne {a : Nat} (hstat : a ≠ blockBase b + 0x10) (hraw : a ≠ blockBase b + 0x08) :
    rget (clearBits b v s) a = rget s a := by
  rw [clearBits, rget_rset _ _ _ _ (rset_keeps_wf s _ _ hs), if_neg hraw, rget_rset s _ _ _ hs, if_neg hstat]

end

theorem promote_of_none (h : waitingEntry s b = none) : promote b s = setFirst s b none := by
  unfold promote
  rw [h]

theorem promote_of_some {l : LogEntry} (h : waitingEntry s b = some l) : promote b s =
    setFirst { s with evt := { s.evt with log := markFirst l.seq s.evt.log } } b
      (some ⟨l.err, (s.evt.log.filter fun x => x.err.block == b && !x.first).foldl (fun m x => max m x.err.sev) 0, true⟩) := by
  unfold promote
  rw [h]

theorem alertClear_of_writeCheck (hw : writeCheck s d Reg.EVT_ALERT_ACTIVE.addr v = none) :
    alertClear d v s = storeWord Reg.EVT_ALERT_ACTIVE.addr v s := by
  unfold alertClear writeStored
  rw [hw]

theorem linkListed_iff {speed width : Nat} : linkListed speed width = true ↔
    1 ≤ speed ∧ speed ≤ 5 ∧ (width = 1 ∨ width = 2 ∨ width = 4 ∨ width = 8) := by
  simp [linkListed, and_assoc]

end

/-- Settles O59: each write by its effect once the check has passed; a link's words by the listing of its rate and width. -/
theorem eventCommands : Obligations.EventCommands := by
  unfold Obligations.EventCommands
  intro s t d b v up speed width l hc hs x stat raw waits
  refine ⟨fun hw => acts_eq_after hc (busWrite_of_writeCheck hw _), fun hw => ⟨clearBits b v x, ?_, rget_clearBits_stat (s := x) hs,
    rget_clearBits_raw (s := x) hs, fun a h1 h2 => rget_clearBits_ne (s := x) hs h1 h2, rfl⟩, fun hw => ⟨fun h => ?_, fun h hn => ?_, fun h hl => ?_⟩,
    fun hw => acts_eq_same hc (alertClear_of_writeCheck hw) (stores_storeWord _ _ x).quiet (stores_storeWord _ _ x).pending, ?_⟩
  · exact acts_eq_same hc (busWrite_of_writeCheck hw (clearBits b v)) rfl rfl
  · exact acts_idle hc ((busWrite_of_writeCheck hw _).trans (if_neg (ne_via_eq h (by decide))))
  · exact acts_eq_same hc ((busWrite_of_writeCheck hw _).trans ((if_pos h).trans (promote_of_none (s := x) hn))) rfl rfl
  · exact acts_eq_same hc ((busWrite_of_writeCheck hw _).trans ((if_pos h).trans (promote_of_some (s := x) hl))) rfl rfl
  · intro listed
    refine ⟨fun h => acts_eq_after hc (if_neg fun hn => ?_), fun hu hl => acts_idle hc (if_pos ?_)⟩
    · obtain ⟨hu, hl⟩ := Bool.and_eq_true_iff.1 hn
      obtain h | h := h
      · exact absurd (h.symm.trans hu) (by decide)
      · rw [linkListed_iff.2 h] at hl
        exact absurd hl (by decide)
    · rw [hu, Bool.eq_false_iff.2 fun h => hl (linkListed_iff.1 h)]
      rfl

/-! ### The JTAG port (R491) -/

section
variable {s : State}

theorem jtagSelect_of_off {i : JtagInstr} {dr : Word} {driving hiZ : Bool} (h : inKeep s = true ∨ railsGone s = true) :
    jtagSelect i dr driving hiZ s = s := if_pos h

theorem jtagSelect_of_on {i : JtagInstr} {dr : Word} {driving hiZ : Bool} (h : ¬ (inKeep s = true ∨ railsGone s = true)) :
    jtagSelect i dr driving hiZ s = { s with jtag := ⟨false, i, dr, s.jtag.boundary, driving, hiZ⟩ } := if_neg h

end

/-- Settles O60: the port selects its register where it has power, and does nothing where it has none. -/
theorem jtagPort : Obligations.JtagPort := by
  unfold Obligations.JtagPort
  intro s cells loaded port off
  refine ⟨fun h => ?_, fun h => ?_, rfl⟩
  · exact ⟨congrArg _ (jtagSelect_of_on h), congrArg _ (jtagSelect_of_on h),
      congrArg _ ((if_neg h).trans (congrArg (loadCells cells) (jtagSelect_of_on h))),
      congrArg _ ((if_neg h).trans (congrArg (loadCells cells) (jtagSelect_of_on h))),
      congrArg _ (jtagSelect_of_on h), congrArg _ (jtagSelect_of_on h)⟩
  · exact ⟨congrArg _ (jtagSelect_of_off h), congrArg _ (jtagSelect_of_off h), congrArg _ (if_pos h), congrArg _ (if_pos h),
      congrArg _ (jtagSelect_of_off h), congrArg _ (jtagSelect_of_off h)⟩

end Sys2Proof.Machine
end
